-- ==== Sys2Proof/Word.lean ====
section
/-! DEFINITION. The word types of the block: bytes, 32-bit register words, and a device-wide clock value. -/

namespace Sys2Proof

/-- A byte is 8 bits (00_scope.md, "Numbers and units"). -/
abbrev Byte := BitVec 8

/-- A word is 32 bits; registers are 32-bit (R27). -/
abbrev Word := BitVec 32

end Sys2Proof
end

