-- ==== Sys2Proof/Syntax.lean ====
section
/-! DEFINITION. The commands of the block: one constructor per row of the table of operations and
events, with the operands its rule gives it. Mailbox commands carry the logical device and the input
payload as bytes. Events carry what the environment measures, chooses or reports. -/

namespace Sys2Proof

/-- Size of a management access (R22). -/
inductive AccSize where
  | byte | half | word
  deriving DecidableEq, Repr

/-- Kind of a management access (R21, R402). -/
inductive AccKind where
  | read | write | fetch
  deriving DecidableEq, Repr

/-- Who sends a tack doorbell: a logical device through BAR0, or the management path (R47). -/
inductive TackSrc where
  | host (ld : Nat)
  | mgmt
  deriving DecidableEq, Repr

/-- Errors of a 64-byte burst as they stand on the ten devices (R253): device and number of its four symbols in error. -/
abbrev BurstErrs := List (Nat × Nat)

/-- Step of the read ladder at which a codeword decoded (R275). -/
inductive LadderResult where
  /-- step 1, with the number of bits corrected -/
  | hard (bits : Nat)
  | retry
  | soft
  | reconstructed
  | uncorrectable
  deriving DecidableEq, Repr

/-- Integrity of the geometry that a flash target declares at mount (R266 to R268). -/
inductive TargetCheck where
  | good
  | pageCrc
  | geometry
  deriving DecidableEq, Repr

/-- Geometry declared by target 0 of channel 0, in the fields of FST_CAP (R267, R299), with the sizes a
mount reports. -/
structure FlashGeom where
  pageKib : Nat
  qlc : Bool
  noSlc : Bool
  targets : Nat
  luns : Nat
  planes : Nat
  blocks : Nat
  pages : Nat
  tReadUs : Nat
  capacityGib : Nat
  ratedCycles : Nat
  declaresTemp : Bool
  /-- spare area of a page in bytes -/
  spare : Nat
  deriving DecidableEq, Repr

/-- An SMBus write to SB0: the PEC byte is absent, right or wrong (R487). -/
inductive Pec where
  | absent | good | bad
  deriving DecidableEq, Repr

/-- A slice's capture: whether its read of DRAM or lining was correctable (R112, R256). -/
structure SliceRead where
  slice : Nat
  readOk : Bool
  deriving DecidableEq, Repr

/-- How a flash program ended: its status, and whether the read of DRAM or lining that it was made from was correctable (R290,
R146). -/
structure ProgEnd where
  ok : Bool
  readOk : Bool
  deriving DecidableEq, Repr

/-- Part `n` of the delta of generation `gen` (R113). -/
structure PartRef where
  gen : Nat
  n : Nat
  deriving DecidableEq, Repr

/-- How far the verify sweep has come, and the pages that failed on the way: group, generation, swatch (R121, R132). -/
structure SweepReport where
  pct : Nat
  bad : List (Nat × Nat × Nat)
  deriving DecidableEq, Repr

/-- A channel whose timing-set switch ends, and whether a hem cut that fell into it came after its step 4 (R242, R243). -/
structure TsetEnd where
  ch : Nat
  late : Bool
  deriving DecidableEq, Repr

/-- The end of a start-up sweep: the first failing step of R245, 0 for none, and the refresh management threshold that the
devices declare, 0 for none (R248). -/
structure SweepEnd where
  failStep : Nat
  rfm : Nat
  deriving DecidableEq, Repr

/-- How an SB1 transaction ended on the bus (R493 to R497). -/
inductive BusEnd where
  | ok | nack | arbLost | arbLostCtl | pecBad | timeout
  deriving DecidableEq, Repr

/-- The commands of the block, one constructor per row of the table of operations and events. -/
inductive Instr where
  -- management access and common registers
  /-- REGISTER_WRITE (R6). -/
  | registerWrite (addr : Word) (size : AccSize) (val : Word)
  /-- MGMT_UNMAPPED_ACCESS (R21). -/
  | mgmtUnmappedAccess (addr : Word) (kind : AccKind)
  /-- RC_READ (R8); `hw` holds the bits hardware sets in the same hop. -/
  | rcRead (addr : Word) (size : AccSize) (hw : Word)
  /-- ERR_STATUS_CLEAR (R33); `hw` holds the bits hardware sets in the same hop (R8). -/
  | errStatusClear (page : Nat) (val hw : Word)
  /-- ERR_INJECT (R33). -/
  | errInject (page : Nat) (val : Word)
  /-- LOCK_SET (R36). -/
  | lockSet (page : Nat) (val : Word)
  /-- POWER_REQ (R17): a CTRL write without soft_reset. -/
  | powerReq (page : Nat) (val : Word)
  /-- SOFT_RESET (R31): a CTRL write with soft_reset set. -/
  | softReset (page : Nat) (val : Word)
  /-- SOFT_RESET_TAKE_EFFECT (R31). -/
  | softResetTakeEffect (page : Nat)
  /-- DOMAIN_SWITCH_DONE (R18). -/
  | domainSwitchDone (dom : Nat)
  /-- GATING_CREDIT_GAIN (R17). -/
  | gatingCreditGain
  /-- STROBE_DELAY_CHECK (R14); the drift in tenths of a percent. -/
  | strobeDelayCheck (ch driftPm : Nat)
  /-- STROBE_RECALIBRATE (R14); whether the calibration succeeds, and the new taps. -/
  | strobeRecalibrate (ch : Nat) (ok : Bool) (reTaps dqsTaps : Nat)
  /-- HANDSHAKE_WATCHDOG (R15); the unit whose stage stalled (R541). -/
  | handshakeWatchdog (page unit : Nat)
  /-- BAR0_RESERVED_ACCESS (R25). -/
  | bar0ReservedAccess (ld off : Nat) (write : Bool)
  -- tacks, sync, generations, unpick, keys
  /-- TACK_DOORBELL (R47). -/
  | tackDoorbell (src : TackSrc) (val : Word)
  /-- TACK_GROUPS (R50). -/
  | tackGroups (ld : Nat) (inp : List Byte)
  /-- GEN_TACK_MASK_GO (R50). -/
  | genTackMaskGo (val : Word)
  /-- ARM_SYNC_TACK (R52). -/
  | armSyncTack (ld : Nat) (inp : List Byte)
  /-- GEN_SYNC_ARM (R87): a write of GEN_SYNC_CTRL with arm set. -/
  | genSyncArm (val : Word)
  /-- DISARM_SYNC_TACK (R53). -/
  | disarmSyncTack (ld : Nat) (inp : List Byte)
  /-- FIRE_SYNC_TACK (R54). -/
  | fireSyncTack (ld : Nat) (inp : List Byte)
  /-- GEN_SYNC_FIRE (R87): a write of GEN_SYNC_CTRL with fire set. -/
  | genSyncFire (val : Word)
  /-- TACK_SYNC_RELEASE (R54). -/
  | tackSyncRelease
  /-- TACK_SYNC_FIRE_EDGE (R54). -/
  | tackSyncFireEdge
  /-- SYNC_EXPIRY (R53). -/
  | syncExpiry
  /-- SYNC_STUCK (R56). -/
  | syncStuck
  /-- SYNC_LINE_REARM (R56). -/
  | syncLineRearm
  /-- GET_GENERATION_LIST (R84). -/
  | getGenerationList (ld : Nat) (inp : List Byte)
  /-- PIN_GENERATION (R66). -/
  | pinGeneration (ld : Nat) (inp : List Byte)
  /-- QUIESCE_GROUP (R70). -/
  | quiesceGroup (ld : Nat) (inp : List Byte)
  /-- QUIESCE_DRAINED (R70). -/
  | quiesceDrained (g : Nat)
  /-- QUIESCE_LIMIT_EXPIRY (R69). -/
  | quiesceLimitExpiry (g : Nat)
  /-- UNPICK_GROUP (R71). -/
  | unpickGroup (ld : Nat) (inp : List Byte)
  /-- UNPICK_COMMIT (R72): the unpick record's read-back, matching or not, and where it was written. -/
  | unpickCommit (g : Nat) (ok : Bool) (loc : Nat)
  /-- UNPICK_REBUILD_DONE (R166). -/
  | unpickRebuildDone (g : Nat)
  /-- RELEASE_GROUP (R69). -/
  | releaseGroup (ld : Nat) (inp : List Byte)
  /-- SET_GROUP_KEY_MODE (R80). -/
  | setGroupKeyMode (ld : Nat) (inp : List Byte)
  /-- UNLOCK_GROUP (R79). -/
  | unlockGroup (ld : Nat) (inp : List Byte)
  /-- ERASE_GROUP (R81). -/
  | eraseGroup (ld : Nat) (inp : List Byte)
  /-- GEN_RING_CFG_WRITE (R66). -/
  | genRingCfgWrite (val : Word)
  /-- KEY_SELFTEST (R91). -/
  | keySelftest (val : Word)
  /-- KEY_SELFTEST_DONE (R91): the tests' outcome, the module key's check, the DRBG's health. -/
  | keySelftestDone (pass moduleKey drbgOk : Bool)
  -- CXL.mem
  /-- CXLMEM_READ (R182). -/
  | cxlmemRead (ld hpa tag : Nat)
  /-- CXLMEM_WRITE (R42): 64 bytes, with the poison the host sends (R180). -/
  | cxlmemWrite (ld hpa tag : Nat) (data : List Byte) (poison : Bool)
  /-- CXLMEM_WRITE_PARTIAL (R232): the byte enables beside the data. -/
  | cxlmemWritePartial (ld hpa tag : Nat) (data : List Byte) (mask : List Bool) (poison : Bool)
  /-- CXLMEM_SPEC_READ (R180). -/
  | cxlmemSpecRead (ld hpa : Nat)
  /-- CXLMEM_MALFORMED (R187); whether it asked for data. -/
  | cxlmemMalformed (ld tag : Nat) (wantsData : Bool)
  /-- HELD_WRITE_RELEASE (R193): the write of a window that leaves its hold queue, by its tag. -/
  | heldWriteRelease (win tag : Nat)
  /-- PACING_GRACE_EXPIRY (R128). -/
  | pacingGraceExpiry (g : Nat)
  /-- PACING_AVERAGE (R128). -/
  | pacingAverage
  -- basting, sealing, verify
  /-- BASTING_START (R110). -/
  | bastingStart (g : Nat)
  /-- CAPTURE (R112) by a slice. -/
  | capture (c : SliceRead)
  /-- RELIEF_START (R108). -/
  | reliefStart
  /-- RELIEF_PROGRAM_DONE (R108): the program's status and its location in the hem region. -/
  | reliefProgramDone (e : ProgEnd) (loc : Nat)
  /-- FLASH_PROGRAM_COMPLETE (R290): the program's number, its status, its location. -/
  | flashProgramComplete (id : Nat) (e : ProgEnd) (loc : Nat)
  /-- DELTA_READBACK (R117): a part of a generation of the group that seals, and its location. -/
  | deltaReadback (g : Nat) (part : PartRef) (ok : Bool) (loc : Nat)
  /-- SEAL_READBACK (R117): a seal (kind 0), or a pin (3) or damage (4) record of the group, read back. -/
  | sealReadback (g kind : Nat) (ok : Bool) (loc : Nat)
  /-- SEAL_RETRY (R120). -/
  | sealRetry (g : Nat)
  /-- VERIFY_PASS (R121): the swatches whose page could not be recovered or failed its CRC. -/
  | verifyPass (g gen : Nat) (bad : List Nat)
  /-- VERIFY_SWEEP (R121). -/
  | verifySweep (e : SweepReport)
  -- hem, keep-alive, resume, restore
  /-- INPUT_LOSS (R341). -/
  | inputLoss
  /-- SIBLING_FAULT (R135). -/
  | siblingFault
  /-- HEM_NOW (R173). -/
  | hemNow (ld : Nat) (inp : List Byte)
  /-- GEN_HEM_CMD_HEM (R135). -/
  | genHemCmdHem (val : Word)
  /-- HEM_SEAL_WRITE (R144). -/
  | hemSealWrite
  /-- HEM_SEAL_READBACK (R144): a seal of the group and generation. -/
  | hemSealReadback (g gen : Nat) (ok : Bool) (loc : Nat)
  /-- KEEP_ALIVE_START (R148). -/
  | keepAliveStart
  /-- KEEP_ALIVE_TIME_EXPIRY (R149). -/
  | keepAliveTimeExpiry
  /-- RESUME_MEMORY (R173); whether each channel's canary and training check passes (R154, R244). -/
  | resumeMemory (ld : Nat) (inp : List Byte) (canaryOk : Bool) (weak : List Nat)
  /-- GEN_HEM_CMD_RESUME (R150). -/
  | genHemCmdResume (val : Word) (canaryOk : Bool) (weak : List Nat)
  /-- GET_HEM_STATUS (R174). -/
  | getHemStatus (ld : Nat) (inp : List Byte)
  /-- SET_RESTORE_MODE (R173). -/
  | setRestoreMode (ld : Nat) (inp : List Byte)
  /-- RESTORE_START (R157). -/
  | restoreStart
  /-- RESTORE_REBUILD_DONE (R157): groups whose newest chain failed its CRC, and pages of the
  outside-window verify that failed, as (group, generation, swatch). -/
  | restoreRebuildDone (walk : Bool) (chainBad : List Nat)
  /-- ON_TOUCH_FETCH_DONE (R160): the DRAM swatch, the ladder's result, the time in µs. -/
  | onTouchFetchDone (swatch : Nat) (res : LadderResult) (us : Nat)
  /-- RESTORE_SWEEP_FETCH (R164) by a slice. -/
  | restoreSweepFetch (slice : Nat) (res : LadderResult)
  /-- FOLD_HEM_GENERATION (R167): group, generation, and where the folded pages went. -/
  | foldHemGeneration (g gen : Nat) (locs : List Nat)
  -- windows, groups, mailbox
  /-- WINDOW_ENTRY_WRITE (R184): a direct 32-bit write into the window table. -/
  | windowEntryWrite (off : Nat) (val : Word)
  /-- GROUP_ENTRY_WRITE (R189): a direct 32-bit write into the group table. -/
  | groupEntryWrite (off : Nat) (val : Word)
  /-- GET_WINDOW (R202). -/
  | getWindow (ld : Nat) (inp : List Byte)
  /-- SET_WINDOW (R202). -/
  | setWindow (ld : Nat) (inp : List Byte)
  /-- GET_GROUP_CONFIG (R202). -/
  | getGroupConfig (ld : Nat) (inp : List Byte)
  /-- SET_GROUP_CONFIG (R202). -/
  | setGroupConfig (ld : Nat) (inp : List Byte)
  /-- GET_PACING (R202). -/
  | getPacing (ld : Nat) (inp : List Byte)
  /-- GET_LINK_COUNTERS (R203). -/
  | getLinkCounters (ld : Nat) (inp : List Byte)
  /-- IDENTIFY (R199). -/
  | identify (ld : Nat) (inp : List Byte)
  /-- BACKGROUND_OPERATION_STATUS (R199). -/
  | backgroundOperationStatus (ld : Nat) (inp : List Byte)
  /-- GET_EVENT_RECORDS (R199). -/
  | getEventRecords (ld : Nat) (inp : List Byte)
  /-- CLEAR_EVENT_RECORDS (R199). -/
  | clearEventRecords (ld : Nat) (inp : List Byte)
  /-- GET_EVENT_INTERRUPT_POLICY (R199). -/
  | getEventInterruptPolicy (ld : Nat) (inp : List Byte)
  /-- SET_EVENT_INTERRUPT_POLICY (R199). -/
  | setEventInterruptPolicy (ld : Nat) (inp : List Byte)
  /-- GET_FW_INFO (R478). -/
  | getFwInfo (ld : Nat) (inp : List Byte)
  /-- GET_TIMESTAMP (R199). -/
  | getTimestamp (ld : Nat) (inp : List Byte)
  /-- SET_TIMESTAMP (R199). -/
  | setTimestamp (ld : Nat) (inp : List Byte)
  /-- GET_SUPPORTED_LOGS (R199). -/
  | getSupportedLogs (ld : Nat) (inp : List Byte)
  /-- GET_LOG (R199). -/
  | getLog (ld : Nat) (inp : List Byte)
  /-- IDENTIFY_MEMORY_DEVICE (R199). -/
  | identifyMemoryDevice (ld : Nat) (inp : List Byte)
  /-- GET_HEALTH_INFO (R199). -/
  | getHealthInfo (ld : Nat) (inp : List Byte)
  /-- UNSUPPORTED_OPCODE (R200). -/
  | unsupportedOpcode (ld opcode : Nat)
  /-- MAILBOX_DOORBELL (R201). -/
  | mailboxDoorbell (ld opcode : Nat) (inp : List Byte)
  /-- MAILBOX_COMMAND_SERVE (R201). -/
  | mailboxCommandServe
  -- mirror, links, resets
  /-- STATUS_MIRROR_REFRESH (R206). -/
  | statusMirrorRefresh
  /-- CONVENTIONAL_RESET (R209). -/
  | conventionalReset (port : Nat)
  /-- HOT_RESET (R209). -/
  | hotReset (port : Nat)
  /-- LINK_DOWN (R209). -/
  | linkDown (port : Nat)
  /-- LINK_UP (R180): negotiated width and rate codes (R205) and whether 256B flits are used. -/
  | linkUp (port width rate : Nat) (flit256 : Bool)
  /-- FUNCTION_LEVEL_RESET (R209). -/
  | functionLevelReset (ld : Nat)
  /-- L0P_REQUEST (R180): the width code asked for. -/
  | l0pRequest (port width : Nat)
  /-- IDE_FAIL (R216). -/
  | ideFail (port : Nat)
  /-- HL_PWR_WRITE (R215). -/
  | hlPwrWrite (link : Nat) (val : Word)
  -- DRAM
  /-- DRAM_ACCESS_COMPLETE (R229) on a subchannel (false A, true B). -/
  | dramAccessComplete (ch : Nat) (sub : Bool) (aged : Bool) (errs : BurstErrs)
  /-- REFRESH_DUE (R234). -/
  | refreshDue (ch rank : Nat)
  /-- REFRESH_DEBT_ISSUE (R235). -/
  | refreshDebtIssue (ch rank : Nat)
  /-- DRFM_ISSUE (R249). -/
  | drfmIssue (ch : Nat)
  /-- RFM_ISSUE (R248). -/
  | rfmIssue (ch : Nat)
  /-- ROW_TRACKER_CLEAR (R249). -/
  | rowTrackerClear
  /-- DRAM_ALERT (R239); what the RCD's error status records of it: parity, write CRC. -/
  | dramAlert (ch : Nat) (parity crc : Bool)
  /-- ALERT_WINDOW_CLOSE (R240). -/
  | alertWindowClose (ch : Nat)
  /-- TSET_REQUEST (R241). -/
  | tsetRequest (ch : Nat) (val : Word)
  /-- TIMING_SET_SWITCH_DONE (R242). -/
  | timingSetSwitchDone (e : TsetEnd)
  /-- DPH_FULL_SWEEP (R261). -/
  | dphFullSweep (ch : Nat)
  /-- DPH_SLICED_SWEEP (R261). -/
  | dphSlicedSweep (ch : Nat)
  /-- TRAINING_SWEEP_DONE (R245): the margin words of DPH_MARGIN_A0, B0, A1, B1, the duration in ms and
  how it ended. -/
  | trainingSweepDone (ch : Nat) (a0 b0 a1 b1 : Word) (ms : Nat) (e : SweepEnd)
  /-- RETRAIN_PAUSE (R246) of a subchannel, with the oscillator drift in 1/64 UI (R247). -/
  | retrainPause (ch : Nat) (sub : Bool) (drift : Nat)
  /-- SWEEP_SLICE (R247); whether this slice ends the sweep, and the margins of set 0 it finds on
  subchannels A and B. -/
  | sweepSlice (ch : Nat) (last : Bool) (m : Word × Word)
  /-- PATROL_SCRUB (R257). -/
  | patrolScrub (ch : Nat) (errs : BurstErrs)
  /-- DRAM_TEMP_READ (R392): subchannel A and B in °C, two's complement bytes. -/
  | dramTempRead (ch : Nat) (a b : Byte)
  -- flash store
  /-- FLASH_MOUNT (R266): what each target declares, and whether the intent log kept what it required. -/
  | flashMount (ch : Nat) (geom : FlashGeom) (checks : List TargetCheck) (intentOk : Bool)
  /-- FLASH_ERASE_COMPLETE (R290): the block (channel, target, LUN, block packed as R272 bits [35:3]). -/
  | flashEraseComplete (blk : Nat) (ok : Bool)
  /-- FLASH_READ_COMPLETE (R275): the location read and how it decoded. -/
  | flashReadComplete (loc : Nat) (res : LadderResult)
  /-- STUCK_TARGET_TIMEOUT (R290). -/
  | stuckTargetTimeout (ch target : Nat)
  /-- ERASE_RESUME (R280) on a LUN. -/
  | eraseResume (ch target lun : Nat)
  /-- INTENT_PAGE_DURABLE (R285). -/
  | intentPageDurable (ch : Nat)
  /-- VALID_COUNT_RECOUNT (R288). -/
  | validCountRecount
  /-- RELOCATION (R292): the band's target, LUN, block, and where its codewords go. -/
  | relocation (target lun block : Nat) (locs : List Nat)
  /-- NAND_TEMP_READ (R296): channel, hottest °C (two's complement byte) and its target. -/
  | nandTempRead (ch : Nat) (temp : Byte) (target : Nat)
  -- pool
  /-- POOL_GRANT (R308). -/
  | poolGrant (client count : Nat)
  /-- POOL_GRANT_AFTER_WAIT (R308). -/
  | poolGrantAfterWait
  /-- POOL_QUOTA_WRITE (R324). -/
  | poolQuotaWrite (client : Nat) (val : Word)
  -- power
  /-- POWER_UP (R334): an on request; the straps sampled at step 2 (R526). -/
  | powerUp (bif0 bif1 : Bool)
  /-- RAIL_UP (R329), with the ramp time in 0.1 ms. -/
  | railUp (rail ramp : Nat)
  /-- RAIL_RAMP_TIMEOUT (R329). -/
  | railRampTimeout (rail : Nat)
  /-- RAIL_PG_FALL (R330). -/
  | railPgFall (rail : Nat)
  /-- SCAN_READ (R331): the input, its reading in mV, whether the reference matches (R332). -/
  | scanRead (input mv : Nat) (refOk : Bool)
  /-- PSQ_CMD_ON (R339). -/
  | psqCmdOn (val : Word)
  /-- PSQ_CMD_OFF (R333). -/
  | psqCmdOff (val : Word)
  /-- RAIL_DISCHARGED (R335), with the discharge time in ms. -/
  | railDischarged (rail ms : Nat)
  /-- DISCHARGE_TIMEOUT (R335). -/
  | dischargeTimeout (rail : Nat)
  /-- MIN_OFF_TIME_EXPIRY (R339). -/
  | minOffTimeExpiry
  /-- INPUT_PRESENT (R341); the canary and training checks of a warm resume (R154, R244). -/
  | inputPresent (canaryOk : Bool) (weak : List Nat)
  /-- POWER_CYCLE (R342). -/
  | powerCycle
  /-- VAO_RESET (R531). -/
  | vaoReset
  /-- HOLD_PG_RISE (R344), with the time since HOLD_EN in 10 µs. -/
  | holdPgRise (t : Nat)
  /-- HOLD_PG_LIMIT_EXPIRY (R344). -/
  | holdPgLimitExpiry
  /-- HOLD_PG_FALL (R344). -/
  | holdPgFall
  /-- PSQ_HOLD_TEST (R346). -/
  | psqHoldTest (val : Word)
  /-- HOLD_TEST_END (R346). -/
  | holdTestEnd
  /-- PSQ_TRACE_FREEZE (R355). -/
  | psqTraceFreeze (val : Word)
  /-- PSQ_TRACE_UNFREEZE (R355). -/
  | psqTraceUnfreeze (val : Word)
  /-- TRACE_SAMPLE (R354): input 29 or 30. -/
  | traceSample (input : Nat)
  /-- RESET_STRETCH_EXPIRY (R348). -/
  | resetStretchExpiry (k : Nat)
  /-- PSQ_RST_CTRL_WRITE (R348). -/
  | psqRstCtrlWrite (val : Word)
  /-- TRIGGER2_ARM (R351). -/
  | trigger2Arm
  /-- LATCH_OPEN_CHANGE (R352). -/
  | latchOpenChange (isOpen : Bool)
  /-- VID_STEP (R532): the lowest code at which the replica measures at most 250 ps. -/
  | vidStep (target : Nat)
  -- battery
  /-- BAT_SECOND (R363). -/
  | batSecond
  /-- REST_PAUSE_END (R368). -/
  | restPauseEnd
  /-- HIB_ESTIMATOR_TICK (R378): the seconds that passed. -/
  | hibEstimatorTick (secs : Nat)
  /-- BAT_ENABLE_TABLE_CHECK (R378): a CTRL write that sets BAT enable. -/
  | batEnableTableCheck (val : Word)
  /-- BAT_LEARN_REQUEST (R374). -/
  | batLearnRequest (val : Word)
  /-- GET_BATTERY_STATUS (R380). -/
  | getBatteryStatus (ld : Nat) (inp : List Byte)
  /-- REQUEST_LEARNING_CYCLE (R380). -/
  | requestLearningCycle (ld : Nat) (inp : List Byte)
  /-- ARM_SHIP_MODE (R379). -/
  | armShipMode (ld : Nat) (inp : List Byte)
  /-- DISARM_SHIP_MODE (R380). -/
  | disarmShipMode (ld : Nat) (inp : List Byte)
  -- thermal
  /-- DIODE_READ (R385), in 0.1 °C. -/
  | diodeRead (t : Int)
  /-- THM_CHECK (R385). -/
  | thmCheck
  /-- GET_THERMAL_STATUS (R397). -/
  | getThermalStatus (ld : Nat) (inp : List Byte)
  -- management cores, code flash, ICU
  /-- LOCKSTEP_DIVERGENCE (R403). -/
  | lockstepDivergence (pc : Word)
  /-- WATCHDOG_EXPIRY (R404), with the core's program counter. -/
  | watchdogExpiry (pc : Word)
  /-- WATCHDOG_KICK (R404). -/
  | watchdogKick (val : Word)
  /-- SRAM_UNCORRECTABLE (R405). -/
  | sramUncorrectable (off : Nat)
  /-- CFL_PROGRAM_PAGE (R408), with the bank the store was fetched from (none: SRAM; R409). -/
  | cflProgramPage (val : Word) (fetchBank : Option Nat)
  /-- CFL_ERASE_SECTOR (R408). -/
  | cflEraseSector (val : Word) (fetchBank : Option Nat)
  /-- CFL_BLANK_CHECK (R408). -/
  | cflBlankCheck (val : Word) (fetchBank : Option Nat)
  /-- CFL_OPERATION_DONE (R408) in a bank; whether the read-back or blank verify matched. -/
  | cflOperationDone (bank : Nat) (ok : Bool)
  /-- CFL_READ_SUSPEND (R410). -/
  | cflReadSuspend (bank : Nat)
  /-- CFL_ERASE_RESUME (R410). -/
  | cflEraseResume (bank : Nat)
  /-- ICU_MESSAGE (R412). -/
  | icuMessage (src : Nat)
  /-- ICU_DOORBELL (R413). -/
  | icuDoorbell (val : Word)
  /-- ICU_ENTRY (R416): the interrupted context, 18 words. -/
  | icuEntry (ctx : List Word)
  /-- ICU_DONE (R418). -/
  | icuDone (val : Word)
  /-- ICU_EXIT (R419). -/
  | icuExit
  /-- ICU_PENDCLR (R412). -/
  | icuPendclr (val : Word)
  /-- ICU_ENSET (R420). -/
  | icuEnset (val : Word)
  /-- ICU_ENCLR (R420). -/
  | icuEnclr (val : Word)
  /-- ICU_PRIO_SET (R420). -/
  | icuPrioSet (val : Word)
  /-- WFI_SLEEP (R421). -/
  | wfiSleep
  /-- SLEEP_WAKE (R421). -/
  | sleepWake
  /-- THIMBLE_WAKE (R422): the watched source. -/
  | thimbleWake (src : Nat)
  /-- OPERATING_SECOND (R432). -/
  | operatingSecond
  /-- TICK_COMPARE (R424). -/
  | tickCompare
  -- event recorder
  /-- EVENT_ADMISSION (R439). -/
  | eventAdmission
  /-- EVR_FLUSH_TIMER (R440): the age of the oldest page buffer reached EVR_CFG.flush. -/
  | evrFlushTimer
  /-- EVR_PAGE_DURABLE (R440): the oldest programmed page buffer's report. -/
  | evrPageDurable (ok : Bool)
  /-- EVR_MOUNT (R441): retired and torn pages found, and whether the summary write succeeds (R450). -/
  | evrMount (torn : Nat) (summaryOk : Bool)
  /-- EVR_FREEZE (R443). -/
  | evrFreeze (val : Word)
  /-- EVR_UNFREEZE (R443). -/
  | evrUnfreeze (val : Word)
  /-- EVR_FLUSH (R440). -/
  | evrFlush (val : Word)
  /-- EVR_CLEAR (R448). -/
  | evrClear (val : Word)
  /-- EVR_SUMMARY_CMD (R444); whether copies A and B succeed. -/
  | evrSummaryCmd (val : Word) (aOk bOk : Bool)
  /-- SUMMARY_INTERVAL (R444); whether copies A and B succeed. -/
  | summaryInterval (aOk bOk : Bool)
  /-- CLEAR_LOG_DONE (R448). -/
  | clearLogDone
  /-- EVR_FW_GO (R453). -/
  | evrFwGo (val : Word)
  /-- GET_LOG_INFO (R451). -/
  | getLogInfo (ld : Nat) (inp : List Byte)
  /-- READ_LOG (R452). -/
  | readLog (ld : Nat) (inp : List Byte)
  /-- GET_SUMMARY (R451). -/
  | getSummary (ld : Nat) (inp : List Byte)
  /-- FREEZE_LOG (R443). -/
  | freezeLog (ld : Nat) (inp : List Byte)
  /-- UNFREEZE_LOG (R443). -/
  | unfreezeLog (ld : Nat) (inp : List Byte)
  /-- CLEAR_LOG (R448). -/
  | clearLog (ld : Nat) (inp : List Byte)
  /-- SET_LOG_POLICY (R451). -/
  | setLogPolicy (ld : Nat) (inp : List Byte)
  -- update
  /-- TRANSFER_FW_FULL (R463). -/
  | transferFwFull (ld : Nat) (inp : List Byte)
  /-- TRANSFER_FW_INITIATE (R463). -/
  | transferFwInitiate (ld : Nat) (inp : List Byte)
  /-- TRANSFER_FW_CONTINUE (R463). -/
  | transferFwContinue (ld : Nat) (inp : List Byte)
  /-- TRANSFER_FW_END (R463). -/
  | transferFwEnd (ld : Nat) (inp : List Byte)
  /-- TRANSFER_FW_ABORT (R463). -/
  | transferFwAbort (ld : Nat) (inp : List Byte)
  /-- TRANSFER_FW_TIMEOUT (R463). -/
  | transferFwTimeout
  /-- RECONSTRUCTION (R465); whether every program into the slot succeeded. -/
  | reconstruction (flashOk : Bool)
  /-- ACTIVATE_FW_ONLINE (R468). -/
  | activateFwOnline (ld : Nat) (inp : List Byte)
  /-- ACTIVATE_FW_COLD (R468). -/
  | activateFwCold (ld : Nat) (inp : List Byte)
  /-- UPD_ACTIVATE (R470). -/
  | updActivate (val : Word)
  /-- UPD_HO_ACK (R470); whether the settings were converted, and the converted area's records (R475). -/
  | updHoAck (val : Word) (converted : Bool) (recs : List Byte)
  /-- HANDOVER_TIMEOUT (R471). -/
  | handoverTimeout
  /-- TRIAL_EXPIRY (R476). -/
  | trialExpiry
  /-- CONFIRM_UPDATE (R477). -/
  | confirmUpdate (ld : Nat) (inp : List Byte)
  /-- FALL_BACK (R477). -/
  | fallBack (ld : Nat) (inp : List Byte)
  /-- FALL_BACK_DEFERRED_RUN (R476). -/
  | fallBackDeferredRun
  /-- SET_OWNER_LOCK (R478). -/
  | setOwnerLock (ld : Nat) (inp : List Byte)
  /-- GET_UPDATE_STATUS (R478). -/
  | getUpdateStatus (ld : Nat) (inp : List Byte)
  /-- UPD_CMD_CONFIRM (R476). -/
  | updCmdConfirm (val : Word)
  /-- UPD_CMD_FALL_BACK (R477). -/
  | updCmdFallBack (val : Word)
  /-- UPD_CMD_FAIL (R476). -/
  | updCmdFail (val : Word)
  /-- UPD_CMD_ABORT (R481). -/
  | updCmdAbort (val : Word)
  /-- UPD_KEY_RETIRE (R459). -/
  | updKeyRetire (val : Word)
  -- sideband
  /-- SB0_READ_IDENTITY (R485). -/
  | sb0ReadIdentity
  /-- SB0_READ_LEVEL (R485). -/
  | sb0ReadLevel
  /-- SB0_READ_TJ (R485). -/
  | sb0ReadTj
  /-- SB0_READ_ENERGY (R485). -/
  | sb0ReadEnergy
  /-- SB0_READ_HEM (R485). -/
  | sb0ReadHem
  /-- SB0_READ_EVENT_SEQ (R485). -/
  | sb0ReadEventSeq
  /-- SB0_SET_WINDOW (R485). -/
  | sb0SetWindow (data : Nat) (pec : Pec)
  /-- SB0_READ_MIRROR (R485). -/
  | sb0ReadMirror
  /-- SB0_POWER_OFF (R486). -/
  | sb0PowerOff (data : Nat) (pec : Pec)
  /-- SB0_READ_RESULT (R485). -/
  | sb0ReadResult
  /-- SB0_UNKNOWN_COMMAND (R485). -/
  | sb0UnknownCommand (code : Nat)
  /-- SB0_CMD_DONE (R486). -/
  | sb0CmdDone (val : Word)
  /-- SB0_PROTOCOL_ERROR (R488). -/
  | sb0ProtocolError
  /-- SB0_TIMEOUT (R483). -/
  | sb0Timeout
  /-- SB0_WAKE_START (R489). -/
  | sb0WakeStart
  /-- SB1_HOLDUP_STATUS_POLL (R492): how the read ended and the STATUS_WORD read. -/
  | sb1HoldupStatusPoll (e : BusEnd) (status : Nat)
  /-- SB1_CHARGER_CURRENT_WRITE (R492): how it ended and what the read-back gave, in mA. -/
  | sb1ChargerCurrentWrite (e : BusEnd) (back : Nat)
  /-- SB1_CHARGER_VOLTAGE_WRITE (R492): how it ended and what the read-back gave, in mV. -/
  | sb1ChargerVoltageWrite (e : BusEnd) (back : Nat)
  /-- SB1_CHARGER_PHASE_READ (R492). -/
  | sb1ChargerPhaseRead (e : BusEnd) (phase : Byte)
  /-- SB1_PMIC_POLL (R492): the PMIC, how it ended, whether it reports a fault. -/
  | sb1PmicPoll (k : Nat) (e : BusEnd) (isFault : Bool)
  /-- SB1_PACK_ID_READ (R492): how it ended and the pack serial number. -/
  | sb1PackIdRead (e : BusEnd) (serial : Word)
  /-- SB1_XFER_GO (R497): a write of SB1_XFER with go set. -/
  | sb1XferGo (val : Word)
  /-- SB1_XFER_DONE (R497): how the transaction ended, the bytes done, the bytes read. -/
  | sb1XferDone (e : BusEnd) (done : Nat) (data : List Byte)
  /-- SB1_ARB_LOST_RETRY (R493). -/
  | sb1ArbLostRetry
  /-- SB1_SDA_STUCK (R495). -/
  | sb1SdaStuck
  /-- SB1_STUCK_RECOVERY_CHECK (R495): whether SDA reads high. -/
  | sb1StuckRecoveryCheck (sdaHigh : Bool)
  -- faults and dump
  /-- ERROR_REPORT (R503): the page, the ERR_STATUS bit and the unit it is attributed to (R541). -/
  | errorReport (page bit unit : Nat)
  /-- HANDLING_TIMEOUT (R504) of a unit. -/
  | handlingTimeout (page unit : Nat)
  /-- FLT_FENCE (R507). -/
  | fltFence (val : Word)
  /-- FLT_LIFT (R507). -/
  | fltLift (val : Word)
  /-- DUMP_WINDOW_EXPIRY (R508). -/
  | dumpWindowExpiry
  /-- FLT_DUMP_TAKE (R519). -/
  | fltDumpTake (val : Word)
  /-- FLT_DUMP_DONE (R519). -/
  | fltDumpDone (val : Word)
  /-- FLT_DUMP_CLEAR (R519). -/
  | fltDumpClear (val : Word)
  /-- FLT_STICKY_CLR (R519). -/
  | fltStickyClr (val : Word)
  /-- GET_FAULT_STATUS (R518). -/
  | getFaultStatus (ld : Nat) (inp : List Byte)
  /-- TAKE_DUMP (R517). -/
  | takeDump (ld : Nat) (inp : List Byte)
  /-- READ_DUMP (R517). -/
  | readDump (ld : Nat) (inp : List Byte)
  /-- CLEAR_DUMP (R517). -/
  | clearDump (ld : Nat) (inp : List Byte)
  /-- CLEAR_DUMP_DONE (R517). -/
  | clearDumpDone
  /-- CLEAR_STICKY (R517). -/
  | clearSticky (ld : Nat) (inp : List Byte)
  /-- GEN_GEN_CMD (R85). -/
  | genGenCmd (val : Word)
  /-- BLOCK_DOMAIN_POWER_WRITE (R16): the register's address and the value. -/
  | blockDomainPowerWrite (addr val : Word)
  /-- HDM_DECODER_COMMIT (R182): the decoder, its range, its interleave and its DPA skip. -/
  | hdmDecoderCommit (ld dec base size ways gran pos skip : Nat)
  /-- DOE_REQUEST (R180): the protocol, and for IDE_KM the port's key state it sets. -/
  | doeRequest (ld proto ideStep : Nat)
  /-- PLL_UNLOCK (R262). -/
  | pllUnlock (ch : Nat)
  /-- WATCHDOG_HALF_TIMEOUT (R432). -/
  | watchdogHalfTimeout
  /-- CODE_FLASH_UNCORRECTABLE (R407). -/
  | codeFlashUncorrectable (addr : Nat)
  /-- JTAG_RESET (R425). -/
  | jtagReset
  /-- VAO_RESET_RELEASE (R531): the address straps sampled (R484). -/
  | vaoResetRelease (strap : Nat)
  deriving DecidableEq, Repr

end Sys2Proof
end

