-- ==== Sys2Proof/Config.lean ====
section
/-! DEFINITION. The free values: constants without a body. Nothing in Lean can evaluate them, so a
statement that holds of the model holds whatever they are. The cryptographic primitives are standards
outside the spec (log entry 3); `freeWord` stands for a value the spec states for no case (log entry 4). -/

namespace Sys2Proof.Config

/-- A fresh value for each use of the state's free counter (log entry 4). -/
opaque freeWord : Nat → BitVec 32

/-- The wrapping key derived from a host secret and the module key (HKDF-SHA-384, RFC 5869; R77). -/
opaque hostWrapKey : List Byte → Nat

/-- Draw n of a group key from the on-die DRBG: the AES-256-XTS key of group key n (R76, R77). -/
opaque drbgKey : Nat → BitVec 512

/-- AES-256-XTS encryption (IEEE 1619): key, 16-byte tweak, data unit (R76). -/
opaque aesXts : BitVec 512 → List Byte → List Byte → List Byte

/-- AES key wrap (RFC 3394): wrapping key (0 the module key, else 1 + the host wrapping key), key material (R77). -/
opaque aesWrap : Nat → BitVec 512 → List Byte

/-- A draw from the on-die DRBG (NIST SP 800-90A; R77, R153). -/
opaque drbg : Nat → BitVec 64

/-- SHA-384 of a byte string (R458, R461, R457). -/
opaque sha384 : List Byte → List Byte

/-- ECDSA P-384 verification: key slot, digest, signature (R458, R459). -/
opaque ecdsaVerify : Nat → List Byte → List Byte → Bool

/-- Pack temperature in 0.1 °C for a reading of input 28 in mV: the thermistor table, whose place and format the
spec does not give (R362; log entry 8). -/
opaque thermistor : Nat → Int

/-- Whether a reading in mV of input 30 or 31 lies outside its window, which the spec does not give (R360, source 361; log
entry 16). -/
opaque busWindowOut : Nat → Nat → Bool

/-- Bytes of the Identify output that name the part: vendor, device, subsystem and serial number, which the spec
does not give (R199; log entry 14). -/
opaque identity : Nat → BitVec 8

/-- Effects of an opcode in the Command Effects Log, which the spec does not give (R199; log entry 14). -/
opaque cmdEffects : Nat → BitVec 16

/-- CAP0 and CAP1 of each page by address, whose content the spec does not give (R27; log entry 17). -/
opaque cap : Nat → BitVec 32

end Sys2Proof.Config
end

