-- ==== Sys2Proof/Machine/Bits.lean ====
section
/-! DEFINITION. Bit fields, little-endian byte strings (R5), saturating counts and CRC-32C. -/

namespace Sys2Proof.Bits

/-- The field of `len` bits at `lsb`, as a number. -/
def fld (w : Word) (lsb len : Nat) : Nat := (w.toNat >>> lsb) % 2 ^ len

/-- Bit `n` of a word. -/
def bit (w : Word) (n : Nat) : Bool := w.getLsbD n

/-- The word with the field of `len` bits at `lsb` replaced by `v` (modulo the field's range). -/
def setFld (w : Word) (lsb len v : Nat) : Word :=
  let m : Nat := (2 ^ len - 1) <<< lsb
  (w &&& ~~~ (BitVec.ofNat 32 m)) ||| BitVec.ofNat 32 ((v % 2 ^ len) <<< lsb)

/-- The word with bit `n` set or cleared. -/
def setBit (w : Word) (n : Nat) (b : Bool) : Word := setFld w n 1 b.toNat

/-- A word whose only set bit is `n`. -/
def one (n : Nat) : Word := BitVec.ofNat 32 (2 ^ n)

/-- A word from a number. -/
def wd (n : Nat) : Word := BitVec.ofNat 32 n

/-- Adds `n`, holding at the largest value of `len` bits. -/
def satAdd (len v n : Nat) : Nat := min (v + n) (2 ^ len - 1)

/-- Adds `n` to the field of `len` bits at `lsb`, saturating. -/
def incFld (w : Word) (lsb len n : Nat) : Word := setFld w lsb len (satAdd len (fld w lsb len) n)

/-- Adds `n` to the field of `len` bits at `lsb`, wrapping. -/
def wrapFld (w : Word) (lsb len n : Nat) : Word := setFld w lsb len (fld w lsb len + n)

/-- The bits of `n` positions from 0 for which `p` holds. -/
def maskOf (n : Nat) (p : Nat → Bool) : Nat :=
  (List.range n).foldl (fun a i => if p i then a + 2 ^ i else a) 0

/-- A signed value kept in a field of `len` bits. -/
def sfld (w : Word) (lsb len : Nat) : Int :=
  let v := fld w lsb len
  if v < 2 ^ (len - 1) then (v : Int) else (v : Int) - 2 ^ len

/-- The two's complement of a signed value in `len` bits. -/
def ofInt (len : Nat) (v : Int) : Nat := (v % (2 ^ len : Int)).toNat

/-- A byte read as two's complement. -/
def byteInt (b : Byte) : Int := b.toInt

/-- The `n` low bytes of `v`, least significant first (R5). -/
def leBytes : Nat → Nat → List Byte
  | 0, _ => []
  | n + 1, v => BitVec.ofNat 8 v :: leBytes n (v / 256)

/-- The number that a little-endian byte string holds (R5). -/
def ofLe : List Byte → Nat
  | [] => 0
  | b :: bs => b.toNat + 256 * ofLe bs

/-- The little-endian number in `n` bytes of `bs` from offset `i`; missing bytes read zero. -/
def leAt (bs : List Byte) (i n : Nat) : Nat := ofLe ((bs.drop i).take n)

/-- Byte `i` of a string; a missing byte reads zero. -/
def byteAt (bs : List Byte) (i : Nat) : Nat := (bs.getD i 0).toNat

/-- `n` zero bytes. -/
def zeros (n : Nat) : List Byte := List.replicate n 0

/-- `bs` cut or zero-padded to `n` bytes. -/
def padTo (n : Nat) (bs : List Byte) : List Byte := bs.take n ++ zeros (n - bs.length)

/-- One bit step of CRC-32C, reflected polynomial 0x82F63B78 (log entry 5). -/
def crcStep (c : BitVec 32) : BitVec 32 := if c.getLsbD 0 then (c >>> 1) ^^^ 0x82F63B78#32 else c >>> 1

/-- One byte of CRC-32C. -/
def crcByte (c : BitVec 32) (b : Byte) : BitVec 32 :=
  crcStep (crcStep (crcStep (crcStep (crcStep (crcStep (crcStep (crcStep (c ^^^ b.zeroExtend 32))))))))

/-- CRC-32C of a byte string (log entry 5). -/
def crc32c (bs : List Byte) : BitVec 32 := ~~~ (bs.foldl crcByte 0xFFFFFFFF#32)

/-- The CRC-32C of a string as its four little-endian bytes. -/
def crcBytes (bs : List Byte) : List Byte := leBytes 4 (crc32c bs).toNat

/-- The members of a byte mask of 256 groups: group 8k + b at byte k, bit b (R83). -/
def maskBit (bs : List Byte) (g : Nat) : Bool := (bs.getD (g / 8) 0).getLsbD (g % 8)

/-- 32 bytes that hold the groups for which `p` holds (R83). -/
def groupMask (p : Nat → Bool) : List Byte :=
  (List.range 32).map fun k => BitVec.ofNat 8 (maskOf 8 fun b => p (8 * k + b))

/-- Replaces element `i` of a list by `f` of it. -/
def modAt {α : Type} (l : List α) (i : Nat) (f : α → α) : List α := l.modify i f

/-- The element of `l` least under `lt`, the earliest among equals. -/
def minBy {α : Type} (lt : α → α → Bool) : List α → Option α
  | [] => none
  | a :: l => match minBy lt l with
    | none => some a
    | some b => if lt b a then some b else some a

end Sys2Proof.Bits
end

