-- ==== Sys2Proof/Machine/RegMap.lean ====
section
/-! DEFINITION. The register pages: addresses by name (management address less 0x4000_0000), and for each
page what its registers store, clear, keep and reset to, as the register tables of the chapters give it
(R6, R26, R27). -/

namespace Sys2Proof.Machine

/-- A register or an array of registers of a page. -/
structure RegDesc where
  off : Nat
  cnt : Nat := 1
  stride : Nat := 4
  /-- RW bits, W1S bits, RC bits (R6) -/
  rw : Word := 0
  w1s : Word := 0
  rc : Word := 0
  /-- the RC field, if one is wider than a byte -/
  wide : Word := 0
  reset : Word := 0
  /-- held in the selvedge or in the configuration area -/
  keep : Bool := false
  /-- stated ranges: lsb, length, least, greatest, step -/
  lims : List (Nat × Nat × Nat × Nat × Nat) := []
  deriving DecidableEq, Repr

namespace Pg
/-- Page indices (R26). -/
abbrev sys : Nat := 0x00
abbrev flt : Nat := 0x01
abbrev icu : Nat := 0x02
abbrev evr : Nat := 0x03
abbrev cfl : Nat := 0x04
abbrev upd : Nat := 0x05
abbrev psq : Nat := 0x06
abbrev bat : Nat := 0x07
abbrev thm : Nat := 0x08
abbrev sb0 : Nat := 0x09
abbrev sb1 : Nat := 0x0A
abbrev pool : Nat := 0x0B
abbrev gen : Nat := 0x0C
abbrev genm : Nat := 0x0D
abbrev hl0 : Nat := 0x0E
abbrev hl1 : Nat := 0x0F
abbrev win : Nat := 0x10
abbrev key : Nat := 0x11
abbrev dch (c : Nat) : Nat := 0x20 + c
abbrev dph (c : Nat) : Nat := 0x30 + c
abbrev fch (c : Nat) : Nat := 0x40 + c
abbrev fst : Nat := 0x60
end Pg

namespace Reg
/-- GEN_TACK_DOORBELL (R85). -/
def genTackDoorbell : Nat := 0xC100
/-- GEN_TACK_RESULT (R85). -/
def genTackResult : Nat := 0xC104
/-- GEN_TACK_MASK0–GEN_TACK_MASK7 (R85). -/
def genTackMask (k : Nat) : Nat := 0xC108 + 4 * k
/-- GEN_TACK_MASK_GO (R85). -/
def genTackMaskGo : Nat := 0xC128
/-- GEN_TACK_MASK_STATUS (R85). -/
def genTackMaskStatus : Nat := 0xC12C
/-- GEN_SYNC_CTRL (R85). -/
def genSyncCtrl : Nat := 0xC130
/-- GEN_SYNC_EXPIRY (R85). -/
def genSyncExpiry : Nat := 0xC134
/-- GEN_SYNC_STATUS (R85). -/
def genSyncStatus : Nat := 0xC138
/-- GEN_SYNC_MASK0–GEN_SYNC_MASK7 (R85). -/
def genSyncMask (k : Nat) : Nat := 0xC13C + 4 * k
/-- GEN_GROUP_SEL (R85). -/
def genGroupSel : Nat := 0xC160
/-- GEN_GROUP_STATE (R85). -/
def genGroupState : Nat := 0xC164
/-- GEN_OPEN_LO (R85). -/
def genOpenLo : Nat := 0xC168
/-- GEN_OPEN_HI (R85). -/
def genOpenHi : Nat := 0xC16C
/-- GEN_SEWN_LO (R85). -/
def genSewnLo : Nat := 0xC170
/-- GEN_SEWN_HI (R85). -/
def genSewnHi : Nat := 0xC174
/-- GEN_OLDEST_LO (R85). -/
def genOldestLo : Nat := 0xC178
/-- GEN_OLDEST_HI (R85). -/
def genOldestHi : Nat := 0xC17C
/-- GEN_RETAIN_COUNT (R85). -/
def genRetainCount : Nat := 0xC180
/-- GEN_RING_CFG (R85). -/
def genRingCfg : Nat := 0xC184
/-- GEN_TARGET_LO (R85). -/
def genTargetLo : Nat := 0xC188
/-- GEN_TARGET_HI (R85). -/
def genTargetHi : Nat := 0xC18C
/-- GEN_GEN_CMD (R85). -/
def genGenCmd : Nat := 0xC190
/-- GEN_GEN_STATUS (R85). -/
def genGenStatus : Nat := 0xC194
/-- GEN_QUIESCE_LIMIT (R85). -/
def genQuiesceLimit : Nat := 0xC198
/-- GEN_SLICE_PWR (R85). -/
def genSlicePwr : Nat := 0xC1A0
/-- GEN_TACK_TOTAL_LO (R85). -/
def genTackTotalLo : Nat := 0xC1A4
/-- GEN_TACK_TOTAL_HI (R85). -/
def genTackTotalHi : Nat := 0xC1A8
/-- GEN_SLICE_STATUS (R85). -/
def genSliceStatus : Nat := 0xC1AC
/-- KEY_GROUP_SEL (R89). -/
def keyGroupSel : Nat := 0x11100
/-- KEY_GROUP_STATUS (R89). -/
def keyGroupStatus : Nat := 0x11104
/-- KEY_LOCKED0–KEY_LOCKED7 (R89). -/
def keyLocked (k : Nat) : Nat := 0x11110 + 4 * k
/-- KEY_MODULE_STATUS (R89). -/
def keyModuleStatus : Nat := 0x11130
/-- KEY_SELFTEST (R89). -/
def keySelftest : Nat := 0x11134
/-- KEY_LOCKOUT0–KEY_LOCKOUT7 (R89). -/
def keyLockout (k : Nat) : Nat := 0x11140 + 4 * k
/-- GENM_LINING_CFG (R131). -/
def genmLiningCfg : Nat := 0xD100
/-- GENM_COW_SIZE (R131). -/
def genmCowSize : Nat := 0xD104
/-- GENM_LINING_BASE_LO (R131). -/
def genmLiningBaseLo : Nat := 0xD108
/-- GENM_LINING_BASE_HI (R131). -/
def genmLiningBaseHi : Nat := 0xD10C
/-- GENM_COW_FREE (R131). -/
def genmCowFree : Nat := 0xD110
/-- GENM_COW_LOW (R131). -/
def genmCowLow : Nat := 0xD114
/-- GENM_COW_STALLS (R131). -/
def genmCowStalls : Nat := 0xD118
/-- GENM_RELIEF_COUNT (R131). -/
def genmReliefCount : Nat := 0xD11C
/-- GENM_CEILING (R131). -/
def genmCeiling : Nat := 0xD120
/-- GENM_HEM_POWER (R131). -/
def genmHemPower : Nat := 0xD124
/-- GENM_HEM_BW (R131). -/
def genmHemBw : Nat := 0xD128
/-- GENM_HEM_FIXED (R131). -/
def genmHemFixed : Nat := 0xD12C
/-- GENM_ENERGY (R131). -/
def genmEnergy : Nat := 0xD130
/-- GENM_BUDGET (R131). -/
def genmBudget : Nat := 0xD134
/-- GENM_UNSEWN (R131). -/
def genmUnsewn : Nat := 0xD138
/-- GENM_GRACE (R131). -/
def genmGrace : Nat := 0xD13C
/-- GENM_PACE_PCT (R131). -/
def genmPacePct : Nat := 0xD140
/-- GENM_GROUP_SEL (R131). -/
def genmGroupSel : Nat := 0xD144
/-- GENM_GROUP_PENDING (R131). -/
def genmGroupPending : Nat := 0xD148
/-- GENM_GROUP_OPEN (R131). -/
def genmGroupOpen : Nat := 0xD14C
/-- GENM_GROUP_BUDGET (R131). -/
def genmGroupBudget : Nat := 0xD150
/-- GENM_GROUP_SLOTS (R131). -/
def genmGroupSlots : Nat := 0xD154
/-- GENM_GROUP_PACING (R131). -/
def genmGroupPacing : Nat := 0xD158
/-- GENM_CACHE_CTRL (R131). -/
def genmCacheCtrl : Nat := 0xD15C
/-- GENM_CACHE_HITS (R131). -/
def genmCacheHits : Nat := 0xD160
/-- GENM_CACHE_MISSES (R131). -/
def genmCacheMisses : Nat := 0xD164
/-- GENM_VERIFY_CTRL (R131). -/
def genmVerifyCtrl : Nat := 0xD168
/-- GENM_VERIFY_STATUS (R131). -/
def genmVerifyStatus : Nat := 0xD16C
/-- GENM_SEAL_RETRY (R131). -/
def genmSealRetry : Nat := 0xD170
/-- GENM_COW_ACTIVE (R131). -/
def genmCowActive : Nat := 0xD174
/-- GEN_HEM_CFG (R175). -/
def genHemCfg : Nat := 0xC200
/-- GEN_HEM_STATE (R175). -/
def genHemState : Nat := 0xC204
/-- GEN_HEM_CMD (R175). -/
def genHemCmd : Nat := 0xC208
/-- GEN_KA_TIME (R175). -/
def genKaTime : Nat := 0xC20C
/-- GEN_KA_POWER (R175). -/
def genKaPower : Nat := 0xC210
/-- GEN_KA_RESERVE (R175). -/
def genKaReserve : Nat := 0xC214
/-- GEN_HEM_LAST_SWATCHES (R175). -/
def genHemLastSwatches : Nat := 0xC218
/-- GEN_HEM_LAST_MS (R175). -/
def genHemLastMs : Nat := 0xC21C
/-- GEN_HEM_LAST_AT (R175). -/
def genHemLastAt : Nat := 0xC220
/-- GEN_KA_LAST (R175). -/
def genKaLast : Nat := 0xC224
/-- GEN_RESTORE_CFG (R175). -/
def genRestoreCfg : Nat := 0xC228
/-- GEN_RESTORE_MODE0–GEN_RESTORE_MODE7 (R175). -/
def genRestoreMode (k : Nat) : Nat := 0xC22C + 4 * k
/-- GEN_RESTORE_STATUS (R175). -/
def genRestoreStatus : Nat := 0xC24C
/-- GEN_RESTORE_ABSENT (R175). -/
def genRestoreAbsent : Nat := 0xC250
/-- GEN_TOUCH_COUNT (R175). -/
def genTouchCount : Nat := 0xC254
/-- GEN_TOUCH_MAX (R175). -/
def genTouchMax : Nat := 0xC258
/-- GEN_FOLD_STATUS (R175). -/
def genFoldStatus : Nat := 0xC25C
/-- HL_LINK_CFG (R213). -/
def hlLinkCfg (c : Nat) : Nat := 0xE100 + c * 0x1000
/-- HL_LINK_STATUS (R213). -/
def hlLinkStatus (c : Nat) : Nat := 0xE104 + c * 0x1000
/-- HL_PORT_LDS (R213). -/
def hlPortLds (c : Nat) : Nat := 0xE108 + c * 0x1000
/-- HL_PACE_FLOOR (R213). -/
def hlPaceFloor (c : Nat) : Nat := 0xE10C + c * 0x1000
/-- HL_PACE_HOLD (R213). -/
def hlPaceHold (c : Nat) : Nat := 0xE110 + c * 0x1000
/-- HL_CREDIT_STOPS (R213). -/
def hlCreditStops (c : Nat) : Nat := 0xE114 + c * 0x1000
/-- HL_UNMAPPED (R213). -/
def hlUnmapped (c : Nat) : Nat := 0xE118 + c * 0x1000
/-- HL_OFFLINE_ACC (R213). -/
def hlOfflineAcc (c : Nat) : Nat := 0xE11C + c * 0x1000
/-- HL_RSVD_WRITES (R213). -/
def hlRsvdWrites (c : Nat) : Nat := 0xE120 + c * 0x1000
/-- HL_TACK_REFUSED (R213). -/
def hlTackRefused (c : Nat) : Nat := 0xE124 + c * 0x1000
/-- HL_LINKDOWN (R213). -/
def hlLinkdown (c : Nat) : Nat := 0xE128 + c * 0x1000
/-- HL_DROPPED (R213). -/
def hlDropped (c : Nat) : Nat := 0xE12C + c * 0x1000
/-- HL_MB_PENDING (R213). -/
def hlMbPending (c : Nat) : Nat := 0xE130 + c * 0x1000
/-- HL_MIRROR_FW (R213). -/
def hlMirrorFw (c : Nat) : Nat := 0xE134 + c * 0x1000
/-- HL_IDE_STATUS (R213). -/
def hlIdeStatus (c : Nat) : Nat := 0xE138 + c * 0x1000
/-- HL_PWR (R213). -/
def hlPwr (c : Nat) : Nat := 0xE13C + c * 0x1000
/-- WIN_ADMIN (R217). -/
def winAdmin : Nat := 0x10100
/-- WIN_COUNT (R217). -/
def winCount : Nat := 0x10104
/-- WIN_CAPACITY (R217). -/
def winCapacity : Nat := 0x10108
/-- WIN_FREE (R217). -/
def winFree : Nat := 0x1010C
/-- WIN_CHECK (R217). -/
def winCheck : Nat := 0x10110
/-- DCH_GEOM (R258). -/
def dchGeom (c : Nat) : Nat := 0x20100 + c * 0x1000
/-- DCH_TSET0_RATE (R258). -/
def dchTset0Rate (c : Nat) : Nat := 0x20104 + c * 0x1000
/-- DCH_TSET_CTRL (R258). -/
def dchTsetCtrl (c : Nat) : Nat := 0x20108 + c * 0x1000
/-- DCH_REFRESH_CTRL (R258). -/
def dchRefreshCtrl (c : Nat) : Nat := 0x2010C + c * 0x1000
/-- DCH_REFRESH_STATS (R258). -/
def dchRefreshStats (c : Nat) : Nat := 0x20110 + c * 0x1000
/-- DCH_REPLAY_STATUS (R258). -/
def dchReplayStatus (c : Nat) : Nat := 0x20114 + c * 0x1000
/-- DCH_QUEUE (R258). -/
def dchQueue (c : Nat) : Nat := 0x20118 + c * 0x1000
/-- DCH_RETRAIN_COUNT (R258). -/
def dchRetrainCount (c : Nat) : Nat := 0x2011C + c * 0x1000
/-- DCH_RETRAIN_CFG (R258). -/
def dchRetrainCfg (c : Nat) : Nat := 0x20120 + c * 0x1000
/-- DCH_RD_THRESH (R258). -/
def dchRdThresh (c : Nat) : Nat := 0x20124 + c * 0x1000
/-- DCH_RD_STATS (R258). -/
def dchRdStats (c : Nat) : Nat := 0x20128 + c * 0x1000
/-- DCH_SCRUB_CFG (R258). -/
def dchScrubCfg (c : Nat) : Nat := 0x2012C + c * 0x1000
/-- DCH_SCRUB_STATUS (R258). -/
def dchScrubStatus (c : Nat) : Nat := 0x20130 + c * 0x1000
/-- DCH_ECC_CFG (R258). -/
def dchEccCfg (c : Nat) : Nat := 0x20134 + c * 0x1000
/-- DCH_RETIRED (R258). -/
def dchRetired (c : Nat) : Nat := 0x20138 + c * 0x1000
/-- DCH_ECC_LAST_LO (R258). -/
def dchEccLastLo (c : Nat) : Nat := 0x2013C + c * 0x1000
/-- DCH_ECC_LAST_HI (R258). -/
def dchEccLastHi (c : Nat) : Nat := 0x20140 + c * 0x1000
/-- DCH_TEMP (R258). -/
def dchTemp (c : Nat) : Nat := 0x20144 + c * 0x1000
/-- DCH_LAYOUT (R258). -/
def dchLayout (c : Nat) : Nat := 0x20148 + c * 0x1000
/-- DPH_TRAIN_CTRL (R261). -/
def dphTrainCtrl (c : Nat) : Nat := 0x30100 + c * 0x1000
/-- DPH_TRAIN_STATUS (R261). -/
def dphTrainStatus (c : Nat) : Nat := 0x30104 + c * 0x1000
/-- DPH_MARGIN_A0 (R261). -/
def dphMarginA0 (c : Nat) : Nat := 0x30108 + c * 0x1000
/-- DPH_MARGIN_B0 (R261). -/
def dphMarginB0 (c : Nat) : Nat := 0x3010C + c * 0x1000
/-- DPH_MARGIN_A1 (R261). -/
def dphMarginA1 (c : Nat) : Nat := 0x30110 + c * 0x1000
/-- DPH_MARGIN_B1 (R261). -/
def dphMarginB1 (c : Nat) : Nat := 0x30114 + c * 0x1000
/-- DPH_DRIFT (R261). -/
def dphDrift (c : Nat) : Nat := 0x30118 + c * 0x1000
/-- DPH_FALLBACK (R261). -/
def dphFallback (c : Nat) : Nat := 0x3011C + c * 0x1000
/-- DPH_PLL (R261). -/
def dphPll (c : Nat) : Nat := 0x30120 + c * 0x1000
/-- DPH_SWEEP_MS (R261). -/
def dphSweepMs (c : Nat) : Nat := 0x30124 + c * 0x1000
/-- DPH_LANE0–DPH_LANE39 (R261). -/
def dphLane (c k : Nat) : Nat := 0x30200 + c * 0x1000 + 4 * k
/-- FST_RATE (R298). -/
def fstRate : Nat := 0x60100
/-- FST_CAP (R298). -/
def fstCap : Nat := 0x60104
/-- FST_CAPACITY (R298). -/
def fstCapacity : Nat := 0x60108
/-- FST_FREE (R298). -/
def fstFree : Nat := 0x6010C
/-- FST_FREE_CFG (R298). -/
def fstFreeCfg : Nat := 0x60110
/-- FST_HEM_SIZE (R298). -/
def fstHemSize : Nat := 0x60114
/-- FST_HEM_STATUS (R298). -/
def fstHemStatus : Nat := 0x60118
/-- FST_SUSP_CFG (R298). -/
def fstSuspCfg : Nat := 0x6011C
/-- FST_RD_LIMIT (R298). -/
def fstRdLimit : Nat := 0x60120
/-- FST_AGE_LIMIT (R298). -/
def fstAgeLimit : Nat := 0x60124
/-- FST_SPARE_CFG (R298). -/
def fstSpareCfg : Nat := 0x60128
/-- FST_WEAR (R298). -/
def fstWear : Nat := 0x6012C
/-- FST_WEAR_WARN (R298). -/
def fstWearWarn : Nat := 0x60130
/-- FST_RELOC_STATUS (R298). -/
def fstRelocStatus : Nat := 0x60134
/-- FST_RECOUNT (R298). -/
def fstRecount : Nat := 0x60138
/-- FST_WSEQ_LO (R298). -/
def fstWseqLo : Nat := 0x6013C
/-- FST_WSEQ_HI (R298). -/
def fstWseqHi : Nat := 0x60140
/-- FST_WINDOW (R298). -/
def fstWindow : Nat := 0x60144
/-- FST_EVENT (R298). -/
def fstEvent : Nat := 0x60148
/-- FCH_MOUNT (R301). -/
def fchMount (c : Nat) : Nat := 0x40100 + c * 0x1000
/-- FCH_MOUNT_WHY (R301). -/
def fchMountWhy (c : Nat) : Nat := 0x40104 + c * 0x1000
/-- FCH_CAL (R301). -/
def fchCal (c : Nat) : Nat := 0x40108 + c * 0x1000
/-- FCH_LDPC (R301). -/
def fchLdpc (c : Nat) : Nat := 0x4010C + c * 0x1000
/-- FCH_UNCORR (R301). -/
def fchUncorr (c : Nat) : Nat := 0x40110 + c * 0x1000
/-- FCH_SUSP_STATS (R301). -/
def fchSuspStats (c : Nat) : Nat := 0x40114 + c * 0x1000
/-- FCH_BAD (R301). -/
def fchBad (c : Nat) : Nat := 0x40118 + c * 0x1000
/-- FCH_PE (R301). -/
def fchPe (c : Nat) : Nat := 0x4011C + c * 0x1000
/-- FCH_PE_SLC (R301). -/
def fchPeSlc (c : Nat) : Nat := 0x40120 + c * 0x1000
/-- FCH_TEMP (R301). -/
def fchTemp (c : Nat) : Nat := 0x40124 + c * 0x1000
/-- FCH_BAND_SINGLE (R301). -/
def fchBandSingle (c : Nat) : Nat := 0x40128 + c * 0x1000
/-- FCH_OPS (R301). -/
def fchOps (c : Nat) : Nat := 0x4012C + c * 0x1000
/-- FCH_LANES_OUT (R301). -/
def fchLanesOut (c : Nat) : Nat := 0x40130 + c * 0x1000
/-- POOL_BANK_PWR (R323). -/
def poolBankPwr : Nat := 0xB100
/-- POOL_BANK_STATUS (R323). -/
def poolBankStatus : Nat := 0xB104
/-- POOL_FREE (R323). -/
def poolFree : Nat := 0xB108
/-- POOL_FREE_LOW (R323). -/
def poolFreeLow : Nat := 0xB10C
/-- POOL_SCALE (R323). -/
def poolScale : Nat := 0xB110
/-- POOL_CLIENT_SEL (R323). -/
def poolClientSel : Nat := 0xB114
/-- POOL_CLIENT_HELD (R323). -/
def poolClientHeld : Nat := 0xB118
/-- POOL_CLIENT_PEAK (R323). -/
def poolClientPeak : Nat := 0xB11C
/-- POOL_CLIENT_WAITS (R323). -/
def poolClientWaits : Nat := 0xB120
/-- POOL_TOUCH_BOUND (R323). -/
def poolTouchBound : Nat := 0xB124
/-- POOL_UE_LAST (R323). -/
def poolUeLast : Nat := 0xB128
/-- POOL_ERR_BANK (R323). -/
def poolErrBank : Nat := 0xB12C
/-- POOL_Q0 to POOL_Q11 (R323). -/
def poolQ (k : Nat) : Nat := 0xB140 + 4 * k
/-- PSQ_STATE (R356). -/
def psqState : Nat := 0x6100
/-- PSQ_CMD (R356). -/
def psqCmd : Nat := 0x6104
/-- PSQ_RAIL_EN (R356). -/
def psqRailEn : Nat := 0x6108
/-- PSQ_RAIL_PG (R356). -/
def psqRailPg : Nat := 0x610C
/-- PSQ_RAIL_FAILED (R356). -/
def psqRailFailed : Nat := 0x6110
/-- PSQ_RAIL_MASK (R356). -/
def psqRailMask : Nat := 0x6114
/-- PSQ_STEP_TIMING (R356). -/
def psqStepTiming : Nat := 0x6118
/-- PSQ_INFAIL_CFG (R356). -/
def psqInfailCfg : Nat := 0x611C
/-- PSQ_INFAIL_STATUS (R356). -/
def psqInfailStatus : Nat := 0x6120
/-- PSQ_FAULT_STATUS (R356). -/
def psqFaultStatus : Nat := 0x6124
/-- PSQ_RST_CTRL (R356). -/
def psqRstCtrl : Nat := 0x6128
/-- PSQ_RST_STATUS (R356). -/
def psqRstStatus : Nat := 0x612C
/-- PSQ_STRETCH_LO (R356). -/
def psqStretchLo : Nat := 0x6130
/-- PSQ_STRETCH_HI (R356). -/
def psqStretchHi : Nat := 0x6134
/-- PSQ_HOLD_CFG (R356). -/
def psqHoldCfg : Nat := 0x6138
/-- PSQ_HOLD_STATUS (R356). -/
def psqHoldStatus : Nat := 0x613C
/-- PSQ_TRACE_CFG (R356). -/
def psqTraceCfg : Nat := 0x6140
/-- PSQ_TRACE_STATUS (R356). -/
def psqTraceStatus : Nat := 0x6144
/-- PSQ_TRACE_SEL (R356). -/
def psqTraceSel : Nat := 0x6148
/-- PSQ_TRACE_LO (R356). -/
def psqTraceLo : Nat := 0x614C
/-- PSQ_TRACE_HI (R356). -/
def psqTraceHi : Nat := 0x6150
/-- PSQ_GATE_STATUS (R356). -/
def psqGateStatus : Nat := 0x6154
/-- PSQ_RAILk_CFG (R356). -/
def psqRailkCfg (k : Nat) : Nat := 0x6200 + 8 * k
/-- PSQ_RAILk_STATUS (R356). -/
def psqRailkStatus (k : Nat) : Nat := 0x6204 + 8 * k
/-- PSQ_SCANn (R356). -/
def psqScann (k : Nat) : Nat := 0x6300 + 4 * k
/-- BAT_STATE (R381). -/
def batState : Nat := 0x7100
/-- BAT_SOC (R381). -/
def batSoc : Nat := 0x7104
/-- BAT_ENERGY (R381). -/
def batEnergy : Nat := 0x7108
/-- BAT_PACK_CFG (R381). -/
def batPackCfg : Nat := 0x710C
/-- BAT_CAP_RATED (R381). -/
def batCapRated : Nat := 0x7110
/-- BAT_CAP_LEARNED (R381). -/
def batCapLearned : Nat := 0x7114
/-- BAT_LIMITS (R381). -/
def batLimits : Nat := 0x7118
/-- BAT_CHG_CFG (R381). -/
def batChgCfg : Nat := 0x711C
/-- BAT_CHG_STATUS (R381). -/
def batChgStatus : Nat := 0x7120
/-- BAT_REST (R381). -/
def batRest : Nat := 0x7124
/-- BAT_TEMP (R381). -/
def batTemp : Nat := 0x7128
/-- BAT_CELLS (R381). -/
def batCells : Nat := 0x712C
/-- BAT_TAP_CFG (R381). -/
def batTapCfg : Nat := 0x7130
/-- BAT_LEARN_CTRL (R381). -/
def batLearnCtrl : Nat := 0x7134
/-- BAT_HIB_CFG (R381). -/
def batHibCfg : Nat := 0x7138
/-- BAT_PACK_ID (R381). -/
def batPackId : Nat := 0x713C
/-- BAT_OCV0–BAT_OCV41 (R381). -/
def batOcv (k : Nat) : Nat := 0x7400 + 4 * k
/-- BAT_RES0–BAT_RES1 (R381). -/
def batRes (k : Nat) : Nat := 0x7500 + 4 * k
/-- BAT_DER0–BAT_DER3 (R381). -/
def batDer (k : Nat) : Nat := 0x7510 + 4 * k
/-- BAT_TABLE_CRC (R381). -/
def batTableCrc : Nat := 0x7520
/-- THM_TJ (R398). -/
def thmTj : Nat := 0x8100
/-- THM_RATE (R398). -/
def thmRate : Nat := 0x8104
/-- THM_STATE (R398). -/
def thmState : Nat := 0x8108
/-- THM_LIMITS (R398). -/
def thmLimits : Nat := 0x810C
/-- THM_RATE_CFG (R398). -/
def thmRateCfg : Nat := 0x8110
/-- THM_DRAM_CFG (R398). -/
def thmDramCfg : Nat := 0x8114
/-- THM_NEIGH_OFFS (R398). -/
def thmNeighOffs : Nat := 0x8118
/-- THM_NEIGH (R398). -/
def thmNeigh : Nat := 0x811C
/-- THM_HIST (R398). -/
def thmHist : Nat := 0x8120
/-- SYS_RESET_CAUSE (R424). -/
def sysResetCause : Nat := 0x100
/-- SYS_BOOT (R424). -/
def sysBoot : Nat := 0x104
/-- SYS_LOCKSTEP (R424). -/
def sysLockstep : Nat := 0x108
/-- SYS_DIV_PC (R424). -/
def sysDivPc : Nat := 0x10C
/-- SYS_SRAM_PWR (R424). -/
def sysSramPwr : Nat := 0x110
/-- SYS_SRAM_ECC (R424). -/
def sysSramEcc : Nat := 0x114
/-- SYS_SRAM_UE_ADDR (R424). -/
def sysSramUeAddr : Nat := 0x118
/-- SYS_WDT (R424). -/
def sysWdt : Nat := 0x11C
/-- SYS_WDT_KICK (R424). -/
def sysWdtKick : Nat := 0x120
/-- SYS_SLEEP_CFG (R424). -/
def sysSleepCfg : Nat := 0x124
/-- SYS_WAKE_VECTOR (R424). -/
def sysWakeVector : Nat := 0x128
/-- SYS_WAKE_CAUSE (R424). -/
def sysWakeCause : Nat := 0x12C
/-- SYS_SECONDS (R424). -/
def sysSeconds : Nat := 0x130
/-- SYS_TICKS (R424). -/
def sysTicks : Nat := 0x134
/-- SYS_POWER_CYCLES (R424). -/
def sysPowerCycles : Nat := 0x138
/-- SYS_TIMER_CMP (R424). -/
def sysTimerCmp : Nat := 0x13C
/-- SYS_DEBUG (R424). -/
def sysDebug : Nat := 0x140
/-- ICU_DOORBELL (R427). -/
def icuDoorbell : Nat := 0x2100
/-- ICU_DONE (R427). -/
def icuDone : Nat := 0x2104
/-- ICU_STATUS (R427). -/
def icuStatus : Nat := 0x2108
/-- ICU_CFG (R427). -/
def icuCfg : Nat := 0x210C
/-- ICU_ADMIT (R427). -/
def icuAdmit : Nat := 0x2110
/-- ICU_PRIO_SET (R427). -/
def icuPrioSet : Nat := 0x2114
/-- ICU_ENSET (R427). -/
def icuEnset : Nat := 0x2118
/-- ICU_ENCLR (R427). -/
def icuEnclr : Nat := 0x211C
/-- ICU_PENDCLR (R427). -/
def icuPendclr : Nat := 0x2120
/-- ICU_HTAB (R427). -/
def icuHtab : Nat := 0x2124
/-- ICU_FAULT (R427). -/
def icuFault : Nat := 0x2128
/-- ICU_FRAME_BASE (R427). -/
def icuFrameBase : Nat := 0x212C
/-- ICU_EN0–ICU_EN15 (R427). -/
def icuEn (k : Nat) : Nat := 0x2200 + 4 * k
/-- ICU_PEND0–ICU_PEND15 (R427). -/
def icuPend (k : Nat) : Nat := 0x2240 + 4 * k
/-- ICU_ACT0–ICU_ACT15 (R427). -/
def icuAct (k : Nat) : Nat := 0x2280 + 4 * k
/-- ICU_STACK0–ICU_STACK15 (R427). -/
def icuStack (k : Nat) : Nat := 0x22C0 + 4 * k
/-- ICU_THIMBLE0–ICU_THIMBLE15 (R427). -/
def icuThimble (k : Nat) : Nat := 0x2300 + 4 * k
/-- ICU_PRIO0–ICU_PRIO124 (R427). -/
def icuPrio (k : Nat) : Nat := 0x2400 + 4 * k
/-- ICU_LOST0–ICU_LOST124 (R427). -/
def icuLost (k : Nat) : Nat := 0x2600 + 4 * k
/-- CFL_ADDR (R430). -/
def cflAddr : Nat := 0x4100
/-- CFL_CMD (R430). -/
def cflCmd : Nat := 0x4104
/-- CFL_STATUS (R430). -/
def cflStatus : Nat := 0x4108
/-- CFL_PROTECT (R430). -/
def cflProtect : Nat := 0x410C
/-- CFL_BANK_STATE (R430). -/
def cflBankState : Nat := 0x4110
/-- CFL_ECC (R430). -/
def cflEcc : Nat := 0x4114
/-- CFL_ECC_ADDR (R430). -/
def cflEccAddr : Nat := 0x4118
/-- CFL_REFUSED (R430). -/
def cflRefused : Nat := 0x411C
/-- CFL_BUF0–CFL_BUF63 (R430). -/
def cflBuf (k : Nat) : Nat := 0x4200 + 4 * k
/-- EVR_STATE (R453). -/
def evrState : Nat := 0x3100
/-- EVR_CFG (R453). -/
def evrCfg : Nat := 0x3104
/-- EVR_RATE_CFG (R453). -/
def evrRateCfg : Nat := 0x3108
/-- EVR_SUM_CFG (R453). -/
def evrSumCfg : Nat := 0x310C
/-- EVR_SEQ_NEWEST (R453). -/
def evrSeqNewest : Nat := 0x3110
/-- EVR_SEQ_OLDEST (R453). -/
def evrSeqOldest : Nat := 0x3114
/-- EVR_DROPPED (R453). -/
def evrDropped : Nat := 0x3118
/-- EVR_WRAP (R453). -/
def evrWrap : Nat := 0x311C
/-- EVR_CMD (R453). -/
def evrCmd : Nat := 0x3120
/-- EVR_FW_HDR (R453). -/
def evrFwHdr : Nat := 0x3124
/-- EVR_FW_GO (R453). -/
def evrFwGo : Nat := 0x3128
/-- EVR_FW_STATUS (R453). -/
def evrFwStatus : Nat := 0x312C
/-- EVR_FW_SEQ (R453). -/
def evrFwSeq : Nat := 0x3130
/-- EVR_FW_DATA0–EVR_FW_DATA56 (R453). -/
def evrFwData (k : Nat) : Nat := 0x3200 + 4 * k
/-- UPD_STATE (R481). -/
def updState : Nat := 0x5100
/-- UPD_CFG (R481). -/
def updCfg : Nat := 0x5104
/-- UPD_REFUSE (R481). -/
def updRefuse : Nat := 0x5108
/-- UPD_XFER (R481). -/
def updXfer : Nat := 0x510C
/-- UPD_TRIAL (R481). -/
def updTrial : Nat := 0x5110
/-- UPD_CMD (R481). -/
def updCmd : Nat := 0x5114
/-- UPD_HO_ACK (R481). -/
def updHoAck : Nat := 0x5118
/-- UPD_ENERGY (R481). -/
def updEnergy : Nat := 0x511C
/-- UPD_IMG_A (R481). -/
def updImgA : Nat := 0x5120
/-- UPD_IMG_B (R481). -/
def updImgB : Nat := 0x5124
/-- UPD_KEY_STATUS (R481). -/
def updKeyStatus : Nat := 0x5128
/-- UPD_KEY_RETIRE (R481). -/
def updKeyRetire : Nat := 0x512C
/-- UPD_CFG_AREA (R481). -/
def updCfgArea : Nat := 0x5130
/-- SB0_CFG (R498). -/
def sb0Cfg : Nat := 0x9100
/-- SB0_ADDR (R498). -/
def sb0Addr : Nat := 0x9104
/-- SB0_CMD_IN (R498). -/
def sb0CmdIn : Nat := 0x9108
/-- SB0_CMD_DONE (R498). -/
def sb0CmdDone : Nat := 0x910C
/-- SB0_WINDOW (R498). -/
def sb0Window : Nat := 0x9110
/-- SB0_ERRS (R498). -/
def sb0Errs : Nat := 0x9114
/-- SB0_XACTS (R498). -/
def sb0Xacts : Nat := 0x9118
/-- SB1_CFG (R499). -/
def sb1Cfg : Nat := 0xA100
/-- SB1_TGT0 (R499). -/
def sb1Tgt0 : Nat := 0xA104
/-- SB1_TGT1 (R499). -/
def sb1Tgt1 : Nat := 0xA108
/-- SB1_XFER (R499). -/
def sb1Xfer : Nat := 0xA10C
/-- SB1_XFER_STATUS (R499). -/
def sb1XferStatus : Nat := 0xA110
/-- SB1_ERRS (R499). -/
def sb1Errs : Nat := 0xA114
/-- SB1_LINE (R499). -/
def sb1Line : Nat := 0xA118
/-- SB1_BUF0–SB1_BUF7 (R499). -/
def sb1Buf (k : Nat) : Nat := 0xA120 + 4 * k
/-- FLT_STATE (R519). -/
def fltState : Nat := 0x1100
/-- FLT_CFG (R519). -/
def fltCfg : Nat := 0x1104
/-- FLT_PEND0–FLT_PEND3 (R519). -/
def fltPend (k : Nat) : Nat := 0x1108 + 4 * k
/-- FLT_FENCED0–FLT_FENCED3 (R519). -/
def fltFenced (k : Nat) : Nat := 0x1118 + 4 * k
/-- FLT_FENCE_CMD (R519). -/
def fltFenceCmd : Nat := 0x1128
/-- FLT_STICKY (R519). -/
def fltSticky : Nat := 0x112C
/-- FLT_STICKY_CLR (R519). -/
def fltStickyClr : Nat := 0x1130
/-- FLT_DUMP_CFG (R519). -/
def fltDumpCfg : Nat := 0x1134
/-- FLT_DUMP_CTRL (R519). -/
def fltDumpCtrl : Nat := 0x1138
/-- FLT_DUMP_CMD (R519). -/
def fltDumpCmd : Nat := 0x113C
/-- FLT_DUMP_STATUS (R519). -/
def fltDumpStatus : Nat := 0x1140
/-- FLT_SNAP_SEL (R519). -/
def fltSnapSel : Nat := 0x1144
/-- FLT_SNAP_DATA (R519). -/
def fltSnapData : Nat := 0x1148
/-- FLT_CLASS_COUNT (R519). -/
def fltClassCount : Nat := 0x114C
/-- FLT_CORR_COUNT (R519). -/
def fltCorrCount : Nat := 0x1150
end Reg

/-- Block-specific registers of GEN. -/
def genTable : List RegDesc :=
  [{ off := 0x100 },
   { off := 0x104 },
   { off := 0x108, cnt := 8, rw := 0xFFFFFFFF#32 },
   { off := 0x128 },
   { off := 0x12C },
   { off := 0x130, rw := 0xFF01#32 },
   { off := 0x134, rw := 0xFFFF#32, reset := 0x3E8#32, lims := [(0, 16, 1, 60000, 1)] },
   { off := 0x138, rc := 0x6#32 },
   { off := 0x13C, cnt := 8, rw := 0xFFFFFFFF#32 },
   { off := 0x160, rw := 0xFF#32 },
   { off := 0x164 },
   { off := 0x168 },
   { off := 0x16C },
   { off := 0x170 },
   { off := 0x174 },
   { off := 0x178 },
   { off := 0x17C },
   { off := 0x180 },
   { off := 0x184, rw := 0xFFFF#32, reset := 0xFFFF#32 },
   { off := 0x188, rw := 0xFFFFFFFF#32 },
   { off := 0x18C, rw := 0xFFFF#32 },
   { off := 0x190 },
   { off := 0x194 },
   { off := 0x198, rw := 0xFFFFF#32, reset := 0x2710#32, lims := [(0, 20, 100, 600000, 1)] }] ++
  [{ off := 0x1A0, rw := 0xFF#32 },
   { off := 0x1A4 },
   { off := 0x1A8 },
   { off := 0x1AC },
   { off := 0x200, rw := 0x7#32, reset := 0x7#32, keep := true },
   { off := 0x204 },
   { off := 0x208 },
   { off := 0x20C, rw := 0xFFF#32, reset := 0x258#32, keep := true, lims := [(0, 12, 0, 3600, 1)] },
   { off := 0x210, rw := 0xFFFF#32, reset := 0xF0#32, keep := true, lims := [(0, 16, 10, 5000, 1)] },
   { off := 0x214, rw := 0xFFFF#32, reset := 0xC8#32, keep := true, lims := [(0, 16, 50, 10000, 1)] },
   { off := 0x218, keep := true },
   { off := 0x21C, keep := true },
   { off := 0x220, keep := true },
   { off := 0x224, keep := true },
   { off := 0x228, rw := 0xF#32, reset := 0x2#32, keep := true, lims := [(0, 4, 1, 8, 1)] },
   { off := 0x22C, cnt := 8, rw := 0xFFFFFFFF#32, keep := true },
   { off := 0x24C },
   { off := 0x250 },
   { off := 0x254 },
   { off := 0x258, rc := 0xFFFF#32, wide := 0xFFFF#32 },
   { off := 0x25C }]

/-- Block-specific registers of KEY. -/
def keyTable : List RegDesc :=
  [{ off := 0x100, rw := 0xFF#32 },
   { off := 0x104 },
   { off := 0x110, cnt := 8 },
   { off := 0x130 },
   { off := 0x134 },
   { off := 0x140, cnt := 8 }]

/-- Block-specific registers of GENM. -/
def genmTable : List RegDesc :=
  [{ off := 0x100, rw := 0x3#32, reset := 0x2#32, keep := true },
   { off := 0x104, rw := 0xFFFF#32, reset := 0x100#32, keep := true, lims := [(0, 16, 1, 65535, 1)] },
   { off := 0x108 },
   { off := 0x10C },
   { off := 0x110 },
   { off := 0x114, rc := 0xFFFFFFFF#32, wide := 0xFFFFFFFF#32 },
   { off := 0x118 },
   { off := 0x11C },
   { off := 0x120, rw := 0x7FF#32, reset := 0x100#32, lims := [(0, 11, 1, 1024, 1)] },
   { off := 0x124, rw := 0xFFFF#32, reset := 0x76C#32, keep := true, lims := [(0, 16, 100, 10000, 1)] },
   { off := 0x128, rw := 0xFFFF#32, reset := 0x3E8#32, lims := [(0, 16, 10, 2000, 1)] },
   { off := 0x12C, rw := 0xFFFF#32, reset := 0x3E8#32, lims := [(0, 16, 100, 10000, 1)] },
   { off := 0x130 },
   { off := 0x134 },
   { off := 0x138 },
   { off := 0x13C, rw := 0xFFFFF#32, reset := 0xC350#32, lims := [(0, 20, 1000, 1000000, 1)] },
   { off := 0x140, rw := 0xFFFFFF#32, reset := 0x4B4650#32, lims := [(0, 8, 50, 95, 1), (8, 8, 10, 90, 1), (16, 8, 10, 100, 1)] },
   { off := 0x144, rw := 0xFF#32 },
   { off := 0x148 },
   { off := 0x14C },
   { off := 0x150 },
   { off := 0x154 },
   { off := 0x158 },
   { off := 0x15C, rw := 0x3#32, reset := 0x3#32 }] ++
  [{ off := 0x160 },
   { off := 0x164 },
   { off := 0x168, rw := 0xFF01#32, reset := 0x701#32, lims := [(8, 8, 1, 28, 1)] },
   { off := 0x16C },
   { off := 0x170 },
   { off := 0x174 }]

/-- Block-specific registers of HL0 and HL1. -/
def hlTable : List RegDesc :=
  [{ off := 0x100, rw := 0x3F#32, reset := 0x3C#32, lims := [(1, 3, 1, 6, 1)] },
   { off := 0x104 },
   { off := 0x108, rw := 0x1F1F#32, reset := 0x101#32, lims := [(0, 5, 1, 16, 1), (8, 5, 1, 16, 1)] },
   { off := 0x10C, rw := 0x7#32, reset := 0x1#32, lims := [(0, 3, 1, 4, 1)] },
   { off := 0x110 },
   { off := 0x114 },
   { off := 0x118 },
   { off := 0x11C },
   { off := 0x120 },
   { off := 0x124 },
   { off := 0x128 },
   { off := 0x12C },
   { off := 0x130 },
   { off := 0x134, rw := 0xFFFFFFFF#32 },
   { off := 0x138 },
   { off := 0x13C, rw := 0x1F#32, reset := 0x1F#32 }]

/-- Block-specific registers of HL1: offset 0x134 is reserved there (R213). -/
def hl1Table : List RegDesc := hlTable.filter fun d => d.off != 0x134

/-- Block-specific registers of WIN. -/
def winTable : List RegDesc :=
  [{ off := 0x100, rw := 0x13F#32, reset := 0x100#32 },
   { off := 0x104 },
   { off := 0x108 },
   { off := 0x10C },
   { off := 0x110 }]

/-- Block-specific registers of DCH. -/
def dchTable : List RegDesc :=
  [{ off := 0x100, rw := 0x3F#32, lims := [(1, 2, 0, 1, 1), (3, 2, 0, 2, 1)] },
   { off := 0x104, rw := 0x7F#32, reset := 0x50#32, lims := [(0, 7, 52, 80, 4)] },
   { off := 0x108, rw := 0x2#32 },
   { off := 0x10C, rw := 0x3#32, reset := 0x1#32 },
   { off := 0x110 },
   { off := 0x114 },
   { off := 0x118 },
   { off := 0x11C },
   { off := 0x120, rw := 0x3FF#32, reset := 0x64#32, lims := [(0, 10, 10, 1000, 1)] },
   { off := 0x124, rw := 0x1FFF#32, reset := 0x200#32, lims := [(0, 13, 64, 4096, 1)] },
   { off := 0x128 },
   { off := 0x12C, rw := 0x1F01#32, reset := 0x1801#32, lims := [(8, 5, 4, 24, 1)] },
   { off := 0x130 },
   { off := 0x134, rw := 0x1FFFF#32, reset := 0x10100#32, lims := [(0, 16, 16, 65535, 1)] },
   { off := 0x138, keep := true },
   { off := 0x13C },
   { off := 0x140 },
   { off := 0x144 },
   { off := 0x148 }]

/-- Block-specific registers of DPH. -/
def dphTable : List RegDesc :=
  [{ off := 0x100 },
   { off := 0x104 },
   { off := 0x108 },
   { off := 0x10C },
   { off := 0x110 },
   { off := 0x114 },
   { off := 0x118 },
   { off := 0x11C, rw := 0x3F#32, reset := 0x19#32, lims := [(0, 6, 10, 50, 1)] },
   { off := 0x120 },
   { off := 0x124 },
   { off := 0x200, cnt := 40 }]

/-- Block-specific registers of FST. -/
def fstTable : List RegDesc :=
  [{ off := 0x100, rw := 0x3F#32, reset := 0x24#32, lims := [(0, 6, 8, 36, 4)] },
   { off := 0x104 },
   { off := 0x108 },
   { off := 0x10C },
   { off := 0x110, rw := 0xFFFF#32, reset := 0x1E14#32, lims := [(0, 8, 5, 100, 1), (8, 8, 10, 200, 1)] },
   { off := 0x114, rw := 0x7FFF#32, reset := 0x800#32, lims := [(0, 15, 64, 16384, 1)] },
   { off := 0x118 },
   { off := 0x11C, rw := 0xFF7F#32, reset := 0x1E10#32, lims := [(0, 7, 1, 64, 1), (8, 8, 10, 200, 1)] },
   { off := 0x120, rw := 0xFFFF#32, reset := 0x64#32, lims := [(0, 16, 10, 1000, 1)] },
   { off := 0x124, rw := 0x3FF#32, reset := 0x5A#32, lims := [(0, 10, 7, 365, 1)] },
   { off := 0x128, rw := 0xF#32, reset := 0x4#32, lims := [(0, 4, 1, 10, 1)] },
   { off := 0x12C, reset := 0xFFFF#32 },
   { off := 0x130, rw := 0xFFFF#32, reset := 0x16D#32, lims := [(0, 16, 30, 3650, 1)] },
   { off := 0x134 },
   { off := 0x138 },
   { off := 0x13C },
   { off := 0x140 },
   { off := 0x144, reset := 0x1#32 },
   { off := 0x148, rc := 0xF#32 }]

/-- Block-specific registers of FCH. -/
def fchTable : List RegDesc :=
  [{ off := 0x100 },
   { off := 0x104 },
   { off := 0x108 },
   { off := 0x10C },
   { off := 0x110 },
   { off := 0x114 },
   { off := 0x118 },
   { off := 0x11C },
   { off := 0x120 },
   { off := 0x124 },
   { off := 0x128 },
   { off := 0x12C },
   { off := 0x130 }]

/-- Block-specific registers of POOL. -/
def poolTable : List RegDesc :=
  [{ off := 0x100, rw := 0xFFFF#32, reset := 0xFFFF#32 },
   { off := 0x104 },
   { off := 0x108 },
   { off := 0x10C, rc := 0x7FFFF#32, wide := 0x7FFFF#32 },
   { off := 0x110, reset := 0x10000#32 },
   { off := 0x114, rw := 0xF#32, lims := [(0, 4, 0, 11, 1)] },
   { off := 0x118 },
   { off := 0x11C, rc := 0x7FFFF#32, wide := 0x7FFFF#32 },
   { off := 0x120 },
   { off := 0x124 },
   { off := 0x128 },
   { off := 0x12C },
   { off := 0x140, rw := 0x7FFF7FFF#32, reset := 0x2000080#32, lims := [(16, 15, 1, 16384, 1)] },
   { off := 0x144, rw := 0x7FFF7FFF#32, reset := 0x2000080#32, lims := [(16, 15, 1, 16384, 1)] },
   { off := 0x148, rw := 0x7FFF7FFF#32, reset := 0x2000080#32, lims := [(16, 15, 1, 16384, 1)] },
   { off := 0x14C, rw := 0x7FFF7FFF#32, reset := 0x2000080#32, lims := [(16, 15, 1, 16384, 1)] },
   { off := 0x150, rw := 0x7FFF7FFF#32, reset := 0x2000100#32, lims := [(16, 15, 1, 16384, 1)] },
   { off := 0x154, rw := 0x7FFF7FFF#32, reset := 0x1000080#32, lims := [(16, 15, 1, 16384, 1)] },
   { off := 0x158, rw := 0x7FFF7FFF#32, reset := 0x20001000#32, lims := [(16, 15, 1, 16384, 1)] },
   { off := 0x15C, rw := 0x7FFF7FFF#32, reset := 0x2000100#32, lims := [(16, 15, 1, 16384, 1)] },
   { off := 0x160, rw := 0x7FFF7FFF#32, reset := 0x1000080#32, lims := [(16, 15, 1, 16384, 1)] },
   { off := 0x164, rw := 0x7FFF7FFF#32, reset := 0x8000200#32, lims := [(16, 15, 1, 16384, 1)] },
   { off := 0x168, rw := 0x7FFF7FFF#32, reset := 0x4000200#32, lims := [(16, 15, 1, 16384, 1)] },
   { off := 0x16C, rw := 0x7FFF7FFF#32, reset := 0x1000010#32, lims := [(16, 15, 1, 16384, 1)] }]

/-- Block-specific registers of PSQ. -/
def psqTable : List RegDesc :=
  [{ off := 0x100 },
   { off := 0x104 },
   { off := 0x108 },
   { off := 0x10C },
   { off := 0x110 },
   { off := 0x114, rw := 0xFFFFFF#32, reset := 0xFFFFFF#32, keep := true },
   { off := 0x118, rw := 0xFFFFFF#32, reset := 0x140A0A#32, keep := true, lims := [(0, 8, 1, 255, 1), (8, 8, 1, 255, 1), (16, 8, 1, 255, 1)] },
   { off := 0x11C, rw := 0xFF07FF#32, reset := 0x140384#32, keep := true, lims := [(0, 11, 600, 1100, 1), (16, 8, 1, 255, 1)] },
   { off := 0x120 },
   { off := 0x124 },
   { off := 0x128, rw := 0xFF#32 },
   { off := 0x12C },
   { off := 0x130, rw := 0xFFFFFFFF#32, reset := 0xA0A0A0A#32, keep := true, lims := [(0, 8, 1, 255, 1), (8, 8, 1, 255, 1), (16, 8, 1, 255, 1), (24, 8, 1, 255, 1)] },
   { off := 0x134, rw := 0xFFFFFFFF#32, reset := 0xA0A0A0A#32, keep := true, lims := [(0, 8, 1, 255, 1), (8, 8, 1, 255, 1), (16, 8, 1, 255, 1), (24, 8, 1, 255, 1)] },
   { off := 0x138, rw := 0xFF#32, reset := 0x14#32, keep := true, lims := [(0, 8, 5, 250, 1)] },
   { off := 0x13C },
   { off := 0x140, rw := 0x70FFF#32, reset := 0x70800#32 },
   { off := 0x144 },
   { off := 0x148, rw := 0xFFF#32 },
   { off := 0x14C },
   { off := 0x150 },
   { off := 0x154 },
   { off := 0x200, cnt := 24, stride := 8, rw := 0xFFFF#32, reset := 0x5258#32, keep := true, lims := [(0, 12, 100, 1200, 1), (12, 4, 2, 15, 1)] },
   { off := 0x204, cnt := 24, stride := 8 }] ++
  [{ off := 0x300, cnt := 32 }]

/-- Block-specific registers of BAT. -/
def batTable : List RegDesc :=
  [{ off := 0x100 },
   { off := 0x104 },
   { off := 0x108 },
   { off := 0x10C, rw := 0x1FF0037#32, reset := 0x1680003#32, keep := true, lims := [(0, 3, 3, 6, 1), (16, 9, 300, 400, 1)] },
   { off := 0x110, rw := 0xFFFF#32, reset := 0x7D0#32, lims := [(0, 16, 100, 20000, 1)] },
   { off := 0x114, keep := true },
   { off := 0x118, rw := 0xFFFFFF#32, reset := 0x25C0A#32, keep := true, lims := [(0, 8, 0, 50, 1), (8, 8, 50, 100, 1), (16, 8, 1, 10, 1)] },
   { off := 0x11C, rw := 0xFFFF0FFF#32, reset := 0x5F0F00C8#32, lims := [(0, 12, 10, 1000, 1), (16, 8, 10, 20, 1), (24, 8, 80, 99, 1)] },
   { off := 0x120 },
   { off := 0x124 },
   { off := 0x128 },
   { off := 0x12C },
   { off := 0x130, rw := 0x3FF03FF#32, reset := 0xC800FA#32, lims := [(0, 10, 10, 1000, 1), (16, 10, 10, 1000, 1)] },
   { off := 0x134, rw := 0x1FFF0000#32, w1s := 0x1#32, reset := 0x10040000#32, lims := [(16, 13, 3900, 4150, 1)] },
   { off := 0x138, rw := 0xFFF#32, reset := 0x28#32, keep := true, lims := [(0, 12, 10, 4000, 1)] },
   { off := 0x13C },
   { off := 0x400, cnt := 42, rw := 0xFFFFFFFF#32, keep := true },
   { off := 0x500, cnt := 2, rw := 0xFFFFFFFF#32, keep := true },
   { off := 0x510, cnt := 4, rw := 0xFFFFFFFF#32, keep := true },
   { off := 0x520, rw := 0xFFFFFFFF#32, keep := true }]

/-- Block-specific registers of THM. -/
def thmTable : List RegDesc :=
  [{ off := 0x100 },
   { off := 0x104 },
   { off := 0x108 },
   { off := 0x10C, rw := 0xFFFFFFFF#32, reset := 0x3696C64#32, lims := [(0, 8, 90, 105, 1), (8, 8, 0, 114, 1), (16, 8, 0, 110, 1), (24, 8, 1, 10, 1)] },
   { off := 0x110, rw := 0xFFFF#32, reset := 0x3214#32, lims := [(0, 8, 5, 50, 1), (8, 8, 10, 100, 1)] },
   { off := 0x114, rw := 0xFFFF#32, reset := 0x5A55#32, lims := [(0, 8, 75, 85, 1), (8, 8, 85, 95, 1)] },
   { off := 0x118, rw := 0xFFFFFF#32, reset := 0x1E0F0A#32 },
   { off := 0x11C, reset := 0x80808080#32 },
   { off := 0x120 }]

/-- Block-specific registers of SYS. -/
def sysTable : List RegDesc :=
  [{ off := 0x100, reset := 0x1#32 },
   { off := 0x104 },
   { off := 0x108 },
   { off := 0x10C },
   { off := 0x110, rw := 0xF#32, reset := 0xF#32 },
   { off := 0x114 },
   { off := 0x118 },
   { off := 0x11C, rw := 0x13FFF#32, reset := 0x3E8#32, lims := [(0, 14, 1, 10000, 1)] },
   { off := 0x120 },
   { off := 0x124, rw := 0xF1#32, reset := 0x10#32 },
   { off := 0x128, rw := 0xFFFFFFFC#32 },
   { off := 0x12C, rc := 0x7FF#32, wide := 0x1FF#32 },
   { off := 0x130, keep := true },
   { off := 0x134 },
   { off := 0x138, reset := 0x1#32, keep := true },
   { off := 0x13C, rw := 0x17FFF#32 },
   { off := 0x140, rw := 0x3#32 }]

/-- Block-specific registers of ICU. -/
def icuTable : List RegDesc :=
  [{ off := 0x100 },
   { off := 0x104 },
   { off := 0x108, rc := 0x10000#32 },
   { off := 0x10C, rw := 0x701#32 },
   { off := 0x110, rw := 0xFF#32, reset := 0xFF#32 },
   { off := 0x114 },
   { off := 0x118 },
   { off := 0x11C },
   { off := 0x120 },
   { off := 0x124, rw := 0xFFFFF800#32, reset := 0x10000000#32 },
   { off := 0x128 },
   { off := 0x12C, rw := 0xFFFFFF00#32, reset := 0x10000800#32 },
   { off := 0x200, rw := 0xFFFFFFFE#32, reset := 0x1#32 },
   { off := 0x204, cnt := 14, rw := 0xFFFFFFFF#32 },
   { off := 0x23C, rw := 0xFFFFF#32 },
   { off := 0x240, cnt := 15, rw := 0xFFFFFFFF#32 },
   { off := 0x27C, rw := 0xFFFFF#32 },
   { off := 0x280, cnt := 16 },
   { off := 0x2C0, cnt := 16 },
   { off := 0x300, cnt := 16, rw := 0x81FF81FF#32, keep := true },
   { off := 0x400, rw := 0xFFFFFF00#32 },
   { off := 0x404, cnt := 124, rw := 0xFFFFFFFF#32 },
   { off := 0x600, cnt := 125, rc := 0xFFFFFFFF#32 }]

/-- Block-specific registers of CFL. -/
def cflTable : List RegDesc :=
  [{ off := 0x100, rw := 0x3FFFFFF#32 },
   { off := 0x104 },
   { off := 0x108 },
   { off := 0x10C, w1s := 0xF#32 },
   { off := 0x110 },
   { off := 0x114 },
   { off := 0x118 },
   { off := 0x11C },
   { off := 0x200, cnt := 64, rw := 0xFFFFFFFF#32, reset := 0xFFFFFFFF#32 }]

/-- Block-specific registers of EVR. -/
def evrTable : List RegDesc :=
  [{ off := 0x100 },
   { off := 0x104, rw := 0xFF103FD#32, reset := 0x2010028#32, lims := [(2, 8, 1, 100, 1), (20, 8, 0, 128, 1)] },
   { off := 0x108, rw := 0xFFFFFFFF#32, reset := 0x80A0110#32, lims := [(0, 8, 1, 255, 1), (8, 8, 1, 255, 1), (16, 8, 1, 255, 1), (24, 8, 1, 64, 1)] },
   { off := 0x10C, rw := 0x7FF#32, reset := 0x3C#32, lims := [(0, 11, 1, 1440, 1)] },
   { off := 0x110 },
   { off := 0x114 },
   { off := 0x118 },
   { off := 0x11C },
   { off := 0x120 },
   { off := 0x124, rw := 0xFF03FFFF#32, lims := [(24, 8, 0, 228, 1)] },
   { off := 0x128 },
   { off := 0x12C, rc := 0x6#32 },
   { off := 0x130 },
   { off := 0x200, cnt := 57, rw := 0xFFFFFFFF#32 }]

/-- Block-specific registers of UPD. -/
def updTable : List RegDesc :=
  [{ off := 0x100 },
   { off := 0x104, rw := 0x1FF#32, reset := 0x1E#32, lims := [(0, 8, 5, 255, 1)] },
   { off := 0x108 },
   { off := 0x10C },
   { off := 0x110 },
   { off := 0x114 },
   { off := 0x118 },
   { off := 0x11C },
   { off := 0x120 },
   { off := 0x124 },
   { off := 0x128 },
   { off := 0x12C, w1s := 0xF#32 },
   { off := 0x130 }]

/-- Block-specific registers of SB0. -/
def sb0Table : List RegDesc :=
  [{ off := 0x100, rw := 0x3#32, reset := 0x2#32 },
   { off := 0x104 },
   { off := 0x108 },
   { off := 0x10C },
   { off := 0x110 },
   { off := 0x114 },
   { off := 0x118 }]

/-- Block-specific registers of SB1. -/
def sb1Table : List RegDesc :=
  [{ off := 0x100, rw := 0x1F#32, reset := 0xE#32, lims := [(0, 2, 0, 2, 1)] },
   { off := 0x104, rw := 0x7F7F7F#32, reset := 0x50596B#32, keep := true },
   { off := 0x108, rw := 0xFF7F#32, reset := 0x48#32, keep := true },
   { off := 0x10C, rw := 0x13FFFFF#32, lims := [(16, 6, 0, 32, 1)] },
   { off := 0x110 },
   { off := 0x114 },
   { off := 0x118 },
   { off := 0x120, cnt := 8, rw := 0xFFFFFFFF#32 }]

/-- Block-specific registers of FLT. -/
def fltTable : List RegDesc :=
  [{ off := 0x100 },
   { off := 0x104, rw := 0x107FF#32, reset := 0x103E8#32, lims := [(0, 11, 10, 2000, 1)] },
   { off := 0x108, cnt := 4 },
   { off := 0x118, cnt := 4 },
   { off := 0x128 },
   { off := 0x12C, keep := true },
   { off := 0x130 },
   { off := 0x134, rw := 0x1F#32, reset := 0x5#32, lims := [(0, 5, 1, 30, 1)] },
   { off := 0x138, rw := 0x1#32 },
   { off := 0x13C },
   { off := 0x140 },
   { off := 0x144, rw := 0x77F#32, lims := [(8, 3, 0, 4, 1)] },
   { off := 0x148 },
   { off := 0x14C },
   { off := 0x150 }]

/-- The block-specific registers of page `p`. -/
def regTable (p : Nat) : List RegDesc :=
  if p < 0x20 then
    match p with
    | 0x00 => sysTable | 0x01 => fltTable | 0x02 => icuTable | 0x03 => evrTable
    | 0x04 => cflTable | 0x05 => updTable | 0x06 => psqTable | 0x07 => batTable
    | 0x08 => thmTable | 0x09 => sb0Table | 0x0A => sb1Table | 0x0B => poolTable
    | 0x0C => genTable | 0x0D => genmTable | 0x0E => hlTable | 0x0F => hl1Table
    | 0x10 => winTable | 0x11 => keyTable | _ => []
  else if p < 0x30 then dchTable
  else if p < 0x40 then dphTable
  else if p < 0x60 then fchTable
  else if p = 0x60 then fstTable else []

/-- Whether a page index has a page (R26). -/
def isPage (p : Nat) : Bool := decide (p < 0x12) || (decide (0x20 ≤ p) && decide (p ≤ 0x60))

/-- The register of a table that holds the offset `o`. -/
def descIn (t : List RegDesc) (o : Nat) : Option RegDesc :=
  t.find? fun d => decide (d.off ≤ o) && decide (o < d.off + d.stride * d.cnt) && decide ((o - d.off) % d.stride = 0)

/-- The block-specific register at register address `a`. -/
def descOf (a : Nat) : Option RegDesc := descIn (regTable (a / 0x1000)) (a % 0x1000)

/-- Reset of CTRL: enable and power_req are 1 on eight pages (R30). -/
def ctrlReset (p : Nat) : Word := if [0x00, 0x01, 0x02, 0x04, 0x06, 0x07, 0x08, 0x09].contains p then 5#32 else 0#32

/-- What a register that nothing has changed holds. -/
def resetOf (a : Nat) : Word :=
  if a % 0x1000 = 0x10 then ctrlReset (a / 0x1000)
  else match descOf a with
    | some d => d.reset
    | none => 0#32

end Sys2Proof.Machine
end

