-- ==== Sys2Proof/Machine/Sparse.lean ====
section
/-! DEFINITION. Sparse maps as plain data: a list of (key, value) pairs in one canonical form. Keys rise
strictly, and no entry holds what its key reads as when it is not listed. Registers, memories and the
arrays of numbered units (groups, windows, domains, rails, ...) are all held in this form. -/

namespace Sys2Proof.Sparse

variable {α : Type} [DecidableEq α]

/-- The value at key `k`; `d` gives what an unlisted key reads as. -/
def get (d : Nat → α) : List (Nat × α) → Nat → α
  | [], k => d k
  | (j, v) :: m, k => if j = k then v else get d m k

/-- Lists the value `v` at key `k`, leaving every other key as it is; nothing is listed that the default gives. -/
def set (d : Nat → α) : List (Nat × α) → Nat → α → List (Nat × α)
  | [], k, v => if v = d k then [] else [(k, v)]
  | (j, w) :: m, k, v =>
    if k < j then (if v = d k then (j, w) :: m else (k, v) :: (j, w) :: m)
    else if k = j then (if v = d k then m else (k, v) :: m)
    else (j, w) :: set d m k v

/-- The map with only the keys that `p` keeps. -/
def keep (p : Nat → Bool) (m : List (Nat × α)) : List (Nat × α) := m.filter fun e => p e.1

/-- Every listed key. -/
def keys (m : List (Nat × α)) : List Nat := m.map Prod.fst

/-- No key of `m` is below `b`, keys rise strictly and no entry equals its default. -/
def wfFrom (d : Nat → α) : Nat → List (Nat × α) → Bool
  | _, [] => true
  | b, (j, v) :: m => decide (b ≤ j) && decide (v ≠ d j) && wfFrom d (j + 1) m

/-- The canonical form. -/
def wf (d : Nat → α) (m : List (Nat × α)) : Bool := wfFrom d 0 m

/-- Applies `f` to the value at key `k`. -/
def modify (d : Nat → α) (m : List (Nat × α)) (k : Nat) (f : α → α) : List (Nat × α) :=
  set d m k (f (get d m k))

/-- Lists the values of `vs` at the keys `k`, `k + 1`, ... -/
def setList (d : Nat → α) (m : List (Nat × α)) (k : Nat) : List α → List (Nat × α)
  | [] => m
  | v :: vs => setList d (set d m k v) (k + 1) vs

/-- The values at `n` keys from `k`. -/
def getList (d : Nat → α) (m : List (Nat × α)) (k n : Nat) : List α :=
  (List.range n).map fun i => get d m (k + i)

end Sys2Proof.Sparse
end

