-- ==== Sys2Proof/Machine/State.lean ====
section
/-! DEFINITION. The state of the block as plain data: the waiting commands, the register file, the
structured state of every subsystem, and the state after reset. Arrays of numbered units are sparse maps:
lists of (number, value) in the canonical form of `Sys2Proof.Sparse`, an unlisted unit holding its default. -/

namespace Sys2Proof.Machine

/-- Reasons for a fault. No meaning of this model raises one: every command the spec lists has an effect
the spec gives, so the type only completes the interface (safe). -/
inductive Fault where
  /-- Raised by no meaning (safe). -/
  | unreachable
  deriving DecidableEq, Repr

/-- Reasons for a refusal. -/
inductive Refusal where
  /-- An arm of `exec` that has no meaning yet (safe: the machine stops). -/
  | notModelled (mnemonic : String)
  deriving DecidableEq, Repr

-- power domains, fault manager

/-- A switchable power domain (R16 to R18): its power state (R32), its gating credits, whether a
switch-off waits for a credit, and the latest power request latched during a transition. -/
structure Dom where
  /-- 0 off, 1 switching on, 2 on, 3 switching off -/
  st : Nat := 0
  credit : Nat := 8
  deferred : Bool := false
  latched : Option Bool := none
  deriving DecidableEq, Repr

/-- A fence (R506, R507): the page, the unit within the page, and whether hardware set it. -/
structure Fence where
  page : Nat
  unit : Nat
  hw : Bool
  deriving DecidableEq, Repr

/-- What an escalation of R505 calls for. -/
inductive Esc where
  /-- fence the unit of the page in hardware -/
  | fence (page unit : Nat)
  /-- safe stop for the fatal error `bit` of `page` -/
  | fatal (page bit : Nat)
  /-- the service level fell below 1 (R20) -/
  | hold
  deriving DecidableEq, Repr

/-- The fault manager (chapter 16) beyond its registers. -/
structure Flt where
  /-- escalations that wait to be carried out within the step -/
  esc : List Esc := []
  /-- contained errors in handling: page, unit, bit (R504) -/
  handling : List (Nat × Nat × Nat) := []
  fences : List Fence := []
  /-- fatal snapshot, word w of page p at 8p + w (R508) -/
  snap : List (Nat × Word) := []
  /-- FLT_STATE.state (R519) -/
  state : Nat := 0
  /-- a safe stop is running -/
  stopping : Bool := false
  /-- a dump is being written, with its cause (1 fatal, 2 command) -/
  dump : Option Nat := none
  /-- the fatal error that opened the dump window -/
  fatalAt : Option (Nat × Nat) := none
  /-- the dump slot is being erased (Clear Dump) -/
  erasing : Bool := false
  /-- dumps skipped, saturating at 255 (R514) -/
  skipped : Nat := 0
  /-- time stamps of the last raise of sources 464 and 465 (R522) -/
  last464 : Option Nat := none
  last465 : Option Nat := none
  deriving DecidableEq, Repr

-- interrupt controller and core pair

/-- How the core pair runs (R403, R421). -/
inductive CoreState where
  | running | lightSleep | deepSleep | down
  deriving DecidableEq, Repr

/-- The interrupt controller (R412 to R423) beyond its registers. -/
structure Icu where
  /-- priority stack, top first: source and priority -/
  stack : List (Nat × Nat) := []
  /-- handlers entered and not yet returned from, the running one first; none once ICU_DONE has completed it -/
  live : List (Option Nat) := []
  core : CoreState := .down
  /-- the pair's next fetch address, where the ICU or a restart sets it -/
  vector : Word := 0
  /-- the context last read back to the pair (R419), or carried into an entry -/
  context : List Word := []
  /-- sources latched by the thimble while VCORE is off (R422) -/
  latched : List Nat := []
  /-- time stamps of the restarts of R403 and R404 within the last 60 s -/
  restarts : List Nat := []
  /-- time stamp of the last watchdog reload -/
  kicked : Nat := 0
  deriving DecidableEq, Repr

-- code flash

/-- Who asked for a code flash operation (CFL_BANK_STATE). -/
inductive CflReq where
  | fw | upd | evr
  deriving DecidableEq, Repr

/-- A program or erase that runs in a bank (R408). -/
structure CflOp where
  /-- 1 program, 2 erase, 3 blank check -/
  kind : Nat
  req : CflReq
  addr : Nat
  suspended : Bool := false
  suspensions : Nat := 0
  deriving DecidableEq, Repr

/-- The code flash and its interface. -/
structure Cfl where
  /-- programmed bytes by address; an unlisted byte reads 0xFF (erased) -/
  mem : List (Nat × Byte) := []
  /-- operations by bank -/
  ops : List (Nat × CflOp) := []
  /-- units left undefined by a cut-short operation: address and size (R411) -/
  undef : List (Nat × Nat) := []
  deriving DecidableEq, Repr

-- event recorder

/-- An event on its way to admission (R439). -/
structure Ev where
  code : Nat
  sev : Nat
  payload : List Byte
  deriving DecidableEq, Repr

/-- A record (R436). -/
structure Rec where
  code : Nat
  seq : Nat
  sev : Nat
  offTime : Bool := false
  replayed : Bool := false
  volatile : Bool := false
  suppressed : Nat := 0
  secs : Nat
  ticks : Nat
  cycles : Nat
  payload : List Byte
  deriving DecidableEq, Repr

/-- A sector of the record area (R438). -/
structure Sector where
  seq : Nat
  /-- 0 pinned, 1 circulating, 2 the one area of policy 1 -/
  area : Nat
  policy : Nat
  first : Nat
  pages : List (List Rec) := []
  deriving DecidableEq, Repr

/-- A token bucket of R439: its code and the severity it refills for, tokens in units of 1/32768, the time it was last filled,
events suppressed. -/
structure Bucket where
  code : Nat
  sev : Nat := 0
  tokens : Nat
  at_ : Nat
  suppressed : Nat := 0
  deriving DecidableEq, Repr

/-- A summary as R445 lays it out. -/
structure Summary where
  policy : Nat := 0
  frozen : Bool := false
  seq : Nat := 0
  secs : Nat := 0
  cycles : Nat := 0
  newest : Nat := 0
  oldest : Nat := 0
  dropped : Nat := 0
  wraps : Nat := 0
  pinned : Nat := 0
  retired : List Nat := []
  clearedAt : Nat := 0
  /-- histogram h, bin b at 16h + b (R446) -/
  hist : List (Nat × Nat) := []
  /-- extremes: value and operating seconds (R447) -/
  ext : List (Nat × (Int × Nat)) := []
  /-- counts: page p, severity v at 4p + v -/
  counts : List (Nat × Nat) := []
  deriving DecidableEq, Repr

/-- The event recorder (chapter 13) beyond its registers. -/
structure Evr where
  /-- 0 mounting, 1 flash, 2 volatile-only, 3 off (EVR_STATE) -/
  mode : Nat := 0
  /-- events raised and not yet admitted, oldest first -/
  inbox : List Ev := []
  /-- selvedge latch: events with the seconds and ticks since VCORE went off and the cycle count (R435) -/
  latch : List (Ev × Nat × Nat × Nat) := []
  latchLost : Nat := 0
  /-- page buffers in admission order, the last one filling; each with the stamp of its first record -/
  bufs : List (Nat × List Rec) := []
  sectors : List (Nat × Sector) := []
  /-- open sector of the pinned part, of the circulating part or the one area -/
  openPinned : Option Nat := none
  openCirc : Option Nat := none
  /-- erased sectors kept ready -/
  ready : List Nat := []
  /-- volatile-only ring, oldest first (R450) -/
  ring : List Rec := []
  secSeq : Nat := 0
  policy : Nat := 0
  pinned : Nat := 512
  frozen : Bool := false
  /-- records still to come before a freeze after a fatal record (R443) -/
  freezeIn : Option Nat := none
  /-- Clear Log in progress, and a freeze asked for during it -/
  clearing : Bool := false
  freezeAsked : Bool := false
  buckets : List Bucket := []
  overflow : Bucket := { code := 0, tokens := 16 * 32768, at_ := 0 }
  /-- admitted bytes of severity 0 to 2 with their stamps, within the last second -/
  recent : List (Nat × Nat) := []
  live : Summary := {}
  /-- summary copies in bank 3 by sector: half A is sectors 0 to 31, half B sectors 32 to 63 (R438, R444) -/
  sums : List (Nat × Summary) := []
  /-- sectors of each summary half next written, 0 to 31 -/
  slotA : Nat := 0
  slotB : Nat := 0
  /-- stamp of the last raise of source 434 -/
  last434 : Option Nat := none
  /-- a flush waits for its pages to become durable -/
  flushing : Bool := false
  /-- volatile-only mode was entered, and no mount has left it (R450) -/
  sticky : Bool := false
  /-- logical device whose Clear Log runs in the background -/
  clearLd : Option Nat := none
  deriving DecidableEq, Repr

-- generations, lining, pacing

/-- What the spec says is logged without a record code of R433: it goes to module firmware for its own records (log
entry 121). -/
inductive LogEnt where
  /-- a budget at or below its unsewn total: the group, or none for B, the old and the new budget (R130) -/
  | budget (g : Option Nat) (old new : Nat)
  /-- the copy-on-write area is smaller than configured; the lining is raised for this power-up (R103, R225) -/
  | layout (cowGib : Nat) (raised : Bool)
  /-- the first failing check of a warm resume (R154) -/
  | warmCheck (n : Nat)
  /-- a further hem trigger, by its code (R136, R150) -/
  | hemTrigger (code : Nat)
  /-- a group restored as it stood at a generation: at a re-layout (R226), or with data of a hem lost (R165) -/
  | restored (g gen : Nat) (incomplete : Bool)
  /-- a further device of a codeword at the threshold: channel, and rank, subchannel and device packed (R254) -/
  | device (ch key : Nat)
  /-- a power-up that found a handover pending starts the old slot: its letter (R472) -/
  | oldSlot (slot : Bool)
  /-- a fall-back, with the number of records discarded (R477) -/
  | fallBack (discarded : Nat)
  deriving DecidableEq, Repr

/-- The content of a 4 KiB swatch away from its DRAM place: bytes by offset (an unlisted byte reads zero)
and the poisoned 64-byte lines. -/
structure Page where
  bytes : List (Nat × Byte) := []
  poison : List Nat := []
  deriving DecidableEq, Repr

/-- An entry of a map delta (R114). -/
structure DeltaEntry where
  idx : Nat
  loc : Nat
  crc : Nat
  relief : Bool := false
  deriving DecidableEq, Repr

/-- A closed generation of a group, in the states 1 tacked to 5 retained (R64), with its delta. -/
structure GenRec where
  num : Nat
  st : Nat := 1
  pinned : Bool := false
  hem : Bool := false
  outside : Bool := false
  verified : Bool := false
  relief : Bool := false
  lineage : Nat := 0
  /-- previous generation on the lineage, 0 if none (R116) -/
  prev : Nat := 0
  secs : Nat := 0
  ticks : Nat := 0
  swatches : Nat := 0
  delta : List DeltaEntry := []
  /-- a checkpoint is included, and the entries it lists (R115) -/
  ckpt : Bool := false
  ckptDelta : List DeltaEntry := []
  /-- delta parts once the last is written, those read back matching (the checkpoint's parts count on from the delta's),
  and whether the last part is written -/
  parts : Nat := 0
  matched : List Nat := []
  lastPart : Bool := false
  sealWritten : Bool := false
  /-- consecutive mismatches (R120) -/
  mism : Nat := 0
  /-- group-relative swatches with a damage record (R122) -/
  damaged : List Nat := []
  /-- locations of the parts and of the seal that have read back -/
  locs : List Nat := []
  /-- locations of its pin, damage and unpick records -/
  recLocs : List Nat := []
  deriving DecidableEq, Repr

/-- Delta and checkpoint parts of a reclaimed generation that stay until a newer checkpoint is sewn (R115): its number and
lineage, whether it holds a checkpoint, where they lie. -/
structure KeptParts where
  num : Nat
  lineage : Nat
  ckpt : Bool
  locs : List Nat
  deriving DecidableEq, Repr

/-- A copy-on-write slot on a group's list (R106): its number, the DRAM swatch, the tacked content. -/
structure Slot where
  n : Nat
  swatch : Nat
  page : Page
  deriving DecidableEq, Repr

/-- A record of kind 3 (pin) or 4 (damage) that waits for its read-back (R118), with the logical device
whose command waits for it. -/
structure PendRec where
  kind : Nat
  gen : Nat
  /-- kind 3: 1 pin, 0 unpin; kind 4: the group-relative swatch -/
  arg : Nat
  ld : Option Nat := none
  deriving DecidableEq, Repr

/-- Where a tack request comes from, for its result (R47, R61). -/
inductive TackPath where
  | doorbell | mgmt | mailbox | mask | sync
  deriving DecidableEq, Repr

/-- A tack that waits for its ordering point (R59). -/
structure TackReq where
  path : TackPath
  tag : Nat
  deriving DecidableEq, Repr

/-- An unpick that waits for its unlock, for its record's read-back, or for the table rebuild (R69 to R72, R166). -/
structure UnpickRun where
  target : Nat
  /-- 0 pending unlock, 1 record written, 2 rebuild -/
  phase : Nat
  ld : Option Nat := none
  deriving DecidableEq, Repr

/-- A group key wrapped in flash (R77): which key, and under which wrapping key (0 the module key,
else 1 + the host wrapping key). -/
structure Wrapped where
  key : Nat
  wrap : Nat
  deriving DecidableEq, Repr

/-- A pacing request of a group (R127, R128): reason, stamp of the posting, target in bytes per second,
whether the grace has run out, whether it is enforced. -/
structure PaceReq where
  reason : Nat
  posted : Nat
  target : Nat
  graceOver : Bool := false
  enforced : Bool := false
  deriving DecidableEq, Repr

/-- A consistency group's generations and service state; what the host configures is in the group table. -/
structure Group where
  /-- epoch parity (R41) -/
  parity : Bool := false
  /-- open generation; 0 if the group was never enabled -/
  openGen : Nat := 0
  /-- highest number issued (R63) -/
  highest : Nat := 0
  /-- current lineage (R74) -/
  lineage : Nat := 0
  /-- generation whose image the open one builds on: 0 the base image -/
  base : Nat := 0
  gens : List GenRec := []
  queued : Option TackReq := none
  quiesced : Bool := false
  /-- logical device whose Quiesce Group waits for the drain -/
  quiesceLd : Option Nat := none
  quiesceDrained : Bool := false
  unpick : Option UnpickRun := none
  /-- summary outcome and tag (R49) -/
  outcome : Nat := 0
  tag : Nat := 0
  armed : Bool := false
  ringSize : Nat := 65535
  /-- ring_blocked by the group's own ring, and by the store's demand (R68) -/
  ringBlocked : Bool := false
  spaceBlocked : Bool := false
  keptParts : List KeptParts := []
  sealExhausted : Bool := false
  mapBad : Bool := false
  /-- key held unwrapped (R90 present), the wrapped copy in flash, host mode (R77) -/
  key : Option Nat := none
  wrapped : Option Wrapped := none
  /-- the wrapped new key of an erase has not been written and read back yet (R81) -/
  keyPending : Bool := false
  hostMode : Bool := false
  /-- fail count and lockout, held in the selvedge (R79) -/
  fails : Nat := 0
  lockout : Bool := false
  /-- slot list, oldest first (R107) -/
  slots : List Slot := []
  openCount : Nat := 0
  pending : Nat := 0
  recs : List PendRec := []
  /-- the group's windows may be online as far as restore goes (R160) -/
  online : Bool := false
  /-- outside-window data still to verify before the group comes online (R158) -/
  mustVerify : Bool := false
  /-- hem lost data of this group (R165) -/
  incomplete : Bool := false
  pacing : List PaceReq := []
  paceEvents : Nat := 0
  /-- write credit rate in bytes per second while enforced (R129) -/
  rate : Nat := 0
  /-- bytes of new swatches of the current and of the last 99 milliseconds (R390), written bytes and programmed bytes of the
  current and of the last nine (R128, R129) -/
  newBytes : List Nat := []
  wrBytes : List Nat := []
  bastBytes : List Nat := []
  bothBytes : List Nat := []
  deriving DecidableEq, Repr

/-- A flash program of a data page in progress, its content held in staging buffers (R112). -/
structure Prog where
  id : Nat
  g : Nat
  gen : Nat
  swatch : Nat
  idx : Nat
  page : Page
  /-- 0 basting, 1 hem, 2 relief, 3 fold, 4 relocation -/
  use : Nat
  /-- the capture came from a BOTH entry -/
  both : Bool := false
  /-- the hem reads it from the swatch's DRAM place when it programs it (R143) -/
  inDram : Bool := false
  /-- the read of it was uncorrectable (R256) -/
  bad : Bool := false
  deriving DecidableEq, Repr

/-- A data page in flash with the metadata of R271 and R156: group, group-relative swatch, generation, lineage, write
sequence, the key it is encrypted under, its plaintext (what the flash holds of it is `cipherBytes`). -/
structure Codeword where
  g : Nat
  idx : Nat
  gen : Nat
  lineage : Nat := 0
  wseq : Nat := 0
  key : Nat
  page : Page
  deriving DecidableEq, Repr

/-- A hem seal still to be matched (R144): group, generation, pass, mismatches. -/
structure HemSeal where
  g : Nat
  gen : Nat
  pass : Nat
  tries : Nat := 0
  deriving DecidableEq, Repr

/-- The hem record of R153. -/
structure HemRecord where
  nonce : BitVec 64
  mask : Nat
  poison : Nat
  /-- saved chunk of channel c: 256 bytes -/
  chunks : List (Nat × List Byte)
  outside : Bool := false
  level2 : Bool := false
  deriving DecidableEq, Repr

/-- The hem (chapter 4) beyond its registers. -/
structure Hem where
  /-- hem in progress: cut made and step 7 not reached -/
  active : Bool := false
  /-- GEN_HEM_STATE.state (R176) -/
  st : Nat := 0
  trigger : Nat := 0
  seals : List HemSeal := []
  /-- an abandoned seal (R144) -/
  abandoned : Bool := false
  /-- generations sewn by this hem: group and generation (R144, R145) -/
  sewn : List (Nat × Nat) := []
  /-- codewords of the hem record still to match, with their mismatches (R153) -/
  recLeft : List (Nat × Nat) := []
  /-- step 6 has ended -/
  step6 : Bool := false
  /-- stamp of the cut -/
  cutAt : Nat := 0
  record : Option HemRecord := none
  /-- keep-alive record in the selvedge: nonce and channel-use mask (R153) -/
  kaNonce : Option (BitVec 64 × Nat) := none
  /-- stamp of the start of keep-alive, and the ticks of it during which VCORE was still up -/
  kaSince : Nat := 0
  kaUp : Nat := 0
  /-- power-good of the DRAM group rails unbroken, and no DRAM reset asserted, since step 7 (R154) -/
  railsHeld : Bool := false
  resetsHeld : Bool := false
  /-- input came back during the hem (R151) -/
  returned : Bool := false
  /-- a Hem Now background command waits for the end of step 6 -/
  cmdLd : Option Nat := none
  /-- what follows the hem: safe stop, another off request, a hold in reset for a lost level (R170, R336, R20) -/
  thenStop : Bool := false
  thenOff : Bool := false
  thenHold : Bool := false
  /-- the canary check of a warm power-up that runs, and the channels that fail the training check (R154, R244) -/
  warmOk : Option (Bool × List Nat) := none
  deriving DecidableEq, Repr

/-- A fetch of an ABSENT swatch in progress (R160). -/
structure Fetch where
  swatch : Nat
  onTouch : Bool
  deriving DecidableEq, Repr

/-- Restore (chapter 4). -/
structure Restore where
  /-- GEN_RESTORE_STATUS.phase -/
  phase : Nat := 0
  /-- groups restored on touch at this restore -/
  touch : List Nat := []
  fetches : List Fetch := []
  /-- ABSENT swatches at the start of the sweep -/
  total : Nat := 0
  /-- phase that a warm check interrupts (R155, R176) -/
  before : Nat := 0
  /-- on-touch fetches since the restore (R174) -/
  touched : Nat := 0
  /-- touch_limit in force since the restore (R162, R173) -/
  limit : Nat := 2
  /-- the restore is that of a re-layout (R226) -/
  relaid : Bool := false
  deriving DecidableEq, Repr

/-- TACK_SYNC (R52 to R56). -/
structure Sync where
  armed : Bool := false
  tag : Nat := 0
  armedAt : Nat := 0
  expiry : Nat := 0
  /-- the line reads low; this device drives it; it was low for more than 1 ms and must read high 100 µs -/
  lineLow : Bool := false
  driving : Bool := false
  stuck : Bool := false
  deriving DecidableEq, Repr

/-- The generation engine and its map, beyond its registers. -/
structure Gen where
  groups : List (Nat × Group) := []
  /-- dirty map: 4-bit entry per DRAM swatch (R95) -/
  map : List (Nat × BitVec 4) := []
  /-- swatch location table (R156) -/
  loc : List (Nat × Nat) := []
  /-- unpick line bitmap: the lines whose bit is set (R104) -/
  lineBits : List (Nat × Bool) := []
  progs : List Prog := []
  progId : Nat := 0
  cw : List (Nat × Codeword) := []
  /-- slots of the copy-on-write area, and the free ones -/
  slotTotal : Nat := 0
  hem : Hem := {}
  restore : Restore := {}
  sync : Sync := {}
  /-- draws of group keys from the DRBG so far; key n is draw n (R77) -/
  nextKey : Nat := 0
  /-- generation last served by each slice, and the swatches left of its quantum (R111) -/
  turn : List (Nat × (Nat × Nat)) := []
  /-- relief in progress: group and slot (R108) -/
  relief : Option (Nat × Slot) := none
  /-- relief pages in the hem region -/
  reliefPages : Nat := 0
  sweepGroups : List Nat := []
  /-- known-answer tests busy; requests that wait for their end -/
  selftestBusy : Bool := false
  keyWaits : List Instr := []
  /-- global budget B in GiB as last computed (R126) -/
  budget : Nat := 0
  /-- its source and B_energy in GiB at that computation (R132) -/
  budgetByEnergy : Bool := false
  budgetEnergy : Nat := 0
  /-- lining size code and copy-on-write size in force since the power-up (R105) -/
  liningCfg : Nat := 2
  cowCfg : Nat := 256
  /-- current millisecond's counts are kept in each group; the stamp of the last PACING_AVERAGE -/
  paceAt : Nat := 0
  /-- stamps at which each group's open count last rose (R127) -/
  rose : List (Nat × Nat) := []
  deriving DecidableEq, Repr

-- host link, windows, mailbox

/-- A port of a link (R178, R205): widths and rates as the codes of the Status Mirror. -/
structure Port where
  up : Bool := false
  width : Nat := 0
  rate : Nat := 0
  flit256 : Bool := false
  /-- logical devices in force (R179) -/
  lds : Nat := 1
  /-- no RwD credits are returned (R194) -/
  stopped : Bool := false
  /-- windows that caused the stop -/
  stopWins : List Nat := []
  /-- stamp of the last raise of sources 40 to 43 -/
  last40 : Option Nat := none
  /-- highest rate code, L0p and ASPM L1 allowed since the last reset of the link's ports (R214) -/
  maxRate : Nat := 6
  l0p : Bool := true
  l1 : Bool := true
  /-- equalisation results are held (R209) -/
  equalised : Bool := false
  /-- RwD credits of committed writes that a credit stop holds back (R194) -/
  unreturned : Nat := 0
  deriving DecidableEq, Repr

/-- A committed HDM decoder (R180, R182). -/
structure Hdm where
  dec : Nat
  base : Nat
  size : Nat
  ways : Nat
  gran : Nat
  pos : Nat
  skip : Nat
  deriving DecidableEq, Repr

/-- A logical device: HDM decoders, mailbox, CXL event records and time stamp. -/
structure Ld where
  hdm : List Hdm := []
  /-- doorbell set: opcode and input payload -/
  doorbell : Option (Nat × List Byte) := none
  /-- last reply: return code and output payload -/
  rc : Nat := 0
  out : List Byte := []
  /-- replies given -/
  replies : Nat := 0
  /-- background command running, its opcode; the return code of the last one that ended -/
  bg : Option Nat := none
  bgRc : Nat := 0
  bgPct : Nat := 0
  /-- results of the running command are discarded (R209) -/
  discard : Bool := false
  /-- CXL event records: handle and event -/
  events : List (Nat × Ev) := []
  nextHandle : Nat := 1
  /-- time stamp set by the host, and the operating time at which it was set -/
  stamp : Option (Nat × Nat) := none
  /-- last CXL DOE protocol served -/
  doe : Option Nat := none
  /-- configuration space: registers by offset that differ from their reset values (R179, R209); the command table has no
  configuration write -/
  cfg : List (Nat × Word) := []
  deriving DecidableEq, Repr

/-- Why a CXL.mem request waits. -/
inductive WaitWhy where
  /-- no lining slot free (R108) -/
  | slot
  /-- its swatch is being fetched (R160) -/
  | fetch
  /-- in its window's hold queue (R193) -/
  | hold
  /-- its group is quiesced (R196) -/
  | quiesce
  /-- the group's table is being rebuilt (R166) -/
  | rebuild
  /-- its subchannel's queue is full, or merges a partial write of the line (R229, R232) -/
  | dram
  deriving DecidableEq, Repr

/-- A CXL.mem request that has been decoded and waits. -/
structure Req where
  ld : Nat
  tag : Nat
  write : Bool
  /-- linear DRAM address of the 64-byte line -/
  addr : Nat
  win : Nat
  g : Nat
  data : List Byte := []
  mask : List Bool := []
  poison : Bool := false
  why : WaitWhy
  at_ : Nat := 0
  deriving DecidableEq, Repr

/-- A CXL.mem response that has left the device. -/
structure Cpl where
  ld : Nat
  tag : Nat
  isRead : Bool
  data : List Byte := []
  poison : Bool := false
  /-- 0 light, 2 moderate, 3 severe overload (R181) -/
  devLoad : Nat := 0
  deriving DecidableEq, Repr

/-- What the device keeps of a window beside its table entry. -/
structure Win where
  /-- bytes written in the current and the last nine milliseconds (R192) -/
  wr : List Nat := []
  /-- bytes in the token bucket (R193), and the stamp at which it was last filled -/
  bucket : Nat := 4096
  filledAt : Nat := 0
  /-- credit rate in bytes per second while enforced -/
  rate : Nat := 0
  enforced : Bool := false
  events : Nat := 0
  /-- ROW_DISTURB request (R251) -/
  disturb : Option PaceReq := none
  /-- offending activations in the current and in the last interval, and enforcement starts (R251, R252) -/
  offend : Nat := 0
  lastOff : Nat := 0
  rowEvents : Nat := 0
  /-- offline reasons last seen by source 46 -/
  seen : Nat := 0
  deriving DecidableEq, Repr

/-- The host link and the window table. -/
structure Hl where
  ports : List (Nat × Port) := []
  lds : List (Nat × Ld) := []
  /-- bifurcation in force and the straps sampled (R178, R526) -/
  bif0 : Bool := false
  bif1 : Bool := false
  strap0 : Bool := false
  strap1 : Bool := false
  /-- window table, group table and throttle table as words by offset / 4 (R23) -/
  winTab : List (Nat × Word) := []
  grpTab : List (Nat × Word) := []
  thrTab : List (Nat × Word) := []
  wins : List (Nat × Win) := []
  /-- entries with a parity fault, not valid until rewritten (R218) -/
  parity : List Nat := []
  waits : List Req := []
  sent : List Cpl := []
  /-- Status Mirror: sequence number, and the fields as last refreshed (R205, R206) -/
  mirrorSeq : Nat := 0
  mirror : List Byte := []
  /-- offline write count (R187) -/
  offlineWrites : Nat := 0
  /-- logical device whose mailbox is served next (R201) -/
  next : Nat := 0
  /-- data of the last BAR0 read of a reserved offset -/
  barRead : Word := 0
  /-- links powered down by a hem cut until the next power-up (R139) -/
  linksOff : Bool := false
  deriving DecidableEq, Repr

-- DRAM

/-- A queued access of a subchannel (R229). -/
structure DQ where
  line : Nat
  write : Bool
  cls : Nat
  /-- host tag and logical device of a read that waits for its data -/
  ld : Nat := 0
  tag : Nat := 0
  win : Nat := 0
  data : List Byte := []
  poison : Bool := false
  /-- a partial write whose line is still to be read for the merge (R232) -/
  rmw : Bool := false
  deriving DecidableEq, Repr

/-- A DRAM channel beyond its registers. -/
structure DCh where
  qa : List DQ := []
  qb : List DQ := []
  /-- the write queue drains until it holds 16 (R230), per subchannel -/
  drainA : Bool := false
  drainB : Bool := false
  /-- retry buffer: the last 32 commands of each subchannel, newest first (R238); a write's entry holds its buffer -/
  retryA : List (Nat × Bool) := []
  retryB : List (Nat × Bool) := []
  /-- accesses still to replay, oldest first (R239) -/
  replayA : List (Nat × Bool) := []
  replayB : List (Nat × Bool) := []
  /-- an alert window is open (R240) -/
  alertOpen : Bool := false
  /-- Misra-Gries entries by bank: row and count (R249) -/
  track : List (Nat × List (Nat × Nat)) := []
  /-- rows that wait for a DRFM: bank and row -/
  drfm : List (Nat × Nat) := []
  /-- rolling ACT count by bank, and the threshold that the devices declare, 0 where they require no refresh management
  (R248) -/
  raa : List (Nat × Nat) := []
  rfm : Nat := 0
  /-- stamps of uncorrectable bursts within 1 s (R256) -/
  ue : List Nat := []
  /-- corrected bursts of each device (by rank, subchannel, device) with their stamps within 24 h (R254) -/
  corr : List (Nat × List Nat) := []
  /-- the set that a switch in progress leads to: true set 1 (R242, R243) -/
  target : Bool := false
  /-- a hem cut fell into the switch toward set 0 (R243) -/
  redirect : Bool := false
  /-- thermal request, hem request (R241) -/
  thermalReq : Bool := false
  hemReq : Bool := false
  /-- the doubled regime that THM asks for (R236) -/
  doubledReq : Bool := false
  /-- training: the start-up sweep is running; trained in this power-up; DCH_GEOM fixed -/
  sweeping : Bool := false
  trained : Bool := false
  geomLocked : Bool := false
  /-- a sliced sweep is running -/
  sliced : Bool := false
  /-- the trained values of both sets as the selvedge keeps them: DPH registers and what they hold (R244) -/
  kept : List (Nat × Word) := []
  /-- line next read by patrol scrub -/
  scrubAt : Nat := 0
  deriving DecidableEq, Repr

/-- The DRAM controller. -/
structure Dram where
  /-- content by DRAM address; an unlisted byte reads zero (log entry 2) -/
  mem : List (Nat × Byte) := []
  /-- poisoned lines, by address / 64 -/
  poison : List (Nat × Bool) := []
  chs : List (Nat × DCh) := []
  /-- channels of the layout in force, ascending; empty before start-up (R222) -/
  layout : List Nat := []
  /-- per-channel capacity in bytes -/
  chBytes : Nat := 0
  /-- lining of the layout in force: its base and size in bytes, the copy-on-write area in GiB -/
  liningBase : Nat := 0
  deriving DecidableEq, Repr

-- flash store

/-- The operation of a LUN (R279, R280). -/
structure Lun where
  /-- 0 idle, 1 programming, 2 erasing, 3 erase suspended -/
  op : Nat := 0
  blk : Nat := 0
  suspensions : Nat := 0
  /-- an operation of orders 1 to 3 runs inside the suspension or waits for the LUN -/
  inside : Bool := false
  /-- stamp of the last resume -/
  resumedAt : Nat := 0
  /-- suspended for the hem: never resumed (R142) -/
  forHem : Bool := false
  out : Bool := false
  retired : Nat := 0
  deriving DecidableEq, Repr

/-- Class of a block (R287). -/
inductive BlkCls where
  | stale | erased | opened | closed | undefined | erasing | retired
  deriving DecidableEq, Repr

/-- A block of the store. -/
structure Block where
  cls : BlkCls := .erased
  stream : Nat := 0
  frontier : Nat := 0
  done : Nat := 0
  top : Nat := 0
  reads : Nat := 0
  cycles : Nat := 0
  openedAt : Nat := 0
  /-- a program of the block failed (R290) -/
  failed : Bool := false
  deriving DecidableEq, Repr

/-- An intent record (R284). -/
structure IntentRec where
  type : Nat
  stream : Nat := 0
  blk : Nat
  wordline : Nat := 0
  /-- band sequence number, for OPEN -/
  bseq : Nat := 0
  /-- write sequence at the record -/
  wseq : Nat := 0
  deriving DecidableEq, Repr

/-- The stripe layout of a band, fixed when it is opened (R273, R274): its sequence number and its members, ascending. -/
structure Band where
  seq : Nat := 0
  members : List Nat := []
  deriving DecidableEq, Repr

/-- A flash channel beyond its registers. -/
structure FCh where
  /-- rate in force in 100 MT/s, from the last mount (R265, R298); 0 before it -/
  rate : Nat := 0
  /-- intent log: records not yet durable, durable pages of the current pair, current pair, page sequence -/
  pend : List IntentRec := []
  pages : List (List IntentRec) := []
  pair : Nat := 0
  seq : Nat := 0
  /-- calibrations that failed in a row; a recalibration is due before the next transfer -/
  calFails : Nat := 0
  recal : Bool := false
  /-- targets that were stuck once (R290) -/
  stuckOnce : List Nat := []
  /-- latest die temperature -/
  temp : Option Int := none
  deriving DecidableEq, Repr

/-- The flash store. -/
structure Fst where
  /-- channels whose lifted fence still counts until they are mounted (R507) -/
  remount : List Nat := []
  chs : List (Nat × FCh) := []
  luns : List (Nat × Lun) := []
  blocks : List (Nat × Block) := []
  /-- bands that have been opened, and the number of bands opened (R273, R274) -/
  bands : List (Nat × Band) := []
  bandSeq : Nat := 0
  /-- blocks whose erase waits for its LUN or lane, oldest first (R279, R282) -/
  eraseQ : List Nat := []
  geom : Option FlashGeom := none
  /-- write sequence (R271) -/
  wseq : Nat := 0
  /-- erased payload of the generation store and of the hem region, in 4 KiB codewords -/
  free : Nat := 0
  hemFree : Nat := 0
  /-- hem region size in force, GiB -/
  hemSize : Nat := 2048
  /-- the store demands reclaim and relocation; stream 0 is stopped (R278) -/
  demand : Bool := false
  stopped : Bool := false
  /-- relocation candidates: reason (R292) and band (target, LUN, block packed as R272 bits [35:8]) -/
  cands : List (Nat × Nat) := []
  /-- codewords programmed natively, with their day, within 7 days (R295) -/
  p7 : List (Nat × Nat) := []
  /-- cells behind the forecast: native block cycles, all channels -/
  cycles : Nat := 0
  deriving DecidableEq, Repr

-- buffer pool

/-- A pool client (R307, R308): buffers held, most held since the last read, requests that waited. -/
structure Client where
  held : Nat := 0
  peak : Nat := 0
  waited : Nat := 0
  /-- stamp of the last raise of its source -/
  lastRaise : Option Nat := none
  deriving DecidableEq, Repr

/-- The buffer pool (chapter 8). -/
structure Pool where
  clients : List (Nat × Client) := []
  /-- requests that wait: client and number of buffers, oldest first -/
  waits : List (Nat × Nat) := []
  /-- requests that ended with an error at the last soft reset of POOL (R31): client and number of buffers -/
  failed : List (Nat × Nat) := []
  /-- bank after which each client's next buffers come (R305) -/
  lastBank : List (Nat × Nat) := []
  /-- hem quotas in force (R311) -/
  hem : Bool := false
  low : Nat := 0
  below : Bool := false
  /-- stamps of uncorrectable buffers by bank within 1 s (R312) -/
  ue : List (Nat × Nat) := []
  deriving DecidableEq, Repr

-- power

/-- A rail (R327 to R330). -/
structure Rail where
  enabled : Bool := false
  up : Bool := false
  failed : Bool := false
  cause : Nat := 0
  pg : Bool := false
  disTimeout : Bool := false
  ramp : Nat := 0
  discharge : Nat := 0
  timeouts : Nat := 0
  /-- consecutive readings below (3) or above (4) the window -/
  outKind : Nat := 0
  outCount : Nat := 0
  /-- released, and not yet below 10 % of nominal -/
  discharging : Bool := false
  /-- a DG rail has been up for its stretch time (R348) -/
  stretched : Bool := false
  deriving DecidableEq, Repr

/-- An entry of the volatile trace (R354). -/
structure TraceEnt where
  time : Nat
  code : Nat
  idx : Nat
  data : Nat
  deriving DecidableEq, Repr

/-- The power sequencer (chapter 9). -/
structure Psq where
  /-- PSQ_STATE.state (R357) -/
  st : Nat := 0
  step : Nat := 0
  onLatched : Bool := false
  input : Bool := false
  below : Bool := false
  losses : Nat := 0
  latchOpen : Bool := false
  warm : Bool := false
  /-- rails fitted in this power-up (R328) -/
  mask : Nat := 0xFFFFFF
  rails : List (Nat × Rail) := []
  /-- DGk_RST_N deasserted (R348) -/
  rst : List (Nat × Bool) := []
  /-- HOLD_EN and the holds on it: input loss, hem, keep-alive, test (R343, R346) -/
  holdEn : Bool := false
  holdLoss : Bool := false
  holdHem : Bool := false
  holdKa : Bool := false
  holdTest : Bool := false
  testPassed : Bool := false
  holdTime : Nat := 0
  holdJudged : Bool := false
  /-- SYS_FAULT_N: driven by this device with its cause, read low, low levels seen, trigger 2 armed (R349, R351) -/
  faultDriven : Option Nat := none
  faultLow : Bool := false
  lows : Nat := 0
  armed : Bool := false
  /-- soft-off, thermal shutdown or held in reset in force (R333) -/
  softOff : Bool := false
  shutdown : Bool := false
  heldInReset : Bool := false
  /-- VAO, and the stamp since which VCORE is off -/
  vao : Bool := true
  /-- ticks since VCORE came up, and since it went off -/
  upTicks : Nat := 0
  offTicks : Nat := 0
  /-- time since all-off has reached 500 ms -/
  minOff : Bool := true
  /-- memory service and restore have begun in this power-up -/
  restoreBegun : Bool := false
  /-- power-cycle count must be restored from bank 3 (R542) -/
  cyclesPending : Bool := true
  trace : List (Nat × TraceEnt) := []
  traceAt : Nat := 0
  traceWrapped : Bool := false
  traceFrozen : Bool := false
  tracePost : Option Nat := none
  scanFault : Bool := false
  /-- consecutive readings of inputs 30 and 31 outside their windows -/
  out30 : Nat := 0
  out31 : Nat := 0
  /-- ICU sources of events during which the management cores were off (R360, R177, R401) -/
  deferred : List Nat := []
  /-- service level as last computed (R20) -/
  level : Nat := 0
  /-- VCORE corner code (R532) -/
  vid : Nat := 15
  deriving DecidableEq, Repr

-- battery, thermal

/-- The battery estimator (chapter 10) beyond its registers: the figures of the active and of the hibernating
stage, which hand one set to each other (R378). Charge is kept in µA·s of the whole pack. -/
structure Bat where
  /-- last converted pack and segment voltages in mV -/
  vPack : Nat := 0
  seg : List (Nat × Nat) := []
  /-- the tables passed their check (R378); consecutive bad tap and thermistor readings (R362) -/
  tablesOk : Bool := false
  tapBad : Nat := 0
  thBad : Nat := 0
  /-- pack temperature in 0.1 °C -/
  temp : Int := 0
  /-- inferred charge; SOC_v in 0.1 %; U in % (R364, R365, R369) -/
  charge : Nat := 0
  socV : Nat := 0
  u : Nat := 0
  /-- inferred current of the last second in µA, positive in discharge (R363) -/
  cur : Int := 0
  /-- growth of R368 in %, pack-change term, suspect -/
  growth : Nat := 0
  packTerm : Bool := false
  suspect : Bool := false
  /-- seconds of the span that counts as a rest, whether it has re-based SOC_i, and seconds since the last rest -/
  restFor : Nat := 0
  rested : Bool := false
  sinceRest : Nat := 0
  /-- a rest pause runs (R368) -/
  pause : Bool := false
  /-- pack temperatures of the past hour, newest first, with the seconds each held -/
  band : List (Int × Nat) := []
  /-- learning span: SOC_v and temperature at its first rest, charge counted in µA·s, setpoint in 10 mA seen first,
  conditions 3 to 5 broken, as bits -/
  spanOpen : Bool := false
  spanSoc : Nat := 0
  spanTemp : Int := 0
  spanCharge : Nat := 0
  spanSet : Option Nat := none
  spanBad : Nat := 0
  learnReason : Nat := 0
  /-- a request stands; a learning charge runs; the learning stop waits for its rest (R374) -/
  request : Bool := false
  learning : Bool := false
  learnStop : Bool := false
  /-- seconds since the last accepted span -/
  sinceSpan : Nat := 0
  worn : Bool := false
  /-- CHG_EN as BAT asks; the charger's phase (BAT_CHG_STATUS); the charge window; the charger answers -/
  chgEn : Bool := false
  phase : Nat := 0
  windowClosed : Bool := false
  chargerOk : Bool := false
  misses : Nat := 0
  /-- the charger reported a fault at its last read (R375) -/
  chgFault : Bool := false
  /-- µA·s charged since VAO came up -/
  chargedIn : Nat := 0
  valid : Bool := false
  energy : Nat := 0
  /-- R370's figure at its last once-per-second computation, before the estimate's validity -/
  eCalc : Nat := 0
  /-- energy at the last raise of source 369 -/
  energyRaised : Nat := 0
  ship : Bool := false
  shipTaken : Bool := false
  serial : Word := 0
  /-- stored in the configuration area -/
  knownSerial : Word := 0
  deriving DecidableEq, Repr

/-- The thermal manager (chapter 11) beyond its registers; temperatures in 0.1 °C. -/
structure Thm where
  reads : List Int := []
  diode : Int := 0
  inUse : Int := 0
  /-- the diode has been read since VCORE came up -/
  live : Bool := false
  broken : Bool := false
  disagree : Nat := 0
  /-- latched in the selvedge until a power cycle -/
  lost : Bool := false
  /-- figures in use of the last checks, newest first -/
  past : List Int := []
  rate : Int := 0
  rateValid : Bool := false
  askAbs : Bool := false
  askRate : Bool := false
  rateLow : Nat := 0
  enforce : Bool := false
  reliefAll : Bool := false
  reliefCh : List Nat := []
  doubled : List Nat := []
  windowClosed : Bool := false
  packSuspect : Bool := false
  packOff : Nat := 0
  packOn : Nat := 0
  emergency : Bool := false
  hot : Nat := 0
  /-- the figure in use stood at the shutdown limit when last judged (R395) -/
  atLimit : Bool := false
  /-- THM_STATE.shutdown and its record in the selvedge (R399) -/
  shutShown : Bool := false
  shutRecord : Bool := false
  /-- hottest device of each DRAM channel read since VCORE came up, °C (R386) -/
  dram : List (Nat × Int) := []
  peak : Int := 0
  askTicks : Nat := 0
  deriving DecidableEq, Repr

-- firmware update, sideband

/-- A boot record entry (R457). -/
structure BootEnt where
  seq : Nat
  /-- active slot: false A, true B -/
  slot : Bool
  /-- 0 none, 1 trial, 2 handover pending, 3 fallen back -/
  trial : Nat
  restarts : Nat := 0
  ownerLock : Bool := false
  unconverted : Bool := false
  areaA : Nat := 0
  areaB : Nat := 0
  trialSecs : Nat := 0
  secs : Nat := 0
  lockCheck : List Byte := []
  deriving DecidableEq, Repr

/-- The update engine (chapter 14) beyond its registers. -/
structure Upd where
  /-- UPD_STATE.state -/
  st : Nat := 0
  /-- running slot: false A, true B -/
  slot : Bool := false
  staged : Bool := false
  unconverted : Bool := false
  result : Nat := 0
  /-- boot record entries, newest first -/
  boot : List BootEnt := []
  /-- transfer: bytes received, last block's offset and data, time of the last block, an abort to report -/
  received : Nat := 0
  lastOff : Nat := 0
  lastData : List Byte := []
  lastAt : Nat := 0
  aborted : Bool := false
  targetLen : Nat := 0
  /-- logical devices whose Transfer FW and Activate FW commands run in the background -/
  xferLd : Option Nat := none
  actLd : Option Nat := none
  /-- an online activation was accepted and waits for UPD_CMD.activate -/
  actPending : Bool := false
  handoverAt : Nat := 0
  /-- trial: seconds used, restarts, a deferred fall-back -/
  trialSecs : Nat := 0
  restarts : Nat := 0
  fallDue : Bool := false
  /-- settings and areas as they stood when the trial began -/
  oldArea : Nat := 0
  ownerLock : Bool := false
  lockCheck : List Byte := []
  /-- one-time memory: key slots present and retired (R459), and the key slot of the running image -/
  keys : Nat := 1
  retired : Nat := 0
  keySlot : Nat := 0
  deriving DecidableEq, Repr

/-- The sideband buses (chapter 15) beyond their registers. -/
structure Sb where
  /-- SB0: the last transaction was acknowledged, and its read data -/
  ack : Bool := false
  data : List Byte := []
  /-- SB0 command 0x22: 0 done, 1 pending, 2 refused, 3 none received -/
  result : Nat := 3
  strap : Nat := 0
  /-- SB1: a firmware transfer is in progress, repetitions used, recovery in progress, charger values
  that wait to be written: current in mA, voltage in mV -/
  busy : Bool := false
  retries : Nat := 0
  waitFree : Bool := false
  recovering : Bool := false
  setCurrent : Option Nat := none
  setVoltage : Option Nat := none
  shipCmd : Bool := false
  /-- SDA and SCL of SB1 as last seen -/
  sda : Bool := true
  scl : Bool := true
  deriving DecidableEq, Repr

/-- The state of the block. -/
structure State where
  /-- commands that wait, first in, first out -/
  pending : List Instr := []
  /-- number of free values used (the model's own, log entry 4) -/
  free : Nat := 0
  /-- the register file by management address less 0x4000_0000; an unlisted register holds its reset value -/
  regs : List (Nat × Word) := []
  /-- data of the last management read -/
  mgmtRead : Word := 0
  /-- management SRAM by offset; an unlisted byte reads zero (log entry 2) -/
  sram : List (Nat × Byte) := []
  /-- power domains by number (log entry 6) -/
  doms : List (Nat × Dom) := []
  /-- what was logged without a record code of its own, oldest first (log entry 121) -/
  fwLog : List LogEnt := []
  /-- soft resets that wait for the handshakes in progress: page and CTRL value (R31) -/
  resets : List (Nat × Word) := []
  flt : Flt := {}
  icu : Icu := {}
  cfl : Cfl := {}
  evr : Evr := {}
  gen : Gen := {}
  hl : Hl := {}
  dram : Dram := {}
  fst : Fst := {}
  pool : Pool := {}
  psq : Psq := {}
  bat : Bat := {}
  thm : Thm := {}
  upd : Upd := {}
  sb : Sb := {}
  deriving DecidableEq, Repr

/-- The block right after its reset, as VAO comes up (R531): every register at its reset value, every
memory empty, every rail off, nothing waiting. -/
def State.reset : State := {}

/-- The outcome of a meaning. -/
abbrev Out := Host.Outcome State Fault Refusal

end Sys2Proof.Machine
end

