-- ==== Sys2Proof/Machine/Ops.lean ====
section
/-! DEFINITION. Operations every chapter shares: registers and their fields, time stamps, power domains and
gating credits (R16 to R18, R353), interrupt messages (R412), events on their way to the recorder (R433, R435),
the volatile trace (R354) and the reporting of errors (R33 to R35, R503 to R505). -/

namespace Sys2Proof.Machine

open Bits

-- registers

/-- The stored word of the register at address `a` (management address less 0x4000_0000). -/
def rd (s : State) (a : Nat) : Word := Sparse.get resetOf s.regs a

/-- Stores a word in the register at `a`. -/
def wr (s : State) (a : Nat) (v : Word) : State := { s with regs := Sparse.set resetOf s.regs a v }

/-- A field of a register. -/
def rf (s : State) (a lsb len : Nat) : Nat := fld (rd s a) lsb len

/-- A bit of a register. -/
def rb (s : State) (a n : Nat) : Bool := bit (rd s a) n

/-- Stores a field of a register. -/
def wrF (s : State) (a lsb len v : Nat) : State := wr s a (setFld (rd s a) lsb len v)

/-- Stores a bit of a register. -/
def wrB (s : State) (a n : Nat) (b : Bool) : State := wrF s a n 1 b.toNat

/-- Adds to a saturating field. -/
def addSat (s : State) (a lsb len n : Nat) : State := wr s a (incFld (rd s a) lsb len n)

/-- Adds to a wrapping field. -/
def addWrap (s : State) (a lsb len n : Nat) : State := wr s a (wrapFld (rd s a) lsb len n)

/-- Raises a field to at least `v`. -/
def raiseTo (s : State) (a lsb len v : Nat) : State :=
  if rf s a lsb len < min v (2 ^ len - 1) then wrF s a lsb len (min v (2 ^ len - 1)) else s

/-- Adds to a pair of registers that hold a 64-bit count, low word first. -/
def addWide (s : State) (lo hi n : Nat) : State :=
  let v := (rd s lo).toNat + 2 ^ 32 * (rd s hi).toNat + n
  wr (wr s lo (wd v)) hi (wd (v / 2 ^ 32))

/-- Applies `f` for each element of a list, in order. -/
def forEach {α : Type} (l : List α) (s : State) (f : State → α → State) : State := l.foldl f s

/-- Applies `f` where `c` holds. -/
def whenS (c : Bool) (s : State) (f : State → State) : State := if c then f s else s

/-- Addresses of the common registers of page `p` (R27). -/
def ctrlA (p : Nat) : Nat := 0x1000 * p + 0x10
def errStatusA (p : Nat) : Nat := 0x1000 * p + 0x18
def errMaskA (p : Nat) : Nat := 0x1000 * p + 0x1C
def errFirstA (p : Nat) : Nat := 0x1000 * p + 0x24
def errCountA (p : Nat) : Nat := 0x1000 * p + 0x28
def lockA (p : Nat) : Nat := 0x1000 * p + 0x2C

/-- CTRL.enable of a page (R30). -/
def enabled (s : State) (p : Nat) : Bool := rb s (ctrlA p) 0

/-- LOCK.cfg of a page (R36). -/
def locked (s : State) (p : Nat) : Bool := rb s (lockA p) 0

/-- LOCK.inject of a page (R36). -/
def injectLocked (s : State) (p : Nat) : Bool := rb s (lockA p) 1

-- free values and time

/-- A fresh free value (log entry 4), and the state that has used it. -/
def freeVal (s : State) : Word × State := (Config.freeWord s.free, { s with free := s.free + 1 })

/-- Operating seconds and ticks (R424). -/
def seconds (s : State) : Nat := (rd s Reg.sysSeconds).toNat
def ticks (s : State) : Nat := rf s Reg.sysTicks 0 15

/-- Operating time in 1/32768 s. -/
def now (s : State) : Nat := seconds s * 32768 + ticks s

/-- One millisecond, in whole ticks. -/
def msTicks : Nat := 33

/-- The power-cycle count (R424). -/
def powerCycles (s : State) : Nat := rf s Reg.sysPowerCycles 0 24

-- rails

/-- A rail (R327). -/
def railOf (s : State) (k : Nat) : Rail := Sparse.get (fun _ => {}) s.psq.rails k

def setRail (s : State) (k : Nat) (r : Rail) : State :=
  { s with psq := { s.psq with rails := Sparse.set (fun _ => {}) s.psq.rails k r } }

/-- VCORE is up (R329); the main stage and the ungated core run (R16). -/
def coreUp (s : State) : Bool := (railOf s 0).up

-- events (R433, R435)

/-- Whether the recorder takes events: its domain is on, CTRL.enable is 1 (chapter 13) and it is not fenced (R506). -/
def evrOn (s : State) : Bool :=
  enabled s Pg.evr && !(s.flt.fences.any fun f => f.page == Pg.evr) && decide ((Sparse.get (fun _ => ({} : Dom)) s.doms 109).st = 2)

/-- An event goes to admission, or into the selvedge latch while VCORE is off (R435). -/
def event (s : State) (code sev : Nat) (payload : List Byte) : State :=
  let e : Ev := { code, sev, payload }
  if coreUp s then
    if evrOn s then { s with evr := { s.evr with inbox := s.evr.inbox ++ [e] } } else s
  else if s.evr.latch.length < 32 then
    let t := s.psq.offTicks
    { s with evr := { s.evr with latch := s.evr.latch ++ [(e, t / 32768, t % 32768, powerCycles s)] } }
  else { s with evr := { s.evr with latchLost := satAdd 8 s.evr.latchLost 1 } }

-- error classes

/-- Class of a block-specific ERR_STATUS bit: 1 corrected, 2 contained, 3 fatal, 0 reserved (R88, R133,
R216, R218, R260, R262, R300, R302, R325, R359, R383, R400, R426, R429, R431, R454, R482, R500, R521). -/
def blockClass (p bit : Nat) : Nat :=
  let t : List Nat :=
    if p < 0x20 then
      match p with
      | 0x00 => [2, 2, 2, 3]
      | 0x01 => [1, 2]
      | 0x02 => [1, 1, 2]
      | 0x03 => [1, 1, 2, 2, 1]
      | 0x04 => [1, 2, 1, 1]
      | 0x05 => [1, 2, 1, 2]
      | 0x06 => [2, 1, 1, 2, 1]
      | 0x07 => [1, 2, 2, 2, 1, 2, 1]
      | 0x08 => [2, 2, 1, 2, 2]
      | 0x09 => [1, 1, 1]
      | 0x0A => [1, 1, 1, 2]
      | 0x0B => [2, 2, 1]
      | 0x0C => [2, 1, 2]
      | 0x0D => [2, 1, 2, 2, 1, 2]
      | 0x0E => [2, 1, 1]
      | 0x0F => [2, 1, 1]
      | 0x10 => [1, 2]
      | _ => []
    else if p < 0x30 then [1, 2, 2, 1, 2, 2]
    else if p < 0x40 then [2, 2, 1, 1]
    else if p < 0x60 then [1, 1, 2, 2, 2, 2, 2]
    else [1, 1, 2, 2]
  t.getD (bit - 16) 0

/-- Class of an ERR_STATUS bit: the access bit is corrected, the stall bit contained (R503). -/
def classOf (p bit : Nat) : Nat :=
  if bit = 0 then 1 else if bit = 1 then 2 else if bit = 2 then 3 else if bit = 3 then 1 else if bit = 4 then 2
  else if bit < 16 then 0 else blockClass p bit

/-- ERR_STATUS bits that page `p` defines. -/
def errBits (p : Nat) : Word := wd (maskOf 32 fun b => decide (classOf p b ≠ 0))

-- interrupt messages (R412)

/-- Page through which a source is raised, and the page's source base (R433); none where no page raises it. -/
def srcPage (src : Nat) : Option (Nat × Nat) :=
  if src < 16 then
    if src = 0 ∨ src = 5 ∨ src = 6 ∨ src = 7 then some (Pg.icu, 0) else if src < 10 then some (Pg.sys, 0) else none
  else if src < 44 then some (if src % 4 < 2 then Pg.hl0 else Pg.hl1, 16)
  else if src < 47 then some (Pg.win, 44)
  else if src < 48 then none
  else if src < 112 then some (Pg.dch ((src - 48) / 4), 48 + 4 * ((src - 48) / 4))
  else if src < 240 then some (Pg.fch ((src - 112) / 4), 112 + 4 * ((src - 112) / 4))
  else if src < 272 then some (Pg.gen, 240)
  else if src < 302 then some (Pg.pool, 272)
  else if src < 304 then none
  else if src < 364 then some (Pg.psq, 304)
  else if src < 368 then none
  else if src < 384 then some (Pg.bat, 368)
  else if src < 400 then some (Pg.thm, 384)
  else if src < 405 then some (Pg.sb0, 400)
  else if src < 416 then none
  else if src < 423 then some (Pg.sb1, 416)
  else if src < 432 then none
  else if src < 444 then some (Pg.evr, 432)
  else if src < 456 then none
  else if src < 461 then some (Pg.cfl, 456)
  else if src < 464 then none
  else if src < 475 then some (Pg.flt, 464) else none

/-- Lost counter of a source (R412). -/
def lostOf (s : State) (src : Nat) : Nat := rf s (Reg.icuLost (src / 4)) (8 * (src % 4)) 8

/-- Pending and active (R412). -/
def isPending (s : State) (src : Nat) : Bool := rb s (Reg.icuPend (src / 32)) (src % 32)
def isActive (s : State) (src : Nat) : Bool := s.icu.stack.any fun e => e.1 == src

def setPending (s : State) (src : Nat) (b : Bool) : State := wrB s (Reg.icuPend (src / 32)) (src % 32) b

/-- Counts one lost event of a source, saturating at 255 (R412). -/
def bumpLost (s : State) (src : Nat) : State := addSat s (Reg.icuLost (src / 4)) (8 * (src % 4)) 8 1

/-- The record of a source raised through its page (R433). -/
def srcEvent (s : State) (src : Nat) : State :=
  match srcPage src with
  | some (p, b) => event s (p * 256 + 0x40 + (src - b)) 0 (leBytes 2 src ++ leBytes 1 (lostOf s src) ++ zeros 9)
  | none => s

/-- A message to the ICU: the source becomes pending, or its lost counter rises; the flag tells which (R412). -/
def icuSet (s : State) (src : Nat) : State × Bool :=
  if isActive s src || isPending s src then (bumpLost s src, true) else (setPending s src true, false)

/-- Sets an ERR_STATUS bit and records it: ERR_FIRST if armed (R34), ERR_COUNT (R35), the event (R433). -/
def errSet (s : State) (p bit : Nat) : State :=
  let c := classOf p bit
  let st := rd s (errStatusA p)
  let s := if st = 0#32 then wr s (errFirstA p) (wd (bit + 32)) else s
  let s := wr s (errStatusA p) (st ||| one bit)
  let s := if c = 1 then addSat s (errCountA p) 0 16 1 else addSat s (errCountA p) 16 16 1
  event s (p * 256 + bit) c
    (leBytes 4 (rd s (errStatusA p)).toNat ++ leBytes 4 (rd s (errFirstA p)).toNat ++ leBytes 4 (rd s (errCountA p)).toNat)

/-- A bit is masked: recorded and counted, and not reported (R33); bit 2 cannot be masked. -/
def masked (s : State) (p bit : Nat) : Bool := decide (bit ≠ 2) && rb s (errMaskA p) bit

/-- Whether a source limited to once per millisecond may be raised. -/
def msSince (s : State) (last : Option Nat) : Bool :=
  match last with
  | none => true
  | some t => decide (t + msTicks ≤ now s)

/-- The event_lost error of the ICU (R429), with no further message of its own. -/
def lostErr (s : State) : State :=
  let s := errSet s Pg.icu 17
  if masked s Pg.icu 17 then s else addSat s Reg.fltCorrCount 0 32 1

/-- A message that the ICU decodes; a lost event is an error of the ICU (R412, R429). -/
def icuMsg (s : State) (src : Nat) : State :=
  let r := icuSet s src
  if r.2 then lostErr r.1 else r.1

/-- Sources whose events wait for the next power-up while the management cores are off (R177, R360, R401). -/
def deferrable (src : Nat) : Bool :=
  (decide (260 ≤ src) && decide (src < 272)) || (decide (304 ≤ src) && decide (src < 364)) ||
    (decide (384 ≤ src) && decide (src < 400))

/-- Whether the thimble watches a source (R422). -/
def watched (s : State) (src : Nat) : Bool :=
  (List.range 16).any fun k =>
    let w := rd s (Reg.icuThimble k)
    (bit w 15 && decide (fld w 0 9 = src)) || (bit w 31 && decide (fld w 16 9 = src))

/-- Sources of the selvedge: the SB0 wake detector, the first stage of PSQ, the hibernating estimator (R422). -/
def selvedgeSrc (src : Nat) : Bool :=
  decide (src = 404) || (decide (304 ≤ src) && decide (src < 364)) || (decide (368 ≤ src) && decide (src < 384))

/-- Something is logged that R433 gives no code (log entry 121). -/
def logged (s : State) (e : LogEnt) : State := { s with fwLog := s.fwLog ++ [e] }

/-- Raises an ICU source through its page (R412, R433); while VCORE is off the thimble latches what it watches
(R422), and sources that wait for the next power-up are kept. -/
def icu (s : State) (src : Nat) : State :=
  if coreUp s then icuMsg (srcEvent s src) src
  else
    let s := srcEvent s src
    if selvedgeSrc src && watched s src then
      if s.icu.latched.contains src then s else { s with icu := { s.icu with latched := s.icu.latched ++ [src] } }
    else if deferrable src then { s with psq := { s.psq with deferred := s.psq.deferred ++ [src] } }
    else s

-- the reporting of errors

/-- The unit that an error of a page belongs to (R506): a PHY belongs to its channel, GEN and POOL tell their
slices and banks apart, every other page is one unit. -/
def unitKey (p u : Nat) : Nat × Nat :=
  if 0x30 ≤ p ∧ p < 0x40 then (p - 0x10, 0)
  else if p = Pg.gen ∨ p = Pg.pool then (p, u) else (p, 0)

/-- Contained errors whose own rule fences the unit (R240, R256, R221, R245, R262, R266, R297, R291, R312, R88, R495). -/
def fencesUnit (p bit : Nat) : Bool :=
  if p < 0x20 then
    (p == Pg.pool && bit == 17) || (p == Pg.gen && bit == 18) || (p == Pg.sb1 && bit == 19)
  else if p < 0x30 then bit == 17 || bit == 20 || bit == 21
  else if p < 0x40 then bit == 16 || bit == 17
  else if p < 0x60 then bit == 4 || bit == 20 || bit == 21 || bit == 22
  else false

/-- Errors whose handling ends within the step that raises them (R543): the burst is logged, the groups are set
no_baste, relief has stopped. -/
def endsAtOnce (p bit : Nat) : Bool :=
  (p == Pg.genm && (bit == 16 || bit == 18 || bit == 21)) ||
    (decide (0x20 ≤ p) && decide (p < 0x30) && bit == 18)

/-- What escalation of a page that R506 gives no unit calls for: none for SYS and GENM, a fatal error else. -/
def escalate (s : State) (p u bit : Nat) : State :=
  let e : Option Esc :=
    if p = Pg.sys ∨ p = Pg.genm then none
    else if p = Pg.psq ∨ p = Pg.icu ∨ p = Pg.win ∨ p = Pg.key ∨ p = Pg.fst ∨ p = Pg.upd ∨ p = Pg.flt then
      some (.fatal p bit)
    else some (.fence (unitKey p u).1 (unitKey p u).2)
  match e with
  | none => s
  | some e => { s with flt := { s.flt with esc := s.flt.esc ++ [e] } }

/-- Whether a contained error of the unit is in handling (R504). -/
def inHandling (s : State) (p u : Nat) : Bool := s.flt.handling.any fun h => unitKey h.1 h.2.1 == unitKey p u

/-- An unmasked error reaches the fault manager (R503, R505): counts, sources 464 and 465, handling, escalation.
A contained error of FLT and a stall in GENM are fatal (R506, R509). -/
def fltReport (s : State) (p bit u : Nat) : State :=
  let c := classOf p bit
  if c = 1 then
    let s := addSat s Reg.fltCorrCount 0 32 1
    if msSince s s.flt.last464 then icu { s with flt := { s.flt with last464 := some (now s) } } 464 else s
  else
    let s := addSat s Reg.fltClassCount (if c = 3 then 16 else 0) 16 1
    if c = 3 ∨ p = Pg.flt ∨ (p = Pg.genm ∧ bit = 4) then
      { s with flt := { s.flt with esc := s.flt.esc ++ [Esc.fatal p bit] } }
    else
      let s := if msSince s s.flt.last465 then icu { s with flt := { s.flt with last465 := some (now s) } } 465 else s
      if fencesUnit p bit then escalate s p u bit
      else if inHandling s p u then escalate s p u bit
      else if endsAtOnce p bit then s
      else { s with flt := { s.flt with handling := s.flt.handling ++ [(p, u, bit)] } }

/-- The unit to which the last error of POOL or GEN is attributed (R541: POOL_ERR_BANK, GEN_SLICE_STATUS). -/
def attributeTo (s : State) (p u : Nat) : State :=
  if p = Pg.pool then wr s Reg.poolErrBank (wd (u % 16 + 2 ^ 31))
  else if p = Pg.gen then wrF s Reg.genSliceStatus 16 4 (u % 8 + 8) else s

/-- The ICU source that stands for an error bit (R92, R134, R219, R263, R303, R326, R384, R432, R455, R501): a masked bit
is not reported to the ICU (R33). -/
def errSource (p bit u : Nat) : Option Nat :=
  if p < 0x20 then
    match p, bit with
    | 0x00, 17 => some 2
    | 0x03, 18 => some 439
    | 0x04, 16 => some 457
    | 0x04, 17 => some 459
    | 0x04, 18 => some 458
    | 0x04, 19 => some 458
    | 0x07, 17 => some 376
    | 0x07, 18 => some 376
    | 0x07, 19 => some 376
    | 0x07, 21 => some 377
    | 0x09, 16 => some 401
    | 0x09, 17 => some 402
    | 0x09, 18 => some 403
    | 0x0A, 17 => some 418
    | 0x0B, 16 => some (272 + u % 16)
    | 0x0C, 16 => some 246
    | 0x0D, 17 => some 249
    | 0x0D, 18 => some 250
    | 0x0D, 19 => some 258
    | 0x0D, 20 => some 252
    | 0x0E, 16 => some (36 + u % 2)
    | 0x0F, 16 => some (38 + u % 2)
    | 0x10, 16 => some 44
    | _, _ => none
  else if p < 0x30 then
    match bit with
    | 16 => some (48 + 4 * (p - 0x20))
    | 17 => some (48 + 4 * (p - 0x20))
    | 18 => some (49 + 4 * (p - 0x20))
    | 19 => some (49 + 4 * (p - 0x20))
    | _ => none
  else if p < 0x40 then
    match bit with
    | 16 => some (50 + 4 * (p - 0x30))
    | 17 => some (50 + 4 * (p - 0x30))
    | 18 => some (50 + 4 * (p - 0x30))
    | _ => none
  else if p < 0x60 then
    match bit with
    | 16 => some (112 + 4 * (p - 0x40))
    | 18 => some (113 + 4 * (p - 0x40))
    | 19 => some (114 + 4 * (p - 0x40))
    | _ => none
  else none

/-- Reports an error of page `p` (R33, R503), attributed to the unit `u` of the page (R541). -/
def report (s : State) (p bit u : Nat) : State :=
  let s := attributeTo (errSet s p bit) p u
  if masked s p bit then s
  else
    let s := fltReport s p bit u
    match errSource p bit u with
    | some src => icu s src
    | none => s

/-- Handling of an error ends (R504, R543). -/
def handled (s : State) (p bit : Nat) : State :=
  { s with flt := { s.flt with handling := s.flt.handling.filter fun h => !(h.1 == p && h.2.2 == bit) } }

/-- Hardware clears an ERR_STATUS bit: ERR_FIRST clears with the last one (R34), handling of the error ends. -/
def errDrop (s : State) (p bit : Nat) : State :=
  let s := wr s (errStatusA p) (rd s (errStatusA p) &&& ~~~one bit)
  handled (if rd s (errStatusA p) = 0#32 then wr s (errFirstA p) 0#32 else s) p bit

/-- Sets ERR_STATUS.access of a page. -/
def accessErr (s : State) (p : Nat) : State := report s p 3 0

-- the volatile trace (R354, R355)

/-- The trace freezes once the entries that R355 still lets in have come. -/
def traceFreezeNow (s : State) : State :=
  icu { s with psq := { s.psq with traceFrozen := true, tracePost := none } } 360

/-- Adds an entry to the trace (R354). -/
def trace (s : State) (code idx data : Nat) : State :=
  if s.psq.traceFrozen || !coreUp s then s
  else
    let i := s.psq.traceAt
    let e : TraceEnt := { time := s.psq.upTicks % 2 ^ 32, code, idx, data }
    let s := { s with psq := { s.psq with
      trace := Sparse.set (fun _ => { time := 0, code := 0, idx := 0, data := 0 }) s.psq.trace i e,
      traceAt := (i + 1) % 4096, traceWrapped := s.psq.traceWrapped || decide (i = 4095) } }
    match s.psq.tracePost with
    | none => s
    | some n => if n ≤ 1 then traceFreezeNow s else { s with psq := { s.psq with tracePost := some (n - 1) } }

/-- A freeze event (R355): the trace freezes after PSQ_TRACE_CFG.post further entries. -/
def traceTrigger (s : State) : State :=
  if s.psq.traceFrozen || s.psq.tracePost.isSome then s
  else
    let n := rf s Reg.psqTraceCfg 0 12
    if n = 0 then traceFreezeNow s else { s with psq := { s.psq with tracePost := some n } }

-- power domains (R16 to R18, R353; numbers: log entry 6)

def domOf (s : State) (d : Nat) : Dom := Sparse.get (fun _ => {}) s.doms d

def setDom (s : State) (d : Nat) (v : Dom) : State := { s with doms := Sparse.set (fun _ => {}) s.doms d v }

/-- The page that switches a domain (R16). -/
def domPage (d : Nat) : Nat :=
  if d < 16 then 0x20 + d else if d < 32 then 0x30 + (d - 16) else if d < 64 then 0x40 + (d - 32)
  else if d < 80 then Pg.pool else if d < 82 then Pg.hl0 + (d - 80) else if d < 90 then Pg.hl0 + (d - 82) / 4
  else if d < 98 then Pg.gen else if d < 100 then Pg.genm else if d < 105 then Pg.sys
  else if d = 105 then Pg.cfl else if d = 106 then Pg.thm else if d = 107 then Pg.sb0 else if d = 108 then Pg.sb1
  else if d = 109 then Pg.evr else if d = 110 then Pg.flt else Pg.sys

/-- The domains of a page, in number order (R16). -/
def domsOfPage (p : Nat) : List Nat := (List.range 112).filter fun d => domPage d == p

/-- Whether the page's own register switches a domain within it on: HL_PWR, POOL_BANK_PWR, GEN_SLICE_PWR,
GENM_CACHE_CTRL, SYS_SRAM_PWR, SYS_DEBUG (R16). -/
def subOn (s : State) (d : Nat) : Bool :=
  if 64 ≤ d ∧ d < 80 then rb s Reg.poolBankPwr (d - 64)
  else if 80 ≤ d ∧ d < 82 then rb s (Reg.hlPwr (d - 80)) 0
  else if 82 ≤ d ∧ d < 90 then rb s (Reg.hlPwr ((d - 82) / 4)) (1 + (d - 82) % 4)
  else if 90 ≤ d ∧ d < 98 then rb s Reg.genSlicePwr (d - 90)
  else if 101 ≤ d ∧ d < 105 then rb s Reg.sysSramPwr (d - 101)
  else if 98 ≤ d ∧ d < 100 then rb s Reg.genmCacheCtrl (d - 98)
  else if d = 111 then rb s Reg.sysDebug 0 else true

/-- Domains that switch on now (R353). -/
def switchingOn (s : State) : Nat := (s.doms.filter fun e => e.2.st == 1).length

/-- A switch-on starts, or waits for one of the eight places (R353). -/
def startOn (s : State) (d : Nat) : State :=
  let v := domOf s d
  if switchingOn s < 8 then setDom s d { v with st := 1, latched := none, deferred := false }
  else setDom s d { v with latched := some true }

/-- A switch-off starts and spends a credit, or is deferred until one arrives (R17). -/
def startOff (s : State) (d : Nat) : State :=
  let v := domOf s d
  if 0 < v.credit then setDom s d { v with st := 3, credit := v.credit - 1, deferred := false, latched := none }
  else
    let s := setDom s d { v with deferred := true, latched := none }
    if v.deferred then s else icu (trace (addSat s Reg.psqGateStatus 16 16 1) 0x0E (domPage d) 0) 363

/-- A power request reaches a domain (R17, R18). -/
def domReq (s : State) (d : Nat) (on : Bool) : State :=
  let v := domOf s d
  match v.st, on with
  | 0, true => startOn s d
  | 0, false => setDom s d { v with latched := none }
  | 2, true => setDom s d { v with deferred := false }
  | 2, false => startOff s d
  | _, b => setDom s d { v with latched := some b }

/-- Asks each domain of a page for the state that power_req and the page's own register give it (R16). -/
def applyPower (s : State) (p : Nat) : State :=
  forEach (domsOfPage p) s fun s d => domReq s d (rb s (ctrlA p) 2 && subOn s d)

/-- The waiting switch-on that comes first in page order (R353). -/
def nextWaiting (s : State) : Option Nat :=
  (minBy (fun a b => decide (domPage a < domPage b))
    (s.doms.filterMap fun e => if e.2.st == 0 && e.2.latched == some true then some e.1 else none))

/-- Starts the switch-ons that wait, as far as places are free (R353). -/
def startWaiting (s : State) : State :=
  match nextWaiting s with
  | some d => if switchingOn s < 8 then startOn s d else s
  | none => s

/-- power_state of a page (R32): of its domains, one that switches on counts first, then one that switches off. -/
def powerState (s : State) (p : Nat) : Nat :=
  match domsOfPage p with
  | [] => 2
  | ds =>
    let st := ds.map fun d => (domOf s d).st
    if st.contains 1 then 1 else if st.contains 3 then 3 else if st.contains 2 then 2 else 0

-- fences (R506, R507)

/-- Whether the unit `u` of page `p` is fenced; a PHY is its channel. -/
def isFenced (s : State) (p u : Nat) : Bool :=
  s.flt.fences.any fun f => (f.page, f.unit) == unitKey p u

/-- Units of a kind that are fenced. -/
def chFenced (s : State) (c : Nat) : Bool := isFenced s (Pg.dch c) 0
def fchFenced (s : State) (c : Nat) : Bool := isFenced s (Pg.fch c) 0
def bankFenced (s : State) (b : Nat) : Bool := isFenced s Pg.pool b
def sliceFenced (s : State) (k : Nat) : Bool := isFenced s Pg.gen k
def linkFenced (s : State) (l : Nat) : Bool := isFenced s (Pg.hl0 + l) 0

-- histograms and extremes (R446, R447)

/-- Counts a sample in bin `b` of histogram `h` (R446). -/
def histAdd (s : State) (h b : Nat) : State :=
  let l := Sparse.modify (fun _ => 0) s.evr.live.hist (16 * h + min 15 b) (satAdd 32 · 1)
  { s with evr := { s.evr with live := { s.evr.live with hist := l } } }

/-- Entry `e` of the extremes; seconds 0xFFFF_FFFF while it has no value (R447). -/
def extDefault : Nat → Int × Nat := fun _ => (0, 0xFFFFFFFF)

/-- Takes a value into an extreme that holds the highest, or the lowest, value (R447). -/
def extreme (s : State) (e : Nat) (v : Int) (highest : Bool) : State :=
  let o := Sparse.get extDefault s.evr.live.ext e
  if o.2 = 0xFFFFFFFF ∨ (if highest then o.1 < v else v < o.1) then
    { s with evr := { s.evr with live := { s.evr.live with ext := Sparse.set extDefault s.evr.live.ext e (v, seconds s) } } }
  else s

end Sys2Proof.Machine
end

