-- ==== Sys2Proof/Machine/PoolOps.lean ====
section
/-! DEFINITION. The buffer pool's quotas (R307 to R311): free buffers, reserves and their scaling, grants, releases. -/

namespace Sys2Proof.Machine

open Bits

def clientOf (s : State) (k : Nat) : Client := Sparse.get (fun _ => {}) s.pool.clients k

def setClient (s : State) (k : Nat) (v : Client) : State :=
  { s with pool := { s.pool with clients := Sparse.set (fun _ => {}) s.pool.clients k v } }

/-- Buffers of the banks that are on and unfenced (R304). -/
def poolBuffers (s : State) : Nat :=
  16384 * ((List.range 16).filter fun b => (domOf s (64 + b)).st == 2 && !bankFenced s b).length

/-- Buffers held by all clients. -/
def poolHeld (s : State) : Nat := (s.pool.clients.map fun e => e.2.held).sum

/-- Free buffers (POOL_FREE). -/
def poolFree (s : State) : Nat := poolBuffers s - poolHeld s

/-- Throughput clients (R307). -/
def isThroughput (k : Nat) : Bool := k == 6 || k == 9 || k == 10

/-- Reserve and maximum of POOL_Qk, in buffers. -/
def quotaReserve (s : State) (k : Nat) : Nat := 16 * rf s (Reg.poolQ k) 0 15
def quotaMax (s : State) (k : Nat) : Nat := 16 * rf s (Reg.poolQ k) 16 15

/-- Reserves of the latency and of the throughput clients. -/
def latencyReserves (s : State) : Nat := (((List.range 12).filter fun k => !isThroughput k).map (quotaReserve s)).sum
def throughputReserves (s : State) : Nat := (([6, 9, 10] : List Nat).map (quotaReserve s)).sum

/-- The factor of R310 in 1/65,536. -/
def scaleFactor (s : State) : Nat :=
  let healthy := 16384 * ((List.range 16).filter fun b => rb s Reg.poolBankPwr b && !bankFenced s b).length
  if latencyReserves s + throughputReserves s ≤ healthy ∨ throughputReserves s = 0 then 65536
  else 65536 * (healthy - latencyReserves s) / throughputReserves s

/-- POOL_SCALE follows the factor; a change raises source 301, a scaled reserve is an error (R310, R325). -/
def updateScale (s : State) : State :=
  let f := scaleFactor s
  if (rd s Reg.poolScale).toNat = f then s
  else
    let s := icu (wr s Reg.poolScale (wd f)) 301
    if f < 65536 then report s Pg.pool 18 0 else s

/-- Reserve in force: a throughput client's scaled, to a multiple of 16 buffers (R310). -/
def reserveOf (s : State) (k : Nat) : Nat :=
  if isThroughput k then quotaReserve s k * (rd s Reg.poolScale).toNat / 65536 / 16 * 16 else quotaReserve s k

/-- Maximum in force: during a hem the pool is HEM's, but for what DCH and META hold (R311). -/
def maxOf (s : State) (k : Nat) : Nat :=
  if s.pool.hem then
    if k = 7 then poolBuffers s - (clientOf s 4).held - (clientOf s 10).held
    else if k = 4 ∨ k = 10 then quotaMax s k else 0
  else quotaMax s k

/-- The other clients' unmet reserves (R308). -/
def unmet (s : State) (k : Nat) : Nat :=
  (((List.range 12).filter fun j => j != k).map fun j => reserveOf s j - (clientOf s j).held).sum

/-- A client may take n buffers (R308): within its reserve, or below its maximum while more are free than the unmet
reserves of the others; the pool has to be enabled (R30). -/
def mayTake (s : State) (k n : Nat) : Bool :=
  let h := (clientOf s k).held + n
  enabled s Pg.pool && decide (n ≤ poolFree s) && decide (h ≤ maxOf s k) &&
    (decide (h ≤ reserveOf s k) || decide (unmet s k + n ≤ poolFree s))

/-- Notes the free count: the fewest since the last read, and the fall below 16,384 (source 300). -/
def noteFree (s : State) : State :=
  let f := poolFree s
  let b := decide (f < 16384)
  let fall := b && !s.pool.below
  let s := extreme { s with pool := { s.pool with low := min s.pool.low f, below := b } } 15 f false
  if fall then icu s 300 else s

/-- A client takes n buffers, from consecutive banks in rotation that are on and unfenced (R305). -/
def takeBuffers (s : State) (k n : Nat) : State :=
  let v := clientOf s k
  let s := setClient s k { v with held := v.held + n, peak := max v.peak (v.held + n) }
  let on := (List.range 16).filter fun b => (domOf s (64 + b)).st == 2 && !bankFenced s b
  let last := Sparse.get (fun _ => 15) s.pool.lastBank k
  let next := (on.filter fun b => decide (last < b)) ++ on.filter fun b => decide (b ≤ last)
  let s := match next[(n - 1) % max 1 next.length]? with
    | some b => { s with pool := { s.pool with lastBank := Sparse.set (fun _ => 15) s.pool.lastBank k b } }
    | none => s
  noteFree s

/-- A request at its client's maximum waits: counted, source 288 + k at most once per millisecond (R308, R326). -/
def waitAtMax (s : State) (k : Nat) : State :=
  let v := clientOf s k
  let s := setClient s k { v with waited := satAdd 32 v.waited 1 }
  if msSince s v.lastRaise then icu (setClient s k { clientOf s k with lastRaise := some (now s) }) (288 + k) else s

/-- A client gives buffers back. -/
def releaseBuffers (s : State) (k n : Nat) : State :=
  let v := clientOf s k
  let s := setClient s k { v with held := v.held - n }
  { s with pool := { s.pool with below := decide (poolFree s < 16384) } }

/-- At the hem cut (R311): requests of the stopped clients drop with their buffers, staging buffers pass to HEM, the hem
quotas are in force. -/
def poolHem (s : State) : State :=
  let st := (clientOf s 6).held
  let s := forEach [0, 1, 2, 3, 5, 6, 8, 9, 11] s fun s k => setClient s k { clientOf s k with held := 0 }
  let h := clientOf s 7
  let s := setClient s 7 { h with held := h.held + st, peak := max h.peak (h.held + st) }
  { s with pool := { s.pool with hem := true, waits := s.pool.waits.filter fun e => [4, 7, 10].contains e.1 } }

/-- The quotas of POOL_Qk are in force again at a power-up or warm resume (R311); staging and hem buffers are returned
(R155). -/
def poolNormal (s : State) : State :=
  let s := forEach [6, 7] s fun s k => setClient s k { clientOf s k with held := 0 }
  { s with pool := { s.pool with hem := false } }

/-- VCORE went off: nothing is held. -/
def poolLost (s : State) : State :=
  { s with pool := { s.pool with clients := [], waits := [], ue := [], lastBank := [], below := false } }

end Sys2Proof.Machine
end

