-- ==== Sys2Proof/Machine/PowerOps.lean ====
section
/-! DEFINITION. The power sequencer's shared operations: rails and their order (R327 to R330), HOLD_EN (R343),
SYS_FAULT_N (R349), reset outputs (R348), the service level (R19, R20). -/

namespace Sys2Proof.Machine

open Bits

/-- Power-up step of a rail; 0 for HOLD_EN and CHG_EN, which take no step (R327). -/
def railStep (k : Nat) : Nat :=
  match k with
  | 0 => 1 | 1 => 3 | 2 => 2 | 3 => 5 | 4 => 4 | 5 => 6
  | _ => if k < 14 then 7 + (k - 6) / 2 else if k < 18 then 11 else if k < 22 then 12 else 0

/-- The rail that must be up before a rail can be enabled; none for VAO (R327). -/
def railDep (k : Nat) : Option Nat :=
  match k with
  | 0 => none | 1 => some 0 | 2 => some 0 | 3 => some 1 | 4 => some 1 | 5 => some 0
  | _ => if k < 14 then some 3 else if k < 18 then some 5 else if k < 22 then some (k - 4)
         else if k = 23 then some 2 else none

/-- Rails of a step, in index order. -/
def stepRails (st : Nat) : List Nat := (List.range 24).filter fun k => decide (railStep k = st) && decide (st ≠ 0)

/-- A rail is fitted in this power-up (R328). -/
def railFitted (s : State) (k : Nat) : Bool := s.psq.mask.testBit k

/-- A rail and the rails it depends on are fitted. -/
def railPresent (s : State) (k : Nat) : Bool :=
  railFitted s k && (match railDep k with
    | none => true
    | some a => railFitted s a && (match railDep a with
      | none => true
      | some b => railFitted s b && (match railDep b with
        | none => true
        | some c => railFitted s c)))

/-- Whether rail `k` depends on rail `a`, directly or through other rails (R340). -/
def dependsOn (k a : Nat) : Bool :=
  match railDep k with
  | none => false
  | some x => x == a || (match railDep x with
    | none => false
    | some y => y == a || (match railDep y with
      | none => false
      | some z => z == a || railDep z == some a))

/-- The rail's enable is asserted (trace code 3). -/
def railEnable (s : State) (k : Nat) : State :=
  trace (setRail s k { railOf s k with enabled := true, discharging := false, outKind := 0, outCount := 0 }) 3 k 1

/-- Reset output k of the DG rails changes (R348, trace code 7). -/
def setRst (s : State) (k : Nat) (deasserted : Bool) : State :=
  if Sparse.get (fun _ => false) s.psq.rst k = deasserted then s
  else
    let s := { s with psq := { s.psq with rst := Sparse.set (fun _ => false) s.psq.rst k deasserted } }
    let s := if deasserted then s else { s with gen := { s.gen with hem := { s.gen.hem with resetsHeld := false } } }
    trace s 7 k deasserted.toNat

/-- The rail's enable is released; a DG rail's reset output is asserted first (R335, R348). -/
def railRelease (s : State) (k : Nat) : State :=
  let inMask := s.gen.hem.kaNonce.any fun e => e.2.testBit (2 * (k - 6)) || e.2.testBit (2 * (k - 6) + 1)
  let s := if 6 ≤ k ∧ k < 14 then
      let s := setRst s (k - 6) false
      if inMask then { s with gen := { s.gen with hem := { s.gen.hem with railsHeld := false } } } else s
    else s
  let r := railOf s k
  trace (setRail s k { r with enabled := false, up := false, discharging := r.enabled, stretched := false }) 3 k 0

/-- Power-good of a rail changes (trace code 4). -/
def railPg (s : State) (k : Nat) (pg : Bool) : State :=
  trace (setRail s k { railOf s k with pg := pg }) 4 k pg.toNat

/-- HOLD_EN follows the holds on it (R343); HOLD_PG is low once the converter is off (log entry 22). -/
def updateHold (s : State) : State :=
  let p := s.psq
  let want := p.holdLoss || p.holdHem || p.holdKa || p.holdTest
  if want = p.holdEn then s
  else
    let r := railOf s 22
    let s := setRail s 22 { r with enabled := want, up := want && r.pg, pg := want && r.pg }
    trace { s with psq := { s.psq with holdEn := want, holdJudged := !want } } 0x0C 0 want.toNat

/-- The device drives SYS_FAULT_N low with a cause, or releases it (R349). -/
def driveFault (s : State) (cause : Option Nat) : State :=
  if s.psq.faultDriven = cause then s
  else
    let change := s.psq.faultDriven.isSome != cause.isSome
    let s := { s with psq := { s.psq with faultDriven := cause } }
    if change then icu (trace s 9 0 cause.isSome.toNat) 355 else s

/-- A request is received (0), latched (1) or cancelled (2); the index is its row in R333 (trace code 0x0B). -/
def traceReq (s : State) (data kind : Nat) : State := trace s 0x0B kind data

-- service level

/-- Channel c can serve: its rail is fitted and did not fail, and it is not fenced. -/
def chHealthy (s : State) (c : Nat) : Bool :=
  railPresent s (6 + c / 2) && !(railOf s (6 + c / 2)).failed && !chFenced s c

/-- Flash channel c is healthy: its rails are fitted and did not fail, and it is not fenced. A channel whose
fence was lifted counts again once it is mounted (R507). -/
def fchHealthy (s : State) (c : Nat) : Bool :=
  railPresent s (18 + c / 8) && railPresent s (14 + c / 8) && !(railOf s (14 + c / 8)).failed &&
    !(railOf s (18 + c / 8)).failed && !fchFenced s c && !s.fst.remount.contains c

/-- Healthy flash channels. -/
def fchCount (s : State) : Nat := ((List.range 32).filter (fchHealthy s)).length

/-- Unfenced pool banks. -/
def banksLeft (s : State) : Nat := ((List.range 16).filter fun b => !bankFenced s b).length

/-- A DRAM channel pair, 2k and 2k + 1, whose channels can both serve. -/
def pairHealthy (s : State) : Bool := (List.range 8).any fun k => chHealthy s (2 * k) && chHealthy s (2 * k + 1)

/-- The service level that the units allow (R19). -/
def unitLevel (s : State) : Nat :=
  if !coreUp s || isFenced s Pg.sb0 0 || isFenced s Pg.cfl 0 then 0
  else if (linkFenced s 0 && linkFenced s 1) || sliceFenced s 0 || decide (banksLeft s < 4) || !pairHealthy s then 1
  else if decide (fchCount s < 16) || !s.bat.valid then 2 else 3

/-- VCORE is meant to be up: from the end of power-up step 1 until an intended switch-off begins (R20). -/
def levelCounts (s : State) : Bool :=
  coreUp s && (s.psq.st == 1 || s.psq.st == 2) && !s.psq.heldInReset

/-- Computes the service level again and posts it (R20, source 473); a fall below 1 calls for the hold in reset. -/
def recomputeLevel (s : State) : State :=
  if levelCounts s then
    let l := unitLevel s
    if l = s.psq.level then s
    else
      let s := icu { s with psq := { s.psq with level := l } } 473
      if l = 0 then { s with flt := { s.flt with esc := s.flt.esc ++ [Esc.hold] } } else s
  else s

/-- PERSIST_LOST: at levels 1 and 2 (R20). -/
def persistLost (s : State) : Bool := s.psq.level == 1 || s.psq.level == 2

end Sys2Proof.Machine
end

