-- ==== Sys2Proof/Machine/BatOps.lean ====
section
/-! DEFINITION. The battery estimator's figures (R361 to R378): inferred current, state of charge from voltage,
uncertainty, validity, usable energy. Fractions are rounded down where the spec names no rounding (log entry 9). -/

namespace Sys2Proof.Machine

open Bits

/-- Cells in series and in parallel (BAT_PACK_CFG). -/
def batSeries (s : State) : Nat := rf s Reg.batPackCfg 0 3
def batParallel (s : State) : Nat := rf s Reg.batPackCfg 4 2 + 1

/-- Cells of segment j (R361). -/
def segCells (s : State) (j : Nat) : Nat :=
  let n := batSeries s
  match j with
  | 0 => if 4 ≤ n then 2 else 1
  | 1 => if 5 ≤ n then 2 else 1
  | _ => if 6 ≤ n then 2 else 1

/-- Learned capacity of the pack, mAh (R364, R370). -/
def batFullMah (s : State) : Nat := rf s Reg.batCapLearned 0 16 * batParallel s

/-- The same in µA·s. -/
def batFull (s : State) : Nat := batFullMah s * 3600000

/-- η and SOC_min in %, V_nom in mV. -/
def batEff (s : State) : Nat := rf s Reg.batLimits 8 8
def batSocMin (s : State) : Nat := rf s Reg.batLimits 0 8
def batVnom (s : State) : Nat := batSeries s * rf s Reg.batPackCfg 16 9 * 10

/-- SOC_i in 0.1 %. -/
def socI (s : State) : Nat := if batFull s = 0 then 0 else min 1000 (s.bat.charge * 1000 / batFull s)

/-- The figure in use, in 0.1 % (R366). -/
def batSoc (s : State) : Nat := min s.bat.socV (socI s)

/-- Current of a power in 0.1 W from the pack, µA; without a pack voltage no quotient exists, and the value is
free (R363, log entry 4). -/
def packDraw (s : State) (power : Nat) : Int :=
  let d := batEff s * s.bat.vPack
  if d = 0 then ((Config.freeWord s.free).toNat : Int) else ((power * 10000000000 / d : Nat) : Int)

/-- The "Otherwise" and "Hibernating" rows, in which a span counts as a rest (R363, R366). -/
def restRow (s : State) : Bool := !s.psq.holdEn && !s.bat.chgEn

/-- Inferred pack current in µA, positive in discharge (R363); none where the charge is held. -/
def inferredCurrent (s : State) : Option Int :=
  if s.psq.holdEn then
    some (packDraw s (if s.psq.holdKa && s.psq.st == 6 then rf s Reg.genKaPower 0 16 else rf s Reg.genmHemPower 0 16))
  else if s.bat.chgEn then
    if s.bat.phase = 1 then some (-((rf s Reg.batChgCfg 0 12 * 10000 : Nat) : Int)) else none
  else if coreUp s then some 0 else some ((rf s Reg.batHibCfg 0 12 : Nat) : Int)

/-- SOC_i moves by `secs` seconds of the inferred current, clamped to 0 % to 100 % (R364). -/
def integrate (s : State) (secs : Nat) : State :=
  match inferredCurrent s with
  | none => { s with bat := { s.bat with cur := 0 } }
  | some i =>
    let c : Int := s.bat.charge - i * secs
    let inn := (-i).toNat * secs
    { s with free := s.free + 1, bat := { s.bat with
        cur := i
        charge := min (batFull s) c.toNat
        chargedIn := s.bat.chargedIn + inn } }

-- model tables

/-- Table column at or below a temperature in 0.1 °C (R370); the −20 °C column below it. -/
def colBelow (t : Int) : Nat := if 450 ≤ t then 3 else if 250 ≤ t then 2 else if 0 ≤ t then 1 else 0

/-- The columns that bracket a temperature (R365). -/
def colsOf (t : Int) : List Nat :=
  if t ≤ -200 then [0] else if 450 ≤ t then [3] else [colBelow t, colBelow t + 1]

/-- OCV in mV at point p (5 % steps) of a column (R381). -/
def ocv (s : State) (col p : Nat) : Nat := rf s (Reg.batOcv ((21 * col + p) / 2)) (16 * ((21 * col + p) % 2)) 16

/-- Cell resistance of a column in 0.1 mΩ, derate factor of a column and rate point in 1/256 (R381). -/
def cellRes (s : State) (col : Nat) : Nat := rf s (Reg.batRes (col / 2)) (16 * (col % 2)) 16
def derate (s : State) (col k : Nat) : Nat := rf s (Reg.batDer col) (8 * k) 8

/-- State of charge in 0.1 % at which a column's OCV is `v`, linear between its points (R365). -/
def invOcv (s : State) (col : Nat) (v : Int) : Nat :=
  if v ≤ (ocv s col 0 : Int) then 0
  else
    match (List.range 20).find? fun i => decide ((ocv s col i : Int) ≤ v) && decide (v < (ocv s col (i + 1) : Int)) with
    | none => 1000
    | some i => 50 * i + ((v - ocv s col i) * 50 / ((ocv s col (i + 1) : Int) - ocv s col i)).toNat

/-- Last converted voltage of segment j, mV. -/
def segOf (s : State) (j : Nat) : Nat := Sparse.get (fun _ => 0) s.bat.seg j

/-- Corrected cell voltage of segment j (R365), with the resistance of the column at or below T (log entry 9). -/
def cellV (s : State) (j : Nat) : Int :=
  (segOf s j / segCells s j : Nat) +
    s.bat.cur * (cellRes s (colBelow s.bat.temp) : Nat) / ((10000000 * batParallel s : Nat) : Int)

/-- SOC_v in 0.1 % (R365). -/
def socFromVoltage (s : State) : Nat :=
  let v := min (cellV s 0) (min (cellV s 1) (cellV s 2))
  (colsOf s.bat.temp).foldl (fun a c => min a (invOcv s c v)) 1000

/-- The uncertainty U in % (R369). -/
def uncertainty (s : State) : Nat :=
  rf s Reg.batLimits 16 8 + s.bat.growth + (if s.bat.packTerm then 10 else 0) + (if s.bat.suspect then 5 else 0)

/-- The estimate is valid (R371). -/
def batValid (s : State) : Bool :=
  s.bat.tablesOk && !rb s (errStatusA Pg.bat) 17 && !rb s (errStatusA Pg.bat) 18 && decide (s.bat.u ≤ 25) &&
    decide (rf s Reg.batCapRated 0 16 ≤ 2 * rf s Reg.batCapLearned 0 16) && s.bat.chargerOk && !isFenced s Pg.bat 0

/-- Rate point at or above C_hem: index of 1C, 2C, 5C, 10C (R370). -/
def ratePoint (s : State) : Nat :=
  let p := rf s Reg.genmHemPower 0 16 * 10000000
  let d := batEff s * batVnom s * batFullMah s
  if p ≤ d then 0 else if p ≤ 2 * d then 1 else if p ≤ 5 * d then 2 else 3

/-- E_usable in whole joules, before validity (R370). -/
def energyOf (s : State) : Nat :=
  let soc := batSoc s
  if soc ≤ 10 * batSocMin s then 0
  else
    batFullMah s * 36 * (soc - 10 * batSocMin s) * batVnom s * derate s (colBelow s.bat.temp) (ratePoint s) * batEff s
      * (100 - s.bat.u) / 25600000000000

/-- The estimate is judged at once on what it stands on (R371): validity (source 368, the level of R20), the figure of the
last computation or 0 (source 369). -/
def judgeEnergy (s : State) : State :=
  let v := batValid s
  let change := v != s.bat.valid
  let e := if v then s.bat.eCalc else 0
  let s := { s with bat := { s.bat with valid := v, energy := e } }
  let s := if v then extreme s 8 e false else s
  let s := if change then recomputeLevel (icu s 368) else s
  let last := s.bat.energyRaised
  if last * 21 < e * 20 ∨ e * 20 < last * 19 then icu { s with bat := { s.bat with energyRaised := e } } 369 else s

/-- The once-per-second computation of R370, with the uncertainty of R369 and the limits of BAT_LIMITS as they stand now. -/
def recomputeEnergy (s : State) : State :=
  let s := { s with bat := { s.bat with u := uncertainty s } }
  judgeEnergy { s with bat := { s.bat with eCalc := min (energyOf s) (2 ^ 24 - 1) } }

-- taps and thermistor (R361, R362)

/-- Latest reading of scan input n, mV. -/
def scanMv (s : State) (n : Nat) : Nat := rf s (Reg.psqScann n) 0 12

/-- A fault of BAT that lasts two scans is reported while its bit is clear (R362, source 376): the estimate is invalid. -/
def batScanFault (s : State) (bit_ : Nat) : State :=
  if rb s (errStatusA Pg.bat) bit_ then s else judgeEnergy (report s Pg.bat bit_ 0)

/-- The taps are converted once all four have been read (R362). -/
def tapCheck (s : State) : State :=
  let seg := fun j => scanMv s (25 + j) * rf s Reg.batTapCfg 16 10 / 10
  let v := scanMv s 24 * rf s Reg.batTapCfg 0 10 / 10
  let sum := seg 0 + seg 1 + seg 2
  let bad := decide (2 * v < 100 * (sum - v)) || decide (2 * v < 100 * (v - sum))
  let n := if bad then min 2 (s.bat.tapBad + 1) else 0
  let s := { s with bat := { s.bat with
    vPack := v
    seg := [0, 1, 2].foldl (fun m j => Sparse.set (fun _ => 0) m j (seg j)) []
    tapBad := n } }
  if n = 2 then batScanFault s 17 else s

/-- The thermistor's reading (R362). -/
def thermistorCheck (s : State) : State :=
  let t := Config.thermistor (scanMv s 28)
  let n := if t < -300 ∨ 800 < t then min 2 (s.bat.thBad + 1) else 0
  let s := { s with bat := { s.bat with temp := t, thBad := n } }
  let s := if t < -300 ∨ 800 < t then s else extreme (extreme s 5 t true) 6 t false
  if n = 2 then batScanFault s 18 else s

-- charging

/-- CHG_EN changes (R347, R375): rail 23 follows it; a charge starts or ends (source 372). -/
def setChgEn (s : State) (on : Bool) : State :=
  if s.bat.chgEn = on then s
  else
    let s := { s with bat := { s.bat with chgEn := on, phase := if on then 1 else 0 } }
    let r := railOf s 23
    let s := trace (setRail s 23 { r with enabled := on, up := on && r.up, pg := on && r.pg, outCount := 0 }) 3 23 on.toNat
    icu s 372

/-- The charge window is closed by its limits (R376), or held closed by a suspect thermistor (R388). -/
def chgWindowClosed (s : State) : Bool := s.bat.windowClosed || s.thm.packSuspect

/-- All conditions of R375 hold. -/
def chargeAllowed (s : State) : Bool :=
  s.psq.input && (railOf s 2).up && !(railOf s 23).failed && !chgWindowClosed s && !s.bat.pause && !s.bat.learnStop && coreUp s &&
    s.bat.chargerOk && !s.bat.chgFault &&
    ((s.bat.chgEn && s.bat.phase != 3) || decide (batSoc s < 10 * rf s Reg.batChgCfg 24 8))

/-- Asserts or releases CHG_EN as R375 says; a start writes the setpoints over SB1, and a start from a rest at or
below 50 % while a request stands is a learning charge (R374). -/
def chargeControl (s : State) : State :=
  if chargeAllowed s then
    if s.bat.chgEn then s
    else
      let learn := s.bat.request && s.bat.rested && decide (batSoc s ≤ 500)
      let s := setChgEn { s with bat := { s.bat with learning := learn } } true
      { s with sb := { s.sb with
          setCurrent := some (rf s Reg.batChgCfg 0 12 * 10)
          setVoltage := some ((4000 + 10 * rf s Reg.batChgCfg 16 8) * batSeries s) } }
  else setChgEn s false

/-- A rest pause ends without a rest (R368). -/
def endPause (s : State) : State :=
  if s.bat.pause then icu { s with bat := { s.bat with pause := false } } 374 else s

/-- The span that would count as a rest is broken. -/
def breakRest (s : State) : State := { s with bat := { s.bat with restFor := 0, rested := false } }

/-- HOLD_EN is asserted: a pause and the span of a rest end, condition 4 of the learning span is broken (R366, R368,
R372). -/
def batHold (s : State) : State :=
  let s := breakRest (endPause s)
  { s with bat := { s.bat with spanBad := s.bat.spanBad ||| 2 } }

/-- Input loss (R347, R368, R372): CHG_EN is released, a pause ends without a rest, the learning span is spoilt. -/
def batInputLoss (s : State) : State :=
  batHold (setChgEn s false)

end Sys2Proof.Machine
end

