-- ==== Sys2Proof/Machine/GenBase.lean ====
section
/-! DEFINITION. The window and group tables (R183, R189), logical devices and ports, offline reasons (R186), the
groups' counts (R123), the dirty budget (R124 to R126, R130) and pacing (R127 to R129, R192 to R195). -/

namespace Sys2Proof.Machine

open Bits

-- tables

/-- Word i of window entry w (R183). -/
def winWord (s : State) (w i : Nat) : Word := Sparse.get (fun _ => 0#32) s.hl.winTab (8 * w + i)

def setWinWord (s : State) (w i : Nat) (v : Word) : State :=
  { s with hl := { s.hl with winTab := Sparse.set (fun _ => 0#32) s.hl.winTab (8 * w + i) v } }

/-- Word i of group entry g (R189). -/
def grpWord (s : State) (g i : Nat) : Word := Sparse.get (fun _ => 0#32) s.hl.grpTab (16 * g + i)

def setGrpWord (s : State) (g i : Nat) (v : Word) : State :=
  { s with hl := { s.hl with grpTab := Sparse.set (fun _ => 0#32) s.hl.grpTab (16 * g + i) v } }

/-- Fields of a window entry (R183). -/
def winValid (s : State) (w : Nat) : Bool := bit (winWord s w 0) 0 && !s.hl.parity.contains w
def winDeadline (s : State) (w : Nat) : Bool := bit (winWord s w 0) 1
def winLd (s : State) (w : Nat) : Nat := fld (winWord s w 0) 16 8
def winGroup (s : State) (w : Nat) : Nat := fld (winWord s w 0) 24 8
def winLdBase (s : State) (w : Nat) : Nat := (winWord s w 1).toNat
def winSize (s : State) (w : Nat) : Nat := (winWord s w 2).toNat
def winDramBase (s : State) (w : Nat) : Nat := (winWord s w 3).toNat
def winGroupBase (s : State) (w : Nat) : Nat := (winWord s w 4).toNat

/-- Windows whose entries are valid, in ascending order. -/
def validWins (s : State) : List Nat :=
  s.hl.winTab.filterMap fun e => if e.1 % 8 = 0 ∧ winValid s (e.1 / 8) = true then some (e.1 / 8) else none

/-- Fields of a group entry (R189); one with a parity fault is treated as not valid (R218): not enabled. -/
def grpEnabled (s : State) (g : Nat) : Bool := bit (grpWord s g 0) 0 && !s.hl.parity.contains (4096 + g)
def grpShare (s : State) (g : Nat) : Nat := fld (grpWord s g 0) 16 16
def grpHigh (s : State) (g : Nat) : Nat := (grpWord s g 10).toNat

/-- Bit of a logical device in a mask of the entry: the tack mask at word 2, manage at 4, key at 6. -/
def maskHas (s : State) (g at_ ld : Nat) : Bool := bit (grpWord s g (at_ + ld / 32)) (ld % 32)
def tackOk (s : State) (g ld : Nat) : Bool := maskHas s g 2 ld
def manageOk (s : State) (g ld : Nat) : Bool := maskHas s g 4 ld
def keyOk (s : State) (g ld : Nat) : Bool := maskHas s g 6 ld

/-- The enabled groups, in ascending order. -/
def enabledGroups (s : State) : List Nat :=
  s.hl.grpTab.filterMap fun e => if e.1 % 16 = 0 ∧ bit e.2 0 = true ∧ s.hl.parity.contains (4096 + e.1 / 16) = false then some (e.1 / 16) else none

/-- Valid windows of a group. -/
def winsOf (s : State) (g : Nat) : List Nat := (validWins s).filter fun w => winGroup s w == g

/-- A logical device sees a group (R190). -/
def ldSees (s : State) (ld g : Nat) : Bool :=
  tackOk s g ld || manageOk s g ld || keyOk s g ld || (winsOf s g).any fun w => winLd s w == ld

-- groups, logical devices, ports

def grp (s : State) (g : Nat) : Group := Sparse.get (fun _ => {}) s.gen.groups g

def setGrp (s : State) (g : Nat) (v : Group) : State :=
  { s with gen := { s.gen with groups := Sparse.set (fun _ => {}) s.gen.groups g v } }

def ldOf (s : State) (ld : Nat) : Ld := Sparse.get (fun _ => {}) s.hl.lds ld

def setLd (s : State) (ld : Nat) (v : Ld) : State :=
  { s with hl := { s.hl with lds := Sparse.set (fun _ => {}) s.hl.lds ld v } }

def portOf (s : State) (p : Nat) : Port := Sparse.get (fun _ => {}) s.hl.ports p

def setPort (s : State) (p : Nat) (v : Port) : State :=
  { s with hl := { s.hl with ports := Sparse.set (fun _ => {}) s.hl.ports p v } }

def winOf (s : State) (w : Nat) : Win := Sparse.get (fun _ => {}) s.hl.wins w

def setWin (s : State) (w : Nat) (v : Win) : State :=
  { s with hl := { s.hl with wins := Sparse.set (fun _ => {}) s.hl.wins w v } }

/-- A port exists under the bifurcation in force (R178). -/
def portExists (s : State) (p : Nat) : Bool :=
  p == 0 || p == 2 || (p == 1 && s.hl.bif0) || (p == 3 && s.hl.bif1)

/-- The port serves memory (R186, bit 7). -/
def portServing (s : State) (p : Nat) : Bool :=
  (portOf s p).up && decide (3 ≤ (portOf s p).width) && (portOf s p).flit256

/-- Adds to a port's half of a counter pair of its HL page (R213). -/
def hlCount (s : State) (reg : Nat → Nat) (p : Nat) : State := addSat s (reg (p / 2)) (16 * (p % 2)) 16 1

/-- The administrative logical device (R217, R191). -/
def isAdmin (s : State) (ld : Nat) : Bool := rb s Reg.winAdmin 8 && decide (rf s Reg.winAdmin 0 6 = ld)

-- locks, windows online

/-- Known-answer tests passed, module key and DRBG good (R90, R91). -/
def keyHealthy (s : State) : Bool := rf s Reg.keyModuleStatus 0 3 == 7

/-- A group is locked: host mode and not yet unlocked (R90), or its key is not held (R78, R91). -/
def grpLocked (s : State) (g : Nat) : Bool := grpEnabled s g && (grp s g).key.isNone

/-- A hem, keep-alive or the hemmed state (R186, bit 4). -/
def hemBusy (s : State) : Bool := s.gen.hem.active || s.gen.hem.st != 0

/-- DRAM in GiB that the host can use (R102, WIN_CAPACITY). -/
def hostGib (s : State) : Nat := s.dram.liningBase / 2 ^ 30

/-- Offline reasons of a valid window as bits 7:1, with bit 0 online (R186). -/
def winState (s : State) (w : Nat) : Nat :=
  if winValid s w then
    let g := winGroup s w
    let r := maskOf 8 fun b =>
      match b with
      | 1 => !grpEnabled s g
      | 2 => decide (s.psq.level < 2)
      | 3 => grpLocked s g
      | 4 => hemBusy s
      | 5 => grpEnabled s g && !(grp s g).online
      | 6 => decide (hostGib s < winDramBase s w + winSize s w)
      | 7 => !portServing s (winLd s w / 16)
      | _ => false
    if r = 0 then 1 else r
  else 0

def winOnline (s : State) (w : Nat) : Bool := winState s w == 1

/-- Any window is online. -/
def anyOnline (s : State) : Bool := (validWins s).any (winOnline s)

/-- Offline reasons of a window, bits 7:1; none for an entry that is not valid (R186). -/
def winReasons (s : State) (w : Nat) : Nat := winState s w / 2 * 2

/-- The reason bits of every window are taken over; a change raises source 46 (R186, R219). -/
def noteReasons (s : State) : State :=
  let ws := (validWins s ++ Sparse.keys s.hl.wins).eraseDups
  let chg := ws.any fun w => (winOf s w).seen != winReasons s w
  if coreUp s && chg then icu (forEach ws s fun s w => setWin s w { winOf s w with seen := winReasons s w }) 46 else s

-- counts and budgets

/-- Unsewn swatches of a group and of all groups (R123). -/
def unsewn (s : State) (g : Nat) : Nat := (grp s g).openCount + (grp s g).pending
def globalUnsewn (s : State) : Nat := (s.gen.groups.map fun e => e.2.openCount + e.2.pending).sum

/-- B_energy in GiB (R124). -/
def energyGib (s : State) : Nat :=
  let e := (rd s Reg.genmEnergy).toNat
  let x := rf s Reg.genmHemPower 0 16
  let f := rf s Reg.genmHemFixed 0 16
  if 5000 * e ≤ f * x then 0
  else rf s Reg.genmHemBw 0 16 * (5000 * e - f * x) * 100000 / (x * 2 ^ 30)

/-- B in GiB (R124). -/
def budgetGib (s : State) : Nat := min (rf s Reg.genmCeiling 0 11) (energyGib s)

/-- A group's budget in swatches (R125). -/
def grpBudget (s : State) (g : Nat) : Nat :=
  let sh := grpShare s g
  if sh = 0 then s.gen.budget * 262144 else s.gen.budget * sh * 64

/-- Pacing percentages (R132). -/
def paceAsk (s : State) : Nat := rf s Reg.genmPacePct 0 8
def paceClear (s : State) : Nat := rf s Reg.genmPacePct 8 8
def paceTarget (s : State) : Nat := rf s Reg.genmPacePct 16 8

-- pacing

/-- Floor rate of a window in bytes per second (R195). -/
def floorRate (s : State) (w : Nat) : Nat := 64000000 / max 1 (rf s (Reg.hlPaceFloor (winLd s w / 32)) 0 3)

/-- Floor of a group: the floors of its online windows (log entry 10). -/
def grpFloor (s : State) (g : Nat) : Nat := (((winsOf s g).filter (winOnline s)).map (floorRate s)).sum

/-- Free slots of the copy-on-write area (R106). -/
def freeSlots (s : State) : Nat := s.gen.slotTotal - (s.gen.groups.map fun e => e.2.slots.length).sum

/-- A write of the group waits for a slot (R108). -/
def slotWait (s : State) (g : Nat) : Bool := s.hl.waits.any fun r => r.why == .slot && r.g == g

/-- Rate over the last ten milliseconds, in bytes per second. -/
def rate10 (l : List Nat) : Nat := l.sum * 100

/-- Relief may still write: less than 1/8 of the hem region holds relief pages (R109). -/
def reliefRoom (s : State) : Bool := decide (s.gen.reliefPages * 8 < s.fst.hemSize * 262144)

/-- Enforcement target of a reason in new-swatch bytes per second (R127); for LINING the floor once relief has stopped at
its limit and a write waits (R109). -/
def reasonTarget (s : State) (g reason : Nat) : Nat :=
  let gr := grp s g
  let base :=
    if reason = 3 ∧ slotWait s g = true ∧ reliefRoom s = false then 0
    else if reason = 3 then rate10 gr.bothBytes else rate10 gr.bastBytes
  if base = 0 then grpFloor s g else base * paceTarget s / 100

/-- A reason's ask and clear conditions for a group, reasons 1 to 3 (R127, R126). With a budget of zero and nothing unsewn,
where the percentage is not defined, nothing is asked and a request ends (log entry 122). -/
def asks (s : State) (g reason : Nat) : Bool :=
  match reason with
  | 1 => !persistLost s && decide (0 < unsewn s g) && decide (grpBudget s g * paceAsk s ≤ unsewn s g * 100)
  | 2 => !persistLost s && decide (0 < globalUnsewn s) &&
      decide (s.gen.budget * 262144 * paceAsk s ≤ globalUnsewn s * 100) &&
      s.gen.rose.any fun e => e.1 == g && decide (now s ≤ e.2 + 10 * msTicks)
  | _ => slotWait s g || (!(grp s g).slots.isEmpty && decide (freeSlots s * 100 < (100 - paceAsk s) * s.gen.slotTotal))

def clears (s : State) (g reason : Nat) : Bool :=
  match reason with
  | 1 => persistLost s || decide (unsewn s g * 100 < grpBudget s g * paceClear s) || decide (unsewn s g = 0)
  | 2 => persistLost s || decide (globalUnsewn s * 100 < s.gen.budget * 262144 * paceClear s) ||
      decide (globalUnsewn s = 0)
  | _ => !slotWait s g && decide ((100 - paceClear s) * s.gen.slotTotal < freeSlots s * 100)

/-- Posts a pacing request (R128, source 254). -/
def postPace (s : State) (g reason target : Nat) : State :=
  let gr := grp s g
  if gr.pacing.any fun r => r.reason == reason then s
  else icu (setGrp s g { gr with pacing := gr.pacing ++ [{ reason, posted := now s, target }] }) 254

/-- A request and its enforcement end (R129). -/
def clearPace (s : State) (g reason : Nat) : State :=
  let gr := grp s g
  setGrp s g { gr with pacing := gr.pacing.filter fun r => r.reason != reason }

/-- The governing request: lowest target, then lowest code (R129). -/
def governing (l : List PaceReq) : Option PaceReq :=
  minBy (fun a b => decide (a.target < b.target) || (a.target == b.target && decide (a.reason < b.reason))) l

def grpEnforced (s : State) (g : Nat) : Bool := (grp s g).pacing.any fun r => r.enforced

/-- Write credit rate of a group under enforcement (R129): the target, times write bytes over new-swatch bytes of the last
ten milliseconds; the target itself where no new-swatch bytes fell (log entry 122). -/
def grpCredit (s : State) (g : Nat) : Nat :=
  let gr := grp s g
  match governing gr.pacing with
  | none => 0
  | some r =>
    if r.reason = 6 then 0
    else
      let nb := (gr.newBytes.take 10).sum
      max (grpFloor s g) (if nb = 0 then r.target else r.target * gr.wrBytes.sum / nb)

/-- Credit rate of a window under its group's enforcement (R192), and under its own row-disturb request. -/
def winCredit (s : State) (w : Nat) : Nat :=
  let g := winGroup s w
  let byGroup : Option Nat :=
    if grpEnforced s g then
      match governing (grp s g).pacing with
      | some r =>
        if r.reason = 6 then some 0
        else
          let mine := (winOf s w).wr.sum
          let all := (((winsOf s g).filter (winOnline s)).map fun v => (winOf s v).wr.sum).sum
          some (max (floorRate s w) (if all = 0 ∨ mine = 0 then floorRate s w else grpCredit s g * mine / all))
      | none => none
    else none
  let byRow : Option Nat :=
    match (winOf s w).disturb with
    | some r => if r.enforced then some (max (floorRate s w) r.target) else none
    | none => none
  match byGroup, byRow with
  | some a, some b => min a b
  | some a, none => a
  | none, some b => b
  | none, none => 0

/-- Whether a window is under enforcement. -/
def winEnforced (s : State) (w : Nat) : Bool :=
  grpEnforced s (winGroup s w) || (match (winOf s w).disturb with
    | some r => r.enforced
    | none => false)

/-- Targets of the requests for reasons 1 to 3 follow the group's rates (R127). -/
def retarget (s : State) (g : Nat) : State :=
  let gr := grp s g
  if gr.pacing.any fun r => decide (r.reason ≤ 3) then
    setGrp s g { gr with pacing := gr.pacing.map fun r =>
      if r.reason ≤ 3 then { r with target := reasonTarget s g r.reason } else r }
  else s

/-- Credit rates are computed again and divided among the group's windows (R129, R192); a bucket starts full. -/
def updateRates (s : State) (g : Nat) : State :=
  let s := retarget s g
  let s := setGrp s g { grp s g with rate := grpCredit s g }
  forEach (winsOf s g) s fun s w =>
    let v := winOf s w
    let e := winEnforced s w
    setWin s w { v with
      rate := if e then winCredit s w else 0
      enforced := e
      bucket := if v.enforced then v.bucket else 4096
      filledAt := if v.enforced then v.filledAt else now s
      events := if e && !v.enforced then (v.events + 1) % 65536 else v.events }

/-- Enforcement of a request begins (R128). Source 255 is raised for each reason that begins, events counts the starts of
the group's enforcement (log entry 122). -/
def enforce (s : State) (g reason : Nat) : State :=
  let gr := grp s g
  if gr.pacing.any fun r => r.reason == reason && !r.enforced then
    let p := gr.pacing.map fun r => if r.reason == reason then { r with enforced := true } else r
    let ev := if gr.pacing.any fun r => r.enforced then gr.paceEvents else (gr.paceEvents + 1) % 65536
    icu (updateRates (setGrp s g { gr with pacing := p, paceEvents := ev }) g) 255
  else s

/-- The sensors-lost responses apply: the latch of R387, or THM fenced (R506). -/
def thmLost (s : State) : Bool := s.thm.lost || isFenced s Pg.thm 0

/-- A pacing row of THM holds and THM may answer it (R389, R390, chapter 11); sensors lost holds whatever. -/
def thermalRow (s : State) : Bool := thmLost s || ((s.thm.askAbs || s.thm.askRate) && enabled s Pg.thm)

/-- Target of reason THERMAL for a group (R390). -/
def thermalTarget (s : State) (g : Nat) : Nat :=
  max (grpFloor s g) ((grp s g).newBytes.sum * 10 * rf s Reg.thmRateCfg 8 8 / 100)

/-- Reason THERMAL goes to a group; at the enforce limit, or with the sensors lost, without grace (R387, R390). -/
def thermalAsk (s : State) (g : Nat) : State :=
  let s := postPace s g 4 (thermalTarget s g)
  if thmLost s || s.thm.enforce then enforce s g 4 else s

/-- A group whose open count rises while a pacing row holds is asked (R390). -/
def thermalJoin (s : State) (g : Nat) : State :=
  if thermalRow s && !((grp s g).pacing.any fun r => r.reason == 4) then thermalAsk s g else s

/-- Reason THERMAL ends for every group (R390). -/
def thermalClear (s : State) : State :=
  forEach (s.gen.groups.map Prod.fst) s fun s g =>
    if (grp s g).pacing.any fun r => r.reason == 4 then updateRates (clearPace s g 4) g else s

/-- An unsewn total has reached 100 % of a budget: no grace (R128). -/
def overBudget (s : State) (g reason : Nat) : Bool :=
  match reason with
  | 1 => decide (grpBudget s g ≤ unsewn s g)
  | 2 => decide (s.gen.budget * 262144 ≤ globalUnsewn s)
  | _ => false

/-- Reasons 1 to 3 of a group are judged again: asked, cleared, enforced without grace at 100 % (R127 to R129). -/
def paceGroup (s : State) (g : Nat) : State :=
  forEach [1, 2, 3] s fun s r =>
    let has := (grp s g).pacing.any fun q => q.reason == r
    let s :=
      if has && clears s g r then updateRates (clearPace s g r) g
      else if !has && asks s g r then postPace s g r (reasonTarget s g r)
      else s
    if ((grp s g).pacing.any fun q => q.reason == r) && overBudget s g r then enforce s g r else s

/-- With the global total at 100 % of B every group that was asked for GLOBAL_BUDGET is enforced (R128). -/
def enforceGlobal (s : State) : State :=
  if !persistLost s && decide (0 < globalUnsewn s) && overBudget s 0 2 then
    forEach (s.gen.groups.map Prod.fst) s fun s g => enforce s g 2
  else s

/-- A group is judged again after a change of its counts, and every group against the global total (R127, R128). -/
def pace (s : State) (g : Nat) : State := enforceGlobal (paceGroup (retarget s g) g)

/-- Every group with a request or unsewn data is judged again. -/
def paceAll (s : State) : State := forEach (s.gen.groups.map Prod.fst) s pace

/-- At service level 1 or 2 the budget reasons are withdrawn at once (R126). -/
def withdrawBudgets (s : State) : State :=
  if persistLost s && s.gen.groups.any fun e => e.2.pacing.any fun r => r.reason == 1 || r.reason == 2 then paceAll s else s

/-- A group's budget has come to lie at or below its unsewn total: enforced at once, logged with both budgets, in swatches,
and source 257 (R128, R130). -/
def budgetBelow (s : State) (g old : Nat) : State :=
  if !persistLost s && decide (0 < unsewn s g) && decide (grpBudget s g ≤ unsewn s g) && decide (grpBudget s g ≠ old) then
    let s := icu (logged s (.budget (some g) old (grpBudget s g))) 257
    enforce (postPace s g 1 (reasonTarget s g 1)) g 1
  else s

/-- B is computed again (R126): a change raises source 256; a budget at or below its unsewn total enforces at once, is
logged with the old and the new budget and raises source 257 (R130). -/
def recomputeBudget (s : State) : State :=
  let s := wr s Reg.genmEnergy (wd s.bat.energy)
  let e := energyGib s
  let b := budgetGib s
  let old := s.gen.budget
  let olds := s.gen.groups.map fun x => (x.1, grpBudget s x.1)
  let s := { s with gen := { s.gen with budgetByEnergy := decide (e < rf s Reg.genmCeiling 0 11), budgetEnergy := e } }
  if b = old then s
  else
    let s := extreme (icu { s with gen := { s.gen with budget := b } } 256) 9 b false
    let below := !persistLost s && decide (0 < globalUnsewn s) && decide (b * 262144 ≤ globalUnsewn s)
    let s :=
      if below then
        let s := icu (logged s (.budget none old b)) 257
        forEach (s.gen.groups.map Prod.fst) s fun s g =>
          if 0 < unsewn s g then enforce (postPace s g 2 (reasonTarget s g 2)) g 2 else s
      else s
    paceAll (forEach olds s fun s x => budgetBelow s x.1 x.2)

-- the queue of held writes (R193, R194)

/-- A write is held: in its window's hold queue, or for a quiesce (R193, R196). -/
def isHeld (r : Req) : Bool := r.why == .hold || (r.write && r.why == .quiesce)

/-- Held writes of a window and of a port. -/
def heldOf (s : State) (w : Nat) : Nat := (s.hl.waits.filter fun r => isHeld r && r.win == w).length
def heldOn (s : State) (p : Nat) : Nat := (s.hl.waits.filter fun r => isHeld r && r.ld / 16 == p).length

/-- RwD credits of a port that are out (R194): a write that waits keeps its credit, and a stop keeps those of the writes
committed meanwhile. -/
def creditsOut (s : State) (p : Nat) : Nat :=
  (s.hl.waits.filter fun r => r.write && r.ld / 16 == p).length + (portOf s p).unreturned

/-- Windows of a port that hold at least `n` writes. -/
def winsHolding (s : State) (p n : Nat) : List Nat :=
  ((s.hl.waits.filter fun r => isHeld r && r.ld / 16 == p).map (·.win)).eraseDups.filter fun w =>
    decide (n ≤ heldOf s w)

/-- A credit stop begins, or takes in a further window (R194, R197, sources 32 to 35). -/
def creditStop (s : State) (p : Nat) : State :=
  let v := portOf s p
  let full := winsHolding s p 32
  if v.stopped then setPort s p { v with stopWins := (v.stopWins ++ full).eraseDups }
  else if !full.isEmpty || decide (192 ≤ heldOn s p) then
    let s := addWrap s (Reg.hlCreditStops (p / 2)) (16 * (p % 2)) 16 1
    icu (setPort s p { v with stopped := true, stopWins := full }) (32 + p)
  else s

/-- A stopped port returns credits again (R194). -/
def creditResume (s : State) (p : Nat) : State :=
  let v := portOf s p
  if v.stopped && (winsHolding s p 17).isEmpty && decide (heldOn s p ≤ 128) then
    setPort s p { v with stopped := false, stopWins := [], unreturned := 0 }
  else s

/-- DevLoad of a logical device (R181). -/
def devLoad (s : State) (ld : Nat) : Nat :=
  let ws := (validWins s).filter fun w => winLd s w == ld
  if ws.any (winEnforced s) then 3
  else if ws.any fun w => !(grp s (winGroup s w)).pacing.isEmpty || (winOf s w).disturb.isSome then 2 else 0

/-- A CXL.mem response leaves the device (R42, R181). -/
def respond (s : State) (ld tag : Nat) (isRead : Bool) (data : List Byte) (poison : Bool) : State :=
  let c : Cpl := { ld, tag, isRead, data, poison, devLoad := devLoad s ld }
  { s with hl := { s.hl with sent := s.hl.sent ++ [c] } }

end Sys2Proof.Machine
end

