-- ==== Sys2Proof/Machine/Operands.lean ====
section
/-! DEFINITION. Operand forms: how an address finds its place. HDM decoders (R180), windows (R182), interleave sets
and channel-local addresses (R222), row, bank and rank (R223, R224), the parts of the lining (R102, R103), the
fields of a flash location (R272) and of a mailbox payload. -/

namespace Sys2Proof.Machine

open Bits

-- host physical address to DPA

/-- DPA at which a decoder's range starts: what the lower decoders map and skip comes first (log entry 11). -/
def hdmBase (l : List Hdm) (d : Hdm) : Nat :=
  ((l.filter fun e => decide (e.dec < d.dec)).map fun e => e.size / e.ways + e.skip).sum + d.skip

/-- Offset within a decoder's share of an interleaved address, if the address is of this device (log entry 11). -/
def hdmOffset (d : Hdm) (hpa : Nat) : Option Nat :=
  if d.base ≤ hpa ∧ hpa < d.base + d.size ∧ (hpa - d.base) / d.gran % d.ways = d.pos then
    some ((hpa - d.base) / (d.gran * d.ways) * d.gran + (hpa - d.base) % d.gran)
  else none

/-- The DPA of a host physical address: through the committed decoder that holds it (R182). -/
def hdmDpa (l : List Hdm) (hpa : Nat) : Option Nat :=
  l.findSome? fun d => (hdmOffset d hpa).map fun o => hdmBase l d + o

-- DPA to window

/-- The window that serves a DPA of a logical device (R182). -/
def winFor (s : State) (ld dpa : Nat) : Option Nat :=
  (validWins s).find? fun w =>
    winLd s w == ld && decide (winLdBase s w * 2 ^ 30 ≤ dpa) && decide (dpa < (winLdBase s w + winSize s w) * 2 ^ 30)

/-- The DRAM address and the group-relative address of a DPA in a window (R182). -/
def winDram (s : State) (w dpa : Nat) : Nat := winDramBase s w * 2 ^ 30 + (dpa - winLdBase s w * 2 ^ 30)
def winRel (s : State) (w dpa : Nat) : Nat := winGroupBase s w * 2 ^ 30 + (dpa - winLdBase s w * 2 ^ 30)

/-- The window and group that own a DRAM swatch (R93). -/
def swatchWin (s : State) (sw : Nat) : Option Nat :=
  (validWins s).find? fun w =>
    decide (winDramBase s w * 2 ^ 18 ≤ sw) && decide (sw < (winDramBase s w + winSize s w) * 2 ^ 18)

/-- The group-relative index of a DRAM swatch in a window, and back (R93). -/
def swatchIdx (s : State) (w sw : Nat) : Nat := winGroupBase s w * 2 ^ 18 + (sw - winDramBase s w * 2 ^ 18)

/-- The DRAM swatch that a group-relative index lies at. -/
def idxSwatch (s : State) (g idx : Nat) : Option Nat :=
  (winsOf s g).findSome? fun w =>
    if winGroupBase s w * 2 ^ 18 ≤ idx ∧ idx < (winGroupBase s w + winSize s w) * 2 ^ 18 then
      some (winDramBase s w * 2 ^ 18 + (idx - winGroupBase s w * 2 ^ 18)) else none

-- interleave sets (R222)

/-- Splits channels into sets of 16, 8, 4, 2 and 1, the largest first (R222). -/
def layoutSets (l : List Nat) : List (List Nat) :=
  ([16, 8, 4, 2, 1].foldl (fun (acc : List (List Nat) × List Nat) n =>
    if l.length / n % 2 = 1 then (acc.1 ++ [acc.2.take n], acc.2.drop n) else acc) ([], l)).1

/-- The set that holds an address: its channels and the offset in it. -/
def setAt (c : Nat) : List (List Nat) → Nat → Option (List Nat × Nat)
  | [], _ => none
  | l :: ls, a => if a < l.length * c then some (l, a) else setAt c ls (a - l.length * c)

/-- Channel and channel-local address of a DRAM address (R222). -/
def dramPlace (s : State) (a : Nat) : Option (Nat × Nat) :=
  (setAt s.dram.chBytes (layoutSets s.dram.layout) a).map fun e =>
    let n := e.1.length
    let k := e.2 / 256
    (e.1.getD (k % n) 0, k / n * 256 + e.2 % 256)

/-- DRAM address at which a set starts, and the set, for a channel of the layout. -/
def setOfCh (c : Nat) : List (List Nat) → Nat → Nat → Option (List Nat × Nat)
  | [], _, _ => none
  | l :: ls, ch, b => if l.contains ch then some (l, b) else setOfCh c ls ch (b + l.length * c)

/-- DRAM address of a channel-local address (R222). -/
def dramAddr (s : State) (ch x : Nat) : Option Nat :=
  (setOfCh s.dram.chBytes (layoutSets s.dram.layout) ch 0).map fun e =>
    let j := e.1.findIdx (· == ch)
    e.2 + (x / 256 * e.1.length + j) * 256 + x % 256

-- rows and banks (R223, R224)

/-- Row bits and chip-ID bits of a channel's population (R220, R259). -/
def rowBits (s : State) (c : Nat) : Nat := if rf s (Reg.dchGeom c) 1 2 = 0 then 17 else 18
def chipBits (s : State) (c : Nat) : Nat := rf s (Reg.dchGeom c) 3 2
def twoRanks (s : State) (c : Nat) : Bool := rb s (Reg.dchGeom c) 5

/-- Where a channel-local address lies (R223, R224). -/
structure DramLoc where
  sub : Bool
  rank : Nat
  chip : Nat
  bankGroup : Nat
  bank : Nat
  row : Nat
  col : Nat
  deriving DecidableEq, Repr

/-- Decodes a channel-local address with r row bits and h chip-ID bits (R223, R224). -/
def decodeLocal (r h : Nat) (two : Bool) (x : Nat) : DramLoc :=
  let m := x / 256
  let row := m / 2 ^ 11 % 2 ^ r
  let chip := m / 2 ^ (11 + r) % 2 ^ h
  let rank := if two then m / 2 ^ (11 + r + h) % 2 else 0
  { sub := x / 64 % 2 == 1, rank, chip
    bankGroup := Nat.xor (Nat.xor (m % 8) (row % 8)) (row / 64 % 8)
    bank := Nat.xor (Nat.xor (m / 8 % 4) (row / 8 % 4)) (row / 512 % 4)
    row, col := m / 32 % 64 * 32 + x / 128 % 2 * 16 }

def localOf (s : State) (c x : Nat) : DramLoc := decodeLocal (rowBits s c) (chipBits s c) (twoRanks s c) x

/-- One number for each bank of a channel. -/
def bankNo (l : DramLoc) : Nat := (((l.sub.toNat * 2 + l.rank) * 4 + l.chip) * 8 + l.bankGroup) * 4 + l.bank

-- population and lining

/-- The population is one that R220 lists. -/
def popOk (geom : Word) : Bool :=
  let density := fld geom 1 2
  let stack := fld geom 3 2
  let two := bit geom 5
  decide (density ≤ 1) && (stack == 0 || (two && (stack == 1 || (stack == 2 && density == 0))))

/-- Capacity of a channel in bytes (R220). -/
def popBytes (geom : Word) : Nat :=
  64 * 2 ^ 30 * 2 ^ (fld geom 1 2) * 2 ^ (fld geom 3 2) * (if bit geom 5 then 2 else 1)

/-- Size of the lining of `total` bytes of DRAM for a code of GENM_LINING_CFG (R102, R131). -/
def liningBytes (total code : Nat) : Nat := total / (64 / 2 ^ code)

/-- Rounds up to a whole GiB. -/
def gibUp (n : Nat) : Nat := (n + 2 ^ 30 - 1) / 2 ^ 30

/-- Offset in GiB at which a copy-on-write area of g GiB starts in the lining (R103). -/
def cowStart (total g : Nat) : Nat :=
  gibUp (gibUp (total / 8192 + total / 512) * 2 ^ 30 + total / 4194304 + g * 2 ^ 21)

/-- A copy-on-write area of g GiB fits (R103). -/
def cowFits (total code g : Nat) : Bool := decide (cowStart total g + g ≤ liningBytes total code / 2 ^ 30)

/-- The largest copy-on-write area that fits, in GiB (R103). -/
def cowLargest (total code : Nat) : Nat :=
  let room := liningBytes total code / 2 ^ 30 - gibUp (total / 8192 + total / 512)
  let est := room * 1024 / 1026
  ([est + 2, est + 1, est, est - 1, est - 2, est - 3].find? fun g => decide (0 < g) && cowFits total code g).getD 0

/-- The copy-on-write area in use: lining code, GiB, and whether the lining was raised for it (R103). -/
def cowActive (total code want : Nat) : Nat × Nat × Bool :=
  if cowFits total code want then (code, want, false)
  else if 0 < cowLargest total code then (code, cowLargest total code, false)
  else
    match ([1, 2, 3].filter fun c => decide (code < c)).find? fun c => cowFits total c 1 with
    | some c => (c, min want (cowLargest total c), true)
    | none => (code, 0, false)

-- mailbox payloads

/-- Little-endian number in a payload. -/
def pay (inp : List Byte) (i n : Nat) : Nat := leAt inp i n

end Sys2Proof.Machine
end

