-- ==== Sys2Proof/Machine/DramOps.lean ====
section
/-! DEFINITION. DRAM channels: content by line and swatch (R93, R222), poison (R255), the queues of a subchannel
(R229 to R231), activations and row disturbance (R248 to R252), refresh debt (R235, R236), timing sets (R241 to
R243), uncorrectable and corrected bursts (R254, R256), the layout of a start-up (R102, R103, R222, R225). -/

namespace Sys2Proof.Machine

open Bits

-- content

/-- What an unlisted byte of DRAM reads as (log entry 2). -/
def zeroByte : Nat → Byte := fun _ => 0#8

/-- Whether lines are poisoned unless listed. -/
def noPoison : Nat → Bool := fun _ => false

/-- The 64-byte line at a DRAM address. -/
def lineBytes (s : State) (a : Nat) : List Byte := Sparse.getList zeroByte s.dram.mem (a / 64 * 64) 64

def linePoison (s : State) (a : Nat) : Bool := Sparse.get noPoison s.dram.poison (a / 64)

/-- Stores a line, poisoned or not (R255). -/
def writeLine (s : State) (a : Nat) (data : List Byte) (poison : Bool) : State :=
  { s with dram := { s.dram with
      mem := Sparse.setList zeroByte s.dram.mem (a / 64 * 64) (padTo 64 data)
      poison := Sparse.set noPoison s.dram.poison (a / 64) poison } }

/-- Bytes of `new` where the mask is set, of `old` elsewhere (R232). -/
def mergeLine : List Byte → List Byte → List Bool → List Byte
  | o :: os, n :: ns, m :: ms => (if m then n else o) :: mergeLine os ns ms
  | os, _, _ => os

/-- A range of DRAM reads zeros, not poisoned. -/
def zeroRange (s : State) (a n : Nat) : State :=
  { s with dram := { s.dram with
      mem := Sparse.keep (fun k => !(decide (a ≤ k) && decide (k < a + n))) s.dram.mem
      poison := Sparse.keep (fun k => !(decide (a ≤ 64 * k) && decide (64 * k < a + n))) s.dram.poison } }

/-- The content of a DRAM swatch. -/
def readPage (s : State) (sw : Nat) : Page :=
  { bytes := s.dram.mem.filterMap fun e => if e.1 / 4096 = sw then some (e.1 % 4096, e.2) else none
    poison := s.dram.poison.filterMap fun e => if e.1 / 64 = sw then some (e.1 % 64) else none }

/-- Writes a swatch's content to its DRAM place. -/
def writePage (s : State) (sw : Nat) (p : Page) : State :=
  let s := zeroRange s (4096 * sw) 4096
  { s with dram := { s.dram with
      mem := p.bytes.foldl (fun m e => Sparse.set zeroByte m (4096 * sw + e.1 % 4096) e.2) s.dram.mem
      poison := p.poison.foldl (fun m l => Sparse.set noPoison m (64 * sw + l % 64) true) s.dram.poison } }

/-- A swatch of zeros, and one whose every line is poisoned. -/
def zeroPage : Page := {}
def poisonPage : Page := { poison := List.range 64 }

/-- All 4,096 bytes of a page, for its CRC (R114). -/
def pageBytes (p : Page) : List Byte := Sparse.getList zeroByte p.bytes 0 4096

/-- Bytes the spec gives no value: one free value each. -/
def freeBytes (s : State) (n : Nat) : List Byte × State :=
  ((List.range n).map fun i => (Config.freeWord (s.free + i)).truncate 8, { s with free := s.free + n })

-- channels

def dchOf (s : State) (c : Nat) : DCh := Sparse.get (fun _ => {}) s.dram.chs c

def setDch (s : State) (c : Nat) (v : DCh) : State :=
  { s with dram := { s.dram with chs := Sparse.set (fun _ => {}) s.dram.chs c v } }

/-- The channel carries DRAM (R259). -/
def dchPopulated (s : State) (c : Nat) : Bool := rb s (Reg.dchGeom c) 0

/-- The channel is in the layout in force and not fenced. -/
def dchServes (s : State) (c : Nat) : Bool := s.dram.layout.contains c && !chFenced s c

def subQueue (v : DCh) (sub : Bool) : List DQ := if sub then v.qb else v.qa

def setSubQueue (v : DCh) (sub : Bool) (q : List DQ) : DCh := if sub then { v with qb := q } else { v with qa := q }

/-- The write queue drains ahead of reads from 48 entries until it holds 16 (R230). -/
def updateDrain (v : DCh) (sub : Bool) : DCh :=
  let n := ((subQueue v sub).filter (·.write)).length
  if sub then { v with drainB := if 48 ≤ n then true else if n ≤ 16 then false else v.drainB }
  else { v with drainA := if 48 ≤ n then true else if n ≤ 16 then false else v.drainA }

-- row disturbance (R248 to R252)

/-- Misra-Gries count of a row: a tracked row counts up, a free entry of the 32 is taken, or all count down (R249). -/
def track (t : List (Nat × Nat)) (row : Nat) : List (Nat × Nat) :=
  if t.any fun e => e.1 == row then t.map fun e => if e.1 == row then (e.1, e.2 + 1) else e
  else if t.length < 32 then t ++ [(row, 1)]
  else (t.map fun e => (e.1, e.2 - 1)).filter fun e => e.2 != 0

/-- Count of a row. -/
def tracked (t : List (Nat × Nat)) (row : Nat) : Nat := ((t.find? fun e => e.1 == row).map Prod.snd).getD 0

/-- Word i of throttle entry w, as firmware wrote it (R252). -/
def thrWord (s : State) (w i : Nat) : Word := Sparse.get (fun _ => 0#32) s.hl.thrTab (4 * w + i)

/-- Limit and clear level of a window in offending activations, target in bytes per second (R252). -/
def thrLimit (s : State) (w : Nat) : Nat := let v := fld (thrWord s w 0) 0 16; (if v = 0 then 256 else v) * 64
def thrClear (s : State) (w : Nat) : Nat :=
  let l := thrLimit s w
  let v := fld (thrWord s w 0) 16 16
  let c := (if v = 0 then 128 else v) * 64
  if l ≤ c then l / 2 else c
def thrTarget (s : State) (w : Nat) : Nat := let v := fld (thrWord s w 1) 0 16; (if v = 0 then 16 else v) * 16000000

/-- An offending activation counts against its window, and reaching the limit asks for ROW_DISTURB (R250, R251). -/
def offend (s : State) (w : Nat) : State :=
  let v := winOf s w
  let v := { v with offend := v.offend + 1 }
  if thrLimit s w ≤ v.offend ∧ v.disturb.isNone then
    icu (setWin s w { v with
      disturb := some { reason := 5, posted := now s, target := max (floorRate s w) (thrTarget s w) } }) 254
  else setWin s w v

/-- An activation of a row, by a window's request or by none (R248 to R250). -/
def activate (s : State) (c : Nat) (l : DramLoc) (win : Option Nat) : State :=
  let v := dchOf s c
  let b := bankNo l
  let t := track (Sparse.get (fun _ => []) v.track b) l.row
  let n := tracked t l.row
  let thr := rf s (Reg.dchRdThresh c) 0 13
  let due := decide (thr ≤ n) && !(v.drfm.contains (b, l.row))
  let s := setDch s c { v with
    track := Sparse.set (fun _ => []) v.track b t
    raa := Sparse.modify (fun _ => 0) v.raa b (· + 1)
    drfm := if due then v.drfm ++ [(b, l.row)] else v.drfm }
  match win with
  | some w => if thr ≤ 2 * n then offend s w else s
  | none => s

/-- The activations of a whole swatch by the device itself: one on each subchannel for each chunk (R223, R228). -/
def activatePage (s : State) (sw : Nat) : State :=
  forEach (List.range 16) s fun s k =>
    match dramPlace s (4096 * sw + 256 * k) with
    | none => s
    | some (c, x) => activate (activate s c (localOf s c x) none) c (localOf s c (x + 64)) none

-- host accesses (R229 to R231)

/-- A queued access whose burst shares its row's activation: the other burst of the chunk (R228). -/
def sharesAct (q : List DQ) (line : Nat) : Bool := q.any fun e => e.line != line && e.line / 4 == line / 4

/-- Pool client of an access: DCH for the data of a write, the port for a read (R307). -/
def dqClient (q : DQ) : Nat := if q.write then 4 else q.ld / 16 % 4

/-- Adds an access to a subchannel's queue, in one pool buffer (R229). -/
def enqueue (s : State) (c : Nat) (l : DramLoc) (q : DQ) : State :=
  let s := takeBuffers s (dqClient q) 1
  let shared := sharesAct (subQueue (dchOf s c) l.sub) q.line
  let s := if shared then s else activate s c l (some q.win)
  let v := dchOf s c
  setDch s c (updateDrain (setSubQueue v l.sub (subQueue v l.sub ++ [q])) l.sub)

/-- An access waits before its subchannel: the channel is not enabled (R30), the queue of its kind holds 64 entries
(R229), or a read matches a partial write that is still to be merged (R232). One that is forwarded or merged needs no
entry (R231). -/
def queueWaits (s : State) (a : Nat) (write : Bool) : Bool :=
  match dramPlace s a with
  | none => false
  | some (c, x) =>
    let q := subQueue (dchOf s c) (localOf s c x).sub
    let hit := q.filter fun e => e.write && e.line == a / 64
    if !enabled s (Pg.dch c) then true
    else if hit.isEmpty then decide (64 ≤ (q.filter fun e => e.write == write).length) else !write && hit.any (·.rmw)

/-- A host read reaches its channel: forwarded from a queued write of the line, or queued (R229, R231). -/
def hostRead (s : State) (ld tag w a : Nat) : State :=
  match dramPlace s a with
  | none => respond s ld tag true (zeros 64) true
  | some (c, x) =>
    let l := localOf s c x
    let data := lineBytes s a
    let p := linePoison s a
    if (subQueue (dchOf s c) l.sub).any fun e => e.write && e.line == a / 64 then respond s ld tag true data p
    else enqueue s c l { line := a / 64, write := false, cls := if winDeadline s w then 4 else 5, ld, tag, win := w, data, poison := p }

/-- A committed write's line reaches DRAM's content, and its channel: merged into a queued write, whose earlier buffer is
released, or queued (R231); a partial write reads its line first (R232). -/
def hostWrite (s : State) (ld w a : Nat) (data : List Byte) (poison part : Bool) : State :=
  let s := writeLine s a data poison
  match dramPlace s a with
  | none => s
  | some (c, x) =>
    let l := localOf s c x
    let v := dchOf s c
    let q := subQueue v l.sub
    if q.any fun e => e.write && e.line == a / 64 then
      let s := releaseBuffers (takeBuffers s 4 1) 4 1
      setDch s c (setSubQueue v l.sub (q.map fun e =>
        if e.write && e.line == a / 64 then { e with data := data, poison := poison, rmw := e.rmw && part } else e))
    else enqueue s c l { line := a / 64, write := true, cls := if winDeadline s w then 4 else 6, ld, win := w, data, poison, rmw := part }

/-- The next access of a subchannel (R229, R230): an aged one of classes 5 to 8, else by class, writes ahead of
reads while the write queue drains; oldest first within a class. -/
def nextAccess (v : DCh) (sub aged : Bool) : Option DQ :=
  let q := subQueue v sub
  let drain := if sub then v.drainB else v.drainA
  let key := fun e : DQ => if drain && e.cls == 6 then 9 else 2 * e.cls
  let byClass := minBy (fun a b => decide (key a < key b)) q
  if aged then (q.find? fun e => decide (5 ≤ e.cls)).or byClass else byClass

/-- An issued command enters the retry buffer; the one that 32 newer ones follow leaves it, with its write's buffer (R238). -/
def retryPush (s : State) (c : Nat) (sub : Bool) (line : Nat) (write : Bool) : State :=
  let v := dchOf s c
  let l := (line, write) :: (if sub then v.retryB else v.retryA)
  let s := setDch s c (if sub then { v with retryB := l.take 32 } else { v with retryA := l.take 32 })
  if (l.drop 32).any (·.2) then releaseBuffers s 4 1 else s

/-- An access is issued: it leaves its queue for the retry buffer. -/
def dropAccess (s : State) (c : Nat) (sub : Bool) (q : DQ) : State :=
  let v := dchOf s c
  retryPush (setDch s c (updateDrain (setSubQueue v sub ((subQueue v sub).erase q)) sub)) c sub q.line q.write

/-- Buffers that DCH holds for a channel: those of queued writes and of the writes in the retry buffers (R229, R238). -/
def dchHolds (v : DCh) : Nat :=
  ((v.qa ++ v.qb).filter (·.write)).length + ((v.retryA ++ v.retryB).filter (·.2)).length

/-- The queues and retry buffers of a channel are emptied, and their pool buffers returned. -/
def clearQueues (s : State) (c : Nat) : State :=
  let v := dchOf s c
  let s := releaseBuffers s 4 (dchHolds v)
  let s := forEach [0, 1, 2, 3] s fun s p =>
    let n := ((v.qa ++ v.qb).filter fun q => !q.write && q.ld / 16 % 4 == p).length
    if n = 0 then s else releaseBuffers s p n
  setDch s c { v with qa := [], qb := [], retryA := [], retryB := [], replayA := [], replayB := [], drainA := false, drainB := false }

/-- A media event for the logical device whose read met an error of the memory (R180, R199; its form: log entry 54). -/
def mediaEvent (s : State) (ld a : Nat) : State :=
  let v := ldOf s ld
  setLd s ld { v with
    events := v.events ++ [(v.nextHandle, { code := 0, sev := 2, payload := leBytes 8 a })]
    nextHandle := (v.nextHandle + 1) % 65536 }

-- ECC (R253 to R257)

/-- One second and 24 hours in time-stamp units. -/
def secTicks : Nat := 32768
def dayTicks : Nat := 86400 * 32768

/-- Field of DCH_RETIRED for a rank and subchannel (R258). -/
def retiredLsb (l : DramLoc) : Nat := (if l.sub then 8 else 0) + 4 * l.rank

/-- How a burst comes back from the code of R253. -/
inductive EccResult where
  | clean
  /-- corrected, with the device the correction accounts for -/
  | corrected (dev : Nat)
  | uncorrectable
  deriving DecidableEq, Repr

/-- The outcome of a burst with errors (R253, R254): without a retired device any error of one device is corrected and one of
two is not; a retired device's symbols are erasures, and two further symbols are corrected. The fraction below 2^-40 of
two-device patterns that decode as one is left out (log entry 12). -/
def eccOutcome (s : State) (c : Nat) (l : DramLoc) (errs : BurstErrs) : EccResult :=
  let r := rf s (Reg.dchRetired c) (retiredLsb l) 4
  match errs.filter fun e => e.1 + 1 != r && e.2 != 0 with
  | [] => .clean
  | e :: es =>
    if (if r = 0 then es.all (·.1 == e.1) else decide (e.2 + (es.map Prod.snd).sum ≤ 2)) then .corrected e.1 else .uncorrectable

/-- A corrected burst (R254): counted against its device; at the threshold the device is retired, one for each rank
and subchannel; a further one that reaches it is logged. -/
def corrected (s : State) (c : Nat) (l : DramLoc) (dev : Nat) : State :=
  let s := report s (Pg.dch c) 0 0
  let v := dchOf s c
  let k := (l.rank * 2 + l.sub.toNat) * 16 + dev
  let ts := ((Sparse.get (fun _ => []) v.corr k).filter fun t => decide (now s < t + dayTicks)) ++ [now s]
  let s := setDch s c { v with corr := Sparse.set (fun _ => []) v.corr k ts }
  let was := rf s (Reg.dchRetired c) (retiredLsb l) 4
  if rb s (Reg.dchEccCfg c) 16 && decide (was ≠ 0) && decide (rf s (Reg.dchEccCfg c) 0 16 = ts.length) then
    logged s (.device c k)
  else if rb s (Reg.dchEccCfg c) 16 && decide (rf s (Reg.dchEccCfg c) 0 16 ≤ ts.length) && decide (was = 0) then
    let s := wrF s (Reg.dchRetired c) (retiredLsb l) 4 (dev + 1)
    report s (Pg.dch c) 19 0
  else s

/-- An uncorrectable burst (R256): logged with its address; the seventeenth within 1 s fences the channel. -/
def uncorrectable (s : State) (c a : Nat) : State :=
  let s := wr s (Reg.dchEccLastLo c) (wd a)
  let s := wr s (Reg.dchEccLastHi c) (wd (a / 2 ^ 32 % 2 ^ 11 + 2 ^ 31))
  let s := report s (Pg.dch c) 18 0
  let v := dchOf s c
  let ts := (v.ue.filter fun t => decide (now s < t + secTicks)) ++ [now s]
  let s := setDch s c { v with ue := ts }
  if 17 ≤ ts.length then report s (Pg.dch c) 20 0 else s

-- refresh (R234 to R237)

/-- Lowest bit of a rank's debt in DCH_REFRESH_CTRL (R259). -/
def debtLsb (rank : Nat) : Nat := 4 + 4 * rank

def debt (s : State) (c rank : Nat) : Nat := rf s (Reg.dchRefreshCtrl c) (debtLsb rank) 3
def setDebt (s : State) (c rank n : Nat) : State := wrF s (Reg.dchRefreshCtrl c) (debtLsb rank) 3 n

/-- The rank of a queued access. -/
def rankOf (s : State) (c : Nat) (q : DQ) : Nat :=
  match dramPlace s (64 * q.line) with
  | some (_, x) => (localOf s c x).rank
  | none => 0

/-- A swatch has a chunk on a rank of a channel. -/
def onRank (s : State) (c rank sw : Nat) : Bool :=
  (List.range 16).any fun k => match dramPlace s (4096 * sw + 256 * k) with
    | some (d, x) => d == c && (localOf s c x).rank == rank
    | none => false

/-- A rank has deadline-class requests queued, or a class-3 or class-4 transfer runs on it: a restore sweep's or on-touch
fetch, or the hem's reads (R229, R235). -/
def deadlineBusy (s : State) (c rank : Nat) : Bool :=
  let v := dchOf s c
  (v.qa ++ v.qb).any (fun q => q.cls == 4 && rankOf s c q == rank) || s.gen.restore.fetches.any (fun f => onRank s c rank f.swatch) ||
    (decide (s.gen.hem.st = 2) && s.gen.progs.any fun p => p.use == 1 && p.inDram && onRank s c rank p.swatch)

/-- A refresh of a rank lowers its banks' rolling counts by the declared threshold (R248, log entry 12). -/
def refreshRaa (s : State) (c rank : Nat) : State :=
  let v := dchOf s c
  if v.rfm = 0 then s
  else
    let l := v.raa.map fun e => if e.1 / 128 % 2 = rank then (e.1, e.2 - v.rfm) else e
    setDch s c { v with raa := Sparse.keep (fun _ => true) (l.filter fun e => e.2 != 0) }

/-- A change of regime converts the debts (R236): doubled on entry, what exceeds 4 issued; halved and rounded up on
leaving. Source k = 3. -/
def updateRegime (s : State) (c : Nat) : State :=
  let want := (dchOf s c).doubledReq || rb s (Reg.dchRefreshCtrl c) 1
  if want = rb s (Reg.dchRefreshCtrl c) 2 then s
  else
    let conv := fun n => if want then min 4 (2 * n) else (n + 1) / 2
    let s := setDebt (setDebt s c 0 (conv (debt s c 0))) c 1 (conv (debt s c 1))
    icu (wrB s (Reg.dchRefreshCtrl c) 2 want) (51 + 4 * c)

-- timing sets (R241 to R243)

/-- DCK frequency in MHz of a set (R241, R261). -/
def dckMhz (s : State) (c : Nat) (set1 : Bool) : Nat := if set1 then 2400 else 50 * rf s (Reg.dchTset0Rate c) 0 7

/-- Set 1 is called for (R241). -/
def wantSet1 (s : State) (c : Nat) : Bool := rb s (Reg.dchTsetCtrl c) 1 || rb s (Reg.dchTsetCtrl c) 2 || rb s (Reg.dchTsetCtrl c) 3

/-- The request bits that hardware drives are shown, and a change of the set in force starts a switch; during one it
is latched (R242, R243). The debt is issued before self-refresh (R237). -/
def updateTset (s : State) (c : Nat) : State :=
  let v := dchOf s c
  let s := wrB (wrB s (Reg.dchTsetCtrl c) 2 v.thermalReq) (Reg.dchTsetCtrl c) 3 v.hemReq
  let w := wantSet1 s c
  if rb s (Reg.dchTsetCtrl c) 4 || !v.trained then s
  else if w = rb s (Reg.dchTsetCtrl c) 0 then s
  else
    let s := setDebt (setDebt s c 0 0) c 1 0
    setDch (wrB s (Reg.dchTsetCtrl c) 4 true) c { v with target := w }

/-- A switch ends (R242): the set in force, the count, the clock, source k = 3; then a latched change (R243). At a hem cut
during a switch toward set 0 it ends at set 1, unless step 4 had passed (`late`): then a second switch follows. -/
def tsetDone (s : State) (c : Nat) (late : Bool) : State :=
  if rb s (Reg.dchTsetCtrl c) 4 then
    let t := (dchOf s c).target || ((dchOf s c).redirect && !late)
    let s := setDch s c { dchOf s c with target := t, redirect := false }
    let s := wrB (wrB s (Reg.dchTsetCtrl c) 4 false) (Reg.dchTsetCtrl c) 0 t
    let s := addWrap s (Reg.dchTsetCtrl c) 16 16 1
    let s := wr s (Reg.dphPll c) (wd (dckMhz s c t + 2 ^ 16))
    updateTset (icu s (51 + 4 * c)) c
  else s

/-- The hem asks for set 1 on a channel, or stops asking; a cut may fall into a switch toward set 0 (R243). -/
def hemTset (s : State) (c : Nat) (on : Bool) : State :=
  let v := dchOf s c
  let v := { v with hemReq := on, redirect := on && rb s (Reg.dchTsetCtrl c) 4 && !v.target }
  updateTset (setDch s c v) c

-- layout (R222, R102, R103)

/-- Channels that the layout takes in: populated, trained, healthy (R222, R225). -/
def layoutChs (s : State) : List Nat :=
  (List.range 16).filter fun c => dchPopulated s c && chHealthy s c && (dchOf s c).trained

/-- The lining's settings take force at a power-up (R105). -/
def fixLining (s : State) : State :=
  { s with gen := { s.gen with liningCfg := rf s Reg.genmLiningCfg 0 2, cowCfg := rf s Reg.genmCowSize 0 16 } }

/-- The layout is fixed, and the lining placed on top with the settings in force (R102, R103, R105, R222); a smaller area or
a raised lining is logged (R103, R225). -/
def fixLayout (s : State) : State :=
  let l := layoutChs s
  let c := (l.head?.map fun k => popBytes (rd s (Reg.dchGeom k))).getD 0
  let total := l.length * c
  let want := s.gen.cowCfg
  let a := cowActive total s.gen.liningCfg want
  let base := total - liningBytes total a.1
  let slots := a.2.1 * 262144
  let s := { s with dram := { s.dram with layout := l, chBytes := c, liningBase := base } }
  let s := { s with gen := { s.gen with slotTotal := slots } }
  let s := if a.2.1 < want ∨ a.2.2 = true then logged s (.layout a.2.1 a.2.2) else s
  let s := wr s Reg.genmCowActive (wd (a.2.1 + (if a.2.1 < want then 65536 else 0) + (if a.2.2 then 131072 else 0)))
  wr s Reg.genmCowLow (wd slots)

/-- DRAM address of the first byte of a channel's canary chunk (R153). -/
def canaryAddr (s : State) (c : Nat) : Option Nat := dramAddr s c (s.dram.chBytes - 256)

-- training

/-- A full sweep starts (R245). -/
def startSweep (s : State) (c : Nat) : State :=
  let v := dchOf s c
  wr (setDch s c { v with sweeping := true, sliced := false }) (Reg.dphTrainStatus c) (wd 1)

/-- No channel sweeps any more at a start-up whose layout is not yet fixed (R222). -/
def sweepsEnded (s : State) : Bool :=
  s.psq.st == 2 && !s.psq.restoreBegun && s.dram.layout.isEmpty && s.dram.chs.all fun e => !e.2.sweeping

end Sys2Proof.Machine
end

