-- ==== Sys2Proof/Machine/FstOps.lean ====
section
/-! DEFINITION. The flash store (chapter 7): locations and bands (R272, R273), LUN operations and erase suspension
(R279 to R281), the intent log (R283 to R288), the free pool (R277, R278), retired blocks (R290, R291), wear (R295).
A band's region follows its stream: stream 3 is the hem region. An intent record that must be durable before an
operation is written with it (log entry 13). -/

namespace Sys2Proof.Machine

open Bits

-- locations (R272)

def locCh (loc : Nat) : Nat := loc / 8 % 32
def locBlk (loc : Nat) : Nat := loc / 8 % 2 ^ 33
def locPage (loc : Nat) : Nat := loc / 2 ^ 36 % 4096
def locSlc (loc : Nat) : Bool := loc / 2 ^ 48 % 4 == 1

/-- Channel, target, LUN and band of a block number. -/
def blkCh (blk : Nat) : Nat := blk % 32
def blkTarget (blk : Nat) : Nat := blk / 32 % 16
def blkLun (blk : Nat) : Nat := blk / 512 % 8
def blkBand (blk : Nat) : Nat := blk / 32

/-- Key of a LUN: channel, target, LUN. -/
def lunKey (ch target lun : Nat) : Nat := (ch * 16 + target) * 8 + lun
def lunOfBlk (blk : Nat) : Nat := lunKey (blkCh blk) (blkTarget blk) (blkLun blk)

-- geometry

def fgeom (s : State) : FlashGeom :=
  s.fst.geom.getD
    { pageKib := 16, qlc := false, noSlc := false, targets := 1, luns := 1, planes := 1, blocks := 0, pages := 0, tReadUs := 0
      capacityGib := 0, ratedCycles := 0, declaresTemp := false, spare := 0 }

/-- Bits per cell in the mode of a block (R267, R269). -/
def cellBits (s : State) (slc : Bool) : Nat :=
  let g := fgeom s
  if slc && !g.noSlc then 1 else if g.qlc then 4 else 3

/-- Codewords of a block in its mode (R269, R270). -/
def blkCw (s : State) (slc : Bool) : Nat :=
  let g := fgeom s
  let pages := if slc && !g.noSlc then g.pages / (if g.qlc then 4 else 3) else g.pages
  pages * (g.pageKib / 4)

/-- The geometry is one that R267 supports. -/
def geomOk (g : FlashGeom) : Bool :=
  (g.pageKib == 16 || g.pageKib == 32) && decide (g.pages ≤ 4096) && decide (g.blocks ≤ 2097152) &&
    decide (1 ≤ g.luns ∧ g.luns ≤ 8) && (g.planes == 1 || g.planes == 2 || g.planes == 4) &&
    decide (1 ≤ g.targets ∧ g.targets ≤ 16) && decide (g.pageKib * 1024 ≤ 8 * g.spare) &&
    decide (g.luns * g.blocks * g.pages * g.pageKib ≤ 2 ^ 33)

/-- FST_CAP (R299). -/
def fstCapWord (g : FlashGeom) : Word :=
  wd ((if g.pageKib = 16 then 1 else 2) + g.qlc.toNat * 4 + g.noSlc.toNat * 8 + (g.targets - 1) * 16 + (g.luns - 1) * 256 +
    (if g.planes = 1 then 0 else if g.planes = 2 then 1 else 2) * 2048)

-- units

/-- ABSENT swatches that remain; a line with its bit set counts 128 (R175). -/
def absentCount (s : State) : Nat :=
  (s.gen.map.filter fun e => e.2 == 8#4).length + 128 * s.gen.lineBits.length

def fchOf (s : State) (c : Nat) : FCh := Sparse.get (fun _ => {}) s.fst.chs c
def setFch (s : State) (c : Nat) (v : FCh) : State :=
  { s with fst := { s.fst with chs := Sparse.set (fun _ => {}) s.fst.chs c v } }
def lunOf (s : State) (k : Nat) : Lun := Sparse.get (fun _ => {}) s.fst.luns k
def setLun (s : State) (k : Nat) (v : Lun) : State :=
  { s with fst := { s.fst with luns := Sparse.set (fun _ => {}) s.fst.luns k v } }
def blkOf (s : State) (b : Nat) : Block := Sparse.get (fun _ => {}) s.fst.blocks b
def setBlk (s : State) (b : Nat) (v : Block) : State :=
  { s with fst := { s.fst with blocks := Sparse.set (fun _ => {}) s.fst.blocks b v } }

/-- The channel is mounted and healthy, and it and the store accept work (R30). -/
def fchServes (s : State) (c : Nat) : Bool :=
  rb s (Reg.fchMount c) 0 && fchHealthy s c && enabled s (Pg.fch c) && enabled s Pg.fst

/-- The channel may transfer data: no recalibration of its strobes is due first (R14). -/
def fchReady (s : State) (c : Nat) : Bool := fchServes s c && !(fchOf s c).recal

/-- The flash write window is open (R296). -/
def windowOpen (s : State) : Bool := rb s Reg.fstWindow 0

/-- A store-wide event: FST_EVENT and k = 3 of the lowest-numbered unfenced channel (R298, R303). -/
def storeEvent (s : State) (bitNo : Nat) : State :=
  let s := wrB s Reg.fstEvent bitNo true
  match (List.range 32).find? fun c => !fchFenced s c with
  | some c => icu s (115 + 4 * c)
  | none => s

-- intent log (R284 to R288)

/-- Snapshot records of a channel: every open block, with its frontier and its last DONE, and every block in the free
pool (R288). -/
def snapshot (s : State) (c : Nat) : List IntentRec :=
  s.fst.blocks.flatMap fun e =>
    let r : IntentRec := { type := 8, stream := e.2.stream, blk := e.1, wseq := s.fst.wseq }
    if blkCh e.1 ≠ c then []
    else match e.2.cls with
      | .opened => [r, { r with type := 4, wordline := e.2.frontier }, { r with type := 5, wordline := e.2.done }]
      | .erased => [{ r with type := 9, stream := 0 }]
      | _ => []

/-- Records in pages of 510 (R284). -/
def recPages : Nat → List IntentRec → List (List IntentRec)
  | 0, _ => []
  | _, [] => []
  | n + 1, l => l.take 510 :: recPages n (l.drop 510)

/-- A page of records becomes durable; a full pair makes the log move to the next one (R284, R288). -/
def intentPage (s : State) (c : Nat) (recs : List IntentRec) : State :=
  let v := fchOf s c
  let v := { v with pages := v.pages ++ [recs], seq := v.seq + 1 }
  if (fgeom s).pages ≤ v.pages.length ∧ 0 < (fgeom s).pages then
    let ps := let l := snapshot s c; recPages l.length l
    setFch s c { v with pages := ps, pair := (v.pair + 1) % 4, seq := v.seq + ps.length }
  else setFch s c v

/-- A record whose operation may start only once it is durable (R285). -/
def intentNow (s : State) (c : Nat) (r : IntentRec) : State :=
  intentPage s c [{ r with wseq := s.fst.wseq }]

/-- A record that becomes durable with its page. -/
def intentLater (s : State) (c : Nat) (r : IntentRec) : State :=
  let v := fchOf s c
  setFch s c { v with pend := v.pend ++ [{ r with wseq := s.fst.wseq }] }

/-- The oldest page of waiting records becomes durable (R285): at most 510 records. -/
def intentFlush (s : State) (c : Nat) : State :=
  let v := fchOf s c
  if v.pend.isEmpty then s
  else intentPage (setFch s c { v with pend := v.pend.drop 510 }) c (v.pend.take 510)

/-- Every intent log is flushed (R285). -/
def intentFlushAll (s : State) : State := forEach (Sparse.keys s.fst.chs) s intentFlush

/-- Class and highest trusted wordline of a block from its records, oldest first (R287). -/
def classify (recs : List IntentRec) : BlkCls × Nat :=
  recs.foldl (fun (a : BlkCls × Nat) r =>
    match r.type with
    | 1 => (.undefined, 0)
    | 2 => (.erased, 0)
    | 3 => (.opened, 0)
    | 5 => (a.1, r.wordline)
    | 6 => (.closed, a.2)
    | 7 => (.retired, a.2)
    | 8 => (.opened, 0)
    | 9 => (.erased, 0)
    | _ => a) (.stale, 0)

/-- Every listed block of a channel is classed from its durable records; one found open is closed; the records not yet
durable are lost (R286, R287). With the log ended before a snapshot, open blocks are undefined (R300). -/
def classAll (s : State) (c : Nat) (intentOk : Bool) : State :=
  let recs := (fchOf s c).pages.flatten
  let s := forEach (Sparse.keys s.fst.blocks |>.filter fun b => blkCh b == c) s fun s b =>
    let v := blkOf s b
    let r := classify (recs.filter fun r => r.blk == b)
    let cls := match r.1 with
      | .opened => if intentOk then .closed else .undefined
      | k => k
    setBlk s b { v with cls := cls, done := r.2, top := min v.top r.2, frontier := r.2 }
  setFch s c { fchOf s c with pend := [] }

-- bands and the free pool (R273, R277, R278)

def bandOf (s : State) (band : Nat) : Band := Sparse.get (fun _ => {}) s.fst.bands band
def setBand (s : State) (band : Nat) (v : Band) : State :=
  { s with fst := { s.fst with bands := Sparse.set (fun _ => {}) s.fst.bands band v } }

/-- Members that a band opened now would get: healthy mounted channels whose block there is neither retired nor on a LUN
out of use (R273, R291). -/
def members (s : State) (band : Nat) : List Nat :=
  (List.range 32).filter fun c =>
    let b := band * 32 + c
    fchServes s c && !rb s (Reg.fchMount c) (16 + blkTarget b) && (blkOf s b).cls != .retired && !(lunOf s (lunOfBlk b)).out

/-- The stripe layout of a band: the one it was opened with, else the one it would be opened with (R273, R274). -/
def layoutOf (s : State) (band : Nat) : Band :=
  let v := bandOf s band
  if v.members.isEmpty then { seq := s.fst.bandSeq, members := members s band } else v

/-- The parity member of a layout: member (sequence number mod n), none for a single member (R273). -/
def parityMember (l : Band) : Option Nat :=
  if 2 ≤ l.members.length then l.members[l.seq % l.members.length]? else none

/-- Payload of a band in codewords: one member of two or more holds parity (R273). -/
def bandPayload (s : State) (band : Nat) (slc : Bool) : Nat :=
  let n := (layoutOf s band).members.length
  (if 2 ≤ n then n - 1 else n) * blkCw s slc

/-- All members of a band are erased. -/
def bandErased (s : State) (band : Nat) : Bool :=
  (members s band).all fun c => (blkOf s (band * 32 + c)).cls == .erased

/-- Generation-store payload in codewords (FST_CAPACITY). -/
def storeCw (s : State) : Nat := (rd s Reg.fstCapacity).toNat * 262144

/-- Payload of the hem region for data, in codewords: the last 1/64 is kept for parts and seals (R277). -/
def hemDataCw (s : State) : Nat := s.fst.hemSize * 262144 / 64 * 63

/-- Erased free space of the hem region in GiB (R168, R277). -/
def hemFreeGib (s : State) : Nat := s.fst.hemFree / 262144

/-- R168's condition: the free space is at least the ceiling plus 1/8 of the region. -/
def hemSpaceOk (s : State) : Bool :=
  decide ((rf s Reg.genmCeiling 0 11 + s.fst.hemSize / 8) * 262144 ≤ s.fst.hemFree)

/-- The demands of R278 after a change of the free pool. -/
def freeLevels (s : State) : State :=
  let cap := storeCw s
  let low := cap * rf s Reg.fstFreeCfg 0 8 / 1000
  let high := cap * rf s Reg.fstFreeCfg 8 8 / 1000
  let f := s.fst.free
  let s := { s with fst := { s.fst with stopped := decide (f * 200 < cap) } }
  if f < low ∧ s.fst.demand = false then
    storeEvent (report { s with fst := { s.fst with demand := true } } Pg.fst 16 0) 0
  else if high < f then { s with fst := { s.fst with demand := false } } else s

/-- A band is opened by its first program: it leaves the free pool of its region, and each member gets its OPEN
record (R276, R278, R285). -/
def openBand (s : State) (band stream : Nat) (slc : Bool) : State :=
  let pay := bandPayload s band slc
  let ms := members s band
  let seq := s.fst.bandSeq
  let s := setBand { s with fst := { s.fst with bandSeq := seq + 1 } } band { seq, members := ms }
  let s := if ms.length = 1 then addSat s (Reg.fchBandSingle (ms.headD 0)) 0 16 1 else s
  let s := forEach ms s fun s c =>
    let b := band * 32 + c
    let s := intentNow s c { type := 3, stream, blk := b, bseq := seq }
    setBlk s b { blkOf s b with cls := .opened, stream, frontier := 32, done := 0, top := 0, openedAt := now s, reads := 0 }
  if stream = 3 then { s with fst := { s.fst with hemFree := s.fst.hemFree - pay } }
  else freeLevels { s with fst := { s.fst with free := s.fst.free - pay } }

/-- Wordline of a location (R267: all pages of a wordline in one operation). -/
def wordline (s : State) (loc : Nat) : Nat := locPage loc / cellBits s (locSlc loc)

/-- Streams of the hem region and of the record stream are written in pseudo-SLC where the targets have it (R269, R276);
relocated data is native, relocated parts pseudo-SLC. -/
def modeOk (s : State) (loc stream : Nat) : Bool :=
  let slc := !(fgeom s).noSlc
  if stream = 2 then slc || !locSlc loc else locSlc loc == (slc && (stream == 1 || stream == 3))

/-- At most one channel at a time programs or erases in a lane (target and LUN) while ABSENT swatches remain (R282). -/
def laneFree (s : State) (b : Nat) : Bool :=
  absentCount s == 0 ||
    (List.range 32).all fun c => c == blkCh b || (lunOf s (lunKey c (blkTarget b) (blkLun b))).op == 0

/-- The LUN of a location may program for a stream (R279, R280, R282): it is idle, or inside a suspension that an operation
of order 1 or 3 made; an erase suspended for a hem is never resumed (R142). -/
def lunTakes (s : State) (b stream : Nat) : Bool :=
  let v := lunOf s (lunOfBlk b)
  (v.op == 0 || (v.op == 3 && (stream == 3 || v.forHem))) && (stream == 3 || laneFree s b)

/-- The store may place a codeword of a stream at a location (R14, R273, R276, R278 to R282, R290, R296): on a data member of
an erased band, or of an open one of the stream, above what is programmed there. -/
def placeOk (s : State) (loc stream : Nat) : Bool :=
  let b := locBlk loc
  let v := blkOf s b
  let l := layoutOf s (blkBand b)
  fchReady s (blkCh b) && !rb s (Reg.fchMount (blkCh b)) (16 + blkTarget b) && !(lunOf s (lunOfBlk b)).out &&
    decide (loc % 8 * 4 < (fgeom s).pageKib) && modeOk s loc stream && l.members.contains (blkCh b) &&
    parityMember l != some (blkCh b) &&
    (v.cls == .erased || (v.cls == .opened && v.stream == stream && decide (v.top ≤ wordline s loc))) &&
    lunTakes s b stream && (stream == 3 || windowOpen s) && (stream != 0 || !s.fst.stopped)

/-- A program of a codeword at a location succeeds: the band opens at its first program, the frontier moves by 32
wordlines at a time, the DONE record follows (R271, R276, R285). -/
def programAt (s : State) (loc stream : Nat) : State :=
  let b := locBlk loc
  let s := if (blkOf s b).cls = .erased then openBand s (blkBand b) stream (locSlc loc) else s
  let w := wordline s loc
  let v := blkOf s b
  let s := if v.frontier ≤ w then
      setBlk (intentNow s (blkCh b) { type := 4, stream, blk := b, wordline := w / 32 * 32 + 32 }) b
        { v with frontier := w / 32 * 32 + 32 }
    else s
  let v := blkOf s b
  let s := setBlk s b { v with top := max v.top w, done := max v.done w }
  let s := intentLater s (blkCh b) { type := 5, stream, blk := b, wordline := w }
  let s := { s with fst := { s.fst with wseq := s.fst.wseq + 1 } }
  addWrap s (Reg.fchOps (blkCh b)) 0 32 1

/-- Locations with their streams may be programmed one after the other. -/
def placesOk : List (Nat × Nat) → State → Bool
  | [], _ => true
  | e :: l, s => placeOk s e.1 e.2 && placesOk l (programAt s e.1 e.2)

/-- A delta or checkpoint part takes 16 codewords (R270, R113). -/
def programPart (s : State) (loc stream : Nat) : State :=
  let s := programAt s loc stream
  { s with fst := { s.fst with wseq := s.fst.wseq + 15 } }

-- retiring (R290, R291)

/-- A block is closed to further programs. -/
def closeBlk (s : State) (b : Nat) : State :=
  let v := blkOf s b
  if v.cls = .opened then intentLater (setBlk s b { v with cls := .closed }) (blkCh b) { type := 6, blk := b } else s

/-- The LUN's retired blocks exceed their share: it is taken out of use, and a channel with more than half its LUNs
out is fenced (R291). -/
def checkSpare (s : State) (b : Nat) : State :=
  let k := lunOfBlk b
  let v := lunOf s k
  let g := fgeom s
  let c := blkCh b
  if v.out = false ∧ g.blocks * rf s Reg.fstSpareCfg 0 4 < v.retired * 100 then
    let s := setLun s k { v with out := true }
    let t := blkTarget b
    let s := if rf s (Reg.fchLanesOut c) (2 * t) 2 < 3 then wrF s (Reg.fchLanesOut c) (2 * t) 2 (rf s (Reg.fchLanesOut c) (2 * t) 2 + 1) else s
    let out := (s.fst.luns.filter fun e => e.1 / 128 == c && e.2.out).length
    if g.targets * g.luns < 2 * out then report s (Pg.fch c) 22 0 else s
  else s

/-- A block is retired (R290): never used again, counted, source k = 0. -/
def retireBlk (s : State) (b : Nat) : State :=
  if (blkOf s b).cls = .retired then s
  else
    let c := blkCh b
    let s := intentLater (setBlk s b { blkOf s b with cls := .retired }) c { type := 7, blk := b }
    let s := addSat s (Reg.fchBad c) 16 16 1
    let k := lunOfBlk b
    let s := setLun s k { lunOf s k with retired := (lunOf s k).retired + 1 }
    checkSpare (icu s (112 + 4 * c)) b

/-- A band becomes a relocation candidate (R292); reasons 1 fenced member, 2 failed program, 3 refresh, 4 age, 5
compaction. -/
def addCand (s : State) (reason band : Nat) : State :=
  if s.fst.cands.any fun e => e.2 == band && decide (e.1 ≤ reason) then s
  else { s with fst := { s.fst with cands := (s.fst.cands.filter fun e => e.2 != band) ++ [(reason, band)] } }

/-- A program fails its status, or a read-back mismatches (R290, R119): program_fail, the block closed and its band a
candidate; the block is retired once relocation has moved what it holds. -/
def programFailed (s : State) (loc : Nat) : State :=
  let c := locCh loc
  let s := report s (Pg.fch c) 16 0
  let s := setBlk s (locBlk loc) { blkOf s (locBlk loc) with failed := true }
  addCand (closeBlk s (locBlk loc)) 2 (blkBand (locBlk loc))

-- erases (R279 to R281, R290)

/-- Locations of codewords that are still referenced: pages, the parts, seals and records of retained generations, and the
parts that R115 keeps. -/
def referenced (s : State) : List Nat :=
  s.gen.cw.map Prod.fst ++ s.gen.groups.flatMap fun e => e.2.gens.flatMap (fun r => r.locs ++ r.recLocs) ++ e.2.keptParts.flatMap (·.locs)

/-- A band still holds referenced codewords. -/
def bandUsed (s : State) (band : Nat) : Bool := (referenced s).any fun l => blkBand (locBlk l) == band

/-- Starts the erase of a block on an idle LUN, its ERASE_START record durable (R285); with the LUN busy, or another channel
at work in the lane while ABSENT swatches remain (R282), or in a hem, the erase waits. A target that does not serve erases
nothing: its blocks are classed at its next mount. -/
def startErase (s : State) (b : Nat) : State :=
  let k := lunOfBlk b
  let v := lunOf s k
  if !fchServes s (blkCh b) || rb s (Reg.fchMount (blkCh b)) (16 + blkTarget b) then s
  else if v.op = 0 ∧ laneFree s b = true ∧ hemBusy s = false then
    let s := intentNow s (blkCh b) { type := 1, blk := b }
    setBlk (setLun s k { v with op := 2, blk := b, suspensions := 0, forHem := false, inside := false, resumedAt := now s }) b
      { blkOf s b with cls := .erasing }
  else { s with fst := { s.fst with eraseQ := s.fst.eraseQ.filter (· != b) ++ [b] } }

/-- The recount of this power-up has ended: until then no block in use or stale is erased (R288). -/
def recounted (s : State) : Bool := rf s Reg.fstRecount 8 8 == 100

/-- A block that nothing references is erased, a block with a failed program retired instead (R288, R290, R292). -/
def eraseBlk (s : State) (b : Nat) : State :=
  let v := blkOf s b
  match v.cls with
  | .erased | .retired | .erasing => s
  | .stale => if recounted s then startErase s b else s
  | .opened | .closed | .undefined => if v.failed then retireBlk s b else startErase s b

/-- The blocks of a band that holds nothing referenced (R292). -/
def eraseBand (s : State) (band : Nat) : State := forEach (List.range 32) s fun s c => eraseBlk s (band * 32 + c)

/-- Erases that waited start, oldest first, where their LUN and lane are free (R279, R282). -/
def runErases (s : State) : State :=
  let q := s.fst.eraseQ
  forEach q { s with fst := { s.fst with eraseQ := [] } } eraseBlk

/-- An operation of order 1 to 3 meets an erase on its LUN (R280, R281): the erase is suspended, unless the limit
refuses, which is counted and raises source k = 3; the hem ignores the limit. -/
def suspendErase (s : State) (k : Nat) (hem : Bool) : State :=
  let v := lunOf s k
  let c := k / 128
  if v.op = 3 then setLun s k { v with inside := true, forHem := v.forHem || hem }
  else if v.op = 2 then
    let late := decide (now s < v.resumedAt + rf s Reg.fstSuspCfg 8 8 * 32768 / 100000)
    if hem || (decide (v.suspensions < rf s Reg.fstSuspCfg 0 7) && (v.suspensions == 0 || !late)) then
      addSat (setLun s k { v with op := 3, suspensions := v.suspensions + 1, inside := true, forHem := hem })
        (Reg.fchSuspStats c) 0 16 1
    else icu (addSat s (Reg.fchSuspStats c) 16 16 1) (115 + 4 * c)
  else s

-- wear (R295)

/-- FCH_PE or FCH_PE_SLC of a channel: average and maximum erase cycles over its native or pseudo-SLC blocks. -/
def updatePe (s : State) (c : Nat) : State :=
  let g := fgeom s
  let mine := s.fst.blocks.filter fun e => blkCh e.1 == c
  let slc := mine.filter fun e => e.2.stream == 1 || e.2.stream == 3
  let nat := mine.filter fun e => !(e.2.stream == 1 || e.2.stream == 3)
  let n := g.targets * g.luns * g.blocks - slc.length
  let sum := fun l : List (Nat × Block) => (l.map fun e => e.2.cycles).sum
  let top := fun l : List (Nat × Block) => l.foldl (fun a e => max a e.2.cycles) 0
  let w := fun (tot cnt mx : Nat) => wd (min 65535 (tot / max 1 cnt) + 65536 * min 65535 mx)
  wr (wr s (Reg.fchPe c) (w (sum nat) n (top nat))) (Reg.fchPeSlc c) (w (sum slc) slc.length (top slc))

/-- Days of the forecast (R295), from the native codewords of the last 7 days. -/
def wearDays (s : State) : Nat :=
  let g := fgeom s
  let p7 := (s.fst.p7.map Prod.snd).sum
  let blocks := g.targets * g.luns * g.blocks * ((List.range 32).filter fun c => rb s (Reg.fchMount c) 0).length
  let cNative := blocks * blkCw s false
  let peAvg := s.fst.cycles / max 1 blocks
  if p7 = 0 then 65535 else min 65535 ((g.ratedCycles - peAvg) * 7 * cNative * 31 / (32 * p7))

/-- The forecast is made again; a fall below FST_WEAR_WARN sets forecast_low (R295). -/
def updateWear (s : State) : State :=
  let d := wearDays s
  let was := rf s Reg.fstWear 0 16
  let s := wr s Reg.fstWear (wd d)
  let lim := rf s Reg.fstWearWarn 0 16
  if d < lim ∧ lim ≤ was then storeEvent (report s Pg.fst 17 0) 1 else s

/-- A native codeword's payload counts for the day of its program (R295). -/
def countNative (s : State) (n : Nat) : State :=
  let day := seconds s / 86400
  let keep := s.fst.p7.filter fun e => decide (day < e.1 + 7)
  let l := if keep.any fun e => e.1 == day then keep.map fun e => if e.1 == day then (day, e.2 + n) else e else keep ++ [(day, n)]
  updateWear { s with fst := { s.fst with p7 := l } }

-- reads (R275)

/-- A read's place on the ladder is counted (R275, R301): step 2 or later is a corrected error, step 4 a
reconstruction with source k = 1, an uncorrectable codeword a contained error. -/
def ladder (s : State) (loc : Nat) (res : LadderResult) : State :=
  let c := locCh loc
  let band := blkBand (locBlk loc)
  let b := locBlk loc
  let v := blkOf s b
  let s := addWrap (setBlk s b { v with reads := v.reads + 1 }) (Reg.fchOps c) 0 32 1
  let s := if rf s Reg.fstRdLimit 0 16 * 1000 < v.reads + 1 then addCand s 3 band else s
  match res with
  | .hard n => if 120 < n then addCand s 3 band else s
  | .retry => report (addSat s (Reg.fchLdpc c) 0 16 1) (Pg.fch c) 0 0
  | .soft => addCand (report (addSat s (Reg.fchLdpc c) 0 16 1) (Pg.fch c) 0 0) 3 band
  | .reconstructed =>
    let s := addSat (addSat s (Reg.fchLdpc c) 0 16 1) (Reg.fchLdpc c) 16 16 1
    icu (addCand (report s (Pg.fch c) 0 0) 3 band) (113 + 4 * c)
  | .uncorrectable =>
    let s := addSat (addSat s (Reg.fchLdpc c) 0 16 1) (Reg.fchUncorr c) 0 16 1
    report s (Pg.fch c) 18 0

end Sys2Proof.Machine
end

