-- ==== Sys2Proof/Machine/MapOps.lean ====
section
/-! DEFINITION. The dirty map and the path of a host request through it (R93 to R108): entries, the unpick line
bitmap, lining slots and copy-on-write, fetches of ABSENT swatches (R160), commits (R42), requests that wait
(R99, R108, R193, R196). -/

namespace Sys2Proof.Machine

open Bits

-- entries (R95, R96)

/-- State of a map entry. -/
inductive MapSt where
  | clean | opened | tacked | both | absent | bad
  deriving DecidableEq, Repr

/-- Reads an entry under a group's epoch parity: bit 0 E0, bit 1 E1, bit 2 L, bit 3 A (R95, R96). -/
def mapSt (parity : Bool) (e : BitVec 4) : MapSt :=
  let ep := e.getLsbD parity.toNat
  let eq := e.getLsbD (1 - parity.toNat)
  match ep, eq, e.getLsbD 2, e.getLsbD 3 with
  | false, false, false, false => .clean
  | true, false, false, false => .opened
  | false, true, false, false => .tacked
  | true, true, true, false => .both
  | false, false, false, true => .absent
  | _, _, _, _ => .bad

/-- The entry of a state under a parity. -/
def mapEnc (parity : Bool) : MapSt → BitVec 4
  | .clean => 0#4
  | .opened => if parity then 2#4 else 1#4
  | .tacked => if parity then 1#4 else 2#4
  | .both => 7#4
  | .absent => 8#4
  | .bad => 15#4

def entryOf (s : State) (sw : Nat) : BitVec 4 := Sparse.get (fun _ => 0#4) s.gen.map sw

def setEntry (s : State) (sw : Nat) (e : BitVec 4) : State :=
  { s with gen := { s.gen with map := Sparse.set (fun _ => 0#4) s.gen.map sw e } }

/-- The swatch's state in its group. -/
def stOf (s : State) (g sw : Nat) : MapSt := mapSt (grp s g).parity (entryOf s sw)

def setSt (s : State) (g sw : Nat) (m : MapSt) : State := setEntry s sw (mapEnc (grp s g).parity m)

/-- The line's bit of the unpick line bitmap (R104). -/
def lineBit (s : State) (line : Nat) : Bool := Sparse.get (fun _ => false) s.gen.lineBits line

/-- The first access to a line whose bit is set rewrites its 128 entries to ABSENT (R104). -/
def touchLine (s : State) (sw : Nat) : State :=
  let line := sw / 128
  if lineBit s line then
    { s with gen := { s.gen with
        map := Sparse.setList (fun _ => 0#4) s.gen.map (128 * line) (List.replicate 128 8#4)
        lineBits := Sparse.set (fun _ => false) s.gen.lineBits line false } }
  else s

/-- The slice that serves a swatch's line; a fenced one's lines go to the lowest healthy slice (R94). -/
def sliceOf (s : State) (sw : Nat) : Nat :=
  let k := sw / 128 % 8
  if sliceFenced s k then ((List.range 8).find? fun i => !sliceFenced s i).getD k else k

/-- Swatches of a group's windows. -/
def inGroup (s : State) (g sw : Nat) : Bool :=
  (winsOf s g).any fun w => decide (winDramBase s w * 2 ^ 18 ≤ sw) && decide (sw < (winDramBase s w + winSize s w) * 2 ^ 18)

/-- A group has ABSENT swatches. -/
def groupAbsent (s : State) (g : Nat) : Bool :=
  (s.gen.map.any fun e => e.2 == 8#4 && inGroup s g e.1) || s.gen.lineBits.any fun e => inGroup s g (128 * e.1)

/-- The bitmap bit of every map line of a group is set (R104). -/
def markAbsent (s : State) (g : Nat) : State :=
  forEach (winsOf s g) s fun s w =>
    let b := winDramBase s w * 2048
    { s with gen := { s.gen with
        map := Sparse.keep (fun k => !(decide (b * 128 ≤ k) && decide (k < (b + winSize s w * 2048) * 128))) s.gen.map
        lineBits := Sparse.setList (fun _ => false) s.gen.lineBits b (List.replicate (winSize s w * 2048) true) } }

/-- Every swatch of a group's windows becomes CLEAN, its line bits and its location entries cleared (R98, R81). -/
def markClean (s : State) (g : Nat) : State :=
  let out := fun sw => !inGroup s g sw
  { s with gen := { s.gen with
      map := Sparse.keep out s.gen.map
      loc := Sparse.keep out s.gen.loc
      lineBits := Sparse.keep (fun l => out (128 * l)) s.gen.lineBits } }

/-- An access to the map counts in GENM_CACHE_HITS or GENM_CACHE_MISSES; with both halves off it misses, and which
lines a powered half holds is a free value (R131). -/
def mapAccess (s : State) : State :=
  if (domOf s 98).st != 2 && (domOf s 99).st != 2 then addWrap s Reg.genmCacheMisses 0 32 1
  else
    let r := freeVal s
    addWrap r.2 (if bit r.1 0 then Reg.genmCacheHits else Reg.genmCacheMisses) 0 32 1

-- lining slots (R106, R107)

/-- Numbers of the slots in use. -/
def usedSlots (s : State) : List Nat := s.gen.groups.flatMap fun e => e.2.slots.map (·.n)

/-- Lowest free slot of a slice's share. -/
def freeOfShare (s : State) (k : Nat) : Option Nat :=
  let used := usedSlots s
  ((List.range (used.length + 1)).map fun i => 8 * i + k).find? fun n => decide (n < s.gen.slotTotal) && !used.contains n

/-- Free slots of a share. -/
def shareFree (s : State) (k : Nat) : Nat :=
  (s.gen.slotTotal + 7 - k) / 8 - ((usedSlots s).filter fun n => n % 8 == k).length

/-- The slot a slice allocates: from its own share, else from the share with the most free slots (R106). -/
def takeSlot (s : State) (k : Nat) : Option Nat :=
  (freeOfShare s k).or
    ((minBy (fun a b => decide (shareFree s b < shareFree s a)) (List.range 8)).bind (freeOfShare s))

/-- Notes the fewest free slots, and the fall below the LINING ask level (source 251, R134). -/
def slotTaken (s : State) (was : Nat) : State :=
  let f := freeSlots s
  let s := if f < (rd s Reg.genmCowLow).toNat then wr s Reg.genmCowLow (wd f) else s
  let lim := (100 - paceAsk s) * s.gen.slotTotal
  if f * 100 < lim ∧ lim ≤ was * 100 then icu s 251 else s

/-- The slot of a swatch on its group's list. -/
def slotOf (s : State) (g sw : Nat) : Option Slot := (grp s g).slots.find? fun x => x.swatch == sw

/-- Frees a swatch's slot. -/
def freeSlot (s : State) (g sw : Nat) : State :=
  let gr := grp s g
  setGrp s g { gr with slots := gr.slots.filter fun x => x.swatch != sw }

-- pacing counters (R128, R129)

/-- Adds to the current millisecond of a list of the last ten. -/
def addMs (l : List Nat) (n : Nat) : List Nat :=
  match l with
  | [] => [n]
  | a :: r => (a + n) :: r

/-- A swatch new in the open generation: the open count, and the new-swatch bytes (R123, R128). -/
def openSwatch (s : State) (g : Nat) : State :=
  let gr := grp s g
  let s := setGrp s g { gr with openCount := gr.openCount + 1, newBytes := addMs gr.newBytes 4096 }
  let s := { s with gen := { s.gen with rose := (s.gen.rose.filter fun e => e.1 != g) ++ [(g, now s)] } }
  thermalJoin (extreme s 10 (globalUnsewn s) true) g

-- requests

/-- A request joins those that wait; a write takes a buffer of its port, as it keeps its RwD credit (R193, R194, R307). -/
def wait (s : State) (r : Req) (why : WaitWhy) : State :=
  let s := if r.write then takeBuffers s (r.ld / 16) 1 else s
  { s with hl := { s.hl with waits := s.hl.waits ++ [{ r with why := why, at_ := now s }] } }

/-- Requests that no longer wait give back their port's buffers, and a stopped port may return credits again (R194, R307). -/
def freeWaits (s : State) (l : List Req) : State :=
  forEach [0, 1, 2, 3] s fun s p =>
    let n := (l.filter fun r => r.write && r.ld / 16 == p).length
    creditResume (if n = 0 then s else releaseBuffers s p n) p

/-- Group-relative index of a request's swatch. -/
def reqSwatch (r : Req) : Nat := r.addr / 4096

/-- Location table entry of a swatch (R156). -/
def locEntry (s : State) (sw : Nat) : Nat := Sparse.get (fun _ => 0) s.gen.loc sw

/-- A fetch of an ABSENT swatch starts, or a running one is raised to on-touch priority; an erase on its LUN is
suspended (R160, R161, R280). -/
def startFetch (s : State) (sw : Nat) (onTouch : Bool) : State :=
  let rs := s.gen.restore
  let running := rs.fetches.any fun f => f.swatch == sw
  let fs := if running then rs.fetches.map fun f => if f.swatch == sw then { f with onTouch := f.onTouch || onTouch } else f
    else rs.fetches ++ [{ swatch := sw, onTouch }]
  let s := { s with gen := { s.gen with restore := { rs with fetches := fs } } }
  let e := locEntry s sw
  if onTouch && e / 2 ^ 62 % 4 == 1 && !running then suspendErase s (lunOfBlk (locBlk e)) false else s

/-- The write commits (R42): its bytes, merged with the line for a partial write (R232), reach DRAM, and its completion
leaves the device. -/
def commit (s : State) (r : Req) : State :=
  let old := lineBytes s r.addr
  let data := if r.mask.isEmpty then r.data else mergeLine old (padTo 64 r.data) r.mask
  let poison := r.poison || (!r.mask.isEmpty && linePoison s r.addr)
  let s := hostWrite s r.ld r.win r.addr (padTo 64 data) poison (!r.mask.isEmpty)
  let gr := grp s r.g
  let s := setGrp s r.g { gr with wrBytes := addMs gr.wrBytes 64 }
  let v := winOf s r.win
  let s := setWin s r.win { v with wr := addMs v.wr 64 }
  let p := portOf s (r.ld / 16)
  let s := if p.stopped then setPort s (r.ld / 16) { p with unreturned := p.unreturned + 1 } else s
  respond s r.ld r.tag false [] false

/-- Copy-on-write (R98, R106): the tacked content goes to a slot; the entry becomes BOTH with the commit (R100). -/
def copyOnWrite (s : State) (g sw n : Nat) : State :=
  let was := freeSlots s
  let gr := grp s g
  let s := setGrp s g { gr with slots := gr.slots ++ [{ n, swatch := sw, page := readPage s sw }] }
  slotTaken (activatePage (setSt s g sw .both) sw) was

/-- Entries of a map line are uncorrectable, or one is in a state that R96 does not list (R97): a contained GENM error, and
the groups owning the line are no_baste until the line is rebuilt. -/
def mapFault (s : State) (g : Nat) : State := setGrp (report s Pg.genm 16 0) g { grp s g with mapBad := true }

/-- An earlier request for the same swatch waits for a slot: a write queues behind it (R99). -/
def slotAhead (s : State) (sw : Nat) : Bool := s.hl.waits.any fun r => r.why == .slot && reqSwatch r == sw

/-- A request of a swatch that is ABSENT waits: for the group's rebuild, or for a fetch (R160, R166). -/
def absentWait (s : State) (r : Req) : State :=
  if ((grp s r.g).unpick.map (·.phase)) = some 2 then wait s r .rebuild
  else startFetch (wait s r .fetch) (reqSwatch r) true

/-- A write has no slot (R108): counted, lining_stall and source 252 once; a write that waited already goes on waiting,
its time running on. -/
def slotStall (s : State) (r : Req) (again : Bool) : State :=
  if again then
    let s := wait s r .slot
    { s with hl := { s.hl with waits := s.hl.waits.map fun q =>
      if q.ld == r.ld && q.tag == r.tag && q.why == .slot then { q with at_ := r.at_ } else q } }
  else pace (report (addSat (wait s r .slot) Reg.genmCowStalls 0 32 1) Pg.genm 20 0) r.g

/-- A write meets its swatch's map entry (R98, R99, R108); `again` tells that it has waited for a slot before. A write to a
swatch whose entry R96 does not list commits and leaves the entry as it is (R97, log entry 123). -/
def writeEntry (s : State) (r : Req) (again : Bool) : State :=
  let sw := reqSwatch r
  if queueWaits s r.addr true then wait s r .dram
  else
  let s := mapAccess (touchLine s sw)
  if slotAhead s sw then slotStall s r again
  else
    match stOf s r.g sw with
    | .absent => absentWait s r
    | .opened | .both => pace (commit s r) r.g
    | .tacked =>
      match takeSlot s (sliceOf s sw) with
      | some n => pace (commit (openSwatch (copyOnWrite s r.g sw n) r.g) r) r.g
      | none => slotStall s r again
    | .clean => pace (commit (openSwatch (setSt s r.g sw .opened) r.g) r) r.g
    | .bad => pace (commit (mapFault s r.g) r) r.g

/-- A window's bucket fills at its credit rate, up to 4,096 bytes, in whole bytes (R193). -/
def fillBucket (s : State) (w : Nat) : State :=
  let v := winOf s w
  let n := v.rate * (now s - v.filledAt) / 32768
  if n = 0 then s else setWin s w { v with bucket := min 4096 (v.bucket + n), filledAt := now s }

/-- A write under enforcement without 64 bytes in its window's bucket, or behind held ones, is held (R193); one that
reaches a quiesced group waits for the quiesce's end (R196). -/
def serveWrite (s : State) (r : Req) : State :=
  if (grp s r.g).quiesced then creditStop (wait s r .quiesce) (r.ld / 16)
  else
    let s := fillBucket s r.win
    let v := winOf s r.win
    if (winEnforced s r.win && decide (v.bucket < 64)) || decide (0 < heldOf s r.win) then
      creditStop (wait s r .hold) (r.ld / 16)
    else
      let s := if winEnforced s r.win then setWin s r.win { v with bucket := v.bucket - 64 } else s
      writeEntry s r false

/-- A read meets its swatch's map entry: only ABSENT holds it back (R98), or a full queue (R229). -/
def readEntry (s : State) (r : Req) : State :=
  let sw := reqSwatch r
  if queueWaits s r.addr false then wait s r .dram
  else
  let s := mapAccess (touchLine s sw)
  match stOf s r.g sw with
  | .absent => absentWait s r
  | .bad => hostRead (mapFault s r.g) r.ld r.tag r.win r.addr
  | _ => hostRead s r.ld r.tag r.win r.addr

/-- Requests that wait for a reason are served again, in order of arrival. -/
def retryWaits (s : State) (p : Req → Bool) : State :=
  let l := s.hl.waits.filter p
  let s := { s with hl := { s.hl with waits := s.hl.waits.filter fun r => !p r } }
  forEach l s fun s r =>
    if r.write then creditResume (writeEntry (releaseBuffers s (r.ld / 16) 1) r (r.why == .slot)) (r.ld / 16) else readEntry s r

/-- Writes that waited for a slot go on, as far as slots are free (R108). -/
def retrySlots (s : State) : State :=
  if s.hl.waits.any fun r => r.why == .slot then retryWaits s fun r => r.why == .slot else s

/-- An offline or unmapped access raises its port's source at most once in a millisecond (R219). -/
def raise40 (s : State) (port : Nat) : State :=
  let v := portOf s port
  if msSince s v.last40 then icu (setPort s port { v with last40 := some (now s) }) (40 + port) else s

/-- An access answered as offline: zeros with poison, or discarded with a normal completion (R187). -/
def answerOffline (s : State) (ld tag : Nat) (write : Bool) : State :=
  if write then
    respond { s with hl := { s.hl with offlineWrites := (s.hl.offlineWrites + 1) % 2 ^ 32 } } ld tag false [] false
  else respond s ld tag true (zeros 64) true

/-- An access to a DPA in no valid window (R188). -/
def unmapped (s : State) (ld tag : Nat) (write : Bool) : State :=
  raise40 (answerOffline (hlCount s Reg.hlUnmapped (ld / 16)) ld tag write) (ld / 16)

/-- An access to an offline window (R187): counted in the window's entry too. -/
def offlineAccess (s : State) (ld tag w : Nat) (write : Bool) : State :=
  let s := setWinWord s w 5 (wrapFld (winWord s w 5) 16 16 1)
  raise40 (answerOffline (hlCount s Reg.hlOfflineAcc (ld / 16)) ld tag write) (ld / 16)

/-- CXL.mem requests of a port that are in the device: those that wait, and the queued reads. -/
def outstanding (s : State) (p : Nat) : Nat :=
  (s.hl.waits.filter fun r => r.ld / 16 == p).length +
    (s.dram.chs.map fun e => ((e.2.qa ++ e.2.qb).filter fun q => !q.write && q.ld / 16 == p).length).sum

/-- A port with a window of a group that has ABSENT swatches has touch_limit requests outstanding (R162). -/
def touchFull (s : State) (p : Nat) : Bool :=
  decide (0 < absentCount s) && decide (s.gen.restore.limit ≤ outstanding s p) &&
    (validWins s).any fun w => winLd s w / 16 == p && groupAbsent s (winGroup s w)

/-- A port takes a CXL.mem request: the link is enabled (R30), the pool grants a buffer (R308), the port's touch limit has
room (R162), and a write has an RwD credit (R194). A request it does not take stays with the host and changes nothing. -/
def takes (s : State) (ld : Nat) (write : Bool) : Bool :=
  enabled s (Pg.hl0 + ld / 32) && mayTake s (ld / 16) 1 && !touchFull s (ld / 16) &&
    (!write || decide (creditsOut s (ld / 16) < 256))

/-- A request of a logical device at a host address: its window, or the answer of R187 or R188 (R182). -/
def route (s : State) (ld hpa tag : Nat) (write : Bool) (k : Nat → Nat → State) : State :=
  match hdmDpa (ldOf s ld).hdm hpa with
  | none => unmapped s ld tag write
  | some dpa =>
    match winFor s ld dpa with
    | none => unmapped s ld tag write
    | some w => if winOnline s w then k w dpa else offlineAccess s ld tag w write

end Sys2Proof.Machine
end

