-- ==== Sys2Proof/Machine/GenOps.lean ====
section
/-! DEFINITION. Mailbox replies (R82, R201); generations of a group: lineages (R74), tacks (R41, R47, R58 to R62),
reclaim (R65 to R68), basting conditions (R110), parts, seals and records (R113 to R120, R122), quiesce and unpick
(R69 to R72, R75), group keys (R77 to R81, R91). -/

namespace Sys2Proof.Machine

open Bits

-- mailbox replies; the numbers of the return codes are those of the CXL specification (log entry 14)

def rcSuccess : Nat := 0
def rcBackground : Nat := 1
def rcInvalidInput : Nat := 2
def rcUnsupported : Nat := 3
def rcBusy : Nat := 6

/-- A command's reply. Results of a command whose function was reset while it ran are discarded (R209). -/
def reply (s : State) (ld rc : Nat) (out : List Byte) : State :=
  let v := ldOf s ld
  if v.discard then setLd s ld { v with discard := false }
  else setLd s ld { v with rc := rc, out := out, replies := v.replies + 1 }

def replyOk (s : State) (ld : Nat) (out : List Byte) : State := reply s ld rcSuccess out
def replyBad (s : State) (ld : Nat) : State := reply s ld rcInvalidInput []

/-- A reply of 4 bytes with a code in byte 0 (R83). -/
def replyCode (s : State) (ld code : Nat) : State := replyOk s ld (leBytes 4 code)

/-- A background command starts; a second one of the logical device is Busy (R201). -/
def startBg (s : State) (ld opcode : Nat) (f : State → State) : State :=
  let v := ldOf s ld
  if v.bg.isSome then reply s ld rcBusy []
  else f (reply (setLd s ld { v with bg := some opcode, bgPct := 0 }) ld rcBackground [])

/-- The background command of a logical device ends. -/
def endBg (s : State) (ld : Option Nat) (rc : Nat) (out : List Byte) : State :=
  match ld with
  | none => s
  | some ld => setLd s ld { ldOf s ld with bg := none, bgRc := rc, bgPct := 100, out := out }

-- outcome codes (R57)

def oTAKEN : Nat := 0x00
def oQUEUED : Nat := 0x01
def oTACK_BUSY : Nat := 0x02
def oHEM_ACTIVE : Nat := 0x03
def oUNPICK_ACTIVE : Nat := 0x04
def oSYNC_ARMED : Nat := 0x05
def oNO_GROUP : Nat := 0x06
def oGROUP_LOCKED : Nat := 0x07
def oACCESS : Nat := 0x08
def oPERSIST_LOST : Nat := 0x09
def oNOT_RETAINED : Nat := 0x0A
def oPIN_LIMIT : Nat := 0x0B
def oQUIESCE_REQUIRED : Nat := 0x0C
def oSYNC_EXPIRED : Nat := 0x0D
def oBAD_KEY : Nat := 0x0E
def oKEY_LOCKOUT : Nat := 0x0F
def oPENDING_UNLOCK : Nat := 0x10
def oBRANCH_LIMIT : Nat := 0x11
def oSYNC_LINE_LOW : Nat := 0x12

-- generations of a group

def genOf (gr : Group) (n : Nat) : Option GenRec := gr.gens.find? fun r => r.num == n

/-- Changes a group's generation. -/
def modGen (s : State) (g n : Nat) (f : GenRec → GenRec) : State :=
  let gr := grp s g
  setGrp s g { gr with gens := gr.gens.map fun r => if r.num == n then f r else r }

/-- The unsewn tacked generation of a group: tacked, basting or sealing (R59). -/
def tackedGen (gr : Group) : Option GenRec := gr.gens.find? fun r => decide (1 ≤ r.st ∧ r.st ≤ 3)

/-- Sewn or retained: durable (R64). -/
def durable (r : GenRec) : Bool := decide (4 ≤ r.st)

/-- Generations from `n` down its lineage, newest first (R74). -/
def chainFrom (gens : List GenRec) : Nat → Nat → List GenRec
  | 0, _ => []
  | k + 1, n =>
    match gens.find? fun r => r.num == n with
    | none => []
    | some r => r :: chainFrom gens k r.prev

/-- The current lineage below the open generation, newest first. -/
def chain (gr : Group) : List GenRec := chainFrom gr.gens (gr.gens.length + 1) gr.base

/-- Newest sewn generation on the current lineage, 0 if none (R49). -/
def sewnNum (gr : Group) : Nat := (((chain gr).find? durable).map (·.num)).getD 0

/-- Lineage numbers that generations of the group carry, and how many lineages it has (R74). -/
def lineagesOf (gens : List GenRec) : List Nat := (gens.map (·.lineage)).eraseDups
def lineageCount (gr : Group) : Nat := max 1 (gr.lineage :: gr.gens.map (·.lineage)).eraseDups.length

/-- Restore has brought the map back; the sweep, or the verify of other groups, may still run (R62, R158, R176). -/
def restored (s : State) : Bool := decide (4 ≤ s.gen.restore.phase ∧ s.gen.restore.phase ≤ 6)

/-- Requests that a hem or restore refuses with HEM_ACTIVE (R62): for tacks the spec names the time before restore has
completed; for unpicks, quiesces and arms the model refuses then too (log entry 110). -/
def hemActive (s : State) : Bool := hemBusy s || !restored s

-- tacks

/-- A group's summary shows a resolved request (R49). -/
def postOutcome (s : State) (g code tag : Nat) : State := setGrp s g { grp s g with outcome := code, tag := tag }

/-- GEN_TACK_RESULT takes a management-path doorbell's result (R86). -/
def postResult (s : State) (g code tag : Nat) : State :=
  wr s Reg.genTackResult (wd (g + tag * 256 + code * 65536 + (rf s Reg.genTackResult 24 8 + 1) % 256 * 2 ^ 24))

/-- A resolved request of a path is posted; a refusal on the management path raises source 241 (R47, R92). -/
def resolve (s : State) (g code : Nat) (r : TackReq) : State :=
  let s := postOutcome s g code r.tag
  if r.path = .mgmt then
    let s := postResult s g code r.tag
    if code = oTAKEN ∨ code = oQUEUED then s else icu s 241
  else s

/-- The ordering point (R41, R64): the parity flips, the open generation is tacked and the next number opens; OPEN
entries read as TACKED. -/
def orderingPoint (s : State) (g : Nat) (r : TackReq) : State :=
  let gr := grp s g
  let n := gr.highest + 1
  let rec_ : GenRec := { num := gr.openGen, lineage := gr.lineage, prev := gr.base, secs := seconds s, ticks := ticks s, swatches := gr.openCount }
  let s := setGrp s g { gr with
    parity := !gr.parity
    gens := gr.gens ++ [rec_]
    base := gr.openGen
    openGen := n
    highest := n
    pending := gr.openCount
    openCount := 0
    queued := none }
  let s := addWide s Reg.genTackTotalLo Reg.genTackTotalHi 1
  let s := resolve s g oTAKEN r
  pace (if r.path = .doorbell ∨ r.path = .sync then s else icu s 240) g

/-- The first condition of R58 that refuses a tack. An unpick counts as running until the table rebuild of R166 has ended
(log entry 110). -/
def tackRefusal (s : State) (g : Nat) : Option Nat :=
  let gr := grp s g
  if !grpEnabled s g then some oNO_GROUP
  else if hemActive s then some oHEM_ACTIVE
  else if persistLost s then some oPERSIST_LOST
  else if grpLocked s g then some oGROUP_LOCKED
  else if gr.quiesced || gr.unpick.isSome then some oUNPICK_ACTIVE
  else if gr.armed then some oSYNC_ARMED
  else none

/-- A group shows ring_blocked (R49, R68). -/
def ringFlag (gr : Group) : Bool := gr.ringBlocked || gr.spaceBlocked

/-- How a tack would be resolved (R58, R59). -/
def tackOutcome (s : State) (g : Nat) : Nat :=
  match tackRefusal s g with
  | some c => c
  | none =>
    let gr := grp s g
    if (tackedGen gr).isNone then oTAKEN else if gr.queued.isNone then oQUEUED else oTACK_BUSY

/-- A tack request of a group is resolved (R47, R58, R59). With GEN not enabled it takes no request (R30, log entry 124). -/
def tack (s : State) (g : Nat) (r : TackReq) : State :=
  let o := tackOutcome s g
  if !enabled s Pg.gen then s
  else if o = oTAKEN then orderingPoint s g r
  else if o = oQUEUED then resolve (setGrp s g { grp s g with queued := some r }) g oQUEUED r
  else resolve s g o r

/-- A queued tack takes its ordering point once no tacked generation is unsewn (R60); an arm waits for no tack. -/
def runQueued (s : State) (g : Nat) : State :=
  match (grp s g).queued with
  | none => s
  | some r => if (tackedGen (grp s g)).isNone then orderingPoint s g r else s

-- references and reclaim (R65 to R68)

/-- Locations that some generation's delta lists. -/
def listedLocs (s : State) : List Nat := s.gen.groups.flatMap fun e => e.2.gens.flatMap fun r => r.delta.map (·.loc)

/-- A superseded page whose replacing generation is not yet verified is kept (R67, R121). -/
def awaitsVerify (s : State) (c : Codeword) : Bool :=
  (grp s c.g).gens.any fun r => decide (c.gen < r.num) && durable r && !r.verified && r.delta.any fun d => d.idx == c.idx

/-- Pages that nothing lists any more are freed; bands left empty are erased (R67, R292). -/
def freeUnused (s : State) : State :=
  let live := listedLocs s
  let s := { s with gen := { s.gen with cw := s.gen.cw.filter fun e => live.contains e.1 || awaitsVerify s e.2 } }
  let bands := ((s.fst.blocks.filter fun e => e.2.cls == .closed).map fun e => blkBand e.1).eraseDups
  forEach bands s fun s b => if bandUsed s b then s else eraseBand s b

/-- Delta entries of a reclaimed generation that a child still reads go into the child (R67). -/
def foldInto (from_ : GenRec) (r : GenRec) : GenRec :=
  if r.prev = from_.num then
    let keep := from_.delta.filter fun d => !r.delta.any fun e => e.idx == d.idx
    { r with
      prev := from_.prev
      delta := r.delta ++ keep
      damaged := r.damaged ++ from_.damaged.filter fun i => keep.any fun d => d.idx == i }
  else r

/-- The newest checkpoint of a lineage among durable generations and kept parts, 0 if none (R115). -/
def lastCkpt (gr : Group) (lin : Nat) : Nat :=
  let a := (gr.gens.filter fun r => durable r && r.ckpt && r.lineage == lin).map (·.num)
  let b := (gr.keptParts.filter fun k => k.ckpt && k.lineage == lin).map (·.num)
  (a ++ b).foldl max 0

/-- The parts of a generation that is reclaimed stay while it is the newest checkpoint of its lineage or newer than that
(R115). -/
def keepParts (gr : Group) (r : GenRec) : List KeptParts :=
  let c := lastCkpt gr r.lineage
  if c ≠ 0 ∧ c ≤ r.num then
    gr.keptParts ++ [{ num := r.num, lineage := r.lineage, ckpt := r.ckpt, locs := r.locs }]
  else gr.keptParts

/-- Kept parts older than a newer checkpoint of their lineage are let go (R115). -/
def dropParts (gr : Group) : List KeptParts := gr.keptParts.filter fun k => decide (lastCkpt gr k.lineage ≤ k.num)

/-- Reclaims a generation of a group: its ring is no longer blocked, and a device-wide block ends (R68). -/
def reclaim (s : State) (g n : Nat) : State :=
  let gr := grp s g
  match genOf gr n with
  | none => s
  | some r =>
    let s := setGrp s g { gr with
      gens := (gr.gens.filter fun e => e.num != n).map (foldInto r)
      keptParts := keepParts gr r
      ringBlocked := false }
    forEach ((s.gen.groups.filter fun e => e.2.spaceBlocked).map Prod.fst) s fun s h =>
      setGrp s h { grp s h with spaceBlocked := false }

/-- An older version of a swatch that a later generation holds damaged is kept from reclaim (R122). -/
def keptForDamage (gr : Group) (r : GenRec) : Bool :=
  gr.gens.any fun d => decide (r.num < d.num) && d.damaged.any fun i => r.delta.any fun e => e.idx == i

/-- Unpinned retained generations of a group, but for the newest sewn one of its current lineage (R65) and the target of an
unpick that has been validated (R72). -/
def reclaimable (gr : Group) : List GenRec :=
  gr.gens.filter fun r => r.st == 5 && !r.pinned && r.num != sewnNum gr && !keptForDamage gr r &&
    !(gr.unpick.any fun u => u.phase != 0 && u.target == r.num)

/-- The earlier ordering point (R65). -/
def earlier (a b : GenRec) : Bool := decide (a.secs < b.secs) || (a.secs == b.secs && decide (a.ticks < b.ticks))

/-- ring_blocked of a group is set, by its own ring or by the store's demand; logged once (R68, source 246). -/
def setRingBlocked (s : State) (g : Nat) (wide : Bool) : State :=
  let gr := grp s g
  let t := if wide then setGrp s g { gr with spaceBlocked := true } else setGrp s g { gr with ringBlocked := true }
  if ringFlag gr then t else report t Pg.gen 16 0

/-- Generations in the ring: sewn and retained (R65). -/
def ringCount (gr : Group) : Nat := (gr.gens.filter durable).length

/-- A group's own ring gives up its excess, oldest first (R65, R66, R68). -/
def trimRing (s : State) (g : Nat) : State :=
  let excess := ringCount (grp s g) - (grp s g).ringSize
  let s := forEach (List.range excess) s fun s _ =>
    match minBy earlier (reclaimable (grp s g)) with
    | some r => reclaim s g r.num
    | none => setRingBlocked s g false
  if excess = 0 then s else freeUnused s

/-- A capture or program of the group's tacked generation is held while the store refuses stream-0 codewords (R68, R278):
one of its programs waits, or it bastes with swatches still to capture. -/
def waitsSpace (s : State) (g : Nat) : Bool :=
  (s.gen.progs.any fun p => p.g == g && p.use == 0) ||
    (tackedGen (grp s g)).any fun r => r.st == 2 && decide (0 < (grp s g).pending)

/-- The generations that a demand of the store may reclaim, with their groups, in group order (R65). -/
def reclaimableAll (s : State) : List (Nat × GenRec) :=
  s.gen.groups.flatMap fun e => (reclaimable e.2).map fun r => (e.1, r)

/-- The store's demand finds nothing to give up: groups whose basting waits for flash space are ring_blocked, and a group
that reaches the wait later is set when it does (R68). -/
def blockWaiting (s : State) : State :=
  if s.fst.demand && s.fst.stopped && (reclaimableAll s).isEmpty then
    forEach ((enabledGroups s).filter (waitsSpace s)) s fun s g =>
      if (grp s g).spaceBlocked then s else setRingBlocked s g true
  else s

/-- The store's demand: the oldest reclaimable generation of all groups, in group order among equals (R65, R68). -/
def reclaimStore (s : State) : State :=
  if s.fst.demand then
    match minBy (fun a b => earlier a.2 b.2) (reclaimableAll s) with
    | some (g, r) => freeUnused (reclaim s g r.num)
    | none => blockWaiting s
  else s

-- basting (R110)

/-- A group is no_baste (R49, R110). -/
def noBaste (s : State) (g : Nat) : Bool :=
  let gr := grp s g
  persistLost s || !windowOpen s || ringFlag gr || gr.sealExhausted || grpLocked s g || gr.mapBad

-- sealing (R112, R113, R115, R117, R118)

/-- Parts that a delta of n entries fills (R113). -/
def partsOf (n : Nat) : Nat := (n + 4091) / 4092

/-- A checkpoint is due with a generation (R115): since the last one the deltas, its own included, list more than half the
group's swatches, or 1,024 generations of the lineage have been sewn. -/
def checkpointDue (s : State) (g : Nat) : Bool :=
  let since := (chain (grp s g)).takeWhile fun r => !r.ckpt
  let size := ((winsOf s g).map fun w => winSize s w * 2 ^ 18).sum
  decide (size < 2 * (since.map fun r => r.delta.length).sum) || decide (1024 ≤ (since.filter durable).length)

/-- The generation on a chain that holds a swatch's newest version, with its delta entry. -/
def versionOf (l : List GenRec) (idx : Nat) : Option (GenRec × DeltaEntry) :=
  l.findSome? fun r => (r.delta.find? fun d => d.idx == idx).map fun d => (r, d)

/-- Entries of a checkpoint on a chain: every swatch whose newest version is in flash (R115). -/
def ckptEntries (l : List GenRec) : List DeltaEntry :=
  ((l.flatMap fun r => r.delta.map (·.idx)).eraseDups).filterMap fun i => (versionOf l i).map Prod.snd

/-- Delta parts and checkpoint parts of a generation (R113, R115). -/
def allParts (r : GenRec) : Nat := r.parts + partsOf r.ckptDelta.length

/-- Every delta and checkpoint part has matched: the seal is written (R117); not while a map line of the group is
uncorrectable (R97). -/
def trySeal (s : State) (g n : Nat) : State :=
  if (grp s g).mapBad then s
  else modGen s g n fun r =>
    if r.st = 3 ∧ r.lastPart ∧ (List.range (allParts r)).all (fun p => r.matched.contains p) = true then { r with sealWritten := true } else r

/-- The pending count is 0 in basting: the last part and a due checkpoint are written, the generation seals (R64, R112). -/
def trySealing (s : State) (g : Nat) : State :=
  let gr := grp s g
  match tackedGen gr with
  | none => s
  | some r =>
    if r.st = 2 ∧ gr.pending = 0 ∧ gr.mapBad = false then
      let ck := checkpointDue s g
      let es := if ck then ckptEntries (chain gr) else []
      let s := modGen s g r.num fun r => { r with st := 3, lastPart := true, ckpt := ck, ckptDelta := es, parts := partsOf r.delta.length }
      trySeal (intentFlushAll s) g r.num
    else s

/-- A read-back mismatch (R119): seal_mismatch, source 249; the location counts as a failed program. -/
def mismatch (s : State) (loc : Nat) : State := programFailed (report s Pg.genm 17 0) loc

/-- The unit that mismatched is written again, which counts (R119); after three mismatches in a row for a generation it is
not, and the group is seal_exhausted: the next rewrites are those of every 10 s (R120, source 250). -/
def countMismatch (s : State) (g n : Nat) : State :=
  let s := modGen s g n fun r => { r with mism := r.mism + 1 }
  match genOf (grp s g) n with
  | none => s
  | some r =>
    if r.mism < 3 then addSat s Reg.genmSealRetry 0 32 1
    else if (grp s g).sealExhausted then s
    else report (setGrp s g { grp s g with sealExhausted := true }) Pg.genm 18 0

/-- seal_exhausted of a group ends, by a retry that matches or with the generation itself: source 250, and with the last
group's the error clears (R120, R134). -/
def clearExhausted (s : State) (g : Nat) : State :=
  if (grp s g).sealExhausted then
    let s := icu (setGrp s g { grp s g with sealExhausted := false }) 250
    if s.gen.groups.any fun e => e.2.sealExhausted then s else errDrop s Pg.genm 18
  else s

/-- The seal has matched: sewn (R64, R117), the sewn generation before it retained; seal_exhausted ends; the ring is
trimmed, kept parts of an older checkpoint go (R115) and a queued tack proceeds (R60, R65, source 248). -/
def sewn (s : State) (g n : Nat) : State :=
  let older := ((chain (grp s g)).drop 1).map (·.num)
  let gr := grp s g
  let gens := gr.gens.map fun r =>
    if r.num = n then { r with st := 4, mism := 0 }
    else if r.st = 4 ∧ older.contains r.num = true then { r with st := 5 } else r
  let s := clearExhausted (icu (setGrp s g { gr with gens := gens }) 248) g
  let s := setGrp s g { grp s g with keptParts := dropParts (grp s g) }
  pace (runQueued (trimRing s g) g) g

/-- A damage record waits to be written for each generation that reads a bad page (R122). -/
def addRec (s : State) (g : Nat) (r : PendRec) : State :=
  let gr := grp s g
  setGrp s g { gr with recs := gr.recs ++ [r] }

/-- With no damage record waiting, the handling of verify_fail and of uncorrectable codewords has ended (R543). -/
def endDamage (s : State) : State :=
  if s.gen.groups.any fun e => e.2.recs.any fun r => r.kind == 4 then s
  else { s with flt := { s.flt with handling := s.flt.handling.filter fun h =>
      !(h.1 == Pg.genm && h.2.2 == 19) && !(decide (0x40 ≤ h.1 ∧ h.1 < 0x60) && h.2.2 == 18) } }

/-- A page of a generation cannot be recovered or fails its CRC (R122): verify_fail, source 258, and a damage record. -/
def verifyFail (s : State) (g n idx : Nat) : State :=
  let s := report s Pg.genm 19 0
  let gens := (grp s g).gens
  let readers := gens.filter fun r =>
    durable r && (versionOf (chainFrom gens (gens.length + 1) r.num) idx).any fun v => v.1.num == n
  endDamage (forEach readers s fun s r => addRec s g { kind := 4, gen := r.num, arg := idx })

-- programs of pages (R112, R114)

/-- A program of a captured swatch is handed to the store, in 16 staging buffers (R112, R307). -/
def addProg (s : State) (p : Prog) : State :=
  let s := if p.use = 1 then s else takeBuffers s 6 16
  { s with gen := { s.gen with progs := s.gen.progs ++ [{ p with id := s.gen.progId }], progId := s.gen.progId + 1 } }

/-- Group-relative index of a swatch of a group. -/
def relIdx (s : State) (sw : Nat) : Nat := ((swatchWin s sw).map fun w => swatchIdx s w sw).getD 0

/-- A generation's delta takes an entry; one generation lists each swatch once (R114). -/
def addDelta (s : State) (g n : Nat) (d : DeltaEntry) : State :=
  modGen s g n fun r => { r with delta := (r.delta.filter fun e => e.idx != d.idx) ++ [d] }

/-- The page is stored at its location, encrypted under the group's key (R76, R270). -/
def storePage (s : State) (loc : Nat) (p : Prog) : State :=
  let lin := ((genOf (grp s p.g) p.gen).map (·.lineage)).getD 0
  let c : Codeword := { g := p.g, idx := p.idx, gen := p.gen, lineage := lin, wseq := s.fst.wseq, key := (grp s p.g).key.getD 0, page := p.page }
  { s with gen := { s.gen with cw := (s.gen.cw.filter fun e => e.1 != loc) ++ [(loc, c)] } }

/-- CRC-32C of a page's plaintext (R114). -/
def pageCrc (p : Page) : Nat := (crc32c (pageBytes p)).toNat

-- the image of a group and its location table (R156, R157)

/-- Location table entry of a version (R156): kind 2 for a damaged one. -/
def locOfVersion (v : GenRec × DeltaEntry) : Nat :=
  if v.1.damaged.contains v.2.idx then v.1.num % 2 ^ 48 + 2 * 2 ^ 62 else v.2.loc % 2 ^ 62 + 2 ^ 62

/-- The location table of a group is built against its current lineage (R157, R166). -/
def rebuildLoc (s : State) (g : Nat) : State :=
  let l := (chain (grp s g)).filter fun r => decide (3 ≤ r.st)
  let idxs := (l.flatMap fun r => r.delta.map (·.idx)).eraseDups
  let s := { s with gen := { s.gen with loc := Sparse.keep (fun sw => !inGroup s g sw) s.gen.loc } }
  forEach idxs s fun s i =>
    match idxSwatch s g i, versionOf l i with
    | some sw, some v => { s with gen := { s.gen with loc := Sparse.set (fun _ => 0) s.gen.loc sw (locOfVersion v) } }
    | _, _ => s

-- discard of unsewn data (R72, R107)

/-- Slots, staging buffers and counts of a group return (R107). A queued tack discarded here posts no outcome of its own (log
entry 110). -/
def dropUnsewn (s : State) (g : Nat) : State :=
  let gr := grp s g
  let s := setGrp s g { gr with slots := [], openCount := 0, pending := 0, queued := none }
  let rel := match s.gen.relief with
    | some (h, x) => if h = g then none else some (h, x)
    | none => none
  let mine := (s.gen.progs.filter fun p => p.g == g && p.use != 1).length
  let s := if mine = 0 then s else releaseBuffers s 6 (16 * mine)
  let s := if s.gen.relief.isSome && rel.isNone then releaseBuffers s 7 16 else s
  { s with gen := { s.gen with progs := s.gen.progs.filter fun p => p.g != g, relief := rel } }

-- arms (R52, R53)

/-- Groups that are armed. -/
def armedGroups (s : State) : List Nat := s.gen.groups.filterMap fun e => if e.2.armed then some e.1 else none

/-- The arm ends for every group, which takes an outcome where one is given (R53). -/
def disarm (s : State) (code : Option Nat) : State :=
  let tag := s.gen.sync.tag
  let s := forEach (armedGroups s) s fun s g =>
    let s := setGrp s g { grp s g with armed := false }
    match code with
    | some c => postOutcome s g c tag
    | none => s
  let s := { s with gen := { s.gen with sync := { s.gen.sync with armed := false } } }
  wrB s Reg.genSyncCtrl 0 false

-- quiesce (R69, R70)

/-- The management path shows an outcome in GEN_GEN_STATUS; a mailbox command gets its reply (R85, R83). -/
def finish (s : State) (ld : Option Nat) (code count : Nat) (out : List Byte) : State :=
  match ld with
  | some ld => replyOk s ld out
  | none => wr s Reg.genGenStatus (wd (code * 256 + min count 65535 * 65536))

/-- The same with a 4-byte reply. -/
def finishCode (s : State) (ld : Option Nat) (code : Nat) : State := finish s ld code 0 (leBytes 4 code)

/-- The 16-byte output of Unpick Group (R83). -/
def unpickOut (code open_ count : Nat) : List Byte := leBytes 4 code ++ leBytes 6 open_ ++ zeros 2 ++ leBytes 4 count

/-- The quiesce ends: reason UNPICK ends, and the writes it held commit (R196). -/
def endQuiesce (s : State) (g : Nat) : State :=
  let gr := grp s g
  let s := setGrp s g { gr with
    quiesced := false
    quiesceLd := none
    quiesceDrained := false
    pacing := gr.pacing.filter fun r => r.reason != 6 }
  retryWaits (updateRates s g) fun r => r.why == .quiesce && r.g == g

/-- What refuses a quiesce, a release or an unpick in common (R71). -/
def groupRefusal (s : State) (g : Nat) : Option Nat :=
  if !grpEnabled s g then some oNO_GROUP else if hemActive s then some oHEM_ACTIVE else none

/-- A quiesce begins (R70): reason UNPICK with rate 0, enforced at once. -/
def beginQuiesce (s : State) (g : Nat) (ld : Option Nat) : State :=
  let gr := grp s g
  let s := setGrp s g { gr with
    quiesced := true
    quiesceLd := ld
    quiesceDrained := false
    pacing := gr.pacing ++ [{ reason := 6, posted := now s, target := 0, graceOver := true, enforced := true }]
    paceEvents := if gr.pacing.any (·.enforced) then gr.paceEvents else (gr.paceEvents + 1) % 65536 }
  icu (icu (updateRates s g) 254) 255

-- unpick (R71, R72, R74)

/-- A generation descends from T. -/
def descends (gr : Group) (t : Nat) (r : GenRec) : Bool :=
  r.num != t && (chainFrom gr.gens (gr.gens.length + 1) r.num).any fun e => e.num == t

/-- Generations an unpick to T keeps. -/
def keptBy (gr : Group) (t : Nat) : List GenRec :=
  gr.gens.filter fun r => durable r && (!descends gr t r || r.pinned)

/-- Lineage of the generation that opens on T (R74). -/
def unpickLineage (gr : Group) (t : Nat) : Nat :=
  let kept := keptBy gr t
  let tl := ((genOf gr t).map (·.lineage)).getD 0
  if kept.any fun r => decide (t < r.num) && r.lineage == tl then
    ((List.range 9).find? fun k => !(lineagesOf kept).contains k).getD 8
  else tl

/-- Unsewn generations and unpinned descendants of T, the open one included (R72). -/
def discarded (gr : Group) (t : Nat) : Nat := gr.gens.length + 1 - (keptBy gr t).length

/-- The first row of R71 that resolves an unpick, PENDING_UNLOCK included; none: it runs. The time before restore has
completed counts as a hem in progress (log entry 110). -/
def unpickRefusal (s : State) (g t : Nat) : Option Nat :=
  let gr := grp s g
  if !grpEnabled s g then some oNO_GROUP
  else if hemActive s then some oHEM_ACTIVE
  else if persistLost s then some oPERSIST_LOST
  else if gr.unpick.isSome then some oUNPICK_ACTIVE
  else if !gr.quiesced then some oQUIESCE_REQUIRED
  else if !((genOf gr t).any durable) then some oNOT_RETAINED
  else if unpickLineage gr t = 8 then some oBRANCH_LIMIT
  else if grpLocked s g then some oPENDING_UNLOCK
  else none

/-- The discards of a committed unpick, the new base and the new open generation (R72, R74). A kept generation whose
predecessor is discarded reads through the next kept one. -/
def unpickDiscard (s : State) (g t : Nat) : State :=
  let gr := grp s g
  let lin := unpickLineage gr t
  let drop := (gr.gens.filter fun r => !(keptBy gr t).any fun k => k.num == r.num)
  let gens := drop.foldr (fun d l => l.map (foldInto d)) (keptBy gr t)
  let n := gr.highest + 1
  let s := clearExhausted (dropUnsewn s g) g
  let gr := grp s g
  setGrp s g { gr with gens := gens, base := t, lineage := lin, openGen := n, highest := n, mapBad := false }

-- keys (R77 to R81, R91)

/-- Requests that need a key while the tests run wait for their end (R91). -/
def keysBusy (s : State) : Bool := s.gen.selftestBusy

/-- Draws a group key from the DRBG (R77): key n is its draw n, the key material `Config.drbgKey n`. None is drawn while the
KEY block is not healthy; while the tests run the draw waits for their end (R91). -/
def drawKey (s : State) (g : Nat) : State :=
  if keyHealthy s && !keysBusy s then
    let k := s.gen.nextKey + 1
    let s := { s with gen := { s.gen with nextKey := k } }
    setGrp s g { grp s g with key := some k, wrapped := some { key := k, wrap := 0 }, hostMode := false }
  else s

/-- Wrapping key of a host secret (R77). -/
def wrapOf (secret : List Byte) : Nat := 1 + Config.hostWrapKey secret

/-- A wrong secret counts; the tenth in a row locks out until a power cycle (R79, source 247). -/
def badSecret (s : State) (g : Nat) : State × Nat :=
  let gr := grp s g
  let n := gr.fails + 1
  if 10 ≤ n then (icu (setGrp s g { gr with fails := 10, lockout := true }) 247, oKEY_LOCKOUT)
  else (setGrp s g { gr with fails := n }, oBAD_KEY)

/-- The group's windows are filled with zeros and its map is CLEAN (R39, R81). -/
def zeroGroup (s : State) (g : Nat) : State :=
  let s := forEach (winsOf s g) s fun s w => zeroRange s (winDramBase s w * 2 ^ 30) (winSize s w * 2 ^ 30)
  markClean s g

/-- A group is enabled (R39): zero-filled, generation 1 open on the base image, its key drawn; source 45. -/
def enableGroup (s : State) (g : Nat) : State :=
  let s := zeroGroup s g
  let old := grp s g
  let s := setGrp s g { openGen := 1, highest := 1, online := hemSpaceOk s, ringSize := old.ringSize, fails := old.fails, lockout := old.lockout }
  noteReasons (icu (drawKey s g) 45)

/-- A group is erased (R81): key destroyed, every generation discarded, zero-filled, a new key, H + 1 on zeros. Until the
wrapped new key has been written and read back, a hem cut leaves the group erased (keyPending). The new key is one of auto
mode, and the quiesce goes on (log entry 112). -/
def eraseGroup (s : State) (g : Nat) : State :=
  let s := clearExhausted (zeroGroup (dropUnsewn s g) g) g
  let gr := grp s g
  let n := gr.highest + 1
  let s := setGrp s g { gr with
    gens := []
    recs := []
    base := 0
    lineage := 0
    openGen := n
    highest := n
    key := none
    wrapped := none
    hostMode := false
    keyPending := true
    keptParts := []
    mustVerify := false
    incomplete := false
    online := hemSpaceOk s
    mapBad := false
    ringBlocked := false
    spaceBlocked := false
    unpick := none }
  freeUnused (drawKey s g)

end Sys2Proof.Machine
end

