-- ==== Sys2Proof/Machine/CflOps.lean ====
section
/-! DEFINITION. The code flash: its content, its operations by bank (R406 to R411), and the dump slot (R456,
R510, R514). Addresses are byte addresses in the 64 MiB of the four banks. -/

namespace Sys2Proof.Machine

open Bits

/-- What an erased byte reads as. -/
def cflBlank : Nat → Byte := fun _ => 0xFF#8

/-- Bytes of the code flash as they were last left. -/
def cflBytes (s : State) (a n : Nat) : List Byte := Sparse.getList cflBlank s.cfl.mem a n

/-- Whether an address lies in a unit that a cut-short or failed operation left undefined (R411). -/
def cflUndef (s : State) (a : Nat) : Bool := s.cfl.undef.any fun u => decide (u.1 ≤ a) && decide (a < u.1 + u.2)

/-- Reads bytes; an undefined unit gives a free value on each read (R411). -/
def cflRead (s : State) (a n : Nat) : List Byte :=
  (List.range n).map fun i =>
    if cflUndef s (a + i) then (Config.freeWord (s.free + i)).truncate 8 else Sparse.get cflBlank s.cfl.mem (a + i)

/-- The state after a read of `n` bytes: one free value is used for each byte. -/
def cflReadUse (s : State) (n : Nat) : State := { s with free := s.free + n }

/-- A program can only clear bits (R408). -/
def cflProgram (s : State) (a : Nat) (bs : List Byte) : State :=
  let old := cflBytes s a bs.length
  { s with cfl := { s.cfl with mem := Sparse.setList cflBlank s.cfl.mem a (List.zipWith (· &&& ·) old bs) } }

/-- Every byte of the range reads erased. -/
def cflErase (s : State) (a n : Nat) : State :=
  { s with cfl := { s.cfl with
      mem := Sparse.keep (fun k => !(decide (a ≤ k) && decide (k < a + n))) s.cfl.mem
      undef := s.cfl.undef.filter fun u => !(decide (a ≤ u.1) && decide (u.1 + u.2 ≤ a + n)) } }

/-- The range becomes undefined (R411). -/
def cflSpoil (s : State) (a n : Nat) : State :=
  { s with cfl := { s.cfl with undef := (a, n) :: s.cfl.undef.filter (· != (a, n)) } }

/-- The range holds no programmed bit. -/
def cflIsBlank (s : State) (a n : Nat) : Bool :=
  (s.cfl.mem.all fun e => !(decide (a ≤ e.1) && decide (e.1 < a + n))) &&
    s.cfl.undef.all fun u => decide (u.1 + u.2 ≤ a) || decide (a + n ≤ u.1)

/-- The operation that runs in a bank. -/
def cflOp (s : State) (b : Nat) : Option CflOp := (s.cfl.ops.find? fun e => e.1 == b).map Prod.snd

def setCflOp (s : State) (b : Nat) (o : Option CflOp) : State :=
  let rest := s.cfl.ops.filter fun e => e.1 != b
  { s with cfl := { s.cfl with ops := match o with
      | none => rest
      | some o => rest ++ [(b, o)] } }

/-- A firmware operation is in progress (CFL_STATUS.busy). -/
def cflFwBusy (s : State) : Bool := s.cfl.ops.any fun e => e.2.req == .fw

/-- The program buffer (R430). -/
def cflBuf (s : State) : List Byte := (List.range 64).flatMap fun k => leBytes 4 (rd s (Reg.cflBuf k)).toNat

/-- Size of the unit an operation works on: a page to program, a sector else (R406). -/
def cflUnit (kind : Nat) : Nat := if kind = 1 then 256 else 4096

/-- Result of the last firmware operation (R408). -/
def cflResult (s : State) (bank code : Nat) : State := wrF (wrF s Reg.cflStatus 8 4 code) Reg.cflStatus 12 2 bank

/-- An operation ends early: its unit is undefined, and a firmware requester sees ABORTED (R411). -/
def cflAbort (s : State) (b : Nat) : State :=
  match cflOp s b with
  | none => s
  | some o =>
    let s := setCflOp s b none
    let s := if o.kind = 3 then s else cflSpoil s o.addr (cflUnit o.kind)
    if o.req == .fw then cflResult s b 7 else s

/-- All operations end early (R411). -/
def cflAbortAll (s : State) : State := forEach [0, 1, 2, 3] s cflAbort

-- the dump slot

/-- Address of the dump slot: the upper part of bank 2 (R456). -/
def dumpBase : Nat := 0x02C00000

/-- Size of the dump slot (R456, R517). -/
def dumpSize : Nat := 0x400000

/-- The header's CRC and every section CRC match (R511, R514). -/
def dumpComplete (s : State) : Bool :=
  let h := cflBytes s (dumpBase + 0x100) 256
  decide (leAt h 0 4 = 0x504D5544) && decide (leAt h 252 4 = (crc32c (h.take 252)).toNat) &&
    (List.range 8).all fun i =>
      let e := h.drop (32 + 16 * i)
      decide (byteAt e 0 = 0) ||
        decide (leAt e 12 4 = (crc32c (cflBytes s (dumpBase + leAt e 4 4) (leAt e 8 4))).toNat)

/-- Slot state: 0 empty, 1 present, 2 torn, 3 erasing (R514, R519). -/
def dumpState (s : State) : Nat :=
  if s.flt.erasing then 3
  else if cflIsBlank s dumpBase 256 then 0
  else if s.cfl.undef.all (fun u => decide (u.1 + u.2 ≤ dumpBase) || decide (dumpBase + dumpSize ≤ u.1)) && dumpComplete s
  then 1 else 2

end Sys2Proof.Machine
end

