-- ==== Sys2Proof/Machine/EvrOps.lean ====
section
/-! DEFINITION. The event recorder's shared operations (chapter 13): records (R436), admission limits (R439), page
buffers and their programs (R440), sectors and the full-area policy (R438, R442), summaries (R444 to R447), freeze
(R443), the mount (R441), Clear Log (R448), volatile-only mode (R450). Bank 3 is held as sectors of records and copies of
summaries; `bank3Bytes` is what a read of it gives. -/

namespace Sys2Proof.Machine

open Bits

-- records (R436)

/-- Payload bytes as stored: zero-padded to a multiple of 4. -/
def padPayload (p : List Byte) : List Byte := p ++ zeros ((4 - p.length % 4) % 4)

/-- Length of a record in bytes. -/
def recLen (r : Rec) : Nat := 28 + (padPayload r.payload).length

/-- A record as its bytes (R436). -/
def recBytes (r : Rec) : List Byte :=
  let flags := r.sev + r.offTime.toNat * 4 + r.replayed.toNat * 8 + r.volatile.toNat * 16
  let b := leBytes 1 0xE5 ++ leBytes 1 (recLen r / 4) ++ leBytes 2 r.code ++ leBytes 4 r.seq ++ leBytes 1 flags ++
    leBytes 1 r.payload.length ++ leBytes 2 r.suppressed ++ leBytes 4 r.secs ++ leBytes 2 r.ticks ++ leBytes 3 r.cycles ++
    zeros 3 ++ padPayload r.payload
  b ++ crcBytes b

/-- Total length of records. -/
def recsLen (l : List Rec) : Nat := (l.map recLen).sum

-- the log

/-- Pages of the buffers, records of the sectors in sector order, records of the ring: all retained records. -/
def retained (s : State) : List Rec :=
  let secs := (s.evr.sectors.map Prod.snd).mergeSort fun a b => decide (a.seq ≤ b.seq)
  if s.evr.mode = 2 then s.evr.ring
  else (secs.flatMap fun x => x.pages.flatten) ++ s.evr.bufs.flatMap Prod.snd

/-- Newest admitted sequence (EVR_SEQ_NEWEST). -/
def newestSeq (s : State) : Nat := (rd s Reg.evrSeqNewest).toNat

/-- Distance of a sequence number behind the newest, modulo 2^32 (R437). -/
def seqAge (s : State) (q : Nat) : Nat := (newestSeq s + 2 ^ 32 - q) % 2 ^ 32

/-- Oldest retained sequence; with nothing retained, the newest admitted one. -/
def oldestSeq (s : State) : Nat :=
  ((minBy (fun a b : Rec => decide (seqAge s b.seq < seqAge s a.seq)) (retained s)).map (·.seq)).getD (newestSeq s)

/-- Retired record sectors (the retired bitmap lists sectors of bank 3). -/
def retiredSectors (s : State) : List Nat := s.evr.live.retired.filter fun n => decide (64 ≤ n)

/-- Page buffers in use. -/
def bufsUsed (s : State) : Nat := (s.evr.bufs.filter fun b => !b.2.isEmpty).length

/-- Closed page buffers, which wait to be programmed: all but the one that fills. -/
def bufsWaiting (s : State) : List (Nat × List Rec) := s.evr.bufs.dropLast.filter fun b => !b.2.isEmpty

-- sectors (R438, R442)

def sectorOf (s : State) (n : Nat) : Option Sector := (s.evr.sectors.find? fun e => e.1 == n).map Prod.snd

def setSector (s : State) (n : Nat) (x : Sector) : State :=
  { s with evr := { s.evr with sectors := (s.evr.sectors.filter fun e => e.1 != n) ++ [(n, x)] } }

def dropSector (s : State) (n : Nat) : State :=
  { s with evr := { s.evr with sectors := s.evr.sectors.filter fun e => e.1 != n } }

/-- Highest severity a sector holds. -/
def sectorSev (x : Sector) : Nat := x.pages.flatten.foldl (fun a r => max a r.sev) 0

/-- First sector of the circulating part, or of the one area of policy 1. -/
def circFirst (s : State) : Nat := if s.evr.policy = 0 then 64 + s.evr.pinned else 64

/-- Address of a sector of bank 3 in the code flash (R438). -/
def sectorBase (n : Nat) : Nat := 0x03000000 + 4096 * n

/-- A sector that holds no records and an undefined unit: a program or an erase of it was cut short, or an erase failed
(R411, R441). -/
def sectorUndef (s : State) (n : Nat) : Bool := (sectorOf s n).isNone && s.cfl.undef.any fun u => u.1 / 4096 == sectorBase n / 4096

/-- The sector is being erased. -/
def sectorErasing (s : State) (n : Nat) : Bool := (cflOp s 3).any fun o => o.kind == 2 && o.addr == sectorBase n

/-- A sector that is erased, not retired and not kept ready. -/
def sectorBlank (s : State) (n : Nat) : Bool :=
  (sectorOf s n).isNone && !s.evr.live.retired.contains n && !s.evr.ready.contains n && !sectorUndef s n && !sectorErasing s n

/-- The sector that is erased next: one that a cut-short operation left undefined (R441), else the one the full-area policy
chooses (R442). -/
def victim (s : State) : Option Nat :=
  let l := s.evr.sectors.filter fun e =>
    decide (circFirst s ≤ e.1) && some e.1 != s.evr.openCirc && !s.evr.live.retired.contains e.1
  let torn := ((s.cfl.undef.map fun u => u.1 / 4096 - 0x3000).filter fun n =>
    decide (circFirst s ≤ n) && decide (n < 4096) && sectorUndef s n && !s.evr.live.retired.contains n).head?
  torn.or ((if s.evr.policy = 0 then minBy (fun a b => decide (a.2.seq < b.2.seq)) l
  else
    minBy (fun a b =>
      decide (sectorSev a.2 < sectorSev b.2) || (sectorSev a.2 == sectorSev b.2 && decide (a.2.seq < b.2.seq))) l).map Prod.fst)

/-- An erase of a sector that holds records is counted (R442, source 440). -/
def countErase (s : State) (x : Sector) : State :=
  if x.pages.flatten.isEmpty then s
  else if s.evr.policy = 0 then icu (addSat s Reg.evrWrap 0 16 1) 440
  else if 2 ≤ sectorSev x then addSat s Reg.evrWrap 16 16 1 else s

/-- One more erased sector of the circulating part is made ready, if fewer than four are (R440). -/
def topUp (s : State) : State :=
  if 4 ≤ s.evr.ready.length then s
  else
    match ((List.range (4096 - circFirst s)).map (· + circFirst s)).find? (sectorBlank s) with
    | some n => { s with evr := { s.evr with ready := s.evr.ready ++ [n] } }
    | none => s

def topUpAll (s : State) : State := topUp (topUp (topUp (topUp s)))

/-- Opens a sector whose first record has sequence `first`. -/
def openSector (s : State) (n area first : Nat) : State :=
  let q := s.evr.secSeq + 1
  setSector { s with evr := { s.evr with secSeq := q } } n { seq := q, area, policy := s.evr.policy, first, pages := [] }

/-- The open sector for a page of records (R442), opened if need be. -/
def sectorFor (s : State) (recs : List Rec) : Option Nat × State :=
  let first := (recs.head?.map (·.seq)).getD 0
  let severe := recs.any fun r => decide (2 ≤ r.sev)
  let pinned := if s.evr.policy = 0 ∧ severe = true then
      match s.evr.openPinned with
      | some n => some n
      | none => ((List.range s.evr.pinned).map (· + 64)).find? (sectorBlank s)
    else none
  match pinned with
  | some n =>
    if s.evr.openPinned = some n then (some n, s)
    else
      let s := openSector s n 0 first
      (some n, { s with evr := { s.evr with openPinned := some n } })
  | none =>
    match s.evr.openCirc with
    | some n => (some n, s)
    | none =>
      let s := topUpAll s
      match s.evr.ready with
      | n :: r =>
        let s := openSector { s with evr := { s.evr with ready := r } } n (if s.evr.policy = 0 then 1 else 2) first
        (some n, topUpAll { s with evr := { s.evr with openCirc := some n } })
      | [] => (none, s)

/-- Bank 3 can take an operation of the recorder, which waits for it (R408). -/
def bank3Free (s : State) : Bool := (cflOp s 3).isNone && decide (s.cfl.ops.length < 2)

/-- An erase starts where fewer than four erased sectors are ready and none is blank (R440); nothing is erased while the log
is frozen (R443). What the sector held is lost from here on. -/
def eraseNext (s : State) : State :=
  let s := topUpAll s
  if s.evr.frozen || decide (4 ≤ s.evr.ready.length) || !bank3Free s then s
  else
    match victim s with
    | none => s
    | some n =>
      let s := match sectorOf s n with
        | some x => countErase (dropSector s n) x
        | none => s
      setCflOp s 3 (some { kind := 2, req := .evr, addr := sectorBase n })

/-- The next page program starts, or the next erase, if bank 3 is free and fewer than two banks are busy (R408, R440). -/
def evrPump (s : State) : State :=
  if s.evr.mode = 1 then
    match bufsWaiting s with
    | [] =>
      eraseNext (if s.evr.flushing then icu { s with evr := { s.evr with flushing := false } } 441 else s)
    | b :: _ =>
      if bank3Free s then
        match sectorFor s b.2 with
        | (some n, s) =>
          let page := ((sectorOf s n).map (·.pages.length)).getD 0 + 1
          setCflOp s 3 (some { kind := 1, req := .evr, addr := sectorBase n + 256 * page })
        | (none, s) => eraseNext s
      else s
  else s

/-- The page buffer that fills is closed. -/
def closeBuf (s : State) : State :=
  match s.evr.bufs.getLast? with
  | none => s
  | some b => if b.2.isEmpty then s else { s with evr := { s.evr with bufs := s.evr.bufs ++ [(0, [])] } }

/-- Every page buffer is programmed (R440). -/
def evrFlush (s : State) : State :=
  if evrOn s && s.evr.mode == 1 then evrPump (closeBuf { s with evr := { s.evr with flushing := true } }) else s

-- admission (R439)

/-- The volatile ring takes a record, its oldest making room (R450). -/
def ringAdd (l : List Rec) (r : Rec) : List Rec :=
  let all := l ++ [r]
  let total := recsLen all
  (all.foldl (fun (a : List Rec × Nat) x => if 65536 < a.2 then (a.1, a.2 - recLen x) else (a.1 ++ [x], a.2)) ([], total)).1

/-- Whether a record may join the buffer that fills: it fits, and under policy 0 it goes to the same part (R442). -/
def joins (s : State) (l : List Rec) (r : Rec) : Bool :=
  decide (recsLen l + recLen r ≤ 256) &&
    (s.evr.policy == 1 || l.all fun x => decide (2 ≤ x.sev) == decide (2 ≤ r.sev))

/-- Whether a page buffer can take the record: one buffer is kept for fatal records (R440). -/
def bufferFree (s : State) (r : Rec) : Bool :=
  (match s.evr.bufs.getLast? with
    | none => true
    | some b => (!b.2.isEmpty && joins s b.2 r) || decide (bufsUsed s < if r.sev = 3 then 16 else 15)) || s.evr.mode == 2

/-- The record is placed in a page buffer, which is programmed if it holds a severe record (R440). -/
def placeRec (s : State) (r : Rec) : State :=
  if s.evr.mode = 2 then { s with evr := { s.evr with ring := ringAdd s.evr.ring r } }
  else
    let init := s.evr.bufs.dropLast
    let bufs := match s.evr.bufs.getLast? with
      | none => [(now s, [r])]
      | some b =>
        if b.2.isEmpty then init ++ [(now s, [r])]
        else if joins s b.2 r then init ++ [(b.1, b.2 ++ [r])]
        else s.evr.bufs ++ [(now s, [r])]
    let s := { s with evr := { s.evr with bufs := bufs } }
    evrPump (if 2 ≤ r.sev then closeBuf s else s)

/-- The summary count of a page and severity (R445). -/
def countEvent (s : State) (code sev : Nat) : State :=
  let l := Sparse.modify (fun _ => 0) s.evr.live.counts (4 * (code / 256) + sev) (satAdd 32 · 1)
  { s with evr := { s.evr with live := { s.evr.live with counts := l } } }

/-- A record is admitted with the next sequence number (R437). -/
def admitRec (s : State) (e : Ev) (suppressed : Nat) (off : Option (Nat × Nat × Nat)) : State :=
  let q := (newestSeq s + 1) % 2 ^ 32
  let r : Rec :=
    { code := e.code
      seq := q
      sev := e.sev
      offTime := off.isSome
      replayed := off.isSome
      volatile := s.evr.mode == 2
      suppressed
      secs := (off.map (·.1)).getD (seconds s)
      ticks := (off.map (·.2.1)).getD (ticks s)
      cycles := (off.map (·.2.2)).getD (powerCycles s)
      payload := e.payload }
  let s := placeRec (countEvent (wr s Reg.evrSeqNewest (wd q)) e.code e.sev) r
  if 2 ≤ e.sev then icu s 433 else s

/-- A record of the recorder itself (R434); it passes no limit. -/
def ownRec (s : State) (code sev : Nat) (payload : List Byte) : State := admitRec s { code, sev, payload } 0 none

/-- Burst of a bucket, in units of 1/32768 token, and its refill per second for a severity. -/
def burst (s : State) : Nat := rf s Reg.evrRateCfg 0 8 * 32768
def refillRate (s : State) (sev : Nat) : Nat := rf s Reg.evrRateCfg (if sev = 2 then 16 else 8) 8

/-- A bucket filled up to now. -/
def refill (s : State) (sev : Nat) (b : Bucket) : Bucket :=
  { b with tokens := min (burst s) (b.tokens + (now s - b.at_) * refillRate s sev), at_ := now s }

/-- The bucket of a code: its own, a new entry, the entry of a full bucket, else the overflow one (none). -/
def bucketFor (s : State) (e : Ev) : Option Bucket × List Bucket :=
  match s.evr.buckets.find? fun b => b.code == e.code with
  | some b => (some b, s.evr.buckets)
  | none =>
    let fresh : Bucket := { code := e.code, sev := e.sev, tokens := burst s, at_ := now s }
    if s.evr.buckets.length < 512 then (some fresh, s.evr.buckets ++ [fresh])
    else
      match s.evr.buckets.find? fun b => decide (burst s ≤ (refill s b.sev b).tokens) with
      | some old => (some fresh, s.evr.buckets.map fun b => if b.code == old.code then fresh else b)
      | none => (none, s.evr.buckets)

/-- Stores a code's bucket, or the overflow one. -/
def storeBucket (s : State) (own : Bool) (l : List Bucket) (b : Bucket) : State :=
  if own then { s with evr := { s.evr with buckets := l.map fun x => if x.code == b.code then b else x } }
  else { s with evr := { s.evr with buckets := l, overflow := b } }

/-- Admitted bytes of severity 0 to 2 within the last second. -/
def recentBytes (s : State) : Nat := ((s.evr.recent.filter fun e => decide (now s < e.1 + 32768)).map Prod.snd).sum

/-- Firmware records, by their event number (R433). -/
def isFwCode (code : Nat) : Bool := decide (0x80 ≤ code % 256) && decide (code % 256 < 0xF0)

/-- A firmware record has been admitted or dropped (R453, source 442). -/
def fwDone (s : State) (code : Nat) (admitted : Bool) : State :=
  if isFwCode code then
    let s := wrB (wrB s Reg.evrFwStatus 0 false) Reg.evrFwStatus (if admitted then 1 else 2) true
    let s := if admitted then wr s Reg.evrFwSeq (rd s Reg.evrSeqNewest) else s
    icu s 442
  else s

/-- An event is dropped (R439): counted, source 434 at most once per second. -/
def dropEvent (s : State) (e : Ev) : State :=
  let s := countEvent (addSat s Reg.evrDropped 0 32 1) e.code e.sev
  let s := if match s.evr.last434 with
      | none => true
      | some t => decide (t + 32768 ≤ now s) then
      icu { s with evr := { s.evr with last434 := some (now s) } } 434
    else s
  fwDone s e.code false

/-- The freeze begins (R443): its record is written and the buffers are flushed, source 437. -/
def freezeNow (s : State) (cause : Nat) : State :=
  if s.evr.frozen then s
  else
    let s := evrFlush (ownRec s 0x03F2 0 (leBytes 1 cause))
    icu { s with evr := { s.evr with frozen := true, freezeIn := none } } 437

/-- A freeze is asked for; during a Clear Log it waits for its end (R443). -/
def evrFreeze (s : State) (cause : Nat) : State :=
  if s.evr.clearing then { s with evr := { s.evr with freezeAsked := true } } else freezeNow s cause

/-- The freeze ends (R443). -/
def evrUnfreeze (s : State) : State :=
  if s.evr.frozen then icu (ownRec { s with evr := { s.evr with frozen := false, freezeIn := none } } 0x03F3 0 []) 437
  else { s with evr := { s.evr with freezeAsked := false } }

/-- Counts the records after a fatal one; the 64th freezes the log if EVR_CFG.freeze_on_fatal is 1 (R443). -/
def afterFatal (s : State) (sev : Nat) : State :=
  match s.evr.freezeIn with
  | some n =>
    if n ≤ 1 then evrFreeze { s with evr := { s.evr with freezeIn := none } } 1
    else { s with evr := { s.evr with freezeIn := some (n - 1) } }
  | none => if sev = 3 ∧ rb s Reg.evrCfg 16 = true then { s with evr := { s.evr with freezeIn := some 64 } } else s

/-- Whether a frozen log can take a fatal record: in a page of a sector that is already erased (R443). -/
def frozenRoom (s : State) : Bool :=
  s.evr.mode == 2 || s.evr.openPinned.isSome || s.evr.openCirc.isSome || !s.evr.ready.isEmpty

/-- An event passes admission (R439): the freeze, the per-code limit, the global limit, a free page buffer. -/
def admitEvent (s : State) (e : Ev) : State :=
  let probe : Rec := { code := e.code, seq := 0, sev := e.sev, secs := 0, ticks := 0, cycles := 0, payload := e.payload }
  let r := bucketFor s e
  let b := refill s e.sev (r.1.getD s.evr.overflow)
  let own := r.1.isSome
  let frozenOut := s.evr.frozen && (e.sev != 3 || !frozenRoom s)
  let limited := e.sev != 3 && (decide (b.tokens < 32768) ||
    decide (rf s Reg.evrRateCfg 24 8 * 1024 < recentBytes s + recLen probe))
  if frozenOut || limited || !bufferFree s probe then
    dropEvent (storeBucket s own r.2 { b with suppressed := satAdd 16 b.suppressed 1 }) e
  else
    let s := storeBucket s own r.2 { b with tokens := if e.sev = 3 then b.tokens else b.tokens - 32768, suppressed := 0 }
    let s := if e.sev = 3 then s else
      { s with evr := { s.evr with
          recent := (s.evr.recent.filter fun x => decide (now s < x.1 + 32768)) ++ [(now s, recLen probe)] } }
    afterFatal (fwDone (admitRec s e b.suppressed none) e.code true) e.sev

-- volatile-only mode (R450)

/-- Volatile-only mode is entered: its record, error and source, the sticky copy in FLT; what was not yet programmed goes
to the ring. -/
def enterVolatile (s : State) (why : Nat) : State :=
  if s.evr.mode = 2 then s
  else
    let l := s.evr.bufs.flatMap Prod.snd
    let s := setCflOp s 3 (if (cflOp s 3).any (fun o => o.req == .evr) then none else cflOp s 3)
    let s := { s with evr := { s.evr with
      mode := 2
      sticky := true
      flushing := false
      bufs := []
      ring := (l.map fun r => { r with volatile := true }).foldl ringAdd s.evr.ring } }
    let s := ownRec (wrB s Reg.fltSticky 1 true) 0x03F4 2 (leBytes 1 why)
    icu (report s Pg.evr 19 0) 436

-- summaries (R444 to R447)

/-- The live summary as it stands. -/
def liveNow (s : State) : Summary :=
  { s.evr.live with
    policy := s.evr.policy
    frozen := s.evr.frozen
    secs := seconds s
    cycles := powerCycles s
    newest := newestSeq s
    oldest := oldestSeq s
    dropped := (rd s Reg.evrDropped).toNat
    wraps := rf s Reg.evrWrap 0 16
    pinned := s.evr.pinned }

/-- A copy that failed in two sectors of its half (R449). -/
def copyFailed (s : State) : State := report s Pg.evr 18 0

/-- A copy of a summary goes to the next sector of its half, or, where that program fails, to the following one (R444); both
failing, neither sector holds a copy. -/
def putCopy (s : State) (base slot : Nat) (ok : Bool) (u : Summary) : State :=
  let n := base + slot % 32
  let l := s.evr.sums.filter fun e => e.1 != n && (ok || e.1 != base + (slot + 1) % 32)
  { s with evr := { s.evr with sums := if ok then l ++ [(n, u)] else l } }

/-- A summary is written: copy A, then copy B (R444); both failing enters volatile-only mode (R449). -/
def writeSummary (s : State) (aOk bOk : Bool) : State :=
  if !evrOn s then s
  else
    let sum := { liveNow s with seq := (s.evr.live.seq + 1) % 2 ^ 32 }
    let s := { s with evr := { s.evr with live := sum } }
    if s.evr.mode = 1 then
      let s := putCopy (putCopy s 0 s.evr.slotA aOk sum) 32 s.evr.slotB bOk sum
      let s := { s with evr := { s.evr with
        slotA := (s.evr.slotA + (if aOk then 1 else 2)) % 32
        slotB := (s.evr.slotB + (if bOk then 1 else 2)) % 32 } }
      let s := if aOk then s else copyFailed s
      let s := if bOk then s else copyFailed s
      let s := if aOk || bOk then icu s 438 else s
      if aOk || bOk then s else enterVolatile s 2
    else s

/-- A summary as its 4,096 bytes (R445). -/
def summaryBytes (u : Summary) : List Byte :=
  let b := leBytes 4 0x4D535351 ++ leBytes 2 1 ++ leBytes 1 u.policy ++ leBytes 1 u.frozen.toNat ++ leBytes 4 u.seq ++
    leBytes 4 u.secs ++ leBytes 3 u.cycles ++ zeros 1 ++ leBytes 4 u.newest ++ leBytes 4 u.oldest ++ leBytes 4 u.dropped ++
    leBytes 4 u.wraps ++ leBytes 2 u.pinned ++ leBytes 2 (u.retired.filter fun n => decide (64 ≤ n)).length ++
    leBytes 4 u.clearedAt ++ zeros 20 ++
    ((List.range 128).flatMap fun i => leBytes 4 (Sparse.get (fun _ => 0) u.hist i)) ++
    ((List.range 32).flatMap fun i =>
      let e := Sparse.get extDefault u.ext i
      if i < 16 then leBytes 4 (ofInt 32 e.1) ++ leBytes 4 e.2 else zeros 8) ++
    ((List.range 512).flatMap fun i => leBytes 4 (Sparse.get (fun _ => 0) u.counts i)) ++
    ((List.range 512).map fun i => BitVec.ofNat 8 (maskOf 8 fun j => u.retired.contains (8 * i + j))) ++ zeros 700
  b ++ crcBytes b

/-- The newest flash copy of the summary: the highest sequence, modulo 2^32 (R441). -/
def newestCopy (s : State) : Option Summary :=
  minBy (fun a b : Summary => decide (0 < (a.seq + 2 ^ 32 - b.seq) % 2 ^ 32 ∧ (a.seq + 2 ^ 32 - b.seq) % 2 ^ 32 < 2 ^ 31))
    (s.evr.sums.map Prod.snd)

/-- The header page of a sector of the record area (R438). -/
def sectorHeader (x : Sector) : List Byte :=
  let b := leBytes 4 0x56455351 ++ leBytes 4 x.seq ++ leBytes 1 x.area ++ leBytes 1 x.policy ++ zeros 2 ++ leBytes 4 x.first ++
    zeros 12
  b ++ crcBytes b

/-- The bytes of a page, the rest of it erased. -/
def pagePad (b : List Byte) : List Byte := b ++ List.replicate (256 - b.length) 0xFF#8

/-- A sector of bank 3 as its bytes (R438): a summary copy, or the header and the pages of records; erased where it holds
none. -/
def bank3Bytes (s : State) (n : Nat) : List Byte :=
  if n < 64 then
    match s.evr.sums.find? fun e => e.1 == n with
    | some e => summaryBytes e.2
    | none => []
  else
    match sectorOf s n with
    | some x => pagePad (sectorHeader x) ++ x.pages.flatMap fun p => pagePad (p.flatMap recBytes)
    | none => []

/-- A read of bytes of the code flash: bank 3 is what the recorder keeps there; an undefined unit gives free values (R411). -/
def flashRead (s : State) (a n : Nat) : List Byte :=
  if a / 2 ^ 24 = 3 then
    let sec := bank3Bytes s (a % 2 ^ 24 / 4096)
    (List.range n).map fun i =>
      if cflUndef s (a + i) then (Config.freeWord (s.free + i)).truncate 8 else sec.getD (a % 4096 + i) 0xFF#8
  else cflRead s a n

/-- The hem seals' read-back, an off request: the buffers are flushed and a summary is written (R440, R444). -/
def evrSecure (s : State) : State := writeSummary (evrFlush s) true true

-- retiring (R449)

/-- A sector is retired after a failed page program, a VERIFY_FAIL of the code flash (R431): media fault and the page's
records go to a new sector. -/
def retireSector (s : State) (n addr : Nat) : State :=
  let s := icu (report (report s Pg.cfl 18 0) Pg.evr 16 0) 435
  let live := { s.evr.live with retired := (s.evr.live.retired ++ [n]).eraseDups }
  let q := (newestSeq s + 1) % 2 ^ 32
  let r : Rec :=
    { code := 0x03F1
      seq := q
      sev := 1
      secs := seconds s
      ticks := ticks s
      cycles := powerCycles s
      payload := leBytes 4 addr ++ leBytes 1 1 }
  let s := countEvent (wr s Reg.evrSeqNewest (wd q)) 0x03F1 1
  let s := { s with evr := { s.evr with
    live := live
    openPinned := if s.evr.openPinned = some n then none else s.evr.openPinned
    openCirc := if s.evr.openCirc = some n then none else s.evr.openCirc
    bufs := (now s, [r]) :: s.evr.bufs } }
  if 1008 < (retiredSectors s).length then enterVolatile s 1 else s

/-- The oldest programmed page buffer is durable, or its program failed (R440, R449). -/
def pageDone (s : State) (addr : Nat) (ok : Bool) : State :=
  let n := addr % 2 ^ 24 / 4096
  let s := setCflOp s 3 none
  match s.evr.bufs, sectorOf s n with
  | b :: rest, some x =>
    if ok then
      let s := setSector s n { x with pages := x.pages ++ [b.2] }
      let full := decide (15 ≤ x.pages.length + 1)
      let s := { s with evr := { s.evr with
        bufs := rest
        openPinned := if full && s.evr.openPinned == some n then none else s.evr.openPinned
        openCirc := if full && s.evr.openCirc == some n then none else s.evr.openCirc } }
      evrPump (topUpAll s)
    else evrPump (retireSector s n addr)
  | _, _ => evrPump s

/-- An erase of the recorder ends (R449): the sector is ready, or it is retired with a media-fault record. -/
def sectorErased (s : State) (n : Nat) (ok : Bool) : State :=
  let s := setCflOp s 3 none
  if ok then
    let s := cflErase s (sectorBase n) 4096
    evrPump { s with evr := { s.evr with ready := s.evr.ready ++ [n] } }
  else
    let s := icu (report (report s Pg.cfl 19 0) Pg.evr 17 0) 435
    let s := { s with evr := { s.evr with live := { s.evr.live with retired := (s.evr.live.retired ++ [n]).eraseDups } } }
    let s := ownRec s 0x03F1 1 (leBytes 4 (sectorBase n) ++ leBytes 1 2)
    evrPump (if 1008 < (retiredSectors s).length then enterVolatile s 1 else s)

/-- The records of a page up to a byte of it. -/
def recsBefore : Nat → List Rec → List Rec
  | _, [] => []
  | room, r :: l => if recLen r ≤ room then r :: recsBefore (room - recLen r) l else []

/-- A unit of bank 3 is uncorrectable: it ends its page, and is a media fault, recorded once the mount has ended (R441,
R449). -/
def unitBad (s : State) (addr : Nat) : State :=
  let n := addr % 2 ^ 24 / 4096
  let s := match sectorOf s n with
    | some x =>
      let p := addr % 4096 / 256
      setSector s n { x with pages := (List.range x.pages.length).map fun i =>
        if i + 1 = p then recsBefore (addr % 256 / 32 * 32) (x.pages.getD i []) else x.pages.getD i [] }
    | none => s
  let pay := leBytes 4 addr ++ leBytes 1 3
  if !evrOn s then s
  else if s.evr.mode = 1 ∨ s.evr.mode = 2 then ownRec s 0x03F1 1 pay
  else { s with evr := { s.evr with inbox := s.evr.inbox ++ [{ code := 0x03F1, sev := 1, payload := pay }] } }

/-- Firmware erases a sector of bank 3: what the recorder held there is gone. -/
def bank3Erased (s : State) (n : Nat) : State :=
  let s := dropSector s n
  { s with evr := { s.evr with sums := s.evr.sums.filter fun e => e.1 != n } }

-- clear, mount, power

/-- Clear Log starts (R448): the record area is erased (one log entry for its erases: 130), histograms and extremes are
zeroed, the policy chosen in EVR_CFG takes force, a freeze ends. -/
def startClear (s : State) (ld : Option Nat) : State :=
  let s := evrUnfreeze s
  let live := { s.evr.live with hist := [], ext := [], clearedAt := seconds s }
  topUpAll { s with evr := { s.evr with
    clearing := true
    clearLd := ld
    policy := rf s Reg.evrCfg 0 1
    pinned := 16 * rf s Reg.evrCfg 20 8
    sectors := []
    ready := []
    openPinned := none
    openCirc := none
    live := live } }

/-- Clear Log ends: its record, source 443, a freeze that was asked for meanwhile. -/
def endClear (s : State) : State :=
  if s.evr.clearing then
    let ld := s.evr.clearLd
    let ask := s.evr.freezeAsked
    let s := { s with evr := { s.evr with clearing := false, freezeAsked := false, clearLd := none } }
    let s := icu (ownRec s 0x03F5 0 []) 443
    let s := endBg s ld rcSuccess (leBytes 4 0)
    if ask then freezeNow s 0 else s
  else s

/-- The recorder's domain loses what it holds: buffers, ring, live summary, what has not been admitted (R440, R450). -/
def evrLost (s : State) : State :=
  let s := if (cflOp s 3).any (fun o => o.req == .evr) then setCflOp s 3 none else s
  { s with evr := { s.evr with
    mode := 3
    inbox := []
    bufs := []
    ring := []
    buckets := []
    recent := []
    freezeIn := none
    flushing := false
    freezeAsked := false
    clearing := false
    clearLd := none
    openPinned := none
    openCirc := none
    live := {} } }

/-- Highest power-cycle count in the summaries and records of bank 3, if there is one (R542). -/
def highestCycles (s : State) : Option Nat :=
  let l := (s.evr.sectors.flatMap fun e => e.2.pages.flatten.map (·.cycles)) ++
    s.evr.sums.map fun e => e.2.cycles
  if l.isEmpty then none else some (l.foldl max 0)

/-- The power-cycle count is restored (R542). -/
def restoreCycles (s : State) : State :=
  match s.psq.cyclesPending, highestCycles s with
  | true, some c =>
    let s := addSat s Reg.sysPowerCycles 0 24 c
    { s with psq := { s.psq with cyclesPending := false } }
  | _, _ => s

/-- Whether the newest freeze or unfreeze record leaves the log frozen (R443). -/
def frozenByRecords (s : State) : Bool :=
  let l := (retained s).filter fun r => r.code == 0x03F2 || r.code == 0x03F3
  match minBy (fun a b : Rec => decide (seqAge s a.seq < seqAge s b.seq)) l with
  | some r => r.code == 0x03F2
  | none => false

/-- The latched off-time events follow the mount record in latch order (R435). -/
def replayLatch (s : State) : State :=
  let l := s.evr.latch
  let lost := s.evr.latchLost
  let s := { s with evr := { s.evr with latch := [], latchLost := 0 } }
  let s := forEach l s fun s e => admitRec s e.1 0 (some e.2)
  if 0 < lost then ownRec s 0x03F6 1 (leBytes 1 lost) else s

/-- The mount of R441. Volatile-only mode is left only with few enough retired sectors and a summary written with both
copies (R450). -/
def mountLog (s : State) (torn : Nat) (summaryOk : Bool) : State :=
  let live := (newestCopy s).getD {}
  let s := { s with evr := { s.evr with live := live, bufs := [], buckets := [], openPinned := none, openCirc := none } }
  let s := { s with evr := { s.evr with overflow := { code := 0, tokens := burst s, at_ := now s } } }
  let seqs := s.evr.sectors.flatMap fun e => e.2.pages.flatten.map (·.seq)
  let behind := fun q => (live.newest + 2 ^ 31 + 2 ^ 32 - q) % 2 ^ 32
  let hi := (minBy (fun a b => decide (behind a < behind b)) seqs).getD live.newest
  let s := wr { s with evr := { s.evr with mode := 1 } } Reg.evrSeqNewest (wd hi)
  let s := { s with evr := { s.evr with frozen := frozenByRecords s } }
  let bad := decide (1008 < (retiredSectors s).length)
  let s := restoreCycles s
  let s := forEach (List.range torn) s fun s _ => report s Pg.evr 20 0
  let s := wr s Reg.evrSeqNewest (wd (hi + 255))
  let s := ownRec (topUpAll s) 0x03F0 0 (leBytes 4 hi ++ leBytes 4 ((hi + 256) % 2 ^ 32))
  let s := icu (replayLatch s) 432
  if bad then enterVolatile s 1
  else if s.evr.sticky then
    if summaryOk then writeSummary { s with evr := { s.evr with sticky := false } } true true
    else writeSummary s false false
  else s

end Sys2Proof.Machine
end

