-- ==== Sys2Proof/Machine/HlOps.lean ====
section
/-! DEFINITION. The host link's shared operations: the checks and writes of the window and group tables (R184, R185,
R189), widths (R215), and what resets and link-downs take (R209). -/

namespace Sys2Proof.Machine

open Bits

-- window entries

/-- Bytes 0 to 19 of a window entry as fields (R183). -/
structure WinEntry where
  ctl : Word
  ldBase : Nat
  size : Nat
  dramBase : Nat
  groupBase : Nat
  deriving DecidableEq, Repr

def WinEntry.valid (e : WinEntry) : Bool := bit e.ctl 0
def WinEntry.deadline (e : WinEntry) : Bool := bit e.ctl 1
def WinEntry.ld (e : WinEntry) : Nat := fld e.ctl 16 8
def WinEntry.group (e : WinEntry) : Nat := fld e.ctl 24 8

/-- The entry held for a window. -/
def winEntry (s : State) (w : Nat) : WinEntry :=
  { ctl := winWord s w 0
    ldBase := winLdBase s w
    size := winSize s w
    dramBase := winDramBase s w
    groupBase := winGroupBase s w }

/-- Ranges of two lengths overlap. -/
def overlap (a n b m : Nat) : Bool := decide (a < b + m) && decide (b < a + n)

/-- The first check of R184 that an entry for window `w` fails; 0 if none. Check 6 is for an entry that joins its
group; `joins` tells. -/
def winCheckCode (s : State) (w : Nat) (e : WinEntry) (joins : Bool) : Nat :=
  let others := (validWins s).filter fun v => v != w
  let p := e.ld / 16
  if e.size = 0 ∨ 8192 < e.ldBase + e.size ∨ 16384 < e.groupBase + e.size then 1
  else if hostGib s < e.dramBase + e.size then 2
  else if others.any fun v => overlap e.dramBase e.size (winDramBase s v) (winSize s v) then 3
  else if others.any fun v => winLd s v == e.ld && overlap e.ldBase e.size (winLdBase s v) (winSize s v) then 4
  else if others.any fun v => winGroup s v == e.group && overlap e.groupBase e.size (winGroupBase s v) (winSize s v) then 5
  else if joins && grpEnabled s e.group && decide (e.groupBase < grpHigh s e.group) then 6
  else if !portExists s p || decide ((portOf s p).lds ≤ e.ld % 16) || decide (63 < e.ld) then 7
  else 0

/-- A refused entry write is recorded (R184, R189, source 44). -/
def winRefuse (s : State) (code idx : Nat) (group : Bool) : State :=
  let s := wr s Reg.winCheck (wd (code + idx * 65536 + group.toNat * 2 ^ 30 + 2 ^ 31))
  report s Pg.win 16 0

/-- Device-maintained words of a group entry: windows, size, high-water mark (R189). -/
def refreshGroup (s : State) (g : Nat) : State :=
  let ws := winsOf s g
  let s := setGrpWord s g 8 (wd ws.length)
  let s := setGrpWord s g 9 (wd (ws.map (winSize s)).sum)
  setGrpWord s g 10 (wd (ws.foldl (fun a w => max a (winGroupBase s w + winSize s w)) (grpHigh s g)))

/-- What R185 refuses to a changed entry of an enabled group's valid window: QUIESCE_REQUIRED for ld, ld_base and deadline
outside a quiesce, FIXED for the other fields; in table order (R184). -/
def winFixedCode (s : State) (o e : WinEntry) : Nat :=
  let free := (e.ld != o.ld || e.ldBase != o.ldBase || e.deadline != o.deadline) && !(grp s o.group).quiesced
  let fixed := e.valid != o.valid || e.group != o.group || e.groupBase != o.groupBase || e.dramBase != o.dramBase || e.size != o.size
  if free then 9 else if fixed then 10 else 0

/-- The code that an entry write gets: the first failing one in table order (R184, R185); `admin` is false for a Set command
of another logical device (ACCESS). An entry with a parity fault that is written with its own group and base does not join its
group anew (R218). -/
def winWriteCode (s : State) (w : Nat) (e : WinEntry) (admin : Bool) : Nat :=
  let o := winEntry s w
  let moved := e.group != o.group || e.groupBase != o.groupBase
  let acc := if admin then 0 else 8
  let first := fun (a b c : Nat) => if a ≠ 0 then a else if b ≠ 0 then b else c
  if winValid s w then
    if o = e then acc
    else
      let clears := e == { o with ctl := setBit o.ctl 0 false }
      first (if clears then 0 else winCheckCode s w e moved) acc (if grpEnabled s o.group then winFixedCode s o e else 0)
  else if e.valid then first (winCheckCode s w e (!bit o.ctl 0 || moved)) acc 0
  else acc

/-- Stores bytes 0 to 19 of an entry; a fault of its parity ends (R218). -/
def storeWin (s : State) (w : Nat) (e : WinEntry) : State :=
  let s := setWinWord s w 0 (e.ctl &&& 0xFFFF0003#32)
  let s := setWinWord s w 1 (wd e.ldBase)
  let s := setWinWord s w 2 (wd e.size)
  let s := setWinWord s w 3 (wd e.dramBase)
  let s := setWinWord s w 4 (wd e.groupBase)
  { s with hl := { s.hl with parity := s.hl.parity.filter (· != w) } }

/-- A new window of an enabled group is zero-filled before it comes online (R185). -/
def zeroWindow (s : State) (w : Nat) : State :=
  let b := winDramBase s w * 2 ^ 18
  let n := winSize s w * 2 ^ 18
  let out := fun sw => !(decide (b ≤ sw) && decide (sw < b + n))
  let s := zeroRange s (b * 4096) (n * 4096)
  { s with gen := { s.gen with
    map := Sparse.keep out s.gen.map
    loc := Sparse.keep out s.gen.loc
    lineBits := Sparse.keep (fun l => out (128 * l)) s.gen.lineBits } }

/-- Writes a window entry as far as its check allows (R184, R185); the code is 0 if it is stored. -/
def writeWin (s : State) (w : Nat) (e : WinEntry) (admin : Bool) : State × Nat :=
  let e := { e with ctl := e.ctl &&& 0xFFFF0003#32 }
  let c := winWriteCode s w e admin
  if c = 0 then
    let o := winEntry s w
    let joining := e.valid && (!bit o.ctl 0 || o.group != e.group)
    let s := storeWin s w e
    let s := refreshGroup (refreshGroup s o.group) e.group
    let s := if joining && grpEnabled s e.group then zeroWindow s w else s
    (noteReasons s, 0)
  else (winRefuse s c w false, c)

-- group entries

/-- Writes words of a group entry (R189): word 0 and the masks in words 2 to 7. A parity fault ends with word 0 (R218); a
lower share may put the group's budget below its unsewn total (R130). -/
def writeGrp (s : State) (g : Nat) (ws : List (Nat × Word)) : State × Nat :=
  let w0 := ws.find? fun e => e.1 == 0
  let on := bit (grpWord s g 0) 0
  let old := grpBudget s g
  match w0 with
  | some (_, v) =>
    if 4096 < fld v 16 16 then (winRefuse s 1 g true, 1)
    else if on && !bit v 0 then (winRefuse s 10 g true, 10)
    else
      let s := forEach (ws.filter fun e => decide (2 ≤ e.1 ∧ e.1 < 8)) s fun s e => setGrpWord s g e.1 e.2
      let s := setGrpWord s g 0 (v &&& 0xFFFF0001#32)
      let s := { s with hl := { s.hl with parity := s.hl.parity.filter (· != 4096 + g) } }
      let s := if bit v 0 && !on then enableGroup s g else s
      (pace (budgetBelow (noteReasons s) g old) g, 0)
  | none => (forEach (ws.filter fun e => decide (2 ≤ e.1 ∧ e.1 < 8)) s fun s e => setGrpWord s g e.1 e.2, 0)

-- ports

/-- Widest width code that the quads in service allow a port (R178, R215). -/
def portWidth (s : State) (p : Nat) : Nat :=
  let link := p / 2
  let two := if link = 0 then s.hl.bif0 else s.hl.bif1
  let on := fun q => (domOf s (82 + 4 * link + q)).st == 2
  let qs := if two then (if p % 2 = 0 then [0, 1] else [2, 3]) else [0, 1, 2, 3]
  let n := (qs.takeWhile on).length
  if n = 0 then 0 else if n = 1 then 3 else if n < 4 then 4 else 5

/-- Quads that carry a port's lanes. -/
def portQuads (s : State) (p : Nat) : List Nat :=
  let two := if p < 2 then s.hl.bif0 else s.hl.bif1
  if two then (if p % 2 = 0 then [0, 1] else [2, 3]) else [0, 1, 2, 3]

/-- The logical devices of a port. -/
def portLds (p : Nat) : List Nat := (List.range 16).map (· + 16 * p)

/-- Counts dropped requests (R209, R213). -/
def countDropped (s : State) (link n : Nat) : State := addSat s (Reg.hlDropped link) 0 32 n

/-- Drops the CXL.mem requests for which `p` holds: those that wait, and reads whose data has not left the device. -/
def dropRequests (s : State) (p : Nat → Bool) : State :=
  let gone := s.hl.waits.filter fun r => p r.ld
  let s := { s with hl := { s.hl with waits := s.hl.waits.filter fun r => !p r.ld } }
  let s := freeWaits s gone
  let cut := fun (l : List DQ) => l.filter fun q => q.write || !p q.ld
  let lost := s.dram.chs.flatMap fun e => (e.2.qa ++ e.2.qb).filter fun q => !q.write && p q.ld
  let s := forEach (Sparse.keys s.dram.chs) s fun s c =>
    let v := dchOf s c
    setDch s c { v with qa := cut v.qa, qb := cut v.qb }
  let s := forEach [0, 1, 2, 3] s fun s p =>
    let n := (lost.filter fun q => q.ld / 16 == p).length
    if n = 0 then s else releaseBuffers s p n
  forEach [0, 1] s fun s l =>
    countDropped s l ((gone.filter fun r => r.ld / 32 == l).length + (lost.filter fun q => q.ld / 32 == l).length)

/-- A command of the logical device that runs in the foreground is still to answer. -/
def foreground (s : State) (ld : Nat) : Bool :=
  (ldOf s ld).doorbell.isSome || s.gen.groups.any fun e =>
    (e.2.quiesceLd == some ld && !e.2.quiesceDrained) || (e.2.unpick.bind (·.ld)) == some ld ||
      e.2.recs.any fun r => r.ld == some ld

/-- The function of a logical device is reset: foreground results are discarded (R209). -/
def resetFunction (s : State) (ld : Nat) : State :=
  setLd s ld { ldOf s ld with discard := foreground s ld, doe := none, cfg := [] }

/-- IDE state of a port (HL_IDE_STATUS). -/
def setIde (s : State) (p v : Nat) : State := wrF s (Reg.hlIdeStatus (p / 2)) (8 * (p % 2)) 2 v
def ideOf (s : State) (p : Nat) : Nat := rf s (Reg.hlIdeStatus (p / 2)) (8 * (p % 2)) 2

/-- What a reset or a link-down of a port takes (R209): decoders uncommitted, IDE keys, requests not yet committed,
foreground results; the link is down until it has trained again. -/
def resetPort (s : State) (p : Nat) : State :=
  let s := dropRequests s fun ld => ld / 16 == p
  let s := forEach (portLds p) s fun s ld =>
    let s := resetFunction s ld
    let v := ldOf s ld
    if v.hdm.isEmpty then s else setLd s ld { v with hdm := [] }
  let v := portOf s p
  let s := setPort s p { v with
    up := false
    width := 0
    rate := 0
    flit256 := false
    stopped := false
    stopWins := []
    unreturned := 0 }
  noteReasons (setIde s p 0)

/-- A port that is up goes down (R209, sources 20 to 23). -/
def portDown (s : State) (p : Nat) : State :=
  if (portOf s p).up then icu (addSat (resetPort s p) (Reg.hlLinkdown (p / 2)) (16 * (p % 2)) 16 1) (20 + p) else s

/-- Both ports of a link go down. -/
def linkOff (s : State) (l : Nat) : State := portDown (portDown s (2 * l)) (2 * l + 1)

/-- HL_LINK_CFG.max_rate, l1_en and l0p_en take force (R214). -/
def latchCfg (s : State) (p : Nat) : State :=
  let r := Reg.hlLinkCfg (p / 2)
  setPort s p { portOf s p with maxRate := rf s r 1 3, l1 := rb s r 4, l0p := rb s r 5 }

/-- A conventional or hot reset of a port: what it takes, the settings of HL_LINK_CFG (R209, R214, sources 24 to 27); a
conventional one takes the equalisation results too. -/
def portReset (s : State) (p : Nat) (conventional : Bool) : State :=
  let s := latchCfg (resetPort s p) p
  let v := portOf s p
  let s := if conventional then setPort s p { v with equalised := false } else s
  icu s (24 + p)

/-- Firmware is available (R201): the pair is not down and no handover runs. -/
def fwAvailable (s : State) : Bool := decide (s.icu.core ≠ .down) && decide (s.upd.st ≠ 5) && coreUp s

end Sys2Proof.Machine
end

