-- ==== Sys2Proof/Machine/Layout.lean ====
section
/-! DEFINITION. The bytes in which the device keeps what State holds in structured form: codewords and their metadata (R76,
R270 to R272), delta parts and their entries (R113, R114), seals and records (R116), wrapped keys (R77), intent pages
(R284), the regions of the lining (R95, R103, R104, R106, R156). Every number is little-endian (R5). -/

namespace Sys2Proof.Machine

open Bits

/-- A string with its CRC-32C after it. -/
def withCrc (bs : List Byte) : List Byte := bs ++ crcBytes bs

-- data codewords (R76, R270, R271)

/-- The XTS tweak of a swatch: its index within the group, the generation number, zeros (R76). -/
def tweakBytes (idx gen : Nat) : List Byte := leBytes 4 idx ++ leBytes 6 gen ++ zeros 6

/-- The payload of a data codeword: the XTS ciphertext of its swatch under the group's key (R76, R270). -/
def cipherBytes (c : Codeword) : List Byte := Config.aesXts (Config.drbgKey c.key) (tweakBytes c.idx c.gen) (pageBytes c.page)

/-- The metadata of a codeword (R271): kind 0 data, 1 delta part, 2 record; `part` is the codeword's index within a delta
part, `idx` the group-relative swatch index of data. -/
def metaBytes (g kind part idx gen lineage wseq : Nat) (payload : List Byte) : List Byte :=
  withCrc (leBytes 1 g ++ leBytes 1 kind ++ leBytes 2 part ++ leBytes 4 idx ++ leBytes 6 gen ++ leBytes 2 lineage ++ leBytes 8 wseq ++
    crcBytes payload)

/-- Payload and metadata of a data codeword, without its parity (R270). -/
def dataBytes (c : Codeword) : List Byte :=
  cipherBytes c ++ metaBytes c.g 0 0 c.idx c.gen c.lineage c.wseq (cipherBytes c)

/-- A group key as flash holds it (R77). -/
def wrappedBytes (w : Wrapped) : List Byte := Config.aesWrap w.wrap (Config.drbgKey w.key)

/-- The bytes of a flash location (R272). -/
def locBytes (loc : Nat) : List Byte := leBytes 8 loc

-- delta parts (R113, R114)

/-- A delta entry (R114). -/
def entryBytes (d : DeltaEntry) : List Byte := leBytes 4 d.idx ++ locBytes d.loc ++ leBytes 4 d.crc

/-- The entries of part `k` of a delta or checkpoint (R113). -/
def partEntries (l : List DeltaEntry) (k : Nat) : List DeltaEntry := (l.drop (4092 * k)).take 4092

/-- A part's bytes 64 to 65,535; its unused entries are zero (R113). -/
def partBody (l : List DeltaEntry) (k : Nat) : List Byte := padTo 65472 ((partEntries l k).flatMap entryBytes)

/-- Flags of a part: hem, checkpoint, relief entries present, last part (R113). -/
def partFlags (r : GenRec) (ckpt : Bool) (l : List DeltaEntry) (k : Nat) : Nat :=
  r.hem.toNat + 2 * ckpt.toNat + 4 * ((partEntries l k).any (·.relief)).toNat + 8 * (decide (k + 1 = partsOf l.length)).toNat

/-- The header of part `k` of a generation's delta, or of its checkpoint (R113). -/
def partHeader (g : Nat) (r : GenRec) (ckpt : Bool) (k : Nat) : List Byte :=
  let l := if ckpt then r.ckptDelta else r.delta
  withCrc (leBytes 4 0x444D5351 ++ leBytes 2 1 ++ leBytes 1 g ++ leBytes 1 (partFlags r ckpt l k) ++ leBytes 6 r.num ++
    leBytes 2 r.lineage ++ leBytes 4 k ++ leBytes 4 (partEntries l k).length ++ zeros 32 ++ crcBytes (partBody l k))

/-- A whole part, 65,536 bytes (R113). -/
def partBytes (g : Nat) (r : GenRec) (ckpt : Bool) (k : Nat) : List Byte :=
  partHeader g r ckpt k ++ partBody (if ckpt then r.ckptDelta else r.delta) k

/-- CRC-32C over the header CRCs of all parts, the checkpoint's first, then in part order (R116). -/
def chainCrc (g : Nat) (r : GenRec) : Nat :=
  let crcs := fun (ckpt : Bool) (n : Nat) => (List.range n).flatMap fun k => (partHeader g r ckpt k).drop 60
  (crc32c (crcs true (partsOf r.ckptDelta.length) ++ crcs false r.parts)).toNat

-- seals and records (R116)

/-- A seal or record of 64 bytes (R116). -/
def recordBytes (g kind gen lineage ref flags count chainc swatches secs tks : Nat) : List Byte :=
  withCrc (leBytes 4 0x4C455351 ++ leBytes 2 1 ++ leBytes 1 g ++ leBytes 1 kind ++ leBytes 6 gen ++ leBytes 2 lineage ++ leBytes 6 ref ++
    leBytes 1 flags ++ zeros 1 ++ leBytes 4 count ++ leBytes 4 chainc ++ leBytes 4 swatches ++ leBytes 4 secs ++ leBytes 2 tks ++ zeros 18)

/-- The seal of a generation: kind 1 for one that a hem saved (R116). -/
def sealBytes (g : Nat) (r : GenRec) : List Byte :=
  recordBytes g r.hem.toNat r.num r.lineage r.prev
    (r.hem.toNat + 2 * r.outside.toNat + 4 * r.ckpt.toNat + 16 * r.relief.toNat) (allParts r) (chainCrc g r) r.swatches r.secs r.ticks

/-- A pin or damage record as it is written now (R66, R116, R122). -/
def pendBytes (s : State) (g : Nat) (p : PendRec) : List Byte :=
  let lin := ((genOf (grp s g) p.gen).map (·.lineage)).getD 0
  recordBytes g p.kind p.gen lin 0 (if p.kind = 3 then 8 * (p.arg % 2) else 0) (if p.kind = 4 then p.arg else 0) 0 0 (seconds s) (ticks s)

/-- The unpick record to target `t` as it is written now: the new open generation, the number of generations that its
commit discards (R72, R116). -/
def unpickBytes (s : State) (g t n lineage : Nat) : List Byte :=
  recordBytes g 2 ((grp s g).highest + 1) lineage t 0 n 0 0 (seconds s) (ticks s)

/-- A record codeword's payload: up to 64 seals or records, its unused slots zero (R270). -/
def recordPayload (l : List (List Byte)) : List Byte := padTo 4096 l.flatten

-- the hem record (R153)

/-- The second codeword of a hem record: the saved chunk of channel c at byte 256c, zeros for the others (R153). -/
def chunkPayload (r : HemRecord) : List Byte :=
  (List.range 16).flatMap fun c => padTo 256 (((r.chunks.find? fun e => e.1 == c).map Prod.snd).getD [])

-- intent pages (R284)

/-- An intent record; a block's position in State is channel + 32 × (target + 16 × (LUN + 8 × block)). -/
def intentBytes (r : IntentRec) : List Byte :=
  leBytes 1 r.type ++ leBytes 1 r.stream ++ leBytes 1 (blkTarget r.blk) ++ leBytes 1 (blkLun r.blk) ++ leBytes 4 (r.blk / 4096) ++
    leBytes 2 r.wordline ++ leBytes 6 r.bseq ++ leBytes 8 r.wseq ++ zeros 8

/-- An intent page with its sequence number; the second half of a 32 KiB page is 0xFF (R284). -/
def intentPageBytes (s : State) (seq : Nat) (l : List IntentRec) : List Byte :=
  let recs := padTo 16320 (l.flatMap intentBytes)
  let head := leBytes 4 0x544E5351 ++ leBytes 8 seq ++ leBytes 2 l.length ++ zeros 46
  head ++ crcBytes (head ++ recs) ++ recs ++ (if (fgeom s).pageKib = 32 then List.replicate 16384 0xFF else [])

-- the lining (R95, R103, R104, R106, R156)

/-- The slot after a slot on its group's list, 0xFFFF_FFFF at the end of the list (R106). -/
def nextSlot (l : List Slot) (n : Nat) : Nat :=
  (((l.dropWhile fun x => x.n != n).drop 1).head?.map (·.n)).getD 0xFFFFFFFF

/-- The slot-directory entry of a slot (R106). -/
def slotEntry (s : State) (n : Nat) : Nat :=
  match s.gen.groups.find? fun e => e.2.slots.any fun x => x.n == n with
  | none => 0
  | some e => match e.2.slots.find? fun x => x.n == n with
    | none => 0
    | some x => x.swatch % 2 ^ 31 + 2 ^ 31 + 2 ^ 32 * nextSlot e.2.slots n

/-- The content of a copy-on-write slot. -/
def slotPage (s : State) (n : Nat) : Page :=
  (((s.gen.groups.flatMap fun e => e.2.slots).find? fun x => x.n == n).map (·.page)).getD {}

/-- Byte of the dirty map: the entry of swatch 2b in bits 3:0, of swatch 2b + 1 in bits 7:4 (R95). -/
def mapByte (s : State) (b : Nat) : Nat := (entryOf s (2 * b)).toNat + 16 * (entryOf s (2 * b + 1)).toNat

/-- Byte of the unpick line bitmap (R104; the order of its bits, log entry 131). -/
def bitmapByte (s : State) (b : Nat) : Nat := maskOf 8 fun k => lineBit s (8 * b + k)

/-- Where the regions of the lining start, as offsets from its base: the location table, the bitmap, the slot directory, the
copy-on-write area and its end (R103). -/
def liningRegions (s : State) : Nat × Nat × Nat × Nat × Nat :=
  let total := s.dram.layout.length * s.dram.chBytes
  let bitmap := gibUp (total / 8192 + total / 512) * 2 ^ 30
  let cow := cowStart total (s.gen.slotTotal / 2 ^ 18) * 2 ^ 30
  (total / 8192, bitmap, bitmap + total / 4194304, cow, cow + 4096 * s.gen.slotTotal)

/-- The byte of the lining at an offset from its base; the unused remainder holds no data (R103). -/
def liningByte (s : State) (off : Nat) : Byte :=
  let (tab, bitmap, dir, cow, stop) := liningRegions s
  let total := s.dram.layout.length * s.dram.chBytes
  if off < tab then BitVec.ofNat 8 (mapByte s off)
  else if off < tab + total / 512 then (leBytes 8 (locEntry s ((off - tab) / 8))).getD ((off - tab) % 8) 0
  else if bitmap ≤ off ∧ off < dir then BitVec.ofNat 8 (bitmapByte s (off - bitmap))
  else if dir ≤ off ∧ off < dir + 8 * s.gen.slotTotal then (leBytes 8 (slotEntry s ((off - dir) / 8))).getD ((off - dir) % 8) 0
  else if cow ≤ off ∧ off < stop then Sparse.get zeroByte (slotPage s ((off - cow) / 4096)).bytes ((off - cow) % 4096)
  else 0

/-- A byte of DRAM, host memory or lining. -/
def dramByte (s : State) (a : Nat) : Byte :=
  if s.dram.liningBase ≤ a ∧ a < s.dram.layout.length * s.dram.chBytes then liningByte s (a - s.dram.liningBase)
  else Sparse.get zeroByte s.dram.mem a

end Sys2Proof.Machine
end

