-- ==== Sys2Proof/Machine/IcuOps.lean ====
section
/-! DEFINITION. Shared operations of the interrupt controller and of management SRAM: priorities and arbitration
(R414), frames and handler addresses (R416), the push and pop of the priority stack, wake sources (R421 to R423). -/

namespace Sys2Proof.Machine

open Bits

/-- Bytes of management SRAM from an offset. -/
def sramBytes (s : State) (off n : Nat) : List Byte := Sparse.getList (fun _ => 0#8) s.sram off n

/-- Stores bytes in management SRAM from an offset. -/
def sramStore (s : State) (off : Nat) (bs : List Byte) : State :=
  { s with sram := Sparse.setList (fun _ => 0#8) s.sram off bs }

/-- Priority of a source; source 0 has the fixed priority 0 (R414). -/
def prioOf (s : State) (src : Nat) : Nat := if src = 0 then 0 else rf s (Reg.icuPrio (src / 4)) (8 * (src % 4)) 8

/-- Enable bit of a source; that of source 0 cannot be cleared (R414). -/
def isEnabled (s : State) (src : Nat) : Bool := decide (src = 0) || rb s (Reg.icuEn (src / 32)) (src % 32)

/-- The tier of a priority (R414). -/
def tier (s : State) (p : Nat) : Nat := p >>> rf s Reg.icuCfg 8 3

/-- Whether a source's tier lets it interrupt what the stack `stk` holds on top. -/
def aboveTop (s : State) (stk : List (Nat × Nat)) (p : Nat) : Bool :=
  match stk with
  | [] => true
  | e :: _ => decide (tier s p < tier s e.2)

/-- A pending source can be taken against the stack `stk` (R414, R415). -/
def takeable (s : State) (stk : List (Nat × Nat)) (src : Nat) : Bool :=
  let p := prioOf s src
  isEnabled s src && rb s Reg.icuCfg 0 && aboveTop s stk p && decide (tier s p < tier s (rf s Reg.icuAdmit 0 8))
    && decide (stk.length < 16) && decide (p ≠ 0xFF)

/-- The pending sources, in number order. -/
def pendingList (s : State) : List Nat :=
  (List.range 16).flatMap fun k =>
    let w := rd s (Reg.icuPend k)
    if w = 0#32 then [] else (List.range 32).filterMap fun b => if bit w b then some (32 * k + b) else none

/-- The source that is taken: lowest priority value, then lowest number (R414). -/
def bestSource (s : State) (stk : List (Nat × Nat)) : Option Nat :=
  minBy (fun a b => decide (prioOf s a < prioOf s b)) ((pendingList s).filter (takeable s stk))

/-- A handler address lies in the code flash or the SRAM and is aligned to 2 bytes (R416). -/
def handlerOk (a : Nat) : Bool :=
  decide (a % 2 = 0) && (decide (a < 0x04000000) || (decide (0x10000000 ≤ a) && decide (a < 0x10100000)))

/-- The handler address of a source: the word at ICU_HTAB + 4 × source (R416). -/
def handlerAddr (s : State) (src : Nat) : Nat :=
  ofLe (sramBytes s ((rd s Reg.icuHtab).toNat - 0x10000000 + 4 * src) 4)

/-- SRAM offset of context frame d (R416). -/
def frameOff (s : State) (d : Nat) : Nat := (rd s Reg.icuFrameBase).toNat - 0x10000000 + 80 * d

/-- The owner bytes of a frame: source, priority, zeros (R416). -/
def ownerBytes (s : State) (src : Nat) : List Byte := leBytes 2 src ++ leBytes 1 (prioOf s src) ++ zeros 5

/-- A stack fault: source 0 is raised and the cause and the source named are recorded (R418, R419, R416). -/
def stackFault (s : State) (cause src : Nat) : State :=
  icu (wr s Reg.icuFault (wd (cause + src % 512 * 65536))) 0

/-- The source's handler address is out of range: the entry is abandoned (R412, R416). -/
def abandonEntry (s : State) (src : Nat) : State :=
  report (stackFault (lostErr (bumpLost (setPending s src false) src)) 5 src) Pg.icu 18 0

/-- The source becomes active, is pushed and its handler runs (R412, R416). -/
def enterSource (s : State) (src : Nat) (live : List (Option Nat)) : State :=
  let p := prioOf s src
  let s := setPending s src false
  let v := wd (handlerAddr s src)
  { s with icu := { s.icu with stack := (src, p) :: s.icu.stack, live := some src :: live, vector := v } }

/-- ICU_DONE completes the source on top (R418). -/
def completeTop (s : State) (src : Nat) : State :=
  let live := match s.icu.live.findIdx? (· == some src) with
    | some i => s.icu.live.set i none
    | none => s.icu.live
  { s with icu := { s.icu with stack := s.icu.stack.tail, live := live } }

/-- A pending source that wakes from light sleep: enabled and takeable (R421). -/
def lightWake (s : State) : Option Nat := bestSource s s.icu.stack

/-- A pending source that wakes from deep sleep: watched by the thimble (R421, R422). -/
def deepWake (s : State) : Option Nat := (pendingList s).find? (watched s)

/-- Records what woke the pair (R424). -/
def wakeCause (s : State) (src : Nat) (thimble : Bool) : State :=
  wr s Reg.sysWakeCause (wd (src % 512 + 512 + thimble.toNat * 1024))

/-- Every active source returns to idle with its lost counter raised (R403, R412). -/
def clearStack (s : State) : State :=
  let act := s.icu.stack
  let s := { s with icu := { s.icu with stack := [], live := [] } }
  forEach act s fun s e => lostErr (bumpLost s e.1)

end Sys2Proof.Machine
end

