-- ==== Sys2Proof/Machine/UpdOps.lean ====
section
/-! DEFINITION. The update engine's shared operations (chapter 14): images (R458 to R460), containers (R461, R462,
R465), refusals (R466), the boot record (R457), restarts of the core pair (R403, R404), handover, trial and fall-back
(R470 to R477). The boot record's entries are held as structures beside their bytes in the code flash. -/

namespace Sys2Proof.Machine

open Bits

-- result codes (R479)

def udDONE : Nat := 0x00
def udREFUSED : Nat := 0x01
def udBAD_CONTAINER : Nat := 0x02
def udWRONG_BASE : Nat := 0x03
def udTOO_LARGE : Nat := 0x04
def udBAD_DIGEST : Nat := 0x05
def udBAD_IMAGE : Nat := 0x06
def udBAD_SIGNATURE : Nat := 0x07
def udKEY_RETIRED : Nat := 0x08
def udSETTINGS_UNCONVERTED : Nat := 0x09
def udNO_TRIAL : Nat := 0x0A
def udFLASH_FAIL : Nat := 0x0B
def udHANDOVER_FAIL : Nat := 0x0C
def udBAD_SECRET : Nat := 0x0D

-- return codes of the CXL specification (log entry 14)

def rcFwInProgress : Nat := 0x08
def rcFwOutOfOrder : Nat := 0x09
def rcFwVerification : Nat := 0x0A
def rcInvalidSlot : Nat := 0x0B
def rcFwRolledBack : Nat := 0x0C
def rcColdReset : Nat := 0x0D
def rcAborted : Nat := 0x12

-- images (R458, R459)

/-- Start of a slot in the code flash: false A, true B. -/
def slotBase (slot : Bool) : Nat := if slot then 0x01000000 else 0

/-- The image header of a slot, and its fields. -/
def imgHeader (s : State) (slot : Bool) : List Byte := cflRead s (slotBase slot) 512
def imgLen (h : List Byte) : Nat := leAt h 12 4

/-- The first condition of R459 that an image fails, as the result code; DONE if it is valid. -/
def imgCheck (s : State) (slot : Bool) : Nat :=
  let h := imgHeader s slot
  let n := imgLen h
  let key := byteAt h 20
  if leAt h 0 4 ≠ 0x4D495351 ∨ n < 4096 ∨ 2 ^ 24 < n then udBAD_IMAGE
  else if Config.sha384 (cflRead s (slotBase slot + 512) (n - 512)) ≠ (h.drop 64).take 48 then udBAD_DIGEST
  else if 3 < key ∨ s.upd.keys.testBit key = false ∨ s.upd.retired.testBit key = true then udKEY_RETIRED
  else if Config.ecdsaVerify key (Config.sha384 (h.take 112)) ((h.drop 112).take 96) then udDONE else udBAD_SIGNATURE

def imgValid (s : State) (slot : Bool) : Bool := imgCheck s slot == udDONE

/-- Version of a slot's image, 0 if it is not valid (UPD_IMG_A, UPD_IMG_B). -/
def imgVersion (s : State) (slot : Bool) : Nat := if imgValid s slot then leAt (imgHeader s slot) 4 4 else 0

/-- Address at which a slot's image starts (R460). -/
def imgEntry (s : State) (slot : Bool) : Nat := slotBase slot + leAt (imgHeader s slot) 16 4

-- boot record (R457)

/-- The entry that governs; none written: slot A, no trial. -/
def bootEnt (s : State) : BootEnt :=
  s.upd.boot.headD { seq := 0, slot := false, trial := 0, secs := 0 }

/-- The 64 bytes of an entry (R457). -/
def bootBytes (e : BootEnt) : List Byte :=
  let b := leBytes 4 0x54425351 ++ leBytes 4 e.seq ++ leBytes 1 e.slot.toNat ++ leBytes 1 e.trial ++ leBytes 1 e.restarts ++
    leBytes 1 (e.ownerLock.toNat + 2 * e.unconverted.toNat) ++ leBytes 1 e.areaA ++ leBytes 1 e.areaB ++ zeros 2 ++
    leBytes 4 e.trialSecs ++ leBytes 4 e.secs ++ padTo 32 e.lockCheck ++ zeros 4
  b ++ leBytes 4 (crc32c b).toNat

/-- An entry's bytes go to the boot record's sectors in order; the sector it begins is erased where it was full (R457). -/
def programBoot (s : State) (e : BootEnt) : State :=
  let a := 0x02000000 + 64 * ((e.seq - 1) % 1024)
  let s := if (e.seq - 1) % 64 = 0 then cflErase s a 4096 else s
  cflProgram s a (bootBytes e)

/-- Appends an entry: 16 sectors of 64; the oldest sector is erased when the last is full. -/
def appendBoot (s : State) (f : BootEnt → BootEnt) : State :=
  let e := bootEnt s
  let e := f { e with
    seq := e.seq + 1
    restarts := s.upd.restarts
    ownerLock := s.upd.ownerLock
    unconverted := s.upd.unconverted
    trialSecs := s.upd.trialSecs
    secs := seconds s
    lockCheck := s.upd.lockCheck }
  let l := if s.upd.boot.length < 1024 then s.upd.boot else s.upd.boot.take 960
  programBoot { s with upd := { s.upd with boot := e :: l } } e

-- restart of the core pair (R403, steps 2 to 4)

/-- Restarts under R403 and R404 in the last 60 s. -/
def recentRestarts (s : State) : Nat := (s.icu.restarts.filter fun t => decide (now s < t + 60 * 32768)).length

/-- The core pair domain is reset: the stack is cleared and the pair starts at an address with one cause set (R403, R425). -/
def restartPair (s : State) (cause entry : Nat) : State :=
  let s := clearStack s
  let s := { s with icu := { s.icu with core := .running, vector := wd entry, context := [] } }
  wr s Reg.sysResetCause (wd (2 ^ cause + min 255 (recentRestarts s) * 256))

-- refusals (R466)

/-- E_need as numerator and denominator, in joules (R466). -/
def needNum (s : State) : Nat :=
  rf s Reg.genmHemPower 0 16 * (globalUnsewn s * 4096000 + rf s Reg.genmHemFixed 0 16 * rf s Reg.genmHemBw 0 16 * 100000000)
def needDen (s : State) : Nat := 5 * rf s Reg.genmHemBw 0 16 * 100000000000

/-- E_need in whole joules (UPD_ENERGY). -/
def needJ (s : State) : Nat := needNum s / needDen s

/-- Conditions of R466 as bits. -/
def refuseMask (s : State) : Nat :=
  maskOf 6 fun b =>
    match b with
    | 0 => s.psq.latchOpen
    | 1 => decide ((rd s Reg.genmEnergy).toNat * needDen s < needNum s) || !s.bat.valid
    | 2 => s.upd.ownerLock
    | 3 => s.gen.hem.st != 0
    | 4 => decide (1 ≤ s.gen.restore.phase ∧ s.gen.restore.phase ≤ 5) || s.gen.restore.phase == 7
    | _ => s.gen.groups.any fun e => e.2.quiesced || e.2.unpick.isSome

/-- A step is refused: its conditions are shown and counted in UPD_REFUSE. -/
def noteRefusal (s : State) : State :=
  addSat (wrF s Reg.updRefuse 0 6 (refuseMask s)) Reg.updRefuse 16 16 1

-- slots and transfers

/-- The slot's image is marked not valid: its header is erased. -/
def slotInvalid (s : State) (slot : Bool) : State := cflErase s (slotBase slot) 4096

/-- The end of a UPD operation raises source 460 (R482). -/
def updEnd (s : State) : State := icu s 460

/-- A transfer or reconstruction is abandoned (R463, R467): the slot is not valid, and the host sees FW Transfer Aborted. -/
def abandonTransfer (s : State) : State :=
  if 1 ≤ s.upd.st ∧ s.upd.st ≤ 3 then
    let ld := s.upd.xferLd
    let s := slotInvalid s (!s.upd.slot)
    let s := { s with upd := { s.upd with
      st := 0
      staged := false
      aborted := ld.isNone
      xferLd := none
      received := 0 } }
    updEnd (endBg s ld rcAborted [])
  else s

/-- A hem cut or LATCH_OPEN during reconstruction abandons it (R467). -/
def abandonReconstruction (s : State) : State := if s.upd.st = 3 then abandonTransfer s else s

-- containers (R461, R462, R465)

/-- Start and size of the staging area (R456). -/
def stageBase : Nat := 0x02210000
def stageSize : Nat := 10420224

/-- The records write the target (R462): the records left, those of all records for the END check, the bytes written. -/
def runRecords (src : Nat → Nat → Option (List Byte)) (all : List Byte) : Nat → List Byte → List Byte → Option (List Byte)
  | 0, _, _ => none
  | k + 1, r, out =>
    let n := leAt r 1 3
    let op := leAt r 4 4
    match byteAt r 0 with
    | 1 =>
      match src op n with
      | some b => runRecords src all k (r.drop 8) (out ++ b)
      | none => none
    | 2 =>
      let m := (n + 3) / 4 * 4
      if r.length < 8 + m then none else runRecords src all k (r.drop (8 + m)) (out ++ (r.drop 8).take n)
    | 3 => runRecords src all k (r.drop 8) (out ++ List.replicate n (BitVec.ofNat 8 op))
    | 0xFF =>
      if r.length = 8 ∧ n = 0 ∧ op = (crc32c (all.take (all.length - 8))).toNat then some out else none
    | _ => none

/-- Reconstruction of the staged container into the inactive slot (R465): the result code, and the target. -/
def reconstruct (s : State) : Nat × List Byte :=
  let h := cflRead s stageBase 128
  let act := s.upd.slot
  let len := imgLen (imgHeader s act)
  let recs := cflRead s (stageBase + 128) (leAt h 12 4)
  let src := fun a n => if a + n ≤ len then some (cflRead s (slotBase act + a) n) else none
  if leAt h 0 4 ≠ 0x4E484D41 ∨ leAt h 124 4 ≠ (crc32c (h.take 124)).toNat then (udBAD_CONTAINER, [])
  else if byteAt h 6 % 2 = 0 ∧ Config.sha384 (cflRead s (slotBase act) len) ≠ (h.drop 24).take 48 then (udWRONG_BASE, [])
  else
    match runRecords src recs (recs.length + 1) recs [] with
    | none => (udBAD_CONTAINER, [])
    | some out =>
      if out.length ≠ leAt h 8 4 then (udBAD_CONTAINER, [])
      else if Config.sha384 out ≠ (h.drop 72).take 48 then (udBAD_DIGEST, out)
      else (udDONE, out)

-- handover, trial, fall-back

/-- The configuration area that a slot reads (R457). -/
def areaOf (s : State) (slot : Bool) : Nat := if slot then (bootEnt s).areaB else (bootEnt s).areaA

/-- Address of a half of a configuration area (R456, R473). -/
def halfBase (i : Nat) (h : Bool) : Nat := 0x02010000 + 0x100000 * (i % 2) + 0x80000 * h.toNat

/-- A half's header, its records, and whether it is whole: its magic, its CRC, and no unit that reads two ways (R473). -/
def halfHeader (s : State) (i : Nat) (h : Bool) : List Byte := cflBytes s (halfBase i h) 32
def halfRecords (s : State) (i : Nat) (h : Bool) : List Byte :=
  cflBytes s (halfBase i h + 32) (min (0x80000 - 32) (leAt (halfHeader s i h) 12 4))
def halfOk (s : State) (i : Nat) (h : Bool) : Bool :=
  let b := halfHeader s i h
  decide (leAt b 0 4 = 0x46435351) && decide (leAt b 12 4 ≤ 0x80000 - 32) && !cflUndef s (halfBase i h) &&
    decide (leAt b 28 4 = (crc32c (b.take 28 ++ halfRecords s i h)).toNat)

/-- The half that governs: of those that are whole the one with the higher sequence (R473). -/
def halfGoverns (s : State) (i : Nat) : Option Bool :=
  match halfOk s i false, halfOk s i true with
  | true, true => some (decide (leAt (halfHeader s i false) 4 4 < leAt (halfHeader s i true) 4 4))
  | true, false => some false
  | false, true => some true
  | false, false => none

/-- An area's settings format, sequence and records; 0 and none where no half governs. -/
def areaFmt (s : State) (i : Nat) : Nat := ((halfGoverns s i).map fun h => leAt (halfHeader s i h) 8 2).getD 0
def areaSeq (s : State) (i : Nat) : Nat := ((halfGoverns s i).map fun h => leAt (halfHeader s i h) 4 4).getD 0
def areaRecords (s : State) (i : Nat) : List Byte := ((halfGoverns s i).map (halfRecords s i)).getD []

/-- A write of an area: the older half is erased and programmed, its header last (R473). -/
def writeArea (s : State) (i fmt : Nat) (recs : List Byte) : State :=
  let h := ((halfGoverns s i).map fun g => !g).getD false
  let recs := recs.take (0x80000 - 32)
  let head := leBytes 4 0x46435351 ++ leBytes 4 (areaSeq s i + 1) ++ leBytes 2 fmt ++ zeros 2 ++ leBytes 4 recs.length ++ zeros 12
  let s := cflProgram (cflErase s (halfBase i h) 0x80000) (halfBase i h + 32) recs
  cflProgram s (halfBase i h) (head ++ leBytes 4 (crc32c (head ++ recs)).toNat)

/-- The records of an area's bytes: type, class, 2 bytes of length, data (R473); at most as many as given. -/
def splitRecs : Nat → List Byte → List (List Byte)
  | 0, _ => []
  | k + 1, bs =>
    if bs.length < 4 then [] else bs.take (4 + leAt bs 2 2) :: splitRecs k (bs.drop (4 + leAt bs 2 2))

/-- Settings (class 0 records) of one area that another does not hold: what a fall-back discards (R477; log entry 129). -/
def lostSettings (s : State) (new old : Nat) : Nat :=
  let recs := fun i => let b := areaRecords s i; splitRecs b.length b
  let keep := recs old
  ((recs new).filter fun r => byteAt r 1 == 0 && !keep.contains r).length

/-- A handover fails (R471): the old image restarts from the record; Activate FW is rolled back. -/
def handoverFail (s : State) : State :=
  if s.upd.st = 5 then
    let old := !s.upd.slot
    let ld := s.upd.actLd
    let s := { s with upd := { s.upd with st := 4, slot := old, result := udHANDOVER_FAIL, actLd := none } }
    let s := appendBoot s fun e => { e with slot := old, trial := 0 }
    let s := restartPair (wr s Reg.sysBoot (wd old.toNat)) 4 (imgEntry s old)
    updEnd (endBg (report s Pg.upd 17 0) ld rcFwRolledBack [])
  else s

/-- A trial is confirmed (R477). -/
def confirmTrial (s : State) : State :=
  let s := { s with upd := { s.upd with st := 0, staged := false, result := udDONE, fallDue := false } }
  updEnd (appendBoot s fun e => { e with trial := 0 })

/-- Conditions of bits 3 to 5 of R466, which a fall-back waits for (R476). -/
def fallWaits (s : State) : Bool := refuseMask s / 8 != 0

/-- The fall-back runs (R477): the old slot is active, the pair restarts at the old image's entry. -/
def runFallBack (s : State) : State :=
  let old := !s.upd.slot
  let s := logged s (.fallBack (lostSettings s (areaOf s s.upd.slot) (areaOf s old)))
  let s := { s with upd := { s.upd with
    st := 0
    slot := old
    staged := false
    unconverted := false
    fallDue := false } }
  let s := appendBoot s fun e => { e with slot := old, trial := 3 }
  let s := restartPair (wr s Reg.sysBoot (wd old.toNat)) 4 (imgEntry s old)
  updEnd (report s Pg.upd 18 0)

/-- A trial fails (R476): the fall-back runs, or waits. -/
def failTrial (s : State) : State :=
  if s.upd.st = 6 ∨ s.upd.st = 7 then
    if fallWaits s then { s with upd := { s.upd with st := 7, fallDue := true } } else runFallBack s
  else s

/-- A restart under R403 or R404: a handover fails (R471), the second one of a trial ends it (R476). -/
def updOnRestart (s : State) : State :=
  if s.upd.st = 5 then handoverFail s
  else if s.upd.st = 6 then
    let s := { s with upd := { s.upd with restarts := s.upd.restarts + 1 } }
    if 2 ≤ s.upd.restarts then failTrial s else s
  else s

-- boot selection (R460, R472, R475)

/-- The pair starts in a slot at a power-up. -/
def bootSlot (s : State) (slot : Bool) (trial : Nat) : State :=
  let e := bootEnt s
  let key := byteAt (imgHeader s slot) 20
  let s := { s with upd := { s.upd with
    slot := slot
    st := if trial = 1 then 6 else if s.upd.staged then 4 else 0
    keySlot := key
    trialSecs := e.trialSecs
    restarts := e.restarts
    ownerLock := e.ownerLock
    lockCheck := e.lockCheck } }
  let s := { s with icu := { s.icu with core := .running, vector := wd (imgEntry s slot) } }
  wr s Reg.sysBoot (wd slot.toNat)

/-- UPD chooses the slot that starts (R460): none valid calls for the hold in reset. -/
def bootSelect (s : State) : State :=
  let e := bootEnt s
  let old := !e.slot
  let back := e.trial = 2 ∨ (e.trial = 1 ∧ e.unconverted = true)
  let first := if back then old else e.slot
  let s := if back then appendBoot s fun b => { b with slot := old, trial := if e.trial = 2 then 0 else 3 } else s
  let s := if e.trial = 2 then logged s (.oldSlot old) else s
  let s := if e.trial = 1 ∧ e.unconverted = true then report (logged s (.fallBack 0)) Pg.upd 18 0 else s
  if imgValid s first then bootSlot s first (bootEnt s).trial
  else if imgValid s (!first) then
    let s := report s Pg.upd 19 0
    let s := if (bootEnt s).trial = 1 then appendBoot s fun b => { b with slot := !first, trial := 3 } else s
    bootSlot s (!first) 0
  else { s with flt := { s.flt with esc := s.flt.esc ++ [Esc.hold] } }

end Sys2Proof.Machine
end

