-- ==== Sys2Proof/Machine/HemOps.lean ====
section
/-! DEFINITION. The hem and restore (chapter 4): the cut (R138 to R143), seals (R144), step 6 (R153), warm resume
(R154, R155), the start of a restore, its rebuild and its fetches (R156 to R168), the re-layout (R226). -/

namespace Sys2Proof.Machine

open Bits

def setHem (s : State) (h : Hem) : State := { s with gen := { s.gen with hem := h } }

/-- A flag of GEN_HEM_STATE (R176): 8 outside window, 9 incomplete, 10 energy cut, 11 warm, 12 level 2. -/
def hemFlag (s : State) (b : Nat) (v : Bool) : State := wrB s Reg.genHemState b v

/-- A NAND case temperature reported to THM lies outside 0 °C to 85 °C (R145). -/
def nandOutside (s : State) : Bool :=
  s.fst.chs.any fun e => match e.2.temp with
    | some t => decide (t < 0) || decide (85 < t)
    | none => false

-- the cut

/-- A trigger starts a hem: restore has begun, and none runs nor has left the device hemmed or in keep-alive (R135,
R136, R150, R341). -/
def hemCan (s : State) : Bool := s.psq.restoreBegun && coreUp s && !hemBusy s

/-- The groups that a hem saves: enabled, and not waiting for the key of an erase (R81). -/
def hemGroups (s : State) : List Nat := (enabledGroups s).filter fun g => !(grp s g).keyPending

/-- Swatches of a group in the states that `p` picks, in ascending order. -/
def mapList (s : State) (g : Nat) (p : MapSt → Bool) : List Nat :=
  s.gen.map.filterMap fun e => if inGroup s g e.1 && p (mapSt (grp s g).parity e.2) then some e.1 else none

/-- Serves lists in turn with a quantum of 256 (R143). -/
def inTurn {α : Type} : Nat → List (List α) → List α
  | 0, _ => []
  | k + 1, l => if l.all (·.isEmpty) then [] else l.flatMap (·.take 256) ++ inTurn k (l.map (·.drop 256))

/-- A hem program of a swatch's page for a generation; `dram` tells that it is read from the swatch's own place. -/
def hemProg (s : State) (g n sw : Nat) (p : Page) (dram : Bool) : Prog :=
  { id := 0, g, gen := n, swatch := sw, idx := relIdx s sw, page := p, use := 1, inDram := dram }

/-- The tacked generation's swatches of a slice: slots in list order, then TACKED entries (R143, class 2). -/
def hemTacked (s : State) (k g : Nat) : List Prog :=
  match tackedGen (grp s g) with
  | none => []
  | some r =>
    (((grp s g).slots.filter fun x => sliceOf s x.swatch == k).map fun x => hemProg s g r.num x.swatch x.page false) ++
      ((mapList s g (· == .tacked)).filter fun sw => sliceOf s sw == k).map fun sw => hemProg s g r.num sw (readPage s sw) true

/-- The open generation's swatches of a slice: OPEN and BOTH entries (R143, class 3). -/
def hemOpen (s : State) (k g : Nat) : List Prog :=
  ((mapList s g fun m => m == .opened || m == .both).filter fun sw => sliceOf s sw == k).map fun sw =>
    hemProg s g (grp s g).openGen sw (readPage s sw) true

/-- What the hem programs, slice by slice in the order of R143: captured swatches, the tacked generations, the open
ones. -/
def hemWork (s : State) : List Prog :=
  let gs := hemGroups s
  (List.range 8).flatMap fun k =>
    let two := gs.map (hemTacked s k)
    let three := gs.map (hemOpen s k)
    ((s.gen.progs.filter fun p => p.use == 0 && sliceOf s p.swatch == k && !(grp s p.g).keyPending).map fun p => { p with use := 1 }) ++
      inTurn ((two.map List.length).sum + 1) two ++ inTurn ((three.map List.length).sum + 1) three

/-- The next generation opens on the restored one (R155, R157). -/
def openNext (s : State) (g : Nat) : State :=
  let gr := grp s g
  let n := gr.highest + 1
  setGrp s g { gr with
    openGen := n
    highest := n
    lineage := ((genOf gr gr.base).map (·.lineage)).getD gr.lineage }

/-- A group whose new key of an erase has not read back is left erased by a hem: no key, no generation (R81). -/
def leaveErased (s : State) (g : Nat) : State :=
  let s := dropUnsewn s g
  setGrp s g { grp s g with gens := [], base := 0, lineage := 0, key := none, wrapped := none, hostMode := false }

/-- The cut of a group: its queued tack is discarded (R62), its quiesce ends and an unpick before its commit is dropped
(R75), its open generation is closed by record without a flip of the parity (R101). During a rebuild the group has no open
generation yet: its next one opens and is closed empty (R169). -/
def cutGroup (s : State) (g : Nat) : State :=
  let s := match (grp s g).queued with
    | some r => resolve (setGrp s g { grp s g with queued := none }) g oHEM_ACTIVE r
    | none => s
  let s := match (grp s g).unpick with
    | some u =>
      let s := if u.phase = 2 then s else setGrp s g { grp s g with unpick := none }
      if u.phase = 1 then finish s u.ld oHEM_ACTIVE 0 (unpickOut oHEM_ACTIVE 0 0) else s
    | none => s
  let gr := grp s g
  let s := if gr.quiesced && !gr.quiesceDrained then finishCode s gr.quiesceLd oHEM_ACTIVE else s
  let s := if gr.quiesced then endQuiesce s g else s
  if gr.keyPending then leaveErased s g
  else
  let s := if s.gen.restore.phase = 2 ∨ s.gen.restore.phase = 3 then openNext s g else s
  let gr := grp s g
  let o : GenRec :=
    { num := gr.openGen
      hem := true
      lineage := gr.lineage
      prev := gr.base
      secs := seconds s
      ticks := ticks s
      swatches := gr.openCount }
  setGrp s g { gr with
    gens := (gr.gens.map fun r => if decide (1 ≤ r.st ∧ r.st ≤ 3) then { r with hem := true } else r) ++ [o]
    base := gr.openGen }

/-- Nothing more is programmed once no flash channel is healthy (R146): the hem's programs and seals are given up. -/
def hemGiveUp (s : State) : State :=
  if s.gen.hem.active && !s.gen.hem.step6 && decide (fchCount s = 0) then
    let s := { s with gen := { s.gen with progs := s.gen.progs.filter fun p => p.use != 1 } }
    hemFlag (setHem s { s.gen.hem with seals := [], abandoned := true }) 9 true
  else s

/-- The links and their quads power down at a cut of trigger 1, 2, 3 or 6 (R139). -/
def cutLinks (s : State) : State :=
  let s := linkOff (linkOff { s with hl := { s.hl with linksOff := true } } 0) 1
  forEach (List.range 10) s fun s k => domReq s (80 + k) false

/-- The hem's walk reaches every map line: those whose bit is set are rewritten (R104). -/
def touchAll (s : State) : State := forEach (Sparse.keys s.gen.lineBits) s fun s l => touchLine s (128 * l)

/-- A further trigger during a hem or in the hemmed state is logged with its code, and changes nothing (R136, R150). -/
def furtherTrigger (s : State) (trig : Nat) : State :=
  if s.gen.hem.active || s.gen.hem.st == 5 then logged s (.hemTrigger trig) else s

/-- The hem cut (R138 to R143). A trigger that finds a hem running, the hemmed state or keep-alive changes nothing but the
log. -/
def hemCut (s : State) (trig : Nat) : State :=
  if !hemCan s then furtherTrigger s trig
  else
    let old := s.gen.hem
    let s := setHem s { old with
      active := true
      st := 2
      trigger := trig
      seals := []
      sewn := []
      recLeft := []
      abandoned := false
      step6 := false
      cutAt := now s
      kaNonce := none
      railsHeld := false
      resetsHeld := false
      returned := false
      warmOk := none }
    let s := hemFlag (hemFlag (hemFlag s 8 (nandOutside s)) 9 false) 10 false
    let s := hemFlag s 12 (persistLost s)
    let s := wr (wr s Reg.genHemLastSwatches 0#32) Reg.genHemLastAt (wd (seconds s))
    let s := icu s 260
    let s := dropRequests s fun _ => true
    let s := { s with gen := { s.gen with restore := { s.gen.restore with fetches := [] }, relief := none } }
    let s := if trig = 4 ∨ trig = 5 then s else cutLinks s
    let s := touchAll s
    let work := hemWork s
    let s := disarm s (some oHEM_ACTIVE)
    let s := forEach (enabledGroups s) s cutGroup
    let s := forEach work s fun s p => addProg (activatePage s p.swatch) p
    let s := forEach ((s.fst.luns.filter fun e => e.2.op == 2 || e.2.op == 3).map Prod.fst) s fun s k => suspendErase s k true
    let s := forEach s.dram.layout s fun s c => hemTset s c true
    let s := poolHem s
    let s := batHold (updateHold { s with psq := { s.psq with holdHem := true } })
    let s := if trig = 1 ∨ trig = 3 then driveFault s (some trig) else s
    noteReasons (hemGiveUp (evrFlush (abandonReconstruction s)))

-- seals (R144)

/-- The seals of the hem: a group's tacked generation first, then its closed open generation. -/
def hemSeals (s : State) : List HemSeal :=
  let gs := hemGroups s
  (gs.flatMap fun g => ((grp s g).gens.filter fun r => decide (1 ≤ r.st ∧ r.st ≤ 3) && r.num != (grp s g).base).map fun r =>
    { g, gen := r.num, pass := 1 }) ++ gs.map fun g => { g, gen := (grp s g).base, pass := 2 }

/-- The hem's deltas are closed: every part of a generation that is to be sealed is written to the hem region, with the hem
flag, and read back (R113, R144; log entry 127). -/
def closeDeltas (s : State) (l : List HemSeal) : State :=
  forEach l s fun s x => modGen s x.g x.gen fun r => { r with
    st := 3, lastPart := true, parts := partsOf r.delta.length, matched := [], mism := 0 }

/-- Every part of the generations still to be sealed has matched: the seals are written (R144). -/
def hemPartsDone (s : State) : Bool :=
  s.gen.hem.seals.all fun x => match genOf (grp s x.g) x.gen with
    | some r => (List.range r.parts).all fun p => r.matched.contains p
    | none => true

/-- A generation is sewn by its hem seal (R64, R144), which goes into the ring (R65). -/
def sewnHem (s : State) (g n : Nat) : State :=
  let gr := grp s g
  let older := ((chainFrom gr.gens (gr.gens.length + 1) n).drop 1).map (·.num)
  let gens := gr.gens.map fun r : GenRec =>
    if r.num = n then { r with st := 4, hem := true, mism := 0, sealWritten := true }
    else if r.st = 4 ∧ older.contains r.num = true then { r with st := 5 } else r
  let s := setHem s { s.gen.hem with sewn := s.gen.hem.sewn ++ [(g, n)] }
  trimRing (clearExhausted (icu (setGrp s g { gr with gens := gens }) 248) g) g

-- step 6 (R153)

/-- Doubleword i of the canary of channel c (R153). -/
def canaryWord (nonce : BitVec 64) (c i : Nat) : Nat :=
  (nonce ^^^ (BitVec.ofNat 64 c <<< 56) ^^^ (BitVec.ofNat 64 i * 0x9E3779B97F4A7C15#64)).toNat

/-- The canary of channel c. -/
def canary (nonce : BitVec 64) (c : Nat) : List Byte := (List.range 32).flatMap fun i => leBytes 8 (canaryWord nonce c i)

/-- Writes 256 bytes over a channel's canary chunk; bit l of `poison` is the state of line l. -/
def writeChunk (s : State) (c : Nat) (bs : List Byte) (poison : Nat) : State :=
  match canaryAddr s c with
  | none => s
  | some a => forEach [0, 1, 2, 3] s fun s l => writeLine s (a + 64 * l) ((bs.drop (64 * l)).take 64) (poison.testBit l)

/-- A channel's canary chunk as it stands; the lines of a fenced channel read as poisoned (R227). -/
def readChunk (s : State) (c : Nat) : List Byte × Nat :=
  match canaryAddr s c with
  | none => (zeros 256, 0)
  | some a => (Sparse.getList zeroByte s.dram.mem a 256, maskOf 4 fun l => linePoison s (a + 64 * l) || chFenced s c)

/-- The bytes of a channel's chunk that the hem record saves: host memory or lining (R153). -/
def savedChunk (s : State) (c : Nat) : List Byte :=
  match canaryAddr s c with
  | none => zeros 256
  | some a => (List.range 256).map fun i => dramByte s (a + i)

/-- The canary is written over every canary chunk. -/
def writeCanaries (s : State) (nonce : BitVec 64) : State :=
  forEach s.dram.layout s fun s c => writeChunk s c (canary nonce c) 0

/-- The hem record with its two codewords, of which the second holds the chunks, is written to stream 3 and read back (R153).
A hem without a healthy flash channel writes none (R146). -/
def writeHemRecord (s : State) : State :=
  let nonce := Config.drbg s.free
  let s := { s with free := s.free + 1 }
  let chs := s.dram.layout
  let mask := maskOf 16 fun c => chs.contains c
  let r : HemRecord :=
    { nonce
      mask
      poison := (chs.map fun c => (readChunk s c).2 * 2 ^ (4 * c)).sum
      chunks := chs.map fun c => (c, savedChunk s c)
      outside := rb s Reg.genHemState 8
      level2 := rb s Reg.genHemState 12 }
  setHem s { s.gen.hem with record := some r, recLeft := [(0, 0), (1, 0)] }

/-- DPH registers that hold trained values: margins and lane delays (R244, R261). -/
def isTrained (c a : Nat) : Bool :=
  a / 0x1000 == Pg.dph c && ((decide (0x108 ≤ a % 0x1000) && decide (a % 0x1000 < 0x118)) || decide (0x200 ≤ a % 0x1000))

/-- The trained values of a channel go to the selvedge (R244). -/
def keepTrained (s : State) (c : Nat) : State := setDch s c { dchOf s c with kept := s.regs.filter fun e => isTrained c e.1 }

/-- They are loaded by a warm resume (R244). -/
def loadTrained (s : State) (c : Nat) : State := forEach (dchOf s c).kept s fun s e => wr s e.1 e.2

/-- The hem record has matched: the nonce and the mask go into the keep-alive record, unless a seal was abandoned (R144), and
the canary over the chunks (R153); the trained values are kept (R244). -/
def keepRecord (s : State) : State :=
  match s.gen.hem.record with
  | some r =>
    if s.gen.hem.abandoned then s
    else
      let s := setHem s { s.gen.hem with kaNonce := some (r.nonce, r.mask), railsHeld := true, resetsHeld := true }
      forEach s.dram.layout (writeCanaries s r.nonce) fun s c => keepTrained s c
  | none => s

/-- Every seal of the hem and its record carry the outside-window flag once it is set (R145). -/
def stampOutside (s : State) : State :=
  if rb s Reg.genHemState 8 then
    let s := forEach s.gen.hem.sewn s fun s e => modGen s e.1 e.2 fun r => { r with outside := true }
    setHem s { s.gen.hem with record := s.gen.hem.record.map fun r => { r with outside := true } }
  else s

/-- Step 6 has ended (R141): Hem Now completes (R173), the hold ends if input is present (R343), and with input absent an
open dump window closes (R508). -/
def recordDone (s : State) : State :=
  let s := stampOutside (keepRecord s)
  let ld := s.gen.hem.cmdLd
  let s := endBg (setHem s { s.gen.hem with step6 := true, cmdLd := none }) ld rcSuccess (leBytes 4 0)
  if s.psq.input then updateHold { s with psq := { s.psq with holdHem := false } } else s

/-- Every seal has matched or been abandoned (source 261): SYS_FAULT_N is released (R140), the recorder secures its records
(R440, R444) and the hem record is written (R153). -/
def sealsDone (s : State) : State :=
  let h := s.gen.hem
  let s := if s.psq.faultDriven = some 1 ∨ s.psq.faultDriven = some 3 then driveFault s none else s
  let ms := (now s - h.cutAt) * 1000 / 32768
  let s := extreme (histAdd (wr (icu s 261) Reg.genHemLastMs (wd ms)) 6 (ms / 500)) 11 ms true
  let s := evrSecure s
  if decide (fchCount s = 0) then recordDone s else writeHemRecord s

/-- The last healthy flash channel has gone during a hem (R146): while it seals, step 6 ends with what is given up. -/
def hemNoFlash (s : State) : State :=
  let h := s.gen.hem
  let t := hemGiveUp s
  if h.active && !h.step6 && decide (fchCount s = 0) && h.st == 3 then
    let t := setHem t { t.gen.hem with recLeft := [] }
    if h.recLeft.isEmpty then sealsDone t else recordDone t
  else t

/-- A seal is given up after its second rewrite, with the pass-2 seal that would read through it (R144). -/
def abandonSeal (s : State) (x : HemSeal) : State :=
  let h := s.gen.hem
  let left := h.seals.filter fun y => !(y.g == x.g && (y.gen == x.gen || x.pass == 1))
  hemFlag (setHem s { h with seals := left, abandoned := true }) 9 true

-- restore (R157 to R168)

/-- A group may be online as far as restore goes (R158 to R160, R168, R78). -/
def canOnline (s : State) (g : Nat) : Bool :=
  restored s && hemSpaceOk s && !grpLocked s g && !(grp s g).mustVerify &&
    (s.gen.restore.touch.contains g || !groupAbsent s g)

/-- Groups that may come online do (source 265). -/
def bringOnline (s : State) : State :=
  let s := forEach (enabledGroups s) s fun s g =>
    if !(grp s g).online && canOnline s g then icu (setGrp s g { grp s g with online := true }) 265 else s
  noteReasons s

def setPhase (s : State) (p : Nat) : State :=
  { s with gen := { s.gen with restore := { s.gen.restore with phase := p } } }

/-- An unlocked group still has outside-window data to verify (R158). -/
def verifying (s : State) : Bool := (enabledGroups s).any fun g => (grp s g).mustVerify && !grpLocked s g

/-- The phases that follow the rebuild (R176): verify until no unlocked group has data to verify (R158), then the sweep, or
the wait for hem region space (R168, source 270). -/
def restoreStep (s : State) : State :=
  let ph := s.gen.restore.phase
  if ph = 4 ∧ verifying s = false then
    if hemSpaceOk s then setPhase s 5 else icu (setPhase s 7) 270
  else if ph = 7 ∧ hemSpaceOk s = true then setPhase s 5
  else s

/-- The sweep ends with the last ABSENT swatch (R164, source 266). -/
def sweepEnd (s : State) : State :=
  let s := restoreStep s
  let s := if s.gen.restore.phase = 5 ∧ absentCount s = 0 then icu (setPhase s 6) 266 else s
  bringOnline s

/-- The hem region has gained space: a wait under R168 may end. -/
def spaceFreed (s : State) : State := if restored s || s.gen.restore.phase == 7 then sweepEnd s else s

/-- Swatches of a group have become ABSENT in service: they are swept, and the group stays online over that (R72, R164; log
entry 126). -/
def resweep (s : State) (g : Nat) : State :=
  let n := absentCount s
  let r := s.gen.restore
  let touch := if (grp s g).online then (r.touch ++ [g]).eraseDups else r.touch
  { s with gen := { s.gen with restore := { r with touch := touch, phase := if r.phase = 6 ∧ 0 < n then 5 else r.phase, total := n } } }

/-- Group verified as R158 asks: it no longer waits for that; with the last unlocked one source 267. -/
def verifyDone (s : State) (g : Nat) : State :=
  let s := setGrp s g { grp s g with mustVerify := false }
  sweepEnd (if verifying s then s else icu s 267)

/-- A group as a restore finds it: unsewn generations are gone, and what DRAM held of it (R157, R165). `sealing` keeps
a generation whose every data page is in flash (R226). -/
def restoreGroup (s : State) (g : Nat) (sealing : Bool) : State :=
  let gr := grp s g
  let kept := fun r : GenRec => durable r || (sealing && r.st == 3)
  let s := dropUnsewn s g
  let s := setGrp s g { grp s g with
    gens := gr.gens.filter kept
    base := (((chain gr).find? kept).map (·.num)).getD 0
    incomplete := gr.gens.any fun r => r.hem && !kept r
    unpick := if gr.unpick.any (fun u => u.phase == 2) then none else gr.unpick
    parity := false
    online := false
    mustVerify := false
    sealExhausted := false
    mapBad := false }
  markAbsent s g

/-- Memory service begins: arming of trigger 2 waits while SYS_FAULT_N is low (R351). -/
def serviceBegins (s : State) : State :=
  if s.psq.restoreBegun then s
  else
    let s := { s with psq := { s.psq with restoreBegun := true } }
    if s.psq.faultLow || s.psq.faultDriven.isSome then icu (report s Pg.psq 20 0) 356 else s

/-- A restore starts (R157, R226): every line of every enabled group is ABSENT. The touch limit takes force (R173). -/
def startRestore (s : State) (sealing : Bool) : State :=
  let gs := enabledGroups s
  let s := { s with gen := { s.gen with map := [], loc := [], lineBits := [] } }
  let s := forEach gs s fun s g => restoreGroup s g sealing
  let touch := gs.filter fun g => rb s (Reg.genRestoreMode (g / 32)) (g % 32)
  let s := { s with gen := { s.gen with restore := { phase := 2, touch, limit := rf s Reg.genRestoreCfg 0 4, relaid := sealing } } }
  noteReasons (serviceBegins s)

/-- A generation with hem or relief pages written outside the write window (R158). -/
def isOutside (r : GenRec) : Bool := durable r && (r.outside && (r.hem || r.relief))

/-- Such generations of a group that the verify of this restore has not passed yet. -/
def hasOutside (s : State) (g : Nat) : Bool := (grp s g).gens.any fun r => isOutside r && !r.verified

/-- A chain that fails its CRC makes its newest generation invalid (R157). -/
def dropNewest (s : State) (g : Nat) : State :=
  let gr := grp s g
  match genOf gr gr.base with
  | none => s
  | some r => report (setGrp s g { gr with gens := gr.gens.filter (fun e => e.num != r.num), base := r.prev }) Pg.genm 1 0

/-- A group as the rebuild leaves it: its outside-window data is to be verified again (R158), its next generation opens. -/
def rebuiltGroup (s : State) (g : Nat) : State :=
  let gr := grp s g
  let s := setGrp s g { gr with gens := gr.gens.map fun r => if isOutside r then { r with verified := false } else r }
  let s := if s.gen.restore.relaid || gr.incomplete then logged s (.restored g gr.base gr.incomplete) else s
  openNext (setGrp s g { grp s g with mustVerify := hasOutside s g }) g

/-- The rebuild ends (R157, R158, R165, R168): the groups that lost hem data, and at a re-layout every group with its
generation, are logged (R165, R226). -/
def restoreRebuilt (s : State) (chainBad : List Nat) : State :=
  let gs := enabledGroups s
  let s := forEach (gs.filter chainBad.contains) s dropNewest
  let s := forEach gs s rebuildLoc
  let s := icu s 264
  let s := if gs.any fun g => (grp s g).incomplete then icu (hemFlag s 9 true) 271 else s
  let s := forEach gs s rebuiltGroup
  let s := { s with gen := { s.gen with restore := { s.gen.restore with total := absentCount s } } }
  sweepEnd (setPhase s 4)

/-- The page that a fetch brings (R156, R160, R163): zeros, the codeword of the group and swatch, or poison; the flag
tells that the data was lost. -/
def fetchPage (s : State) (g sw : Nat) (res : LadderResult) : State × Page × Bool :=
  let e := locEntry s sw
  match e / 2 ^ 62 % 4 with
  | 0 => (s, zeroPage, false)
  | 1 =>
    let loc := e % 2 ^ 62
    let s := ladder s loc res
    let lost := fun (s : State) (n : Nat) => (verifyFail s g n (relIdx s sw), poisonPage, true)
    match (s.gen.cw.find? fun x => x.1 == loc).map Prod.snd with
    | some c =>
      if res == .uncorrectable || !(c.g == g && c.idx == relIdx s sw && some c.key == (grp s g).key) then lost s c.gen
      else (s, c.page, false)
    | none => lost s 0
  | 2 => (s, poisonPage, true)
  | _ => (report s Pg.genm 1 0, poisonPage, true)

/-- A fetch ends (R160): the swatch is CLEAN, and the requests that waited for it are served. -/
def fetchDone (s : State) (g sw : Nat) (res : LadderResult) : State :=
  let onTouch := s.gen.restore.fetches.any fun f => f.swatch == sw && f.onTouch
  let readers := ((s.hl.waits.filter fun q => q.why == .fetch && !q.write && reqSwatch q == sw).map (·.ld)).eraseDups
  let r := fetchPage s g sw res
  let s := activatePage (writePage r.1 sw r.2.1) sw
  let s := setSt s g sw .clean
  let s := { s with gen := { s.gen with restore := { s.gen.restore with
      fetches := s.gen.restore.fetches.filter fun f => f.swatch != sw } } }
  let s := if r.2.2 then forEach readers s fun s ld => mediaEvent s ld (4096 * sw) else s
  let s := if r.2.2 && onTouch then handled (icu s 269) (Pg.fch (locCh (locEntry s sw))) 18 else s
  sweepEnd (retryWaits s fun q => q.why == .fetch && reqSwatch q == sw)

-- warm resume (R154, R155)

/-- A channel of the mask reads its canary back as written (R154). -/
def canaryHeld (s : State) (e : BitVec 64 × Nat) (c : Nat) : Bool := !e.2.testBit c || readChunk s c == (canary e.1 c, 0)

/-- The first check of R154 that fails; 0 if none. -/
def warmFailed (s : State) (check4 : Bool) : Nat :=
  let h := s.gen.hem
  if (h.kaNonce.map Prod.fst) ≠ h.record.map (·.nonce) ∨ h.kaNonce = none then 1
  else if !h.railsHeld then 2
  else if !h.resetsHeld then 3
  else if !check4 || s.dram.layout.any (chFenced s) || !(h.kaNonce.all fun e => (List.range 16).all (canaryHeld s e)) then 4 else 0

/-- The saved chunks go back over the canary (R155). -/
def restoreChunks (s : State) : State :=
  match s.gen.hem.record with
  | none => s
  | some r => forEach r.chunks s fun s e => writeChunk s e.1 e.2 (r.poison / 2 ^ (4 * e.1) % 16)

/-- The map and the lining after a warm resume: OPEN, TACKED and BOTH entries are CLEAN, slots, staging buffers and
counts are returned, and H + 1 opens (R155). A group that the hem left erased is as if enabled anew (R81). -/
def warmGroup (s : State) (g : Nat) : State :=
  let s := dropUnsewn s g
  let s := if (grp s g).keyPending then drawKey (zeroGroup s g) g else s
  let s := setGrp s g { grp s g with parity := false, online := false }
  if s.gen.restore.phase = 2 ∨ s.gen.restore.phase = 3 then s else openNext s g

/-- The phase in which a restore whose rebuild has ended goes on after a warm resume: 7 with too little hem region space
(R168), 4 with data to verify, 5 with ABSENT swatches, else 6. -/
def warmPhase (s : State) : State :=
  if !hemSpaceOk s then icu (setPhase s 7) 270
  else setPhase s (if verifying s then 4 else if absentCount s = 0 then 6 else 5)

/-- A warm resume whose checks have passed (R155, source 262). Groups that were online may be so over their ABSENT
swatches, and come online again as R168 and R78 allow (source 265). -/
def warmResume (s : State) : State :=
  let s := forEach s.dram.layout s fun s c => hemTset s c false
  let s := restoreChunks s
  let s := { s with gen := { s.gen with map := s.gen.map.filter fun e => e.2 == 8#4 } }
  let s := setPhase s (if s.gen.restore.phase = 1 then s.gen.restore.before else s.gen.restore.phase)
  let was := (enabledGroups s).filter fun g => (grp s g).online
  let s := { s with gen := { s.gen with restore := { s.gen.restore with touch := (s.gen.restore.touch ++ was).eraseDups } } }
  let s := forEach (enabledGroups s) s warmGroup
  let s := poolNormal s
  let s := setHem s { s.gen.hem with active := false, st := 0, warmOk := none, returned := false, kaNonce := none }
  let s := { s with psq := { s.psq with holdHem := false, holdKa := false } }
  let s := serviceBegins s
  let s := if s.hl.linksOff then
      applyPower (applyPower { s with hl := { s.hl with linksOff := false } } Pg.hl0) Pg.hl1
    else s
  let s := hemFlag (updateHold s) 11 true
  let s := if restored s then warmPhase s else s
  runErases (paceAll (sweepEnd (icu s 262)))

-- re-layout (R226)

/-- A request that waits, or a read queued at its channel, is answered: reads with poison, writes as offline. -/
def flushRequests (s : State) : State :=
  let ws := s.hl.waits
  let rs := s.dram.chs.flatMap fun e => (e.2.qa ++ e.2.qb).filter fun q => !q.write
  let s := freeWaits { s with hl := { s.hl with waits := [] } } ws
  let s := forEach (Sparse.keys s.dram.chs) s fun s c => clearQueues s c
  let s := forEach rs s fun s q => respond s q.ld q.tag true (zeros 64) true
  forEach ws s fun s r => if r.write then offlineAccess s r.ld r.tag r.win true else respond s r.ld r.tag true (zeros 64) true

/-- The re-layout after a channel's fence in service (R226). -/
def relayout (s : State) : State :=
  let gs := enabledGroups s
  let s := noteReasons (forEach gs s fun s g => setGrp s g { grp s g with online := false })
  let s := flushRequests s
  let s := disarm s (some oHEM_ACTIVE)
  let s := forEach gs s fun s g =>
    match (grp s g).queued with
    | some r => resolve (setGrp s g { grp s g with queued := none }) g oHEM_ACTIVE r
    | none => s
  let s := { s with dram := { s.dram with mem := [], poison := [] }, gen := { s.gen with map := [], relief := none } }
  let s := startRestore (fixLayout s) true
  recomputeLevel s

end Sys2Proof.Machine
end

