-- ==== Sys2Proof/Machine/ThmOps.lean ====
section
/-! DEFINITION. The thermal manager's responses (chapter 11): relief (R391), the doubled regime (R392), the flash write
window (R393), sensors lost (R387); and what SB1's fence takes with it (R495). -/

namespace Sys2Proof.Machine

open Bits

/-- Relief is asked of channel c (R389, R391). -/
def reliefOf (s : State) (c : Nat) : Bool :=
  thmLost s || (enabled s Pg.thm && (s.thm.reliefAll || s.thm.reliefCh.contains c))

/-- The relief requests reach the channels; a change raises source 386 (R391). -/
def applyRelief (s : State) : State :=
  let chs := (List.range 16).filter fun c => dchPopulated s c && (dchOf s c).thermalReq != reliefOf s c
  if chs.isEmpty then s
  else icu (forEach chs s fun s c => updateTset (setDch s c { dchOf s c with thermalReq := reliefOf s c }) c) 386

/-- The doubled-regime requests reach the channels; a change raises source 387 (R392). -/
def applyDoubled (s : State) : State :=
  let want := fun c => thmLost s || s.thm.doubled.contains c
  let chs := (List.range 16).filter fun c => dchPopulated s c && (dchOf s c).doubledReq != want c
  if chs.isEmpty then s
  else icu (forEach chs s fun s c => updateRegime (setDch s c { dchOf s c with doubledReq := want c }) c) 387

/-- The flash write window closes or opens (R393, source 388). -/
def setWindow (s : State) (closed : Bool) : State :=
  if s.thm.windowClosed = closed then s
  else icu (wrB { s with thm := { s.thm with windowClosed := closed } } Reg.fstWindow 0 (!closed)) 388

/-- The responses to lost sensors (R387): pacing enforced at once on every enabled group, relief and the doubled regime
on every channel, a closed window. -/
def lostResponses (s : State) : State :=
  if thmLost s then
    setWindow (applyDoubled (applyRelief (forEach (enabledGroups s) s thermalAsk))) true
  else s

/-- The charger no longer answers (R375, R371): CHG_EN is released and the estimate is judged again. -/
def chargerGone (s : State) : State :=
  recomputeBudget (judgeEnergy (setChgEn { s with bat := { s.bat with chargerOk := false } } false))

/-- The result of a firmware transfer on SB1 (R497, source 416). -/
def xferEnd (s : State) (code done : Nat) : State :=
  icu (wr { s with sb := { s.sb with busy := false, waitFree := false } } Reg.sb1XferStatus (wd (2 * code + 256 * done))) 416

/-- SB1 is fenced (R495): a transfer ends with result 6, the charger is lost, source 420. -/
def sb1Fenced (s : State) : State :=
  let s := icu { s with sb := { s.sb with recovering := false } } 420
  chargerGone (if s.sb.busy then xferEnd s 6 0 else s)

end Sys2Proof.Machine
end

