-- ==== Sys2Proof/Machine/LifeOps.lean ====
section
/-! DEFINITION. The walks of the power sequencer (R334 to R340), what VCORE takes with it when it goes off and brings
when it comes up (R16, R30, R422, R435, R460), off requests (R333, R336), the hold in reset (R350), step 7 of the hem
(R148 to R151). -/

namespace Sys2Proof.Machine

open Bits

-- VCORE

/-- Registers that keep their values while VCORE is off: those held in the selvedge or the configuration area, and
the flags of the last hem (R176). -/
def keepsReg (a : Nat) : Bool := (descOf a).any (·.keep) || a == Reg.genHemState

/-- Registers that keep their values over a power-up that is no reset of the device (R531): besides those of `keepsReg`,
ERR_COUNT (R35) and LOCK (R36) with what LOCK.cfg makes read-only, and the link's settings that take effect at the next
power-up (R179, R214, R215). -/
def keepsOff (s : State) (a : Nat) : Bool :=
  let p := a / 0x1000
  keepsReg a || a == errCountA p || a == lockA p ||
    (locked s p && (a == ctrlA p || a == errMaskA p || (descOf a).any fun d => d.rw != 0#32)) ||
    [Reg.hlLinkCfg 0, Reg.hlLinkCfg 1, Reg.hlPortLds 0, Reg.hlPortLds 1, Reg.hlPwr 0, Reg.hlPwr 1].contains a

/-- What a group loses with VCORE and, outside keep-alive, with DRAM: everything but what flash and the selvedge
hold. -/
def groupLost (keepDram : Bool) (gr : Group) : Group :=
  { gr with
    queued := none
    quiesced := false
    quiesceLd := none
    quiesceDrained := false
    unpick := if gr.unpick.any (fun u => u.phase == 2 && keepDram) then gr.unpick else none
    armed := false
    outcome := 0
    tag := 0
    key := none
    recs := []
    pacing := []
    rate := 0
    newBytes := []
    wrBytes := []
    bastBytes := []
    bothBytes := []
    online := gr.online && keepDram }

/-- A DRAM channel after VCORE was off; the trained values stay in the selvedge (R244). -/
def dchLost (v : DCh) : DCh := { kept := v.kept, rfm := v.rfm }

/-- A flash channel after VCORE was off: records that were not durable are gone (R285). -/
def fchLost (v : FCh) : FCh := { v with pend := [], calFails := 0, recal := false, stuckOnce := [], temp := none }

/-- VCORE goes off: every gated domain and the ungated core lose what they hold (R16). -/
def coreLost (s : State) : State :=
  let ka := s.gen.hem.st == 4
  let s := setHem s { s.gen.hem with kaUp := now s - s.gen.hem.kaSince }
  let s := poolLost (evrLost (cflAbortAll (setChgEn s false)))
  let s := forEach (Sparse.keys s.gen.groups) s fun s g => setGrp s g (groupLost ka (grp s g))
  let s := forEach (Sparse.keys s.dram.chs) s fun s c => setDch s c (dchLost (dchOf s c))
  let s := forEach (Sparse.keys s.fst.chs) s fun s c => setFch s c (fchLost (fchOf s c))
  let s := forEach (Sparse.keys s.hl.ports) s fun s p => setPort s p {}
  let s := forEach (Sparse.keys s.hl.wins) s fun s w => setWin s w { seen := (winOf s w).seen }
  { s with
    sram := []
    doms := []
    resets := []
    icu := {}
    flt := { s.flt with
      esc := []
      handling := []
      dump := none
      fatalAt := none
      erasing := false
      stopping := false
      state := 0
      snap := [] }
    gen := { s.gen with
      progs := []
      relief := none
      turn := []
      keyWaits := []
      selftestBusy := false
      sync := {}
      rose := []
      budget := 0
      restore := if ka then { s.gen.restore with fetches := [] } else {} }
    hl := { s.hl with lds := [], thrTab := [], waits := [], parity := [], mirror := [], mirrorSeq := 0, next := 0 }
    dram := if ka then s.dram else { s.dram with layout := [], liningBase := 0, chBytes := 0 }
    fst := { s.fst with luns := [], geom := none, remount := [], demand := false, stopped := false, cands := [] }
    psq := { s.psq with
      trace := []
      traceAt := 0
      traceWrapped := false
      traceFrozen := false
      tracePost := none
      restoreBegun := false
      upTicks := 0
      offTicks := 0
      level := 0
      armed := false
      scanFault := false
      out30 := 0
      out31 := 0
      vid := 15 }
    thm := { lost := s.thm.lost, shutRecord := s.thm.shutRecord }
    upd := { s.upd with xferLd := none, actLd := none, actPending := false, received := 0 }
    sb := { s.sb with
      ack := false, data := [], result := 3, busy := false, retries := 0, waitFree := false, recovering := false
      setCurrent := none, setVoltage := none } }

/-- A DRAM group rail goes off: its two channels lose their content (R149, R226). -/
def dramLost (s : State) (k : Nat) : State :=
  let keep := fun a => (dramPlace s a).all fun e => e.1 / 2 != k
  { s with dram := { s.dram with
    mem := Sparse.keep keep s.dram.mem
    poison := Sparse.keep (fun l => keep (64 * l)) s.dram.poison } }

/-- Sources that waited for a power-up are raised (R360, R422). -/
def raiseDeferred (s : State) : State :=
  let l := s.psq.deferred ++ s.icu.latched
  let s := { s with psq := { s.psq with deferred := [] }, icu := { s.icu with latched := [] } }
  forEach l s icuMsg

/-- VCORE is up (R329): the registers hold their reset values, fences are lifted (R507), the domains whose power_req
resets to 1 switch on (R30), waiting sources are raised and UPD chooses the image (R460). -/
def coreStarted (s : State) : State :=
  let ups := s.icu.latched
  let hemSt := rd s Reg.genHemState &&& 0x1700#32
  let s := { s with regs := s.regs.filter fun e => keepsOff s e.1 }
  let s := wr s Reg.genHemState hemSt
  let s := wr s Reg.sysResetCause (wd (1 + 2 * s.psq.warm.toNat))
  let s := { s with flt := { s.flt with fences := [], state := 0 }, fst := { s.fst with remount := [] }, icu := { latched := ups } }
  let s := { s with psq := { s.psq with upTicks := 0, vid := 15 } }
  let s := forEach (List.range 0x12) s applyPower
  let s := bootSelect (raiseDeferred s)
  if s.thm.shutRecord then
    icu { s with thm := { s.thm with shutShown := true, shutRecord := false } } 393
  else s

-- the walk up (R334)

/-- A rail of a step is enabled and neither up nor failed. -/
def stepBusy (s : State) (n : Nat) : Bool := (stepRails n).any fun k => (railOf s k).enabled && !(railOf s k).up

/-- A step starts: its fitted rails whose dependency is up are enabled; rails already on are not enabled again. -/
def startStep (s : State) (n : Nat) : State :=
  let s := trace { s with psq := { s.psq with step := n } } 1 n 0
  forEach (stepRails n) s fun s k =>
    let depUp := match railDep k with
      | none => true
      | some a => (railOf s a).up
    if railPresent s k && depUp && !(railOf s k).failed && !(railOf s k).enabled then railEnable s k else s

/-- A population other than that of the lowest-numbered populated channel, or one that R220 does not list (R221). -/
def geomBad (s : State) (c : Nat) : Bool :=
  let low := ((List.range 16).find? (dchPopulated s)).getD c
  rd s (Reg.dchGeom c) != rd s (Reg.dchGeom low) || !popOk (rd s (Reg.dchGeom c))

/-- The populated channels are trained at a start-up other than a warm resume (R221, R245). -/
def startTraining (s : State) : State :=
  forEach ((List.range 16).filter fun c => dchPopulated s c && chHealthy s c) s fun s c =>
    if geomBad s c then report s (Pg.dch c) 21 0 else startSweep s c

/-- What takes force at a power-up: bifurcation, logical devices, rates (R179, R214). -/
def startPorts (s : State) : State :=
  let s := { s with hl := { s.hl with bif0 := rb s (Reg.hlLinkCfg 0) 0, bif1 := rb s (Reg.hlLinkCfg 1) 0, linksOff := false } }
  forEach [0, 1, 2, 3] s fun s p =>
    latchCfg (setPort s p { portOf s p with lds := rf s (Reg.hlPortLds (p / 2)) (8 * (p % 2)) 5 }) p

/-- A DRAM group rail that keep-alive keeps on: of a pair with a channel in the channel-use mask (R327, R337). -/
def keptRail (s : State) (k : Nat) : Bool :=
  s.gen.hem.st == 4 && decide (6 ≤ k) && decide (k < 14) && !(railOf s k).failed &&
    s.gen.hem.kaNonce.any fun e => e.2.testBit (2 * (k - 6)) || e.2.testBit (2 * (k - 6) + 1)

/-- The highest step with an enabled rail that is not kept. -/
def topStep (s : State) : Option Nat :=
  ((List.range 12).map (12 - ·)).find? fun n => (stepRails n).any fun k => (railOf s k).enabled && !keptRail s k

/-- A rail released by the sequencer, with what goes off with it. -/
def switchOff (s : State) (k : Nat) : State :=
  if !(railOf s k).enabled then s
  else
    let s := railRelease (if k = 2 then setChgEn s false else s) k
    if k = 0 then coreLost s else if 6 ≤ k ∧ k < 14 then dramLost s (k - 6) else s

/-- All-off, or keep-alive reached (R335, R337, R343, R350). -/
def allOff (s : State) : State :=
  let s := { s with psq := { s.psq with step := 0 } }
  if s.gen.hem.st = 4 then { s with psq := { s.psq with st := 6 } }
  else
    let s := setHem s { s.gen.hem with
      active := false
      st := 0
      thenStop := false
      thenOff := false
      thenHold := false
      kaNonce := none
      warmOk := none }
    let s := { s with gen := { s.gen with map := [], loc := [], lineBits := [] } }
    updateHold { s with psq := { s.psq with
      st := if s.psq.heldInReset then 7 else if s.psq.softOff then 8 else 5
      minOff := false
      warm := false
      holdLoss := false
      holdHem := false
      holdKa := false
      holdTest := false } }

/-- The next step of a walk down, once every released rail has discharged. Before VIO18 goes off in ship mode the
charger gets its command (R379). -/
def walkDown (s : State) : State :=
  if (List.range 22).any fun k => (railOf s k).discharging then s
  else
    let s := if s.psq.step = 0 then s else trace s 2 s.psq.step 0
    match topStep s with
    | none => allOff s
    | some n =>
      let s := trace { s with psq := { s.psq with step := n } } 1 n 0
      let s := if n = 2 ∧ s.bat.ship = true ∧ s.psq.input = false then
          { s with sb := { s.sb with shipCmd := true }, bat := { s.bat with ship := false, shipTaken := true } }
        else s
      forEach (stepRails n).reverse s fun s k => if keptRail s k then s else switchOff s k

/-- Power-down begins. -/
def powerDown (s : State) : State := walkDown { s with psq := { s.psq with st := 4 } }

-- the hold in reset (R350)

/-- The device is held in reset; SYS_FAULT_N is driven unless a safe-stop hem came before (R349, R350). -/
def holdNow (s : State) (drive : Bool) : State :=
  if s.psq.heldInReset then s
  else
    let s := traceReq (icu s 358) 0 7
    let s := { s with psq := { s.psq with heldInReset := true, onLatched := false } }
    let s := if drive then driveFault s (some 15) else s
    let s := setHem s { s.gen.hem with st := if s.gen.hem.st = 4 then 0 else s.gen.hem.st }
    if s.psq.st = 1 then
      let s := { s with psq := { s.psq with st := 3 } }
      if stepBusy s s.psq.step then s else walkDown s
    else if s.psq.st = 3 ∨ s.psq.st = 4 then s
    else powerDown s

/-- Entry into the hold for a service level below 1 (R20, R336): during a hem it waits for the hem's end; with data to
save a hem runs first. -/
def enterHold (s : State) : State :=
  if s.psq.heldInReset then s
  else if s.gen.hem.active && coreUp s then setHem s { s.gen.hem with thenHold := true }
  else if s.psq.st == 2 && (anyOnline s || decide (0 < globalUnsewn s)) && hemCan s then
    let s := hemCut s 5
    setHem s { s.gen.hem with thenHold := true }
  else holdNow s true

-- a rail fails (R340)

/-- The pages of the units that a rail feeds (R327). -/
def fedPages (k : Nat) : List Nat :=
  let d := (List.range 16).map Pg.dch
  let f := (List.range 32).map Pg.fch
  match k with
  | 1 => Pg.hl0 :: Pg.hl1 :: d
  | 2 => [Pg.sb1]
  | 3 => d
  | 4 => [Pg.hl0, Pg.hl1]
  | 5 => f
  | _ =>
    if 6 ≤ k ∧ k < 14 then [Pg.dch (2 * (k - 6)), Pg.dch (2 * (k - 6) + 1)]
    else if 14 ≤ k ∧ k < 22 then (List.range 8).map fun i => Pg.fch (8 * ((k - 14) % 4) + i)
    else []

/-- Fences to set are queued for the end of the step. -/
def queueFences (s : State) (ps : List Nat) : State :=
  { s with flt := { s.flt with esc := s.flt.esc ++ (ps.eraseDups.map fun p => Esc.fence p 0) } }

/-- A rail fails: its enable is released at once, its dependants are shut down, the units they fed are fenced; in
keep-alive nothing is fenced. A failed VCORE holds the device in reset at once (R20). -/
def railFail (s : State) (k cause : Nat) : State :=
  let s := if coreUp s && rb s Reg.psqTraceCfg 16 then traceTrigger (trace s 5 k cause) else trace s 5 k cause
  let s := icu s (304 + k)
  let s := if coreUp s then report s Pg.psq 16 0 else s
  let deps := ((List.range 24).reverse).filter fun j => dependsOn j k && railFitted s j
  let off := fun (s : State) (j why : Nat) =>
    let s := if j = 23 then setChgEn s false else if (railOf s j).enabled then (if j = 0 then railRelease s 0 else switchOff s j) else s
    setRail s j { railOf s j with failed := true, cause := why }
  let s := forEach deps s fun s j => off s j 5
  let s := off s k cause
  let s := setRail s k { railOf s k with discharging := false }
  if k = 0 then holdNow (coreLost (setHem s { s.gen.hem with active := false, st := 0 })) true
  else if s.psq.st = 6 then s
  else recomputeLevel (queueFences s ((k :: deps).flatMap fedPages))

-- off requests (R333, R336)

/-- A request other than input loss turns the module off: during a hem it takes effect after it; during power-up the
step in progress ends first; with data to save a hem runs first. -/
def offRequest (s : State) (trig kind : Nat) : State :=
  let s := traceReq (icu s 358) 0 kind
  let s := if s.psq.onLatched then traceReq { s with psq := { s.psq with onLatched := false } } 2 kind else s
  let s := evrSecure s
  if s.gen.hem.active then setHem s { s.gen.hem with thenOff := true }
  else if s.psq.st = 1 then
    let s := { s with psq := { s.psq with st := 3 } }
    if stepBusy s s.psq.step then s else walkDown s
  else if s.psq.st = 2 then
    if (anyOnline s || decide (0 < globalUnsewn s)) && hemCan s then
      let s := hemCut s trig
      setHem s { s.gen.hem with thenOff := true }
    else powerDown s
  else s

-- step 7 (R148 to R151)

/-- The keep-alive time in seconds (R148). -/
def kaTime (s : State) : Nat :=
  min (rf s Reg.genKaTime 0 12)
    ((s.bat.energy - rf s Reg.genKaReserve 0 16) * 10 / max 1 (rf s Reg.genKaPower 0 16))

/-- Keep-alive may run (R148, R379). -/
def kaAllowed (s : State) : Bool :=
  let h := s.gen.hem
  decide (1 ≤ kaTime s) && rb s Reg.genHemCfg 2 && !s.bat.ship && h.trigger != 3 && h.trigger != 6 && !h.thenStop &&
    !h.thenHold && !h.thenOff && !s.psq.shutdown && !rb s Reg.genHemState 12 && !h.abandoned && h.kaNonce.isSome

/-- Keep-alive is entered: every rail goes off but those of the channels in use (R149, R337). -/
def enterKa (s : State) : State :=
  let s := wr s Reg.genKaLast (wd (kaTime s))
  let s := setHem s { s.gen.hem with active := false, st := 4, kaSince := now s, kaUp := 0, warmOk := none }
  powerDown (updateHold { s with psq := { s.psq with holdKa := true } })

/-- Seconds of keep-alive served (R175): those while VCORE was still up, and those since it went off. -/
def kaServed (s : State) : Nat :=
  (if coreUp s then now s - s.gen.hem.kaSince else s.gen.hem.kaUp + s.psq.offTicks) / 32768

/-- Keep-alive ends without a warm resume (R149): the DRAM is powered down. -/
def endKa (s : State) (energyCut : Bool) : State :=
  if s.gen.hem.st = 4 ∧ s.psq.st = 6 then
    let s := wrF s Reg.genKaLast 16 16 (min 65535 (kaServed s))
    let s := hemFlag s 10 energyCut
    let s := setHem s { s.gen.hem with st := 0, kaNonce := none }
    powerDown (updateHold { s with psq := { s.psq with holdKa := false } })
  else s

/-- A warm resume is tried (R154); a channel that fails the check of its trained values reports it (R244). Refused, the
first failing check is logged, the DRAM is powered down and a full power-up is latched (source 263). -/
def tryResume (s : State) (canaryOk : Bool) (weak : List Nat) : State × Bool :=
  let bad := s.dram.layout.filter weak.contains
  let check4 := canaryOk && bad.isEmpty
  let s := forEach bad s fun s c => report s (Pg.dph c) 19 0
  if warmFailed s check4 = 0 then (warmResume s, true)
  else
    let s := icu (logged s (.warmCheck (warmFailed s check4))) 263
    let s := setHem s { s.gen.hem with active := true, st := 0, kaNonce := none, warmOk := none }
    (powerDown { s with psq := { s.psq with onLatched := s.psq.input } }, false)

/-- A warm resume with the outcome that came with the input power. -/
def resumeKept (s : State) : State :=
  match s.gen.hem.warmOk with
  | some o => (tryResume s o.1 o.2).1
  | none => (tryResume s false []).1

/-- A dump window of a safe stop is open, or its dump runs (R508). -/
def dumpOpen (s : State) : Bool := s.flt.state == 3 || s.flt.dump.isSome

/-- The hemmed state: the DRAM is in self-refresh, every rank's refresh debt issued (R150, R237). -/
def enterHemmed (s : State) : State :=
  let s := setHem s { s.gen.hem with active := false, st := 5 }
  forEach s.dram.layout s fun s c => setDebt (setDebt s c 0 0) c 1 0

/-- Step 7 of the hem (R148, R150, R151, R170, R172). -/
def stepSeven (s : State) : State :=
  let h := s.gen.hem
  if !(h.active && h.step6) then s
  else if h.thenStop then (if dumpOpen s then s else holdNow s false)
  else if h.thenHold then holdNow s true
  else if h.thenOff then powerDown s
  else if (h.trigger == 4 || h.trigger == 5) && s.psq.input then enterHemmed s
  else if h.returned && s.psq.input && h.trigger != 3 then (resumeKept s)
  else if kaAllowed s then enterKa s
  else
    let s := wr s Reg.genKaLast 0#32
    powerDown { s with psq := { s.psq with onLatched := h.returned && s.psq.input && !s.psq.shutdown } }

-- power-up

/-- The last step has ended (R334, source 357). A warm power-up tries its resume, any other one trains the DRAM; the
known-answer tests start (R91). -/
def powerUpDone (s : State) : State :=
  let s := icu { s with psq := { s.psq with st := 2, step := 0 } } 357
  let s := startPorts s
  let s := wrB { s with gen := { s.gen with selftestBusy := true } } Reg.keyModuleStatus 3 true
  if s.psq.warm then
    let s := forEach s.dram.layout s fun s c =>
      wrB (setDch (loadTrained s c) c { dchOf s c with trained := true, geomLocked := true, hemReq := true }) (Reg.dchTsetCtrl c) 0 true
    resumeKept s
  else startTraining s

/-- Steps end and start as long as no rail is awaited (R334); after step 1 the level is computed (R20). -/
def walkUp : Nat → State → State
  | 0, s => s
  | f + 1, s =>
    if s.psq.st != 1 || stepBusy s s.psq.step then s
    else
      let n := s.psq.step
      let s := trace s 2 n 0
      let s := if n = 1 then recomputeLevel s else s
      if n = 12 then powerUpDone s else walkUp f (startStep s (n + 1))

/-- The warm check takes the restore's phase over (R176). -/
def startCheck (s : State) : State :=
  let r := s.gen.restore
  { s with gen := { s.gen with restore := { r with before := if r.phase = 1 then r.before else r.phase, phase := 1 } } }

/-- A power-up starts (R334): the fitted rails are taken over, failures and the warm flag cleared. -/
def startPowerUp (s : State) (warm : Bool) : State :=
  let s := hemFlag s 11 false
  let s := if warm then startCheck s else s
  let s := { s with psq := { s.psq with
    st := 1
    warm := warm
    onLatched := false
    mask := rf s Reg.psqRailMask 0 24 } }
  let s := forEach (List.range 24) s fun s k => setRail s k { railOf s k with failed := false, cause := 0, disTimeout := false }
  walkUp 13 (startStep s 1)

end Sys2Proof.Machine
end

