-- ==== Sys2Proof/Machine/FltOps.lean ====
section
/-! DEFINITION. The fault manager's actions (chapter 16): fences (R506, R507), safe stop (R508, R509, R170, R171),
the dump window and the dump (R508, R514, R515). -/

namespace Sys2Proof.Machine

open Bits

-- fences (R506)

/-- Units of a page that a fence can name (R506, R507): banks of POOL, slices of GEN, one unit on every other page. -/
def unitsOf (p : Nat) : Nat := if p = Pg.pool then 16 else if p = Pg.gen then 8 else 1

/-- Pages with units that can be fenced. -/
def fenceable (p : Nat) : Bool :=
  isPage p && !([Pg.sys, Pg.genm, Pg.psq, Pg.icu, Pg.win, Pg.key, Pg.fst, Pg.upd, Pg.flt].contains p)

/-- Bands with a block on a fenced flash channel take no more programs (R274) and are relocated (R297, R292). -/
def fchBands (s : State) (c : Nat) : State :=
  let mine := s.fst.blocks.filter fun e => blkCh e.1 == c && (e.2.cls == .opened || e.2.cls == .closed)
  let bands := (mine.map fun e => blkBand e.1).eraseDups
  let opened := ((mine.filter fun e => e.2.cls == .opened).map fun e => blkBand e.1).eraseDups
  let s := forEach opened s fun s b => forEach (List.range 32) s fun s k => closeBlk s (b * 32 + k)
  forEach (bands.filter (bandUsed s)) s fun s b => addCand s 1 b

-- safe stop (R508)

/-- Page indices that have a page, ascending. -/
def pageList : List Nat := (List.range 0x61).filter isPage

/-- A page has work in progress (R32; which work counts: log entry 15). -/
def pageBusy (s : State) (p : Nat) : Bool :=
  if p = Pg.flt then s.flt.dump.isSome
  else if p = Pg.icu then !s.icu.stack.isEmpty
  else if p = Pg.evr then s.evr.clearing || !(bufsWaiting s).isEmpty
  else if p = Pg.cfl then !s.cfl.ops.isEmpty
  else if p = Pg.upd then s.upd.st == 1 || s.upd.st == 2 || s.upd.st == 3 || s.upd.st == 5
  else if p = Pg.psq then s.psq.st == 1 || s.psq.st == 3 || s.psq.st == 4
  else if p = Pg.sb1 then s.sb.busy || s.sb.recovering
  else if p = Pg.gen then hemBusy s || s.gen.groups.any fun e => (tackedGen e.2).isSome || e.2.unpick.isSome
  else if p = Pg.genm then !s.gen.progs.isEmpty
  else if p = Pg.key then s.gen.selftestBusy
  else if 0x20 ≤ p ∧ p < 0x30 then !(dchOf s (p - 0x20)).qa.isEmpty || !(dchOf s (p - 0x20)).qb.isEmpty
  else if 0x30 ≤ p ∧ p < 0x40 then (dchOf s (p - 0x30)).sweeping || (dchOf s (p - 0x30)).sliced
  else if 0x40 ≤ p ∧ p < 0x60 then s.fst.luns.any fun e => e.1 / 128 == p - 0x40 && e.2.op != 0
  else false

/-- STATUS of a page (R32, R540). -/
def statusWord (s : State) (p : Nat) : Word :=
  let unit := if 0x30 ≤ p ∧ p < 0x40 then p - 0x10 else p
  let fenced := s.flt.fences.any fun f => f.page == unit
  let deferred := (domsOfPage p).any fun d => (domOf s d).deferred
  wd (powerState s p + 4 * (pageBusy s p).toNat + 8 * fenced.toNat + 16 * deferred.toNat)

/-- The snapshot of R508: STATUS, ERR_STATUS, ERR_FIRST, ERR_COUNT and ERR_MASK of every page. -/
def takeSnap (s : State) : State :=
  let l := pageList.flatMap fun p =>
    [(8 * p, statusWord s p), (8 * p + 1, rd s (errStatusA p)), (8 * p + 2, rd s (errFirstA p)),
      (8 * p + 3, rd s (errCountA p)), (8 * p + 4, rd s (errMaskA p))]
  { s with flt := { s.flt with snap := l.filter fun e => e.2 != 0#32 } }

/-- The hem machinery is intact (R171), with the fatal error in page `p`. -/
def hemIntact (s : State) (p : Nat) : Bool :=
  ((List.range 8).any fun k => !sliceFenced s k) &&
    !([Pg.genm, Pg.key, Pg.fst, Pg.psq, Pg.gen, Pg.pool].contains p) && !(decide (0x20 ≤ p) && decide (p < 0x60)) &&
    rb s Reg.keyModuleStatus 2 && decide (4 ≤ banksLeft s) &&
    ((List.range 8).any fun k => !chFenced s (2 * k) && !chFenced s (2 * k + 1)) &&
    (List.range 32).any fun c => !fchFenced s c

/-- FLT_STICKY records a fatal error; the first one names its page and bit (R520). -/
def stickyFatal (s : State) (p bit : Nat) : State :=
  let w := rd s Reg.fltSticky
  let w := if Bits.bit w 0 then w else setFld (setFld w 16 7 p) 24 5 bit
  wr s Reg.fltSticky (setBit (incFld w 8 8 1) 0 true)

/-- A dump in progress is abandoned (R515, source 472). -/
def abandonDump (s : State) : State :=
  match s.flt.dump with
  | none => s
  | some _ => icu (wrB { s with flt := { s.flt with dump := none } } Reg.fltSticky 3 true) 472

/-- FLT_STATE.state: 1 safe stop with hem, 2 without, 3 dump window, 4 holding (R519). -/
def setFlt (s : State) (st : Nat) : State := { s with flt := { s.flt with state := st } }

/-- A dump of a safe stop is counted as skipped (R514, source 471). -/
def skipDump (s : State) : State :=
  icu { s with flt := { s.flt with skipped := satAdd 8 s.flt.skipped 1 } } 471

/-- The dump window opens under the conditions of R508 (source 469). -/
def openWindow (s : State) (p : Nat) : State :=
  if rb s Reg.fltCfg 16 && fwAvailable s && !([Pg.sys, Pg.icu, Pg.cfl, Pg.flt].contains p) then
    if dumpState s = 0 then icu (setFlt s 3) 469 else skipDump s
  else s

/-- The last steps of safe stop: once the hem has ended and no window is open, the device holds itself in reset; after a
hem SYS_FAULT_N stays released (R170, R508). -/
def finishStop (s : State) : State :=
  if s.flt.stopping && !dumpOpen s then
    if s.gen.hem.active then stepSeven s
    else if s.psq.heldInReset then s
    else holdNow (setFlt s 4) false
  else s

/-- Safe stop for a fatal error (R508); an error of FLT itself takes the path of R509, without snapshot or window. -/
def safeStop (s : State) (p bit : Nat) (window : Bool) : State :=
  let s := if p = Pg.flt then s else takeSnap s
  let s := wrB (stickyFatal s p bit) Reg.fltSticky 2 true
  let s := evrFlush (icu { s with flt := { s.flt with stopping := true, fatalAt := some (p, bit) } } 466)
  let s :=
    if s.gen.hem.active then setFlt (furtherTrigger (setHem s { s.gen.hem with thenStop := true }) 6) 1
    else if hemBusy s then setFlt (furtherTrigger s 6) 1
    else if hemIntact s p && hemCan s then
      let s := hemCut s 6
      setFlt (setHem s { s.gen.hem with thenStop := true }) 1
    else setFlt (driveFault s (some 15)) 2
  finishStop (if window then openWindow s p else s)

/-- A fatal error reaches the fault manager (R505, R508, R515). -/
def fatal (s : State) (p bit : Nat) : State :=
  if s.flt.stopping then
    let s := abandonDump (stickyFatal s p bit)
    finishStop (if s.flt.state = 3 then setFlt s (if s.gen.hem.active then 1 else 2) else s)
  else safeStop (abandonDump s) p bit s.flt.dump.isNone

/-- The window ends without a dump (R508, R521): what ran is torn, and dump_fail is set. -/
def closeWindow (s : State) : State :=
  if s.flt.state = 3 then
    let s := { s with flt := { s.flt with dump := none } }
    let s := setFlt s (if s.gen.hem.active then 1 else 2)
    finishStop (report s Pg.flt 16 0)
  else s

-- fences take effect (R506)

/-- Step 6 of a hem has ended: with input absent an open dump window closes (R508). -/
def sixEnded (s : State) : State := if s.gen.hem.step6 && s.gen.hem.active && !s.psq.input then closeWindow s else s

/-- What the fence of a unit takes (R506). -/
def fenceEffect (s : State) (p u : Nat) : State :=
  if 0x20 ≤ p ∧ p < 0x30 then
    let c := p - 0x20
    let was := s.dram.layout.contains c
    let s := setDch s c { dchOf s c with sweeping := false, sliced := false }
    if hemBusy s then s
    else if was && s.psq.restoreBegun then relayout s
    else if sweepsEnded s then noteReasons (fixLayout (fixLining s)) else s
  else if 0x40 ≤ p ∧ p < 0x60 then
    sixEnded <| hemNoFlash (icu (fchBands s (p - 0x40)) (114 + 4 * (p - 0x40)))
  else if p = Pg.pool then icu (updateScale s) (272 + u)
  else if p = Pg.hl0 ∨ p = Pg.hl1 then linkOff s (p - Pg.hl0)
  else if p = Pg.thm then lostResponses s
  else if p = Pg.bat then recomputeBudget (judgeEnergy s)
  else if p = Pg.evr then evrLost (wrB s Reg.fltSticky 1 true)
  else if p = Pg.sb1 then sb1Fenced s
  else s

/-- A unit is fenced, by hardware or by firmware (R506, R507, source 467); handling of its errors ends (R543). -/
def fenceUnit (s : State) (p u : Nat) (hw : Bool) : State :=
  let k := unitKey p u
  let done := fun (s : State) =>
    { s with flt := { s.flt with handling := s.flt.handling.filter fun h => unitKey h.1 h.2.1 != k } }
  if isFenced s p u then
    if hw then
      done { s with flt := { s.flt with
        fences := s.flt.fences.map fun f => if (f.page, f.unit) == k then { f with hw := true } else f } }
    else s
  else
    let s := done { s with flt := { s.flt with fences := s.flt.fences ++ [{ page := k.1, unit := k.2, hw }] } }
    recomputeLevel (fenceEffect (icu s 467) k.1 k.2)

end Sys2Proof.Machine
end

