-- ==== Sys2Proof/Machine/Escalate.lean ====
section
/-! DEFINITION. The end of a step: the escalations that errors of the step have called for are carried out, in the
order in which they were called for (R505). -/

namespace Sys2Proof.Machine

/-- Carries out one escalation. -/
def escStep (s : State) (e : Esc) : State :=
  match e with
  | .fence p u => fenceUnit s p u true
  | .fatal p b => fatal s p b
  | .hold => enterHold s

/-- Carries out escalations while there are any: at most `n`; none waits longer than the step that calls for it. -/
def settleN : Nat → State → State
  | 0, s => { s with flt := { s.flt with esc := [] } }
  | n + 1, s =>
    match s.flt.esc with
    | [] => s
    | e :: r => settleN n (escStep { s with flt := { s.flt with esc := r } } e)

/-- The state after a command's own effect: every escalation is carried out, budget reasons go with the service level
(R126), and a change of a window's offline reasons raises source 46 (R219). -/
def settle (s : State) : State := noteReasons (withdrawBudgets (settleN 256 s))

end Sys2Proof.Machine
end

