-- ==== Sys2Proof/Machine/Flags.lean ====
section
/-! DEFINITION. Status fields that the device computes from what it holds: the words of read-only registers, mailbox
outputs and the Status Mirror. -/

namespace Sys2Proof.Machine

open Bits

-- hem and restore (R174 to R176)

/-- Sweep percent (R176). -/
def restorePct (s : State) : Nat :=
  let t := s.gen.restore.total
  if s.gen.restore.phase = 6 then 100 else if t = 0 then 0 else (t - absentCount s) * 100 / t

/-- Groups online. -/
def groupsOnline (s : State) : Nat :=
  if hemBusy s then 0 else ((enabledGroups s).filter fun g => (grp s g).online && !grpLocked s g).length

/-- Hem generations not yet folded. -/
def unfolded (s : State) : Nat := (s.gen.groups.map fun e => (e.2.gens.filter fun r => durable r && r.hem).length).sum

/-- GEN_HEM_STATE (R176). -/
def hemStateWord (s : State) : Word :=
  setFld (setFld (rd s Reg.genHemState) 0 4 s.gen.hem.st) 4 4 s.gen.hem.trigger

/-- GEN_RESTORE_STATUS (R176). -/
def restoreWord (s : State) : Word :=
  wd (s.gen.restore.phase + 256 * restorePct s + 65536 * min 256 (groupsOnline s))

/-- GEN_FOLD_STATUS (R175). -/
def foldWord (s : State) : Word := wd (min 65535 (unfolded s) + 65536 * min 65535 (hemFreeGib s))

end Sys2Proof.Machine
end

