-- ==== Sys2Proof/Machine/Hem.lean ====
section
/-! DEFINITION. Hem, keep-alive, warm resume and restore (chapter 4): the meanings. -/

namespace Sys2Proof.Machine

open Bits

-- result codes (R173)

def hrDONE : Nat := 0
def hrNOT_HEMMED : Nat := 1
def hrSEAL_MISMATCH : Nat := 2
def hrDISABLED : Nat := 3
def hrBUSY : Nat := 4
def hrRANGE : Nat := 5

-- triggers

/-- INPUT_LOSS (R341, R343, R347, R333, R135): HOLD_EN, the latched on and the charge are released; once restore has begun
it is trigger 1, before that an off request; in the hemmed state keep-alive starts, a warm power-up goes back to it. -/
def inputLoss (s : State) : State :=
  if !s.psq.input then s
  else
    let s := { s with psq := { s.psq with input := false, below := true, losses := satAdd 16 s.psq.losses 1 } }
    let s := trace (icu s 352) 8 0 0
    let s := if rb s Reg.psqTraceCfg 17 then traceTrigger s else s
    let s := updateHold { s with psq := { s.psq with holdLoss := true } }
    let s := if s.psq.onLatched then traceReq { s with psq := { s.psq with onLatched := false } } 2 4 else s
    let s := batInputLoss s
    let h := s.gen.hem
    let s := furtherTrigger s 1
    if h.active then setHem s { h with returned := false, warmOk := none }
    else if h.st = 5 then
      if kaAllowed s then enterKa s else powerDown (setHem s { h with active := true, st := 0 })
    else if h.st = 4 ∧ s.psq.st = 1 then
      if kaAllowed s then enterKa s else powerDown (setHem s { h with active := true, st := 0, kaNonce := none })
    else if h.st = 4 then s
    else if s.psq.st = 2 ∧ s.psq.restoreBegun = true then hemCut (evrSecure s) 1
    else if s.psq.st = 1 then
      let s := { s with psq := { s.psq with st := 3 } }
      if stepBusy s s.psq.step then s else walkDown s
    else if s.psq.st = 2 then powerDown (evrSecure s)
    else s

/-- INPUT_LOSS (R341). -/
def execInputLoss (s : State) : Out := .next <| settle <| inputLoss s

/-- SIBLING_FAULT (R135, R351): SYS_FAULT_N, driven by another module, has read low for 2 µs. -/
def execSiblingFault (s : State) : Out :=
  .next <| settle <|
    let heard := s.psq.armed && rb s Reg.genHemCfg 0 && s.psq.faultDriven.isNone
    let act := heard && hemCan s
    let s := { s with psq := { s.psq with faultLow := true, lows := satAdd 16 s.psq.lows 1 } }
    let s := trace (icu s 354) 0x0A 0 act.toNat
    let s := if rb s Reg.psqTraceCfg 18 then traceTrigger s else s
    if heard then hemCut s 2 else s

/-- Hem Now (R173, R191). -/
def mbHemNow (ld : Nat) (inp : List Byte) (s : State) : State :=
  if inp.length ≠ 4 ∨ pay inp 0 4 ≠ 0x4E4D4548 then replyBad s ld
  else if !isAdmin s ld || !rb s Reg.genHemCfg 1 then replyCode s ld hrDISABLED
  else if hemBusy s || s.gen.restore.phase != 6 || !hemCan s then replyCode s ld hrBUSY
  else
    startBg s ld 0xC030 fun s =>
      let s := hemCut s 4
      setHem s { s.gen.hem with cmdLd := some ld }

/-- HEM_NOW (R173). -/
def execHemNow (ld : Nat) (inp : List Byte) (s : State) : Out := .next <| settle <| mbHemNow ld inp s

/-- GEN_HEM_CMD_HEM (R135, R175): acted on only with the key. -/
def execGenHemCmdHem (val : Word) (s : State) : Out :=
  .next <| settle <| if bit val 0 && fld val 16 16 == 0x4845 then hemCut s 5 else s

-- seals

/-- HEM_SEAL_WRITE (R144): every data page has reported success; the deltas are closed, and the seals follow once their parts
have matched. With nothing to seal the hem record follows at once. -/
def execHemSealWrite (s : State) : Out :=
  .next <| settle <|
    let h := s.gen.hem
    if h.active && h.st == 2 && !(s.gen.progs.any fun p => p.use == 1) then
      if decide (fchCount s = 0) then sixEnded (hemNoFlash (setHem s { h with st := 3 }))
      else
        let l := hemSeals s
        let s := closeDeltas (setHem s { h with st := 3, seals := l }) l
        if l.isEmpty then sixEnded (sealsDone s) else s
    else s

/-- The hem record follows the last seal. -/
def sealsEnd (s : State) : State := if s.gen.hem.seals.isEmpty then sixEnded (sealsDone s) else s

/-- A seal of the hem reads back (R144, R119): pass 1 before pass 2, with every part matched; at most two rewrites. -/
def hemSealBack (s : State) (x : HemSeal) (ok : Bool) (loc : Nat) : State :=
  let h := s.gen.hem
  if (x.pass = 2 ∧ (h.seals.any fun y => y.pass == 1) = true) ∨ hemPartsDone s = false ∨ placeOk s loc 3 = false then s
  else
    let s := programAt s loc 3
    if ok then
      let s := sewnHem (modGen s x.g x.gen fun r => { r with locs := r.locs ++ [loc] }) x.g x.gen
      sealsEnd (setHem s { s.gen.hem with seals := s.gen.hem.seals.filter (· != x) })
    else
      let s := mismatch s loc
      if x.tries < 2 then
        let s := addSat s Reg.genmSealRetry 0 32 1
        setHem s { s.gen.hem with seals := s.gen.hem.seals.map fun y => if y == x then { y with tries := y.tries + 1 } else y }
      else sealsEnd (abandonSeal s x)

/-- A codeword of the hem record reads back (R153, R117): with both matched step 6 ends. After its second rewrite it is
given up as a seal is: no nonce is kept (log entry 127). -/
def hemRecordBack (s : State) (cw : Nat) (ok : Bool) (loc : Nat) : State :=
  let h := s.gen.hem
  match h.recLeft.find? fun e => e.1 == cw with
  | none => s
  | some e =>
    if placeOk s loc 3 = false then s
    else
      let s := programAt s loc 3
      let s :=
        if ok then setHem s { s.gen.hem with recLeft := s.gen.hem.recLeft.filter (· != e) }
        else
          let s := mismatch s loc
          if e.2 < 2 then
            let s := addSat s Reg.genmSealRetry 0 32 1
            setHem s { s.gen.hem with recLeft := s.gen.hem.recLeft.map fun x => if x == e then (x.1, x.2 + 1) else x }
          else hemFlag (setHem s { s.gen.hem with recLeft := [], record := none, abandoned := true }) 9 true
      if s.gen.hem.recLeft.isEmpty then sixEnded (recordDone s) else s

/-- HEM_SEAL_READBACK (R144, R153): of a group's seal; g = 256 is the hem record, of which `gen` is the codeword. -/
def execHemSealReadback (g gen : Nat) (ok : Bool) (loc : Nat) (s : State) : Out :=
  .next <| settle <|
    if g = 256 then hemRecordBack s gen ok loc
    else
      match s.gen.hem.seals.find? fun x => x.g == g && x.gen == gen with
      | none => s
      | some x => hemSealBack s x ok loc

-- keep-alive and resume

/-- KEEP_ALIVE_START (R148): step 7. -/
def execKeepAliveStart (s : State) : Out := .next <| settle <| stepSeven s

/-- KEEP_ALIVE_TIME_EXPIRY (R149). -/
def execKeepAliveTimeExpiry (s : State) : Out := .next <| settle <| endKa s false

/-- Resume Memory (R173, R191). -/
def mbResumeMemory (ld : Nat) (inp : List Byte) (canaryOk : Bool) (weak : List Nat) (s : State) : State :=
  if inp.length ≠ 0 then replyBad s ld
  else if !isAdmin s ld then replyCode s ld hrDISABLED
  else if s.gen.hem.st ≠ 5 then replyCode s ld hrNOT_HEMMED
  else
    let r := tryResume s canaryOk weak
    replyCode r.1 ld (if r.2 then hrDONE else hrSEAL_MISMATCH)

/-- RESUME_MEMORY (R173). -/
def execResumeMemory (ld : Nat) (inp : List Byte) (canaryOk : Bool) (weak : List Nat) (s : State) : Out :=
  .next <| settle <| mbResumeMemory ld inp canaryOk weak s

/-- GEN_HEM_CMD_RESUME (R150). -/
def execGenHemCmdResume (val : Word) (canaryOk : Bool) (weak : List Nat) (s : State) : Out :=
  .next <| settle <|
    if bit val 1 && s.gen.hem.st == 5 then (tryResume s canaryOk weak).1 else s

-- status and configuration

/-- Get Hem Status (R174). -/
def mbGetHemStatus (ld : Nat) (inp : List Byte) (s : State) : State :=
  if inp.length ≠ 0 then replyBad s ld
  else
    replyOk s ld (leBytes 1 hrDONE ++ leBytes 1 s.gen.hem.st ++ leBytes 1 s.gen.hem.trigger ++
      leBytes 1 s.gen.restore.phase ++ leBytes 2 (rf s Reg.genHemState 8 5) ++ leBytes 2 (restorePct s) ++
      leBytes 4 (rd s Reg.genHemLastAt).toNat ++ leBytes 4 (rd s Reg.genHemLastMs).toNat ++
      leBytes 4 (rd s Reg.genHemLastSwatches).toNat ++ leBytes 4 (rd s Reg.genKaLast).toNat ++
      leBytes 4 (absentCount s) ++ leBytes 2 (groupsOnline s) ++ zeros 2 ++ leBytes 4 s.gen.restore.touched ++
      leBytes 4 (rf s Reg.genTouchMax 0 16) ++ leBytes 4 (hemFreeGib s) ++ leBytes 4 (unfolded s))

/-- GET_HEM_STATUS (R174). -/
def execGetHemStatus (ld : Nat) (inp : List Byte) (s : State) : Out := .next <| settle <| mbGetHemStatus ld inp s

/-- Set Restore Mode (R173, R191). -/
def mbSetRestoreMode (ld : Nat) (inp : List Byte) (s : State) : State :=
  let t := byteAt inp 32
  if inp.length ≠ 33 then replyBad s ld
  else if !isAdmin s ld then replyCode s ld hrDISABLED
  else if t = 0 ∨ 8 < t then replyCode s ld hrRANGE
  else
    let s := forEach (List.range 8) s fun s k => wr s (Reg.genRestoreMode k) (wd (pay inp (4 * k) 4))
    replyCode (wrF s Reg.genRestoreCfg 0 4 t) ld hrDONE

/-- SET_RESTORE_MODE (R173). -/
def execSetRestoreMode (ld : Nat) (inp : List Byte) (s : State) : Out := .next <| settle <| mbSetRestoreMode ld inp s

-- restore

/-- RESTORE_START (R157): once the layout is fixed after a power-up that was no warm resume. -/
def execRestoreStart (s : State) : Out :=
  .next <| settle <|
    if s.psq.st == 2 && !s.psq.restoreBegun && !s.dram.layout.isEmpty && !hemBusy s then startRestore s false else s

/-- A generation that a re-layout found in sealing has not completed its sealing yet: the restore waits for it (R226, log
entry 47). -/
def stillSealing (s : State) : Bool :=
  s.gen.restore.relaid && (enabledGroups s).any fun g => (tackedGen (grp s g)).any fun r => r.st == 3

/-- RESTORE_REBUILD_DONE (R157, R158, R168): the map walk ends (phase 2 to 3), or the rebuild of the table. -/
def execRestoreRebuildDone (walk : Bool) (chainBad : List Nat) (s : State) : Out :=
  .next <| settle <|
    if hemBusy s then s
    else if walk then (if s.gen.restore.phase = 2 then setPhase s 3 else s)
    else if s.gen.restore.phase = 3 ∧ stillSealing s = false then restoreRebuilt s chainBad
    else s

/-- ON_TOUCH_FETCH_DONE (R160, R175, R446, R447): the fetch's time is counted. -/
def execOnTouchFetchDone (swatch : Nat) (res : LadderResult) (us : Nat) (s : State) : Out :=
  .next <| settle <|
    match s.gen.restore.fetches.find? fun f => f.swatch == swatch && f.onTouch, swatchWin s swatch with
    | some _, some w =>
      let s := raiseTo (addWrap s Reg.genTouchCount 0 32 1) Reg.genTouchMax 0 16 us
      let s := extreme (histAdd s 7 (us / 25)) 12 us true
      let s := { s with gen := { s.gen with restore := { s.gen.restore with touched := (s.gen.restore.touched + 1) % 2 ^ 32 } } }
      fetchDone s (winGroup s w) swatch res
    | _, _ => s

/-- The next ABSENT swatch of a slice in ascending order, in a group that is not locked nor being rebuilt (R164). -/
def nextAbsent (s : State) (slice : Nat) : Option (Nat × Nat) :=
  let ok := fun sw => (swatchWin s sw).bind fun w =>
    let g := winGroup s w
    if grpEnabled s g && !grpLocked s g && ((grp s g).unpick.map (·.phase)) != some 2 && sliceOf s sw == slice then some (sw, g)
    else none
  let a := s.gen.lineBits.findSome? fun e => ok (128 * e.1)
  let b := (s.gen.map.filter fun e => e.2 == 8#4).findSome? fun e => ok e.1
  match a, b with
  | some x, some y => if x.1 < y.1 then some x else some y
  | some x, none => some x
  | none, y => y

/-- RESTORE_SWEEP_FETCH (R164) by a slice. -/
def execRestoreSweepFetch (slice : Nat) (res : LadderResult) (s : State) : Out :=
  .next <| settle <|
    if decide (4 ≤ s.gen.restore.phase) && !hemBusy s then
      match nextAbsent s slice with
      | some (sw, g) => fetchDone (startFetch (touchLine s sw) sw false) g sw res
      | none => s
    else s

-- folding (R167)

/-- Entries of a generation that lie in the hem region. -/
def hemEntries (s : State) (r : GenRec) : List DeltaEntry := r.delta.filter fun d => (blkOf s (locBlk d.loc)).stream == 3

/-- A page of the hem region is copied, as it is, to a location of the generation store. -/
def foldPage (s : State) (old new : Nat) : State :=
  match (s.gen.cw.find? fun x => x.1 == old).map Prod.snd with
  | none => programAt s new 0
  | some c =>
    let s := countNative (programAt s new 0) 1
    { s with gen := { s.gen with cw := (s.gen.cw.filter fun e => e.1 != new) ++ [(new, { c with wseq := s.fst.wseq })] } }

/-- A generation may be folded now (R167): its group is online, the device resumed warm, or restore waits for the hem
region's space (R168); the write window is open. -/
def mayFold (s : State) (g : Nat) (r : GenRec) : Bool :=
  durable r && (r.hem || r.relief) && windowOpen s && !hemBusy s && enabled s Pg.genm &&
    ((grp s g).online || rb s Reg.genHemState 11 || s.gen.restore.phase == 7)

/-- FOLD_HEM_GENERATION (R167): `locs` are the places of the copied pages, of the parts of the new delta and of the kind-0
seal, which has read back; the hem flag clears and the hem-region pages are released (source 268). -/
def execFoldHemGeneration (g gen : Nat) (locs : List Nat) (s : State) : Out :=
  .next <| settle <|
    match genOf (grp s g) gen with
    | none => s
    | some r =>
      let es := hemEntries s r
      let parts := partsOf r.delta.length
      let data := locs.take es.length
      let rest := locs.drop es.length
      let places := data.map (fun l => (l, 0)) ++ rest.map fun l => (l, 1)
      if mayFold s g r && locs.length == es.length + parts + 1 && placesOk places s then
        let s := forEach (es.zip data) s fun s e => foldPage s e.1.loc e.2
        let s := forEach (rest.take parts) s fun s l => programPart s l 1
        let s := forEach (rest.drop parts) s fun s l => programAt s l 1
        let moved := fun d : DeltaEntry => match (es.zip data).find? fun e => e.1.idx == d.idx && e.1.loc == d.loc with
          | some e => { d with loc := e.2, relief := false }
          | none => d
        let n := (es.filter (·.relief)).length
        let s := modGen s g gen fun r => { r with
          delta := r.delta.map moved
          locs := (r.locs.filter fun l => (blkOf s (locBlk l)).stream != 3) ++ rest
          hem := false
          relief := false }
        let s := { s with gen := { s.gen with reliefPages := s.gen.reliefPages - n } }
        spaceFreed (icu (freeUnused (rebuildLoc s g)) 268)
      else s

end Sys2Proof.Machine
end

