-- ==== Sys2Proof/Machine/Icu.lean ====
section
/-! DEFINITION. The interrupt controller's commands (R412 to R423, R427): messages, doorbell, entry, completion,
exit, the single-source registers, sleep and the thimble. -/

namespace Sys2Proof.Machine

open Bits

/-- The source named by a single-source write. -/
def srcField (val : Word) : Nat := fld val 0 9

/-- ICU_MESSAGE (R412): a block's message. -/
def execIcuMessage (src : Nat) (s : State) : Out := .next (settle (icu s src))

/-- ICU_DOORBELL (R413): firmware raises a source; sources 0 to 495 only while LOCK.inject is 0. -/
def execIcuDoorbell (val : Word) (s : State) : Out :=
  let src := srcField val
  .next <| settle <|
    if 499 < src || (decide (src < 496) && injectLocked s Pg.icu) then accessErr s Pg.icu else icuMsg s src

/-- ICU_ENTRY (R416, R417): the best takeable source is entered; its frame saves the interrupted context. A pair
that sleeps or is down takes no entry. -/
def execIcuEntry (ctx : List Word) (s : State) : Out :=
  .next <| settle <|
    if s.icu.core = .running then
      match bestSource s s.icu.stack with
      | none => s
      | some src =>
        if handlerOk (handlerAddr s src) then
          let d := s.icu.stack.length
          let frame := ((ctx.take 18).flatMap fun w => leBytes 4 w.toNat) ++ zeros (4 * (18 - ctx.length))
            ++ ownerBytes s src
          enterSource (sramStore s (frameOff s d) frame) src s.icu.live
        else abandonEntry s src
    else s

/-- ICU_DONE (R418). -/
def execIcuDone (val : Word) (s : State) : Out :=
  let src := srcField val
  .next <| settle <|
    if 499 < src then accessErr s Pg.icu
    else
      match s.icu.stack with
      | [] => report (stackFault s 2 src) Pg.icu 16 0
      | e :: _ => if e.1 = src then completeTop s src else report (stackFault s 1 src) Pg.icu 16 0

/-- The return of R419: the 18 words of frame d go back to the pair. -/
def exitReturn (s : State) : State :=
  let ctx := (List.range 18).map fun i => wd (ofLe (sramBytes s (frameOff s s.icu.stack.length + 4 * i) 4))
  { s with icu := { s.icu with context := ctx, live := s.icu.live.tail } }

/-- The exit after the pop (R419): a takeable source is chained without restoring frame d; else the context returns. -/
def exitChain (s : State) : State :=
  match bestSource s s.icu.stack with
  | some src =>
    if handlerOk (handlerAddr s src) then
      let own := ownerBytes s src
      enterSource (sramStore s (frameOff s s.icu.stack.length + 72) own) src s.icu.live.tail
    else exitReturn (abandonEntry s src)
  | none => exitReturn s

/-- ICU_EXIT (R419): an mret of a handler. One not completed by ICU_DONE is popped with a stack fault of cause 3.
Outside a handler an mret starts no exit. -/
def execIcuExit (s : State) : Out :=
  .next <| settle <|
    match s.icu.live with
    | [] => s
    | none :: _ => exitChain s
    | some src :: _ =>
      let s := { s with icu := { s.icu with stack := s.icu.stack.tail } }
      exitChain (report (stackFault s 3 src) Pg.icu 16 0)

/-- ICU_PENDCLR (R412, R420). -/
def execIcuPendclr (val : Word) (s : State) : Out :=
  let src := srcField val
  .next <| settle <| if 499 < src then accessErr s Pg.icu else setPending s src false

/-- Stores a locked configuration field's new value, or refuses it under LOCK.cfg (R36). -/
def setCfgField (s : State) (p a lsb len v : Nat) : State :=
  if locked s p && decide (rf s a lsb len ≠ v) then accessErr s p else wrF s a lsb len v

/-- ICU_ENSET (R420). -/
def execIcuEnset (val : Word) (s : State) : Out :=
  let src := srcField val
  .next <| settle <|
    if 499 < src then accessErr s Pg.icu else setCfgField s Pg.icu (Reg.icuEn (src / 32)) (src % 32) 1 1

/-- ICU_ENCLR (R420); ignored for source 0. -/
def execIcuEnclr (val : Word) (s : State) : Out :=
  let src := srcField val
  .next <| settle <|
    if 499 < src then accessErr s Pg.icu
    else if src = 0 then s else setCfgField s Pg.icu (Reg.icuEn (src / 32)) (src % 32) 1 0

/-- ICU_PRIO_SET (R420); the priority of source 0 is fixed (R414). -/
def execIcuPrioSet (val : Word) (s : State) : Out :=
  let src := srcField val
  .next <| settle <|
    if 499 < src then accessErr s Pg.icu
    else if src = 0 then s else setCfgField s Pg.icu (Reg.icuPrio (src / 4)) (8 * (src % 4)) 8 (fld val 16 8)

/-- The sleep entry is abandoned (R423). -/
def sleepAbort (s : State) : State := icu (wrB s Reg.icuStatus 16 true) 5

/-- Light sleep (R421), abandoned while a source could be taken (R423). -/
def lightSleep (s : State) : State :=
  match lightWake s with
  | some _ => sleepAbort s
  | none => { s with icu := { s.icu with core := .lightSleep } }

/-- Deep sleep (R421): the core pair domain and the banks not retained are switched off; bank 0 is always retained. -/
def deepSleep (s : State) : State :=
  let keep := rf s Reg.sysSleepCfg 4 4
  let s := domReq s 100 false
  let s := forEach [1, 2, 3] s fun s b => if keep.testBit b then s else domReq s (101 + b) false
  { s with icu := { s.icu with core := .deepSleep } }

/-- WFI_SLEEP (R421, R423). -/
def execWfiSleep (s : State) : Out :=
  .next <| settle <|
    if s.icu.core = .running then
      if rb s Reg.sysSleepCfg 0 && s.icu.stack.isEmpty then
        if (deepWake s).isSome then sleepAbort s
        else if (domOf s 100).credit = 0 then lightSleep (icu s 6)
        else deepSleep s
      else lightSleep s
    else s

/-- The wake from deep sleep begins (R421): the domains switch on, and the pair restarts at SYS_WAKE_VECTOR once
its domain is on. -/
def deepWakeStart (s : State) (src : Nat) : State :=
  let s := wakeCause s src true
  let s := { s with icu := { s.icu with vector := rd s Reg.sysWakeVector } }
  icu (applyPower s Pg.sys) 7

/-- SLEEP_WAKE (R421): a source that could be taken wakes the pair from light sleep. -/
def execSleepWake (s : State) : Out :=
  .next <| settle <|
    match s.icu.core with
    | .lightSleep =>
      match lightWake s with
      | some src => wakeCause { s with icu := { s.icu with core := .running } } src false
      | none => s
    | .deepSleep =>
      match deepWake s with
      | some src => deepWakeStart s src
      | none => s
    | _ => s

/-- THIMBLE_WAKE (R421, R422): a watched source fires. It wakes the pair from deep sleep; while VCORE is off the
thimble latches it. A source that is not watched is an ordinary message. -/
def execThimbleWake (src : Nat) (s : State) : Out :=
  .next <| settle <|
    let s := if isPending s src || s.icu.latched.contains src then s else icu s src
    if coreUp s && watched s src && s.icu.core == .deepSleep then deepWakeStart s src else s

end Sys2Proof.Machine
end

