-- ==== Sys2Proof/Machine/Baste.lean ====
section
/-! DEFINITION. Basting, relief, sealing and verify (R108 to R122). -/

namespace Sys2Proof.Machine

open Bits

-- basting

/-- BASTING_START (R110, R64): the engine takes the group's tacked generation. -/
def execBastingStart (g : Nat) (s : State) : Out :=
  .next <| settle <|
    match tackedGen (grp s g) with
    | none => s
    | some r =>
      if r.st = 1 ∧ noBaste s g = false ∧ hemBusy s = false ∧ enabled s Pg.genm = true then
        blockWaiting (trySealing (modGen s g r.num fun r => { r with st := 2 }) g)
      else s

/-- Swatches of a group that a slice may capture, in the order of R111: its slots in list order, then TACKED entries
in ascending order. -/
def captureList (s : State) (slice g : Nat) : List Nat :=
  let relief := s.gen.relief.map fun e => e.2.n
  let a := ((grp s g).slots.filter fun x => sliceOf s x.swatch == slice && some x.n != relief).map (·.swatch)
  let b := s.gen.map.filterMap fun e =>
    if inGroup s g e.1 && sliceOf s e.1 == slice && mapSt (grp s g).parity e.2 == .tacked then some e.1 else none
  a ++ b

/-- Groups a slice may baste now. -/
def bastable (s : State) (slice : Nat) : List Nat :=
  if s.fst.stopped || hemBusy s || !enabled s Pg.genm then []
  else (enabledGroups s).filter fun g =>
    (tackedGen (grp s g)).any (fun r => r.st == 2) && !noBaste s g && !(captureList s slice g).isEmpty

/-- The group a slice serves: the one whose quantum runs, else most slots held first, round-robin among equals (R111). -/
def nextGroup (s : State) (slice : Nat) : Option (Nat × Nat) :=
  let gs := bastable s slice
  let t := Sparse.get (fun _ => (0, 0)) s.gen.turn slice
  if 0 < t.2 ∧ gs.contains t.1 = true then some t
  else
    let after := fun g => (g + 255 - t.1) % 256
    (minBy (fun a b =>
      let x := (grp s a).slots.length
      let y := (grp s b).slots.length
      decide (y < x) || (x == y && decide (after a < after b))) gs).map fun g => (g, 256)

/-- A swatch is captured (R98, R112): TACKED from DRAM to CLEAN, BOTH from its slot to OPEN; `bad` tells that the read was
uncorrectable (R256). -/
def captureSwatch (s : State) (g sw n : Nat) (bad : Bool) : State :=
  match slotOf s g sw with
  | some x =>
    let s := setSt (freeSlot s g sw) g sw .opened
    retrySlots (addProg s { id := 0, g, gen := n, swatch := sw, idx := relIdx s sw, page := x.page, use := 0, both := true, bad })
  | none =>
    let p := readPage s sw
    let s := activatePage (setSt s g sw .clean) sw
    retrySlots (addProg s { id := 0, g, gen := n, swatch := sw, idx := relIdx s sw, page := p, use := 0, bad })

/-- Basting's walk reaches a slice's lines of a group up to a swatch: those whose bit is set are rewritten (R104, R111). -/
def touchWalk (s : State) (slice g sw : Nat) : State :=
  let ls := (Sparse.keys s.gen.lineBits).filter fun l =>
    decide (l ≤ sw / 128) && sliceOf s (128 * l) == slice && inGroup s g (128 * l)
  forEach ls s fun s l => touchLine s (128 * l)

/-- CAPTURE (R111, R112) by a slice. A capture that gets no staging buffers is not made (R308); with the store refusing
stream-0 codewords the group waits for flash space (R68). -/
def execCapture (c : SliceRead) (s : State) : Out :=
  .next <| settle <|
    match nextGroup s c.slice with
    | none => blockWaiting s
    | some (g, left) =>
      if !mayTake s 6 16 then (if maxOf s 6 < (clientOf s 6).held + 16 then waitAtMax s 6 else s)
      else
        let s := { s with gen := { s.gen with turn := Sparse.set (fun _ => (0, 0)) s.gen.turn c.slice (g, left - 1) } }
        match captureList s c.slice g, tackedGen (grp s g) with
        | sw :: _, some r => pace (captureSwatch (mapAccess (touchWalk s c.slice g sw)) g sw r.num (!c.readOk)) g
        | _, _ => s

/-- A page whose read was uncorrectable is programmed as read, and a damage record is written for it (R122, R256). -/
def recordBad (s : State) (p : Prog) : State := if p.bad then addRec s p.g { kind := 4, gen := p.gen, arg := p.idx } else s

/-- A basting program has succeeded (R112): delta entry, pending count, sealing, rates. -/
def basted (s : State) (p : Prog) (loc : Nat) : State :=
  let s := countNative (storePage (programAt s loc 0) loc p) 1
  let s := recordBad (addDelta s p.g p.gen { idx := p.idx, loc, crc := pageCrc p.page }) p
  let gr := grp s p.g
  let s := setGrp s p.g { gr with
    pending := gr.pending - 1
    bastBytes := addMs gr.bastBytes 4096
    bothBytes := if p.both then addMs gr.bothBytes 4096 else gr.bothBytes }
  let s := trySealing s p.g
  let s := if grpEnforced s p.g then updateRates s p.g else s
  reclaimStore (pace s p.g)

/-- A basting program that was in progress at a hem cut succeeds: its success is reported, and the hem saves the swatch
whatever it says (R142). -/
def bastedInHem (s : State) (p : Prog) (loc : Nat) : State :=
  let s := storePage (programAt s loc 0) loc p
  if (genOf (grp s p.g) p.gen).any fun r => r.delta.any fun d => d.idx == p.idx then s
  else addDelta s p.g p.gen { idx := p.idx, loc, crc := pageCrc p.page }

/-- A chunk of a swatch lies on a fenced channel: its lines read as uncorrectable (R227). -/
def onFenced (s : State) (sw : Nat) : Bool :=
  (List.range 16).any fun k => match dramPlace s (4096 * sw + 256 * k) with
    | some (c, _) => chFenced s c
    | none => false

/-- A hem program has succeeded (R143): the hem delta's entry, in the hem region; a swatch whose read was uncorrectable, or
that has a chunk on a fenced channel, gets its damage record with the seals (R146, R227; log entry 127). -/
def hemSaved (s : State) (p : Prog) (loc : Nat) : State :=
  let s := storePage (programAt s loc 3) loc p
  let s := addDelta s p.g p.gen { idx := p.idx, loc, crc := pageCrc p.page }
  let s := if p.bad || (p.inDram && onFenced s p.swatch) then
      modGen s p.g p.gen fun r => { r with damaged := (r.damaged ++ [p.idx]).eraseDups }
    else s
  addWrap s Reg.genHemLastSwatches 0 32 1

/-- FLASH_PROGRAM_COMPLETE (R290, R112, R143): a failed program stays with its staging buffers and is issued again;
`e.readOk` is the outcome of a hem program's read of DRAM or lining. -/
def execFlashProgramComplete (id : Nat) (e : ProgEnd) (loc : Nat) (s : State) : Out :=
  .next <| settle <|
    match s.gen.progs.find? fun p => p.id == id with
    | none => s
    | some p =>
      if !placeOk s loc (if p.use = 1 then 3 else 0) then s
      else if e.ok then
        let s := { s with gen := { s.gen with progs := s.gen.progs.filter fun q => q.id != id } }
        let s := if p.use = 1 then s else releaseBuffers s (if hemBusy s then 7 else 6) 16
        if p.use = 1 then hemSaved s { p with bad := p.bad || !e.readOk } loc
        else if hemBusy s then bastedInHem s p loc else basted s p loc
      else programFailed (addWrap s (Reg.fchOps (locCh loc)) 0 32 1) loc

-- relief (R108, R109)

/-- The slot relief takes: the oldest of the waiting write's group, else of the longest list (R108). -/
def reliefSlot (s : State) : Option (Nat × Slot) :=
  match s.hl.waits.find? fun r => r.why == .slot with
  | none => none
  | some r =>
    match (grp s r.g).slots with
    | x :: _ => some (r.g, x)
    | [] =>
      (minBy (fun a b => decide ((grp s b).slots.length < (grp s a).slots.length)) (Sparse.keys s.gen.groups)).bind fun g =>
        (grp s g).slots.head?.map fun x => (g, x)

/-- At its limit relief stops: relief_full, and the waiting groups' reason LINING is enforced, at the floor rate (R109). -/
def reliefFull (s : State) : State :=
  let gs := ((s.hl.waits.filter fun r => r.why == .slot).map (·.g)).eraseDups
  forEach gs (report s Pg.genm 21 0) fun s g => enforce (postPace (retarget s g) g 3 (reasonTarget s g 3)) g 3

/-- Relief begins with a slot, or stops at its limit (R108, R109). Source 253 is raised for each slot that relief takes (log
entry 122). -/
def reliefStart (s : State) : State :=
  if s.gen.relief.isSome || hemBusy s || !enabled s Pg.genm then s
  else
    match reliefSlot s with
    | none => s
    | some x =>
      if reliefRoom s then icu (takeBuffers { s with gen := { s.gen with relief := some x } } 7 16) 253
      else reliefFull s

/-- RELIEF_START (R108). -/
def execReliefStart (s : State) : Out := .next (settle (reliefStart s))

/-- A relief program has succeeded (R98, R108, R109): BOTH becomes OPEN, the slot is free, the delta has a relief entry. -/
def relieved (s : State) (g : Nat) (x : Slot) (readOk : Bool) (loc : Nat) : State :=
  match tackedGen (grp s g) with
  | none => s
  | some r =>
    let idx := relIdx s x.swatch
    let s := releaseBuffers s 7 16
    let s := storePage (programAt s loc 3) loc { id := 0, g, gen := r.num, swatch := x.swatch, idx, page := x.page, use := 2 }
    let s := addDelta s g r.num { idx, loc, crc := pageCrc x.page, relief := true }
    let s := if readOk then s else addRec s g { kind := 4, gen := r.num, arg := idx }
    let s := modGen s g r.num fun r => { r with relief := true, outside := true }
    let s := setSt (freeSlot s g x.swatch) g x.swatch .opened
    let gr := grp s g
    let s := setGrp s g { gr with pending := gr.pending - 1, bothBytes := addMs gr.bothBytes 4096 }
    let s := { s with gen := { s.gen with reliefPages := s.gen.reliefPages + 1 } }
    pace (trySealing (addSat s Reg.genmReliefCount 0 32 1) g) g

/-- RELIEF_PROGRAM_DONE (R108): relief goes on, one slot at a time, while a write waits. -/
def execReliefProgramDone (e : ProgEnd) (loc : Nat) (s : State) : Out :=
  .next <| settle <|
    match s.gen.relief with
    | none => s
    | some (g, x) =>
      let s := suspendErase s (lunOfBlk (locBlk loc)) false
      if !placeOk s loc 3 then s
      else if e.ok then
        let s := relieved { s with gen := { s.gen with relief := none } } g x e.readOk loc
        reliefStart (retrySlots s)
      else programFailed s loc

-- sealing

/-- Parts of a generation written so far: the full ones, and all, with a checkpoint's, once it seals (R113, R115). -/
def writtenParts (r : GenRec) : Nat := if r.lastPart then allParts r else r.delta.length / 4092

/-- A part of a tacked generation reads back (R117, R119); a match ends seal_exhausted (R120). -/
def partBack (s : State) (g : Nat) (r : GenRec) (part : Nat) (ok : Bool) (loc : Nat) : State :=
  if part < writtenParts r ∧ placeOk s loc 1 = true then
    let s := programPart s loc 1
    if ok then
      let s := modGen s g r.num fun r => { r with matched := (r.matched ++ [part]).eraseDups, locs := r.locs ++ [loc], mism := 0 }
      trySeal (clearExhausted s g) g r.num
    else countMismatch (mismatch s loc) g r.num
  else s

/-- A part of a hem delta reads back (R144, R119); after its third mismatch in a row the generation's seal is abandoned (log
entry 127). -/
def hemPartBack (s : State) (g n part : Nat) (ok : Bool) (loc : Nat) : State :=
  match s.gen.hem.seals.find? (fun x => x.g == g && x.gen == n), genOf (grp s g) n with
  | some x, some r =>
    if part < r.parts ∧ placeOk s loc 3 = true then
      let s := programPart s loc 3
      if ok then modGen s g n fun r => { r with matched := (r.matched ++ [part]).eraseDups, locs := r.locs ++ [loc], mism := 0 }
      else
        let s := modGen (mismatch s loc) g n fun r => { r with mism := r.mism + 1 }
        if r.mism < 2 then addSat s Reg.genmSealRetry 0 32 1 else sealsEnd (abandonSeal s x)
    else s
  | _, _ => s

/-- DELTA_READBACK (R117, R119, R144): a part of 16 codewords of a generation's delta or checkpoint; outside a hem the
generation is the group's tacked one. -/
def execDeltaReadback (g : Nat) (part : PartRef) (ok : Bool) (loc : Nat) (s : State) : Out :=
  .next <| settle <|
    if hemBusy s then hemPartBack s g part.gen part.n ok loc
    else
      match tackedGen (grp s g) with
      | none => s
      | some r => if r.num = part.gen then partBack s g r part.n ok loc else s

/-- A record's read-back takes effect (R118): a pin or unpin, judged again (R66), or a damage record (R122). -/
def recEffect (s : State) (g : Nat) (r : PendRec) : State :=
  if r.kind = 4 then modGen s g r.gen fun x => { x with damaged := (x.damaged ++ [r.arg]).eraseDups }
  else modGen s g r.gen fun x => { x with pinned := r.arg == 1 }

/-- The outcome of a pin record's command at its read-back: NOT_RETAINED or PIN_LIMIT if its rule no longer holds. -/
def recOutcome (s : State) (g : Nat) (r : PendRec) : Nat :=
  let gr := grp s g
  match genOf gr r.gen with
  | none => oNOT_RETAINED
  | some x =>
    if r.arg = 1 ∧ x.pinned = false ∧ min 256 (gr.ringSize - 1) ≤ (gr.gens.filter (·.pinned)).length then oPIN_LIMIT else oTAKEN

/-- A pin or damage record reads back (R118, R119). -/
def recReadback (s : State) (g kind : Nat) (ok : Bool) (loc : Nat) : State :=
  match (grp s g).recs.find? fun r => r.kind == kind with
  | none => s
  | some r =>
    if !placeOk s loc 1 then s
    else
    let s := programAt s loc 1
    if ok then
      let gr := grp s g
      let s := modGen (setGrp s g { gr with recs := gr.recs.erase r }) g r.gen fun x => { x with recLocs := x.recLocs ++ [loc] }
      if kind = 3 then
        let c := recOutcome s g r
        let s := if c = oTAKEN then recEffect s g r else s
        let s := match r.ld with
          | some ld => replyCode s ld c
          | none => wr s Reg.genGenStatus (wd (c * 256))
        if r.arg = 0 then reclaimStore (trimRing s g) else s
      else endDamage (recEffect s g r)
    else programFailed s loc

/-- The wrapped new key of an erased group has been written and reads back (R81). -/
def keyReadback (s : State) (g : Nat) (ok : Bool) (loc : Nat) : State :=
  if (grp s g).keyPending && placeOk s loc 1 then
    let s := programAt s loc 1
    if ok then setGrp s g { grp s g with keyPending := false } else programFailed s loc
  else s

/-- SEAL_READBACK (R117 to R120): kind 0 a generation's seal, kinds 3 and 4 a record, kind 5 a wrapped key (log entry 112). -/
def execSealReadback (g kind : Nat) (ok : Bool) (loc : Nat) (s : State) : Out :=
  .next <| settle <|
    if kind = 0 then
      match tackedGen (grp s g) with
      | none => s
      | some r =>
        if r.st = 3 ∧ r.sealWritten = true ∧ (grp s g).mapBad = false ∧ placeOk s loc 1 = true then
          let s := programAt s loc 1
          if ok then sewn (modGen s g r.num fun r => { r with locs := r.locs ++ [loc] }) g r.num
          else countMismatch (mismatch s loc) g r.num
        else s
    else if kind = 5 then keyReadback s g ok loc
    else recReadback s g kind ok loc

/-- SEAL_RETRY (R120): every 10 s the sealing of an exhausted group is tried again. -/
def execSealRetry (g : Nat) (s : State) : Out :=
  .next <|
    if (grp s g).sealExhausted then addSat s Reg.genmSealRetry 0 32 1 else s

-- verify

/-- VERIFY_PASS (R121, R122): a locked group's pages are not verified before its unlock; the last one that R158 asks for lets
the group come online. -/
def execVerifyPass (g gen : Nat) (bad : List Nat) (s : State) : Out :=
  .next <| settle <|
    if (genOf (grp s g) gen).any durable && !grpLocked s g then
      let s := modGen s g gen fun r => { r with verified := true }
      let s := freeUnused (forEach bad s fun s i => verifyFail s g gen i)
      if (grp s g).mustVerify && !hasOutside s g then verifyDone s g else s
    else s

/-- VERIFY_SWEEP (R121, R122, R132): the sweep has come to a percentage, with pages that failed on the way; at 100 it
completes, source 259. The first report of a sweep starts its failure count. -/
def execVerifySweep (e : SweepReport) (s : State) : Out :=
  .next <| settle <|
    if rb s Reg.genmVerifyCtrl 0 && enabled s Pg.genm then
      let had := if rb s Reg.genmVerifyStatus 0 then rf s Reg.genmVerifyStatus 16 16 else 0
      let s := forEach e.bad s fun s x => verifyFail s x.1 x.2.1 x.2.2
      let done := decide (100 ≤ e.pct)
      let s := wr s Reg.genmVerifyStatus (wd ((!done).toNat + 256 * min 100 e.pct + 65536 * min 65535 (had + e.bad.length)))
      if done then icu s 259 else s
    else s

end Sys2Proof.Machine
end

