-- ==== Sys2Proof/Machine/RegOps.lean ====
section
/-! DEFINITION. CTRL (R30, R31, R36): soft resets, enables, power requests. -/

namespace Sys2Proof.Machine

open Bits

-- what a soft reset keeps and takes (R31)

/-- Registers that a soft reset of their page leaves as they are: LOCK and ERR_COUNT (R30), what the selvedge or the
configuration area holds, the time base (R424), what the channel was trained with (R221), and under LOCK.cfg what it
makes read-only (R31, R36). -/
def keepsOnSoft (s : State) (a : Nat) : Bool :=
  let p := a / 0x1000
  a == lockA p || a == errCountA p || keepsReg a || a == Reg.sysTicks ||
    (decide (0x20 ≤ p) && decide (p < 0x30) && a == Reg.dchGeom (p - 0x20) && (dchOf s (p - 0x20)).geomLocked) ||
    (locked s p && (a == ctrlA p || a == errMaskA p || (descOf a).any fun d => d.rw != 0#32))

/-- A page's registers return to their reset values. -/
def resetRegs (s : State) (p : Nat) : State :=
  { s with regs := s.regs.filter fun e => e.1 / 0x1000 != p || keepsOnSoft s e.1 }

/-- A DRAM channel's logic is reset: queued reads complete with an error, as poison (R31); training stands (R221). -/
def resetDch (s : State) (c : Nat) : State :=
  let v := dchOf s c
  let rs := (v.qa ++ v.qb).filter fun q => !q.write
  let s := setDch (clearQueues s c) c
    { kept := v.kept
      rfm := v.rfm
      trained := v.trained
      geomLocked := v.geomLocked
      thermalReq := v.thermalReq
      doubledReq := v.doubledReq
      hemReq := v.hemReq }
  forEach rs s fun s q => respond s q.ld q.tag true (zeros 64) true

/-- A flash channel's logic is reset: running operations end, an erase leaves its block undefined (R287); the channel is
to be mounted again. -/
def resetFch (s : State) (c : Nat) : State :=
  let cut := s.fst.luns.filter fun e => e.1 / 128 == c && (e.2.op == 2 || e.2.op == 3)
  let s := forEach cut s fun s e => setBlk s e.2.blk { blkOf s e.2.blk with cls := .undefined }
  let s := forEach (s.fst.luns.filter fun e => e.1 / 128 == c) s fun s e => setLun s e.1 { out := e.2.out, retired := e.2.retired }
  setFch s c { fchOf s c with pend := [], calFails := 0, recal := false, stuckOnce := [] }

/-- A page's logic is reset. Requests queued to it end with an error (R31): POOL's waits as failed, a running firmware
transfer of SB1 with result 7; BAT's values for the charger stay to be sent at the next poll, as after any transaction that
failed (R492; log entry 128). -/
def resetLogic (s : State) (p : Nat) : State :=
  if p = Pg.sys then
    if s.icu.core = .down then s else restartPair s 4 (imgEntry s s.upd.slot)
  else if p = Pg.flt then { s with flt := { s.flt with handling := [], snap := [], last464 := none, last465 := none } }
  else if p = Pg.icu then { s with icu := { s.icu with stack := [], live := [], context := [] } }
  else if p = Pg.evr then evrLost s
  else if p = Pg.cfl then cflAbortAll s
  else if p = Pg.upd then abandonTransfer s
  else if p = Pg.bat then recomputeBudget (judgeEnergy (setChgEn { s with bat := { s.bat with tablesOk := false, tapBad := 0, thBad := 0 } } false))
  else if p = Pg.thm then
    let s := { s with thm := { lost := s.thm.lost, shutRecord := s.thm.shutRecord, windowClosed := s.thm.windowClosed } }
    applyDoubled (applyRelief (if thermalRow s then s else thermalClear s))
  else if p = Pg.sb0 then { s with sb := { s.sb with ack := false, data := [], result := 3 } }
  else if p = Pg.sb1 then
    let s := { s with sb := { s.sb with retries := 0, waitFree := false, recovering := false } }
    if s.sb.busy then xferEnd s 7 0 else s
  else if p = Pg.pool then
    let ws := s.pool.waits
    let s := poolLost s
    updateScale { s with pool := { s.pool with failed := ws } }
  else if p = Pg.gen then
    let s := disarm s none
    { s with gen := { s.gen with sync := {}, turn := [] } }
  else if p = Pg.hl0 ∨ p = Pg.hl1 then linkOff s (p - Pg.hl0)
  else if p = Pg.key then
    noteReasons (forEach (Sparse.keys s.gen.groups) s fun s g => setGrp s g { grp s g with key := none })
  else if 0x20 ≤ p ∧ p < 0x30 then resetDch s (p - 0x20)
  else if 0x30 ≤ p ∧ p < 0x40 then setDch s (p - 0x30) { dchOf s (p - 0x30) with sweeping := false, sliced := false }
  else if 0x40 ≤ p ∧ p < 0x60 then resetFch s (p - 0x40)
  else if p = Pg.fst then wrB s Reg.fstWindow 0 (!s.thm.windowClosed)
  else s

-- enable and power_req (R30)

/-- What follows a change of CTRL.enable: the recorder mounts or stops (chapter 13), THM's pacing and relief responses end
or begin (chapter 11), accesses that waited for a DRAM channel go on. The table check of BAT is `batEnable`. -/
def enableEffect (s : State) (p : Nat) (on : Bool) : State :=
  if p = Pg.evr then
    if on then { s with evr := { s.evr with mode := 0 } } else evrLost s
  else if 0x20 ≤ p ∧ p < 0x30 ∧ on = true then retryWaits s fun r => r.why == .dram
  else if p = Pg.thm then
    let s := applyRelief s
    if thermalRow s then forEach (enabledGroups s) s thermalJoin else thermalClear s
  else s

/-- BAT's enable is set: the tables are checked against BAT_TABLE_CRC (R378, sources 376 and 368). -/
def batEnable (s : State) : State :=
  let bs := (List.range 72).flatMap fun k => leBytes 4 (rd s (0x7400 + 4 * k)).toNat
  let ok := crc32c bs == rd s Reg.batTableCrc
  let s := { s with bat := { s.bat with tablesOk := ok } }
  let s := if ok then s else report s Pg.bat 19 0
  recomputeBudget (judgeEnergy s)

/-- Stores CTRL, with what follows from it; enable stays where LOCK.cfg holds it (R36), PSQ and THM keep power_req at 1
(R356, R331). -/
def setCtrl (s : State) (p : Nat) (en pw : Bool) : State :=
  let was := enabled s p
  let held := locked s p && en != was
  let en := if locked s p then was else en
  let keepPw := !pw && (p == Pg.psq || p == Pg.thm)
  let pw := pw || keepPw
  let s := if held || keepPw then accessErr s p else s
  let s := wr s (ctrlA p) (wd (en.toNat + 4 * pw.toNat))
  let s := if en != was then enableEffect s p en else s
  let s := if en && !was && p == Pg.bat then batEnable s else s
  applyPower s p

/-- A soft_reset write that R31 discards. -/
def softRefused (s : State) (p : Nat) : Bool :=
  s.gen.hem.active && ([Pg.gen, Pg.genm, Pg.key, Pg.pool, Pg.psq, Pg.fst].contains p || (decide (0x20 ≤ p) && decide (p < 0x60)))

/-- A write of CTRL (R30, R31): with soft_reset the page waits for its handshakes to end. -/
def ctrlWrite (s : State) (p : Nat) (val : Word) : State :=
  if !isPage p then s
  else if bit val 1 then
    if softRefused s p then accessErr s p
    else { s with resets := (s.resets.filter fun e => e.1 != p) ++ [(p, val)] }
  else setCtrl s p (bit val 0) (bit val 2)

/-- A soft reset takes effect; in the next hop the enable and power_req of the write apply (R31). -/
def softReset (s : State) (p : Nat) (val : Word) : State :=
  let was := enabled s p
  let lockd := locked s p
  let s := resetLogic (resetRegs s p) p
  let en := if lockd then was else bit val 0
  let s := if lockd && bit val 0 != was then accessErr s p else s
  let keepPw := !bit val 2 && (p == Pg.psq || p == Pg.thm)
  let s := if keepPw then accessErr s p else s
  let s := wr s (ctrlA p) (wd (en.toNat + 4 * (bit val 2 || keepPw).toNat))
  let s := if p = Pg.evr ∧ en = true then enableEffect s p true else s
  let s := if en && p == Pg.bat then batEnable s else s
  let s := if 0x20 ≤ p ∧ p < 0x30 then updateRegime (updateTset s (p - 0x20)) (p - 0x20) else s
  applyPower s p

end Sys2Proof.Machine
end

