-- ==== Sys2Proof/Machine/Bat.lean ====
section
/-! DEFINITION. Battery estimation and charging (chapter 10): the meanings. -/

namespace Sys2Proof.Machine

open Bits

-- learning (R372 to R374)

/-- The measured capacity per cell, mAh (R372). -/
def qMeas (s : State) (rise : Nat) : Nat := s.bat.spanCharge * 1000 / (3600000 * batParallel s * max 1 rise)

/-- The first condition of R372 that the span breaks; 0 if none. -/
def spanFault (s : State) : Nat :=
  let rise : Int := s.bat.socV - s.bat.spanSoc
  let inBand := fun (t : Int) => decide (100 ≤ t) && decide (t ≤ 400)
  let q := 100 * qMeas s rise.toNat
  let rated := rf s Reg.batCapRated 0 16
  if rise < 400 then 1
  else if !(inBand s.bat.spanTemp && inBand s.bat.temp && decide ((s.bat.temp - s.bat.spanTemp).natAbs ≤ 50)) then 2
  else if s.bat.spanBad.testBit 0 then 3
  else if s.bat.spanBad.testBit 1 then 4
  else if s.bat.spanBad.testBit 2 then 5
  else if q < 50 * rated ∨ 110 * rated < q then 6
  else 0

/-- A quarter of the way to the measured capacity, by at most 10 % of rated (R373). -/
def learned (old q rated : Nat) : Nat :=
  let d : Int := ((q : Int) - old) / 4
  let lim : Int := rated / 10
  ((old : Int) + max (-lim) (min lim d)).toNat

/-- An accepted span (R373, R367, R374). -/
def acceptSpan (s : State) : State :=
  let rated := rf s Reg.batCapRated 0 16
  let l := learned (rf s Reg.batCapLearned 0 16) (qMeas s (s.bat.socV - s.bat.spanSoc)) rated
  let s := addSat (wrF s Reg.batCapLearned 0 16 l) Reg.batCapLearned 16 16 1
  let s := if s.bat.suspect then icu s 370 else s
  { s with bat := { s.bat with worn := decide (100 * l < 60 * rated), suspect := false, request := false, sinceSpan := 0 } }

/-- The span that ends with this rest is accepted or discarded (source 371). -/
def judgeSpan (s : State) : State :=
  if s.bat.spanOpen then
    let f := spanFault s
    icu (if f = 0 then acceptSpan s else { s with bat := { s.bat with learnReason := f } }) 371
  else s

-- rests (R366 to R368)

/-- A rest: the two figures are compared, SOC_i is re-based, a learning span ends and the next one begins. -/
def restEnd (s : State) : State :=
  let far := decide (s.bat.socV + 150 < socI s) || decide (socI s + 150 < s.bat.socV)
  let s := judgeSpan s
  let s :=
    if far then
      let s := if s.bat.suspect then s else icu { s with bat := { s.bat with suspect := true } } 370
      report { s with bat := { s.bat with request := true } } Pg.bat 16 0
    else s
  let s := if s.bat.pause then icu s 374 else s
  { s with bat := { s.bat with
    charge := s.bat.socV * batFull s / 1000
    sinceRest := 0
    growth := 0
    packTerm := false
    pause := false
    rested := true
    learnStop := false
    learning := false
    spanOpen := true
    spanSoc := s.bat.socV
    spanTemp := s.bat.temp
    spanCharge := 0
    spanSet := none
    spanBad := 0 } }

/-- A span of 30 minutes that has not re-based the figures is a rest (log entry 20). -/
def restDue (s : State) : Bool := decide (1800 ≤ s.bat.restFor) && !s.bat.rested

/-- The span of a rest grows by `secs`, or breaks (R366). -/
def restCount (s : State) (secs : Nat) : State :=
  if restRow s then { s with bat := { s.bat with restFor := s.bat.restFor + secs } } else breakRest s

/-- Time since the last rest, and the growth of R368 (ERR_STATUS.no_rest, source 375). -/
def restAge (s : State) (secs : Nat) : State :=
  let t := s.bat.sinceRest + secs
  let g := (t - 72 * 3600) / 86400
  let up := decide (s.bat.growth < g)
  let s := { s with bat := { s.bat with sinceRest := t, growth := g } }
  if up then icu (if coreUp s then report s Pg.bat 22 0 else s) 375 else s

/-- The temperatures of the past hour, newest first (R368). -/
def hourOf : List (Int × Nat) → Nat → List (Int × Nat)
  | [], _ => []
  | _, 0 => []
  | (t, n) :: l, k => (t, min n k) :: hourOf l (k - n)

def noteTemp (s : State) : State :=
  let t := s.bat.temp
  let l := match s.bat.band with
    | (u, n) :: r => if u = t then (u, n + 1) :: r else (t, 1) :: (u, n) :: r
    | [] => [(t, 1)]
  { s with bat := { s.bat with band := hourOf l 3600 } }

/-- The pack temperature has stayed within a 2 °C band for the past hour (R368). -/
def steady (s : State) : Bool :=
  decide (3600 ≤ (s.bat.band.map Prod.snd).sum) &&
    s.bat.band.all fun a => s.bat.band.all fun b => decide (a.1 - b.1 ≤ 20)

/-- A due rest releases CHG_EN for a pause (R368, source 374). -/
def pauseStart (s : State) : State :=
  if decide (86400 ≤ s.bat.sinceRest) && s.psq.input && !s.bat.learning && !s.bat.pause && !s.psq.holdEn && steady s then
    icu (setChgEn { s with bat := { s.bat with pause := true } } false) 374
  else s

-- charging

/-- The charge window (R376, source 373). -/
def chargeWindow (s : State) : State :=
  let t := s.bat.temp
  let c := if t ≤ 0 ∨ 450 ≤ t then true else if 20 ≤ t ∧ t ≤ 430 then false else s.bat.windowClosed
  let s := if c = s.bat.windowClosed then s else icu { s with bat := { s.bat with windowClosed := c } } 373
  if chgWindowClosed s then { s with bat := { s.bat with spanBad := s.bat.spanBad ||| 4 } } else s

/-- Lowest and highest cell voltage in mV, with the segment of the lowest (R361, R381). -/
def cellMv (s : State) (j : Nat) : Nat := segOf s j / segCells s j
def lowestCell (s : State) : Nat × Nat :=
  [1, 2].foldl (fun a j => if cellMv s j < a.1 then (cellMv s j, j) else a) (cellMv s 0, 0)
def highestCell (s : State) : Nat := max (cellMv s 0) (max (cellMv s 1) (cellMv s 2))

/-- A learning charge ends at BAT_LEARN_CTRL.stop and waits for the closing rest (R374). -/
def learnEnd (s : State) : State :=
  if s.bat.learning && s.bat.chgEn && decide (rf s Reg.batLearnCtrl 16 13 ≤ highestCell s) then
    setChgEn { s with bat := { s.bat with learnStop := true } } false
  else s

/-- A second of the learning span: charge under constant current, one setpoint, the phase (R372). -/
def spanSecond (s : State) : State :=
  if s.bat.chgEn then
    let set := rf s Reg.batChgCfg 0 12
    let bad := s.bat.phase != 1 || (s.bat.spanSet.getD set) != set
    { s with bat := { s.bat with
      spanSet := some (s.bat.spanSet.getD set)
      spanBad := if bad then s.bat.spanBad ||| 1 else s.bat.spanBad
      spanCharge := if s.bat.phase = 1 then s.bat.spanCharge + (-s.bat.cur).toNat else s.bat.spanCharge } }
  else s

/-- 90 days since the last accepted span request a learning cycle (R374). -/
def spanAge (s : State) : State :=
  let n := s.bat.sinceSpan + 1
  { s with bat := { s.bat with sinceSpan := n, request := s.bat.request || decide (90 * 86400 ≤ n) } }

/-- BAT_SECOND (R363 to R376) of the active stage. -/
def execBatSecond (s : State) : Out :=
  .next <| settle <|
    if coreUp s then
      let s := integrate s 1
      let s := { s with bat := { s.bat with socV := socFromVoltage s } }
      let s := extreme (extreme s 13 (lowestCell s).1 false) 14 (highestCell s) true
      let s := if restDue s then restEnd s else s
      let s := restAge (restCount (noteTemp s) 1) 1
      let s := if restDue s then restEnd s else s
      let s := spanAge (spanSecond s)
      let s := chargeWindow (if s.psq.holdEn then batHold s else s)
      let s := chargeControl (pauseStart (learnEnd s))
      recomputeBudget (recomputeEnergy s)
    else s

/-- REST_PAUSE_END (R368): 30 minutes of the pause are over. -/
def execRestPauseEnd (s : State) : Out :=
  .next <| settle <|
    if s.bat.pause then chargeControl (endPause (if restDue s then restEnd s else s)) else s

/-- HIB_ESTIMATOR_TICK (R378, R149): the hibernating stage; usable energy at or below the reserve ends keep-alive. -/
def execHibEstimatorTick (secs : Nat) (s : State) : Out :=
  .next <| settle <|
    if coreUp s || !s.psq.vao then s
    else
      let s := restAge (restCount (integrate s secs) secs) secs
      let s := recomputeEnergy s
      if s.gen.hem.st = 4 ∧ s.bat.energy ≤ rf s Reg.genKaReserve 0 16 then endKa s true else s

/-- BAT_ENABLE_TABLE_CHECK (R378): a CTRL write with enable set. -/
def execBatEnableTableCheck (val : Word) (s : State) : Out :=
  .next <| settle <| if bit val 0 then ctrlWrite s Pg.bat val else s

/-- A write of BAT_LEARN_CTRL (R374, R381, R36). -/
def learnCtrl (s : State) (val : Word) : State :=
  let stop := fld val 16 13
  if stop < 3900 ∨ 4150 < stop then accessErr s Pg.bat
  else
    let hold := locked s Pg.bat && rf s Reg.batLearnCtrl 16 13 != stop
    let s := if hold then accessErr s Pg.bat else wrF s Reg.batLearnCtrl 16 13 stop
    if bit val 0 then { s with bat := { s.bat with request := true } } else s

/-- BAT_LEARN_REQUEST (R374): a write of BAT_LEARN_CTRL with request set. -/
def execBatLearnRequest (val : Word) (s : State) : Out := .next <| settle <| if bit val 0 then learnCtrl s val else s

-- status and mailbox (R380, R382)

/-- BAT_STATE (R382). -/
def batStateWord (s : State) : Word :=
  wd (s.bat.valid.toNat + 2 * s.bat.suspect.toNat + 4 * s.bat.chgEn.toNat + 8 * (chgWindowClosed s).toNat +
    16 * s.bat.request.toNat + 32 * (restRow s).toNat + 64 * s.bat.worn.toNat + 128 * s.bat.ship.toNat +
    256 * s.bat.learnReason + 65536 * (batSoc s / 10) + 2 ^ 24 * min 255 s.bat.u)

/-- The output of Get Battery Status (R380). -/
def batStatus (s : State) : List Byte :=
  leBytes 1 0 ++ leBytes 1 (batStateWord s).toNat ++ leBytes 1 (batSoc s / 10) ++ leBytes 1 (min 255 s.bat.u) ++
    leBytes 4 s.bat.energy ++ leBytes 2 (ofInt 16 s.bat.temp) ++ leBytes 2 (lowestCell s).1 ++
    leBytes 2 (rf s Reg.batCapLearned 0 16) ++ leBytes 2 (min 65535 (s.bat.sinceRest / 3600)) ++ leBytes 1 s.bat.phase ++
    leBytes 1 s.bat.learnReason ++ zeros 14

/-- Get Battery Status (R380). -/
def mbGetBatteryStatus (ld : Nat) (inp : List Byte) (s : State) : State :=
  if inp.length ≠ 0 then replyBad s ld else replyOk s ld (batStatus s)

/-- GET_BATTERY_STATUS (R380). -/
def execGetBatteryStatus (ld : Nat) (inp : List Byte) (s : State) : Out := .next <| settle <| mbGetBatteryStatus ld inp s

/-- Request Learning Cycle (R374, R380). -/
def mbRequestLearningCycle (ld : Nat) (inp : List Byte) (s : State) : State :=
  if inp.length ≠ 0 then replyBad s ld
  else replyCode { s with bat := { s.bat with request := true } } ld 0

/-- REQUEST_LEARNING_CYCLE (R380). -/
def execRequestLearningCycle (ld : Nat) (inp : List Byte) (s : State) : Out :=
  .next <| settle <| mbRequestLearningCycle ld inp s

/-- A restore runs: its sweep has not ended (R156 to R168). -/
def restoring (s : State) : Bool := decide (1 ≤ s.gen.restore.phase ∧ s.gen.restore.phase ≤ 5) || s.gen.restore.phase == 7

/-- Arm Ship Mode (R379, R380, source 379). -/
def mbArmShipMode (ld : Nat) (inp : List Byte) (s : State) : State :=
  if inp.length ≠ 4 ∨ pay inp 0 4 ≠ 0x50494853 then replyBad s ld
  else if !isAdmin s ld then replyCode s ld 2
  else if hemBusy s || restoring s then replyCode (icu s 379) ld 1
  else replyCode (icu { s with bat := { s.bat with ship := true } } 379) ld 0

/-- ARM_SHIP_MODE (R379). -/
def execArmShipMode (ld : Nat) (inp : List Byte) (s : State) : Out := .next <| settle <| mbArmShipMode ld inp s

/-- Disarm Ship Mode (R379, R380). -/
def mbDisarmShipMode (ld : Nat) (inp : List Byte) (s : State) : State :=
  if inp.length ≠ 0 then replyBad s ld
  else replyCode (if s.bat.ship then icu { s with bat := { s.bat with ship := false } } 379 else s) ld 0

/-- DISARM_SHIP_MODE (R380). -/
def execDisarmShipMode (ld : Nat) (inp : List Byte) (s : State) : Out := .next <| settle <| mbDisarmShipMode ld inp s

end Sys2Proof.Machine
end

