-- ==== Sys2Proof/Machine/Cfl.lean ====
section
/-! DEFINITION. The commands of the code flash interface (R407 to R411). -/

namespace Sys2Proof.Machine

open Bits

/-- A refused operation (R408, R409): the result, the refusal counts, and SAME_BANK's error and source. -/
def cflRefuse (s : State) (bank code : Nat) : State :=
  let s := cflResult s bank code
  if code = 1 then report (addSat s Reg.cflRefused 0 16 1) Pg.cfl 16 0
  else addSat s Reg.cflRefused 16 16 1

/-- Whether a program or erase may not touch the address (R408): a program to bank 3, or to the slot that UPD holds
during a transfer, a reconstruction or a trial (R464); either to the old-format area during a trial (R474). -/
def cflBarred (s : State) (kind addr : Nat) : Bool :=
  let area := 0x02010000 + 0x100000 * s.upd.oldArea
  (kind == 1 && (decide (addr / 2 ^ 24 = 3) ||
    ((decide (1 ≤ s.upd.st ∧ s.upd.st ≤ 3) || s.upd.st == 6) && decide (addr / 2 ^ 24 = (!s.upd.slot).toNat)))) ||
    (kind != 3 && s.upd.st == 6 && decide (area ≤ addr) && decide (addr < area + 0x100000))

/-- An operation of a dump that has been abandoned is refused (R515). -/
def cflDumpBarred (s : State) (addr : Nat) : Bool :=
  rb s Reg.fltSticky 3 && s.flt.stopping && decide (dumpBase ≤ addr)

/-- Starts a firmware operation of a kind, or refuses it (R408, R409). The code of a dump operation that R515
refuses is a free value. -/
def cflStart (s : State) (kind : Nat) (fetchBank : Option Nat) : State :=
  let addr := (rd s Reg.cflAddr).toNat
  let bank := addr / 2 ^ 24
  if fetchBank = some bank then cflRefuse s bank 1
  else if kind != 3 && rb s Reg.cflProtect bank then cflRefuse s bank 2
  else if (cflOp s bank).isSome || decide (2 ≤ s.cfl.ops.length) || cflFwBusy s then cflRefuse s bank 3
  else if addr % cflUnit kind != 0 || cflBarred s kind addr then cflRefuse s bank 4
  else if cflDumpBarred s addr then
    let r := freeVal s
    cflRefuse r.2 bank (2 + r.1.toNat % 14)
  else setCflOp s bank (some { kind, req := .fw, addr })

/-- CFL_PROGRAM_PAGE (R408): a CFL_CMD write with code 1. -/
def execCflProgramPage (_val : Word) (fetchBank : Option Nat) (s : State) : Out :=
  .next (settle (cflStart s 1 fetchBank))

/-- CFL_ERASE_SECTOR (R408): a CFL_CMD write with code 2. -/
def execCflEraseSector (_val : Word) (fetchBank : Option Nat) (s : State) : Out :=
  .next (settle (cflStart s 2 fetchBank))

/-- CFL_BLANK_CHECK (R408): a CFL_CMD write with code 3. -/
def execCflBlankCheck (_val : Word) (fetchBank : Option Nat) (s : State) : Out :=
  .next (settle (cflStart s 3 fetchBank))

/-- A program ends (R408): it clears bits, and a read-back that differs from CFL_BUF is VERIFY_FAIL. -/
def cflProgramDone (s : State) (bank addr : Nat) (ok : Bool) : State :=
  let buf := cflBuf s
  let s := cflProgram s addr buf
  if ok && cflBytes s addr 256 == buf then cflResult s bank 0
  else
    let s := if ok then s else cflSpoil s addr 256
    let s := report (cflResult s bank 5) Pg.cfl 18 0
    if dumpBase ≤ addr && s.flt.dump.isSome then report s Pg.flt 16 0 else s

/-- An erase ends (R408): the sector reads blank, or ERASE_FAIL. -/
def cflEraseDone (s : State) (bank addr : Nat) (ok : Bool) : State :=
  if ok then
    let s := if addr / 2 ^ 24 = 3 then bank3Erased s (addr % 2 ^ 24 / 4096) else s
    cflResult (cflErase s addr 4096) bank 0
  else report (cflSpoil (cflResult s bank 6) addr 4096) Pg.cfl 19 0

/-- A blank check of a sector (R408); in bank 3 of what the recorder holds there. -/
def sectorReadsBlank (s : State) (addr : Nat) : Bool :=
  cflIsBlank s addr 4096 && (addr / 2 ^ 24 != 3 || (bank3Bytes s (addr % 2 ^ 24 / 4096)).all (· == 0xFF#8))

/-- CFL_OPERATION_DONE (R408): the operation of a bank ends with its result, source 456 for a firmware operation; a
recorder's request that waited for its bank goes on. The recorder's own erases end here too (R449), its programs with
EVR_PAGE_DURABLE. -/
def execCflOperationDone (bank : Nat) (ok : Bool) (s : State) : Out :=
  .next <| settle <|
    match cflOp s bank with
    | none => s
    | some o =>
      if o.req == .evr && o.kind == 2 then sectorErased s (o.addr % 2 ^ 24 / 4096) ok
      else if o.req != .fw then s else
      let s := setCflOp s bank none
      let s := match o.kind with
        | 1 => cflProgramDone s bank o.addr ok
        | 2 => cflEraseDone s bank o.addr ok
        | _ => cflResult s bank (if sectorReadsBlank s o.addr then 0 else 8)
      evrPump (icu s 456)

/-- CFL_READ_SUSPEND (R410): a read suspends an erase, at most 64 times. -/
def execCflReadSuspend (bank : Nat) (s : State) : Out :=
  .next <|
    match cflOp s bank with
    | none => s
    | some o =>
      if o.kind = 2 ∧ o.suspended = false ∧ o.suspensions < 64 then
        setCflOp s bank (some { o with suspended := true, suspensions := o.suspensions + 1 })
      else s

/-- CFL_ERASE_RESUME (R410): the bank has seen no read for 100 µs. -/
def execCflEraseResume (bank : Nat) (s : State) : Out :=
  .next <|
    match cflOp s bank with
    | none => s
    | some o => setCflOp s bank (some { o with suspended := false })

/-- CODE_FLASH_UNCORRECTABLE (R407): a unit with more than one error. -/
def execCodeFlashUncorrectable (addr : Nat) (s : State) : Out :=
  .next <| settle <|
    let s := addSat s Reg.cflEcc 16 16 1
    let s := wr s Reg.cflEccAddr (wd (addr % 2 ^ 26 / 32 * 32 + 2 ^ 31))
    let s := report s Pg.cfl 17 0
    if addr % 2 ^ 26 / 2 ^ 24 = 3 then unitBad s (addr % 2 ^ 26) else s

end Sys2Proof.Machine
end

