-- ==== Sys2Proof/Machine/Dram.lean ====
section
/-! DEFINITION. The commands of the DRAM channels (R228 to R263): accesses, refresh, row disturbance, alerts,
timing sets, training, patrol scrub. -/

namespace Sys2Proof.Machine

open Bits

/-- Place of a queued access on its channel. -/
def placeOf (s : State) (c : Nat) (line : Nat) : DramLoc :=
  match dramPlace s (64 * line) with
  | some (_, x) => localOf s c x
  | none => { sub := false, rank := 0, chip := 0, bankGroup := 0, bank := 0, row := 0, col := 0 }

/-- A replayed access completes (R239): its data, returned twice, is discarded. -/
def replayNext (s : State) (c : Nat) (sub : Bool) : State :=
  let v := dchOf s c
  setDch s c (if sub then { v with replayB := v.replayB.drop 1 } else { v with replayA := v.replayA.drop 1 })

/-- The read of a partial write's line completes (R232): the merged line is still to be written, in the entry's place and by
an activation of its own; from an uncorrectable burst it becomes a poisoned line (R256). -/
def rmwRead (s : State) (c : Nat) (sub : Bool) (q : DQ) (o : EccResult) : State :=
  let bad := o == .uncorrectable
  let e := { q with rmw := false, poison := q.poison || bad }
  let v := dchOf s c
  let s := setDch s c (setSubQueue v sub ((subQueue v sub).map fun x => if x == q then e else x))
  let s := activate (retryPush s c sub q.line false) c (placeOf s c q.line) (some q.win)
  match o with
  | .clean => s
  | .corrected dev => corrected s c (placeOf s c q.line) dev
  | .uncorrectable => uncorrectable (writeLine s (64 * q.line) (lineBytes s (64 * q.line)) true) c (64 * q.line)

/-- A queued access has been issued (R229, R254 to R256): a write is in the retry buffer with its buffer; a read's data
returns, as poison where the burst is uncorrectable. -/
def served (s : State) (c : Nat) (sub : Bool) (q : DQ) (o : EccResult) : State :=
  let s := dropAccess s c sub q
  if q.write then s
  else
    let s := releaseBuffers s (dqClient q) 1
    match o with
    | .clean => respond s q.ld q.tag true q.data q.poison
    | .corrected dev => respond (corrected s c (placeOf s c q.line) dev) q.ld q.tag true q.data q.poison
    | .uncorrectable =>
      let r := freeBytes s 64
      respond (mediaEvent (uncorrectable r.2 c (64 * q.line)) q.ld (64 * q.line)) q.ld q.tag true r.1 true

/-- DRAM_ACCESS_COMPLETE (R229 to R232, R239, R253): a replay comes first; then the access served next, whose burst comes
back with errors as given. Requests that waited before the queue go on. -/
def execDramAccessComplete (ch : Nat) (sub aged : Bool) (errs : BurstErrs) (s : State) : Out :=
  .next <| settle <|
    let v := dchOf s ch
    if !(if sub then v.replayB else v.replayA).isEmpty then replayNext s ch sub
    else
      match nextAccess v sub aged with
      | none => s
      | some q =>
        let o := eccOutcome s ch (placeOf s ch q.line) errs
        let s := if q.rmw then rmwRead s ch sub q o else served s ch sub q o
        retryWaits s fun r => r.why == .dram

/-- A rank's devices refresh themselves, in a switch and in the hemmed state, or the channel does not run: no refresh is
issued (R237). -/
def noRefresh (s : State) (c : Nat) : Bool :=
  rb s (Reg.dchTsetCtrl c) 4 || !(dchOf s c).trained || chFenced s c || decide (4 ≤ s.gen.hem.st)

/-- REFRESH_DUE (R234, R235): with no deadline transfer issued, and the whole debt with it; else postponed, or forced at debt
4; where postponement is off it is issued and the debt stays. -/
def execRefreshDue (ch rank : Nat) (s : State) : Out :=
  .next <|
    if noRefresh s ch || decide (2 ≤ rank) then s
    else if deadlineBusy s ch rank then
      if !rb s (Reg.dchRefreshCtrl ch) 0 then refreshRaa s ch rank
      else if debt s ch rank < 4 then addSat (setDebt s ch rank (debt s ch rank + 1)) (Reg.dchRefreshStats ch) 0 16 1
      else refreshRaa (addSat s (Reg.dchRefreshStats ch) 16 16 1) ch rank
    else refreshRaa (setDebt s ch rank 0) ch rank

/-- REFRESH_DEBT_ISSUE (R235): with no deadline request left, the rank's whole debt is issued. -/
def execRefreshDebtIssue (ch rank : Nat) (s : State) : Out :=
  .next <| if noRefresh s ch || decide (2 ≤ rank) || deadlineBusy s ch rank then s
    else refreshRaa (setDebt s ch rank 0) ch rank

/-- DRFM_ISSUE (R249): the row that has waited longest is refreshed and its entry zeroed. -/
def execDrfmIssue (ch : Nat) (s : State) : Out :=
  .next <|
    let v := dchOf s ch
    match v.drfm with
    | [] => s
    | (b, row) :: rest =>
      let t := (Sparse.get (fun _ => []) v.track b).filter fun e => e.1 != row
      addSat (setDch s ch { v with drfm := rest, track := Sparse.set (fun _ => []) v.track b t }) (Reg.dchRdStats ch) 0 16 1

/-- RFM_ISSUE (R248): where the devices require refresh management, the bank with the highest rolling count, once that is at
the declared threshold, by which it falls (log entry 12). -/
def execRfmIssue (ch : Nat) (s : State) : Out :=
  .next <|
    let v := dchOf s ch
    match minBy (fun a b => decide (b.2 < a.2)) v.raa with
    | none => s
    | some (b, n) =>
      if v.rfm = 0 ∨ n < v.rfm then s
      else addSat (setDch s ch { v with raa := Sparse.set (fun _ => 0) v.raa b (n - v.rfm) }) (Reg.dchRdStats ch) 16 16 1

/-- A window's interval ends (R251, R252). -/
def endInterval (s : State) (w : Nat) : State :=
  let v := winOf s w
  let clear := v.disturb.isSome && decide (v.offend < thrClear s w)
  let s := setWin s w { v with
    lastOff := v.offend
    offend := 0
    disturb := if clear then none else v.disturb }
  if clear then updateRates s (winGroup s w) else s

/-- ROW_TRACKER_CLEAR (R249, R251): every 32 ms the trackers clear and the interval ends for every window. -/
def execRowTrackerClear (s : State) : Out :=
  .next <| settle <|
    let s := forEach (Sparse.keys s.dram.chs) s fun s c => setDch s c { dchOf s c with track := [] }
    forEach (Sparse.keys s.hl.wins) s endInterval

/-- The accesses of the retry buffers are to be replayed, oldest first (R239); an alert during a replay starts it again from
the same access (R240). Which commands lie inside the alert window is not stated: every entry is replayed (log entry 12). -/
def startReplay (s : State) (c : Nat) : State :=
  let v := dchOf s c
  setDch s c { v with replayA := v.retryA.reverse, replayB := v.retryB.reverse }

/-- DRAM_ALERT (R239, R240): the channel replays; a third alert in the window fences it instead. -/
def execDramAlert (ch : Nat) (parity crc : Bool) (s : State) : Out :=
  .next <| settle <|
    let n := if (dchOf s ch).alertOpen then rf s (Reg.dchReplayStatus ch) 16 2 + 1 else 1
    let s := setDch s ch { dchOf s ch with alertOpen := true }
    let s := wrF s (Reg.dchReplayStatus ch) 16 2 n
    let s := wrB (wrB s (Reg.dchReplayStatus ch) 24 parity) (Reg.dchReplayStatus ch) 25 crc
    if 3 ≤ n then report s (Pg.dch ch) 17 0
    else report (addSat (startReplay s ch) (Reg.dchReplayStatus ch) 0 16 1) (Pg.dch ch) 16 0

/-- ALERT_WINDOW_CLOSE (R240). -/
def execAlertWindowClose (ch : Nat) (s : State) : Out :=
  .next <| wrF (setDch s ch { dchOf s ch with alertOpen := false }) (Reg.dchReplayStatus ch) 16 2 0

/-- TSET_REQUEST (R241): a write of DCH_TSET_CTRL. -/
def execTsetRequest (ch : Nat) (val : Word) (s : State) : Out :=
  .next <| settle <| updateTset (setCfgField s (Pg.dch ch) (Reg.dchTsetCtrl ch) 1 1 (fld val 1 1)) ch

/-- TIMING_SET_SWITCH_DONE (R242, R243). -/
def execTimingSetSwitchDone (e : TsetEnd) (s : State) : Out := .next <| settle <| tsetDone s e.ch e.late

-- training

/-- DPH_FULL_SWEEP (R261): taken only while the channel is fenced or before the start-up layout. -/
def execDphFullSweep (ch : Nat) (s : State) : Out :=
  .next <| settle <| if chFenced s ch || s.dram.layout.isEmpty then startSweep s ch else accessErr s (Pg.dph ch)

/-- A sliced sweep starts (R247): margin_low, source k = 2. -/
def startSliced (s : State) (c : Nat) : State :=
  let v := dchOf s c
  if v.sliced || v.sweeping || !v.trained then s
  else
    let s := wrF (wrF (setDch s c { v with sliced := true }) (Reg.dphTrainStatus c) 0 3 2) (Reg.dphTrainStatus c) 16 8 0
    report s (Pg.dph c) 18 0

/-- DPH_SLICED_SWEEP (R247, R261). -/
def execDphSlicedSweep (ch : Nat) (s : State) : Out := .next <| settle <| startSliced s ch

/-- The least margins of R536: timing 12 in 1/64 UI, Vref 30 in 0.1 %. -/
def marginOk (m : Word) : Bool :=
  decide (12 ≤ fld m 0 8) && decide (12 ≤ fld m 8 8) && decide (30 ≤ fld m 16 8) && decide (30 ≤ fld m 24 8)

/-- The lane delays that a sweep finds have no stated values: each is a free value. -/
def freeLanes (s : State) (c : Nat) : State :=
  forEach (List.range 40) s fun s k => let r := freeVal s; wr r.2 (Reg.dphLane c k) r.1

/-- A channel that a sweep has trained starts at the set called for (R241, R245). -/
def startTrained (s : State) (c : Nat) : State :=
  let v := dchOf s c
  let s := setDch s c { v with trained := true }
  let t := wantSet1 s c
  wr (wrB s (Reg.dchTsetCtrl c) 0 t) (Reg.dphPll c) (wd (dckMhz s c t + 2 ^ 16))

/-- TRAINING_SWEEP_DONE (R245, R536, R222): margins and duration; a channel below a minimum is fenced. The layout is
fixed once the last channel's start-up sweep has ended. DCH_GEOM is fixed by then (R221). -/
def execTrainingSweepDone (ch : Nat) (a0 b0 a1 b1 : Word) (ms : Nat) (e : SweepEnd) (s : State) : Out :=
  .next <| settle <|
    let v := dchOf s ch
    if v.sweeping then
      let s := setDch s ch { v with sweeping := false, trained := false, geomLocked := true, rfm := e.rfm }
      let s := wr (wr (wr (wr s (Reg.dphMarginA0 ch) a0) (Reg.dphMarginB0 ch) b0) (Reg.dphMarginA1 ch) a1) (Reg.dphMarginB1 ch) b1
      let s := wr (wr s (Reg.dphSweepMs ch) (wd (min ms 2047))) (Reg.dphDrift ch) 0#32
      let s := freeLanes s ch
      let ok := decide (e.failStep = 0) && marginOk a0 && marginOk b0 && marginOk a1 && marginOk b1
      let s := wr s (Reg.dphTrainStatus ch) (wd ((if ok then 8 else 16) + e.failStep % 16 * 256))
      let s := if ok then startTrained s ch else report s (Pg.dph ch) 16 0
      let s := settle s
      if sweepsEnded s then noteReasons (fixLayout (fixLining s)) else s
    else s

/-- The write DQS delays of a subchannel's lanes are adjusted (R246): their new values are not stated, each is a free
value. -/
def adjustLanes (s : State) (c : Nat) (sub : Bool) : State :=
  forEach ((List.range 20).map fun k => if sub then 20 + k else k) s fun s k =>
    let r := freeVal s
    wr r.2 (Reg.dphLane c k) ((rd s (Reg.dphLane c k) &&& 0xFF00FF00#32) ||| (r.1 &&& 0x00FF00FF#32))

/-- RETRAIN_PAUSE (R246, R247): counted, delays adjusted; drift above the fallback share of the write margin starts a sliced
sweep. -/
def execRetrainPause (ch : Nat) (sub : Bool) (drift : Nat) (s : State) : Out :=
  .next <| settle <|
    if (dchOf s ch).trained then
      let s := adjustLanes (addWrap s (Reg.dchRetrainCount ch) 0 32 1) ch sub
      let s := raiseTo s (Reg.dphDrift ch) 0 8 drift
      let m := rf s (if sub then Reg.dphMarginB0 ch else Reg.dphMarginA0 ch) 8 8
      if rf s (Reg.dphFallback ch) 0 6 * m < 100 * drift then startSliced s ch else s
    else s

/-- SWEEP_SLICE (R247): deferred while swatches are ABSENT or a hem runs; the last slice ends the sweep, whose results for
set 0 replace the earlier ones. -/
def execSweepSlice (ch : Nat) (last : Bool) (m : Word × Word) (s : State) : Out :=
  .next <| settle <|
    let v := dchOf s ch
    if !v.sliced || hemBusy s || s.gen.map.any (fun e => e.2 == 8#4) || !s.gen.lineBits.isEmpty then s
    else
      let s := addSat s (Reg.dphTrainStatus ch) 16 8 1
      if last || decide (128 ≤ rf s (Reg.dphTrainStatus ch) 16 8) then
        let good := last && marginOk m.1 && marginOk m.2
        let s := wrF (setDch s ch { dchOf s ch with sliced := false }) (Reg.dphTrainStatus ch) 0 3 0
        let s := wrB (wrB s (Reg.dphTrainStatus ch) 3 good) (Reg.dphTrainStatus ch) 4 (!good)
        let s := freeLanes (wr (wr s (Reg.dphMarginA0 ch) m.1) (Reg.dphMarginB0 ch) m.2) ch
        if good then icu (wr s (Reg.dphDrift ch) 0#32) (50 + 4 * ch)
        else report s (Pg.dph ch) 16 0
      else s

/-- PLL_UNLOCK (R262). -/
def execPllUnlock (ch : Nat) (s : State) : Out :=
  .next <| settle <| report (wrB s (Reg.dphPll ch) 16 false) (Pg.dph ch) 17 0

-- patrol scrub

/-- A write to the line is queued on its subchannel (R233). -/
def writeQueued (s : State) (c a : Nat) : Bool :=
  let v := dchOf s c
  (v.qa ++ v.qb).any fun q => q.write && q.line == a / 64

/-- The scrub pointer moves on; at the end of the channel a pass has completed (R257, R258). -/
def scrubAdvance (s : State) (c : Nat) : State :=
  let v := dchOf s c
  let n := s.dram.chBytes / 64
  let i := v.scrubAt + 1
  if i < n then wrF (setDch s c { v with scrubAt := i }) (Reg.dchScrubStatus c) 0 8 (i * 100 / n)
  else icu (addSat (wrF (setDch s c { v with scrubAt := 0 }) (Reg.dchScrubStatus c) 0 8 0) (Reg.dchScrubStatus c) 16 16 1)
    (49 + 4 * c)

/-- The group that owns the map line which an address of the lining holds (R95, R103). -/
def mapOwner (s : State) (a : Nat) : Option Nat :=
  if s.dram.liningBase ≤ a ∧ a < s.dram.liningBase + s.dram.layout.length * s.dram.chBytes / 8192 then
    (swatchWin s (2 * (a - s.dram.liningBase))).map (winGroup s)
  else none

/-- An uncorrectable line that patrol scrub finds (R257, R233): rewritten as poisoned unless a write to it is queued, handled
under R256, a map line under R97. -/
def scrubBad (s : State) (c a : Nat) : State :=
  let s := if writeQueued s c a then s else writeLine s a (lineBytes s a) true
  let s := uncorrectable s c a
  match mapOwner s a with
  | some g => mapFault s g
  | none => s

/-- PATROL_SCRUB (R257, R233, R228): the next line of the channel is read, by an activation of no window. -/
def execPatrolScrub (ch : Nat) (errs : BurstErrs) (s : State) : Out :=
  .next <| settle <|
    if rb s (Reg.dchScrubCfg ch) 0 && dchServes s ch then
      let l := localOf s ch (64 * (dchOf s ch).scrubAt)
      match dramAddr s ch (64 * (dchOf s ch).scrubAt) with
      | none => s
      | some a =>
        let s := activate s ch l none
        let s := match eccOutcome s ch l errs with
          | .clean => s
          | .corrected dev => corrected s ch l dev
          | .uncorrectable => scrubBad s ch a
        scrubAdvance s ch
    else s

end Sys2Proof.Machine
end

