-- ==== Sys2Proof/Machine/Evr.lean ====
section
/-! DEFINITION. The commands of the event recorder (R439 to R455). -/

namespace Sys2Proof.Machine

open Bits

/-- EVENT_ADMISSION (R439): the oldest event that waits passes admission; during a mount it goes on waiting. -/
def execEventAdmission (s : State) : Out :=
  .next <| settle <|
    if evrOn s && (s.evr.mode == 1 || s.evr.mode == 2) then
      match s.evr.inbox with
      | [] => s
      | e :: rest => admitEvent { s with evr := { s.evr with inbox := rest } } e
    else s

/-- EVR_FLUSH_TIMER (R440): the page buffer that fills is programmed at its age limit. -/
def execEvrFlushTimer (s : State) : Out :=
  .next <| settle <| if evrOn s && s.evr.mode == 1 then evrPump (closeBuf s) else s

/-- EVR_PAGE_DURABLE (R440, R449): the page program that runs in bank 3 for the recorder ends. -/
def execEvrPageDurable (ok : Bool) (s : State) : Out :=
  .next <| settle <|
    match cflOp s 3 with
    | some o => if o.req == .evr && o.kind == 1 then pageDone s o.addr ok else s
    | none => evrPump s

/-- EVR_MOUNT (R441). -/
def execEvrMount (torn : Nat) (summaryOk : Bool) (s : State) : Out :=
  .next <| settle <| if evrOn s && s.evr.mode == 0 then mountLog s torn summaryOk else s

/-- A write of EVR_CMD (R453): the commands its bits call for, in bit order. -/
def evrCmdWrite (s : State) (val : Word) (aOk bOk : Bool) : State :=
  if evrOn s then
    let s := if bit val 0 then evrFreeze s 0 else s
    let s := if bit val 1 then evrUnfreeze s else s
    let s := if bit val 2 then evrFlush s else s
    let s := if bit val 3 && fld val 16 16 == 0x434C && !s.evr.clearing then startClear s none else s
    if bit val 4 then writeSummary s aOk bOk else s
  else s

/-- EVR_FREEZE (R443). -/
def execEvrFreeze (val : Word) (s : State) : Out := .next (settle (evrCmdWrite s val true true))

/-- EVR_UNFREEZE (R443). -/
def execEvrUnfreeze (val : Word) (s : State) : Out := .next (settle (evrCmdWrite s val true true))

/-- EVR_FLUSH (R440). -/
def execEvrFlush (val : Word) (s : State) : Out := .next (settle (evrCmdWrite s val true true))

/-- EVR_CLEAR (R448, R453). -/
def execEvrClear (val : Word) (s : State) : Out := .next (settle (evrCmdWrite s val true true))

/-- EVR_SUMMARY_CMD (R444). -/
def execEvrSummaryCmd (val : Word) (aOk bOk : Bool) (s : State) : Out :=
  .next (settle (evrCmdWrite s val aOk bOk))

/-- SUMMARY_INTERVAL (R444). -/
def execSummaryInterval (aOk bOk : Bool) (s : State) : Out := .next (settle (writeSummary s aOk bOk))

/-- CLEAR_LOG_DONE (R448). -/
def execClearLogDone (s : State) : Out := .next (settle (endClear s))

/-- EVR_FW_GO (R453): firmware submits the record it has written. -/
def execEvrFwGo (val : Word) (s : State) : Out :=
  .next <| settle <|
    if bit val 0 then
      let code := rf s Reg.evrFwHdr 0 16
      if rb s Reg.evrFwStatus 0 || !isFwCode code then accessErr s Pg.evr
      else if evrOn s then
        let data := (List.range 57).flatMap fun k => leBytes 4 (rd s (Reg.evrFwData k)).toNat
        event (wrB s Reg.evrFwStatus 0 true) code (rf s Reg.evrFwHdr 16 2) (data.take (rf s Reg.evrFwHdr 24 8))
      else s
    else s

-- mailbox commands (R451, R452)

/-- Result codes of R451. -/
def evDONE : Nat := 0
def evREFUSED : Nat := 1
def evDISABLED : Nat := 2
def evRANGE : Nat := 3
def evNONE : Nat := 4

/-- Get Log Info (R451). -/
def mbGetLogInfo (ld : Nat) (inp : List Byte) (s : State) : State :=
  if inp.length ≠ 0 then replyBad s ld
  else
    let u := s.evr.live
    replyOk s ld (leBytes 1 evDONE ++ leBytes 1 s.evr.mode ++ leBytes 2 (s.evr.frozen.toNat + 2 * s.evr.policy) ++
      leBytes 4 (newestSeq s) ++ leBytes 4 (oldestSeq s) ++ leBytes 4 (rd s Reg.evrDropped).toNat ++
      leBytes 2 (retiredSectors s).length ++ leBytes 2 s.evr.ready.length ++ leBytes 4 (rf s Reg.evrWrap 0 16) ++
      leBytes 4 u.seq ++ leBytes 4 u.secs)

/-- GET_LOG_INFO (R451). -/
def execGetLogInfo (ld : Nat) (inp : List Byte) (s : State) : Out := .next (mbGetLogInfo ld inp s)

/-- Records that fit into `room` bytes, in order. -/
def takeFit : Nat → List Rec → List Rec
  | _, [] => []
  | room, r :: l => if recLen r ≤ room then r :: takeFit (room - recLen r) l else []

/-- Whether a record was lost between neighbours: a gap in the numbers that no mount explains (R441, R452). -/
def lostBetween : List Rec → Bool
  | a :: b :: l => (decide (b.seq ≠ (a.seq + 1) % 2 ^ 32) && b.code != 0x03F0) || lostBetween (b :: l)
  | _ => false

/-- Read Log (R452): sequence numbers are compared modulo 2^32 from the oldest retained one. -/
def mbReadLog (ld : Nat) (inp : List Byte) (s : State) : State :=
  if inp.length ≠ 8 then replyBad s ld
  else
    let old := oldestSeq s
    let dist : Nat → Nat := fun q => (q + 2 ^ 32 - old) % 2 ^ 32
    let start := pay inp 0 4
    let older := decide (2 ^ 31 ≤ dist start)
    let start' := if older then old else start
    let all := ((retained s).mergeSort fun a b => decide (dist a.seq ≤ dist b.seq)).filter fun r =>
      decide (dist start' ≤ dist r.seq)
    let want := all.filter fun r => decide (byteAt inp 4 ≤ r.sev)
    let got := takeFit 2040 want
    let more := decide (got.length < want.length)
    let next : Nat := if more then ((want.getD got.length { code := 0, seq := 0, sev := 0, secs := 0, ticks := 0, cycles := 0, payload := [] }).seq)
      else (newestSeq s + 1) % 2 ^ 32
    let seen := all.filter fun r => decide (dist r.seq < dist next) || !more
    let missing := match seen with
      | [] => false
      | r :: _ => (decide (r.seq ≠ start') && r.code != 0x03F0) || lostBetween seen
    replyOk s ld (leBytes 1 evDONE ++ leBytes 1 ((older || missing).toNat + 2 * more.toNat) ++ leBytes 2 got.length ++
      leBytes 4 next ++ got.flatMap recBytes)

/-- READ_LOG (R452). -/
def execReadLog (ld : Nat) (inp : List Byte) (s : State) : Out := .next (mbReadLog ld inp s)

/-- Get Summary (R451). -/
def mbGetSummary (ld : Nat) (inp : List Byte) (s : State) : State :=
  if inp.length ≠ 4 ∨ 3 < byteAt inp 0 ∨ 1 < byteAt inp 1 then replyBad s ld
  else
    let part := byteAt inp 0
    let u := if byteAt inp 1 = 0 then some (liveNow s) else if s.evr.mode = 2 then none else newestCopy s
    match u with
    | some u =>
      replyOk s ld (leBytes 1 evDONE ++ leBytes 3 part ++ ((summaryBytes u).drop (1024 * part)).take 1024)
    | none => replyOk s ld (leBytes 1 evNONE ++ leBytes 3 part ++ zeros 1024)

/-- GET_SUMMARY (R451). -/
def execGetSummary (ld : Nat) (inp : List Byte) (s : State) : Out := .next (mbGetSummary ld inp s)

/-- Freeze Log (R443). -/
def mbFreezeLog (ld : Nat) (inp : List Byte) (s : State) : State :=
  if inp.length ≠ 0 then replyBad s ld
  else if evrOn s then replyCode (evrFreeze s 0) ld evDONE else replyCode s ld evREFUSED

/-- FREEZE_LOG (R443). -/
def execFreezeLog (ld : Nat) (inp : List Byte) (s : State) : Out := .next (settle (mbFreezeLog ld inp s))

/-- Unfreeze Log (R443). -/
def mbUnfreezeLog (ld : Nat) (inp : List Byte) (s : State) : State :=
  if inp.length ≠ 0 then replyBad s ld
  else if !isAdmin s ld then replyCode s ld evDISABLED
  else if evrOn s then replyCode (evrUnfreeze s) ld evDONE else replyCode s ld evREFUSED

/-- UNFREEZE_LOG (R443). -/
def execUnfreezeLog (ld : Nat) (inp : List Byte) (s : State) : Out := .next (settle (mbUnfreezeLog ld inp s))

/-- Clear Log (R448, R451), in the background. -/
def mbClearLog (ld : Nat) (inp : List Byte) (s : State) : State :=
  if inp.length ≠ 4 then replyBad s ld
  else if !isAdmin s ld then replyCode s ld evDISABLED
  else if hemActive s || pay inp 0 4 != 0x474F4C43 || !evrOn s || s.evr.clearing then replyCode s ld evREFUSED
  else startBg s ld 0xC045 fun s => startClear s (some ld)

/-- CLEAR_LOG (R448). -/
def execClearLog (ld : Nat) (inp : List Byte) (s : State) : Out := .next (settle (mbClearLog ld inp s))

/-- Set Log Policy (R451): what takes force at the next Clear Log. -/
def mbSetLogPolicy (ld : Nat) (inp : List Byte) (s : State) : State :=
  if inp.length ≠ 4 then replyBad s ld
  else if !isAdmin s ld then replyCode s ld evDISABLED
  else
    let pol := byteAt inp 0
    let p := pay inp 2 2
    if 1 < pol ∨ 2048 < p ∨ p % 16 ≠ 0 then replyCode s ld evRANGE
    else replyCode (wrF (wrF s Reg.evrCfg 0 1 pol) Reg.evrCfg 20 8 (p / 16)) ld evDONE

/-- SET_LOG_POLICY (R451). -/
def execSetLogPolicy (ld : Nat) (inp : List Byte) (s : State) : Out := .next (mbSetLogPolicy ld inp s)

end Sys2Proof.Machine
end

