-- ==== Sys2Proof/Machine/Faults.lean ====
section
/-! DEFINITION. Error reports, fences, the state dump (chapter 16): the meanings. -/

namespace Sys2Proof.Machine

open Bits

-- reports

/-- A buffer of the pool is lost, to its bank's fence or as uncorrectable: what its holder does (R312). The holder is a
client and the number of its item. A write not yet in DRAM becomes a poisoned line, read data goes back with poison, a
staged swatch is as one whose read was uncorrectable (R256). The others read or copy again, or go to the mirror copy:
nothing is seen of it. -/
def bufferLost (s : State) (client item : Nat) : State :=
  let held := s.hl.waits.filter fun r => r.ld / 16 == client
  let queued := s.dram.chs.flatMap fun e => (e.2.qa ++ e.2.qb).filter fun q => dqClient q == client
  let inQueues := fun (s : State) (x : DQ) => { s with dram := { s.dram with chs := s.dram.chs.map fun e =>
    let go := fun q : DQ => if q == x then { q with poison := true } else q
    (e.1, { e.2 with qa := e.2.qa.map go, qb := e.2.qb.map go }) } }
  if client < 5 ∧ item < held.length ∧ client ≠ 4 then
    match held[item]? with
    | some r => { s with hl := { s.hl with waits := s.hl.waits.map fun q => if q == r then { q with poison := true } else q } }
    | none => s
  else if client < 5 then
    match queued[item - (if client = 4 then 0 else held.length)]? with
    | some x => inQueues (if x.write then writeLine s (64 * x.line) x.data true else s) x
    | none => s
  else if client = 6 ∨ (client = 7 ∧ hemBusy s = false) then
    match (s.gen.progs.filter fun p => p.use != 1)[item]? with
    | some p => { s with gen := { s.gen with progs := s.gen.progs.map fun q => if q.id == p.id then { q with bad := true } else q } }
    | none => s
  else s

/-- An uncorrectable buffer of a pool bank (R304, R312): the buffer's number within the bank is open; the seventeenth
within 1 s fences the bank. -/
def bufferUe (s : State) (bank : Nat) : State :=
  let r := freeVal s
  let s := wr r.2 Reg.poolUeLast (wd (16384 * bank + r.1.toNat % 16384 + 2 ^ 31))
  let l := (s.pool.ue.filter fun e => decide (now s < e.2 + 32768)) ++ [(bank, now s)]
  let s := { s with pool := { s.pool with ue := l } }
  if 17 ≤ (l.filter fun e => e.1 == bank).length then report s Pg.pool 17 bank else s

/-- What follows a detected error in the block that met it: its counts and what the error took with it. -/
def detected (s : State) (page bit_ unit : Nat) : State :=
  if page = Pg.sys ∧ bit_ = 0 then
    let s := addSat s Reg.sysSramEcc 0 16 1
    if rf s Reg.sysSramEcc 0 16 % 256 = 0 then icu s 3 else s
  else if page = Pg.cfl ∧ bit_ = 0 then addSat s Reg.cflEcc 0 16 1
  else if page = Pg.pool ∧ bit_ = 16 then bufferLost (bufferUe s (unit % 16)) (unit / 16 % 16) (unit / 256)
  else if page = Pg.pool ∧ bit_ = 17 then bufferLost s (unit / 16 % 16) (unit / 256)
  else if page = Pg.pool ∧ bit_ = 4 then report s Pg.pool 17 (unit % 16)
  else if page = Pg.genm ∧ bit_ = 16 ∧ grpEnabled s unit = true then setGrp s unit { grp s unit with mapBad := true }
  else if page = Pg.win ∧ bit_ = 17 ∧ unit < 4352 then
    if s.hl.parity.contains unit then s
    else
      let s := { s with hl := { s.hl with parity := s.hl.parity ++ [unit] } }
      noteReasons (if unit < 4096 then refreshGroup s (fld (winWord s unit 0) 24 8) else s)
  else s

/-- A block detects an error (R503 to R506, R541). Of GENM, the unit names the group that owns the map line (R97); of WIN,
the window whose entry has the fault (R218). What SRAM and code flash correct is counted (R405, R407). Of POOL, the unit
names the bank, 16 times the client that held the buffer and 256 times the number of its item. A stall fences its pool bank
(R312). -/
def detect (s : State) (page bit_ unit : Nat) : State :=
  if !isPage page || classOf page bit_ == 0 || !coreUp s then s
  else detected (report s page bit_ (unit % unitsOf page)) page bit_ unit

/-- ERROR_REPORT (R503). -/
def execErrorReport (page bit_ unit : Nat) (s : State) : Out := .next <| settle <| detect s page bit_ unit

/-- HANDLING_TIMEOUT (R504): FLT_CFG.handle_ms has elapsed. -/
def execHandlingTimeout (page unit : Nat) (s : State) : Out :=
  .next <| settle <|
    { s with flt := { s.flt with
      handling := s.flt.handling.filter fun h => unitKey h.1 h.2.1 != unitKey page (unit % unitsOf page) } }

-- fences by command (R507)

/-- A lifted fence takes effect: the unit is soft-reset (R31), a flash channel is to be mounted again (R266). -/
def liftUnit (s : State) (k : Nat × Nat) : State :=
  let s := { s with flt := { s.flt with fences := s.flt.fences.filter fun f => (f.page, f.unit) != k } }
  let s := icu s 468
  let s :=
    if k.1 = Pg.pool then updateScale s
    else if k.1 = Pg.gen then s
    else
      let s := softReset s k.1 (rd s (ctrlA k.1))
      if 0x40 ≤ k.1 ∧ k.1 < 0x60 then { s with fst := { s.fst with remount := (k.1 - 0x40) :: s.fst.remount } } else s
  recomputeLevel s

/-- A write of FLT_FENCE_CMD (R507, R519). -/
def fenceCmd (s : State) (val : Word) : State :=
  if fld val 24 8 ≠ 0x46 then s
  else
    let p := fld val 0 7
    let u := fld val 8 4
    if !fenceable p || decide (unitsOf p ≤ u) then accessErr s Pg.flt
    else if bit val 16 then fenceUnit s p u false
    else
      let k := unitKey p u
      match s.flt.fences.find? fun f => (f.page, f.unit) == k with
      | none => s
      | some f =>
        if f.hw then accessErr s Pg.flt
        else if 0x20 ≤ k.1 ∧ k.1 < 0x40 then icu s 468
        else liftUnit s k

/-- FLT_FENCE (R507). -/
def execFltFence (val : Word) (s : State) : Out := .next <| settle <| if bit val 16 then fenceCmd s val else s

/-- FLT_LIFT (R507): a DRAM channel's lift waits for the next power-up. -/
def execFltLift (val : Word) (s : State) : Out := .next <| settle <| if bit val 16 then s else fenceCmd s val

-- the dump (R508, R510 to R515)

/-- DUMP_WINDOW_EXPIRY (R508). -/
def execDumpWindowExpiry (s : State) : Out := .next <| settle <| closeWindow s

/-- Whether a dump can be taken on command (R514, R517). -/
def canDump (s : State) : Bool :=
  !hemBusy s && !s.flt.stopping && decide (dumpState s = 0) && s.flt.dump.isNone && fwAvailable s

/-- A dump on command: the snapshot is latched (R508). -/
def dumpOnCommand (s : State) : State :=
  let s := takeSnap s
  { s with flt := { s.flt with dump := some 2 } }

/-- A refused dump; one that found a dump present or torn is counted (R514). -/
def dumpRefused (s : State) : State := if dumpState s = 1 ∨ dumpState s = 2 then skipDump s else s

/-- FLT_DUMP_CMD.take: in the window the dump of the safe stop, else one on command. -/
def dumpTake (s : State) : State :=
  if s.flt.state = 3 then
    if s.flt.dump.isNone && decide (dumpState s = 0) then { s with flt := { s.flt with dump := some 1 } } else s
  else if canDump s then dumpOnCommand s
  else dumpRefused s

/-- FLT_DUMP_CMD.done (source 470). -/
def dumpDone (s : State) : State :=
  match s.flt.dump with
  | none => s
  | some _ =>
    let s := icu { s with flt := { s.flt with dump := none } } 470
    if s.flt.state = 3 then finishStop (setFlt s (if s.gen.hem.active then 1 else 2)) else s

/-- The slot is being erased (R514). -/
def dumpClear (s : State) : State :=
  if s.flt.erasing || s.flt.dump.isSome then s else { s with flt := { s.flt with erasing := true } }

/-- A write of FLT_DUMP_CMD (R519). -/
def dumpCmd (s : State) (val : Word) : State :=
  let s := if bit val 0 then dumpTake s else s
  let s := if bit val 1 then dumpDone s else s
  if bit val 2 && fld val 16 16 == 0x4443 then dumpClear s else s

/-- FLT_DUMP_TAKE (R519). -/
def execFltDumpTake (val : Word) (s : State) : Out := .next <| settle <| if bit val 0 then dumpCmd s val else s

/-- FLT_DUMP_DONE (R519). -/
def execFltDumpDone (val : Word) (s : State) : Out := .next <| settle <| if bit val 1 then dumpCmd s val else s

/-- FLT_DUMP_CLEAR (R519). -/
def execFltDumpClear (val : Word) (s : State) : Out := .next <| settle <| if bit val 2 then dumpCmd s val else s

/-- FLT_STICKY_CLR (R519). -/
def execFltStickyClr (val : Word) (s : State) : Out :=
  .next <| settle <| if fld val 16 16 = 0x5343 then wr s Reg.fltSticky 0#32 else s

/-- CLEAR_DUMP_DONE (R517, source 474): the slot is empty, and the background command ends. -/
def execClearDumpDone (s : State) : Out :=
  .next <| settle <|
    if s.flt.erasing then
      let s := cflErase { s with flt := { s.flt with erasing := false } } dumpBase dumpSize
      let s := icu s 474
      let ld := (s.hl.lds.find? fun e => e.2.bg == some 0xC063).map Prod.fst
      endBg s ld rcSuccess (leBytes 4 0)
    else s

-- mailbox (R517, R518)

def frDONE : Nat := 0
def frREFUSED : Nat := 1
def frDISABLED : Nat := 2
def frRANGE : Nat := 3
def frNONE : Nat := 4
def frTORN : Nat := 5

/-- The input word of Clear Dump and Clear Sticky. -/
def clearMagic : Nat := 0x4C434455

/-- The output of Get Fault Status (R518). -/
def faultStatus (s : State) : List Byte :=
  let w := rd s Reg.fltSticky
  let has := fun p u => isFenced s p u
  leBytes 1 frDONE ++ leBytes 1 s.flt.state ++ leBytes 1 s.psq.level ++
    leBytes 1 (fld w 0 4 + 16 * dumpState s) ++ leBytes 1 (fld w 16 7) ++ leBytes 1 (fld w 24 5) ++
    leBytes 1 (fld w 8 8) ++ zeros 1 ++ leBytes 4 (rf s Reg.fltClassCount 0 16) ++ leBytes 4 (rd s Reg.fltCorrCount).toNat ++
    leBytes 2 (maskOf 16 (chFenced s)) ++ leBytes 2 (maskOf 16 (bankFenced s)) ++ leBytes 4 (maskOf 32 (fchFenced s)) ++
    leBytes 1 (maskOf 8 (has Pg.gen)) ++ leBytes 1 (maskOf 2 (linkFenced s)) ++ leBytes 2 s.flt.skipped ++ zeros 20

/-- Get Fault Status (R517). -/
def mbGetFaultStatus (ld : Nat) (inp : List Byte) (s : State) : State :=
  if inp.length ≠ 0 then replyBad s ld else replyOk s ld (faultStatus s)

/-- GET_FAULT_STATUS (R518). -/
def execGetFaultStatus (ld : Nat) (inp : List Byte) (s : State) : Out := .next <| settle <| mbGetFaultStatus ld inp s

/-- Take Dump (R517). -/
def mbTakeDump (ld : Nat) (inp : List Byte) (s : State) : State :=
  if inp.length ≠ 0 then replyBad s ld
  else if !isAdmin s ld then replyCode s ld frDISABLED
  else if canDump s then replyCode (dumpOnCommand s) ld frDONE
  else replyCode (dumpRefused s) ld frREFUSED

/-- TAKE_DUMP (R517). -/
def execTakeDump (ld : Nat) (inp : List Byte) (s : State) : Out := .next <| settle <| mbTakeDump ld inp s

/-- Read Dump (R517). -/
def mbReadDump (ld : Nat) (inp : List Byte) (s : State) : State :=
  let off := pay inp 0 4
  let len := pay inp 4 2
  let st := dumpState s
  let head := fun r => leBytes 1 r ++ leBytes 1 st ++ zeros 6
  if inp.length ≠ 8 ∨ off % 4 ≠ 0 ∨ len < 4 ∨ 2040 < len then replyBad s ld
  else if dumpSize < off + len then replyOk s ld (head frRANGE)
  else if st = 1 then replyOk s ld (head frDONE ++ cflBytes s (dumpBase + off) len)
  else if st = 2 then replyOk s ld (head frTORN ++ cflBytes s (dumpBase + off) len)
  else replyOk s ld (head frNONE)

/-- READ_DUMP (R517). -/
def execReadDump (ld : Nat) (inp : List Byte) (s : State) : Out := .next <| settle <| mbReadDump ld inp s

/-- Clear Dump (R517). -/
def mbClearDump (ld : Nat) (inp : List Byte) (s : State) : State :=
  if inp.length ≠ 4 ∨ pay inp 0 4 ≠ clearMagic then replyBad s ld
  else if !isAdmin s ld then replyCode s ld frDISABLED
  else if s.flt.erasing || s.flt.dump.isSome then replyCode s ld frREFUSED
  else startBg s ld 0xC063 dumpClear

/-- CLEAR_DUMP (R517). -/
def execClearDump (ld : Nat) (inp : List Byte) (s : State) : Out := .next <| settle <| mbClearDump ld inp s

/-- Clear Sticky (R517). -/
def mbClearSticky (ld : Nat) (inp : List Byte) (s : State) : State :=
  if inp.length ≠ 4 ∨ pay inp 0 4 ≠ clearMagic then replyBad s ld
  else if !isAdmin s ld then replyCode s ld frDISABLED
  else replyCode (wr s Reg.fltSticky 0#32) ld frDONE

/-- CLEAR_STICKY (R517). -/
def execClearSticky (ld : Nat) (inp : List Byte) (s : State) : Out := .next <| settle <| mbClearSticky ld inp s

end Sys2Proof.Machine
end

