-- ==== Sys2Proof/Machine/Fst.lean ====
section
/-! DEFINITION. Flash store (chapter 7): mount, erase, read and reset of targets, intent pages, recount, relocation. -/

namespace Sys2Proof.Machine

open Bits

-- mount (R264 to R268, R283, R286, R287)

/-- A target of geometry `g` that fails R268: another geometry than target 0 of channel 0, or no suspension as R268 asks. -/
def geomMismatch (s : State) (g : FlashGeom) (c : TargetCheck) : Bool := c == .geometry || (c == .good && g != fgeom s)

/-- FCH_MOUNT_WHY of a target (R301). -/
def whyOf (s : State) (g : FlashGeom) (c : TargetCheck) : Nat :=
  if c == .pageCrc then 1 else if geomMismatch s g c || !geomOk g then 2 else 0

/-- Intent log placement (R283). -/
def placement (g : FlashGeom) (mounted : Nat) : Nat := if 2 ≤ mounted then 0 else if 2 ≤ g.luns then 1 else 2

/-- Band numbers with a block that is in no free pool. -/
def usedBands (s : State) : List Nat :=
  ((s.fst.blocks.filter fun e => e.2.cls != .erased && e.2.cls != .retired).map fun e => blkBand e.1).eraseDups

/-- The stream of a band's blocks. -/
def bandStream (s : State) (band : Nat) : Nat :=
  ((s.fst.blocks.find? fun e => blkBand e.1 == band && e.2.cls != .retired).map fun e => e.2.stream).getD 0

/-- Payload of a band in the mode of its stream (R276). -/
def bandCw (s : State) (band : Nat) : Nat :=
  let k := bandStream s band
  bandPayload s band (k == 1 || k == 3)

/-- The free pools of both regions after a mount (R277, R278). -/
def countFree (s : State) : State :=
  let sum := fun (hem : Bool) => (((usedBands s).filter fun b => (bandStream s b == 3) == hem).map (bandCw s)).sum
  { s with fst := { s.fst with free := storeCw s - sum false, hemFree := hemDataCw s - sum true } }

/-- The geometry of target 0 of channel 0 fixes the store's figures (R299, R321), and a new hem region size takes effect
while the region holds no unfolded data (R277). -/
def setGeom (s : State) (geom : FlashGeom) : State :=
  match s.fst.geom with
  | some _ => s
  | none =>
    let s := { s with fst := { s.fst with geom := some geom } }
    let s := wr (wr s Reg.fstCap (fstCapWord geom)) Reg.fstCapacity (wd geom.capacityGib)
    let s := wr s Reg.poolTouchBound
      (wd (min 65535 ((550 * geom.tReadUs + 5003) / 100) + 65536 * min 65535 ((200 * geom.tReadUs + 355) / 100)))
    if unfolded s = 0 ∧ s.gen.reliefPages = 0 then
      { s with fst := { s.fst with hemSize := rf s Reg.fstHemSize 0 15 } }
    else s

/-- Undefined blocks of a channel in bands that hold nothing referenced are erased again (R287). -/
def eraseLost (s : State) (ch : Nat) : State :=
  forEach ((s.fst.blocks.filter fun e => blkCh e.1 == ch && e.2.cls == .undefined && !bandUsed s (blkBand e.1)).map Prod.fst) s
    eraseBlk

/-- The mount of a channel (R266): the strobes are calibrated (their taps are free values), targets checked, the intent log
read, units classed. -/
def mount (s : State) (ch : Nat) (geom : FlashGeom) (checks : List TargetCheck) (intentOk : Bool) : State :=
  let s := setGeom s geom
  let g := fgeom s
  let ts := List.range g.targets
  let whys := ts.map fun t => whyOf s geom (checks.getD t .good)
  let out := maskOf 16 fun t => decide (whys.getD t 0 ≠ 0)
  let left := (whys.filter (· == 0)).length
  let s := wr s (Reg.fchMountWhy ch) (wd ((ts.map fun t => whys.getD t 0 * 4 ^ t).sum))
  let s := wr s (Reg.fchMount ch) (wd (2 * placement g left + 65536 * out))
  let s := { s with fst := { s.fst with remount := s.fst.remount.filter (· != ch) } }
  let s := if out = 0 then s else icu s (114 + 4 * ch)
  let s := forEach (ts.filter fun t => geomMismatch s geom (checks.getD t .good)) s fun s _ => report s Pg.fst 18 0
  let s := forEach ((s.fst.luns.filter fun e => e.1 / 128 == ch && e.2.op != 0).map Prod.fst) s fun s k =>
    setLun s k { out := (lunOf s k).out, retired := (lunOf s k).retired }
  if 2 * left < g.targets then report s (Pg.fch ch) 20 0
  else
    let s := if intentOk then s else report s Pg.fst 19 0
    let s := classAll s ch intentOk
    let s := wrB s (Reg.fchMount ch) 0 true
    let s := setFch s ch { fchOf s ch with recal := false, calFails := 0, rate := rf s Reg.fstRate 0 6 }
    let r := freeVal s
    let s := wrF (wrF r.2 (Reg.fchCal ch) 0 12 (fld r.1 0 12)) (Reg.fchCal ch) 16 12 (fld r.1 16 12)
    eraseLost (updateWear (updatePe (countFree s) ch)) ch

/-- FLASH_MOUNT (R266, R20, R507): a fenced channel is not mounted; a mounted one only after its fence was lifted. -/
def execFlashMount (ch : Nat) (geom : FlashGeom) (checks : List TargetCheck) (intentOk : Bool) (s : State) : Out :=
  .next <| settle <|
    if coreUp s && decide (ch < 32) && enabled s (Pg.fch ch) && enabled s Pg.fst && !fchFenced s ch && railPresent s (18 + ch / 8) &&
        (!rb s (Reg.fchMount ch) 0 || s.fst.remount.contains ch) then
      recomputeLevel (mount s ch geom checks intentOk)
    else s

-- erases (R288, R290)

/-- Every member of the band is erased: it joins the free pool of its region (R277, R278, R168). -/
def bandFreed (s : State) (band : Nat) : State :=
  if !bandErased s band then s
  else
    let was := hemSpaceOk s
    let s :=
      if bandStream s band = 3 then
        { s with fst := { s.fst with hemFree := min (hemDataCw s) (s.fst.hemFree + bandCw s band) } }
      else freeLevels { s with fst := { s.fst with free := min (storeCw s) (s.fst.free + bandCw s band) } }
    let s := if !was && hemSpaceOk s then storeEvent s 3 else s
    let s := setBand s band {}
    spaceFreed s

/-- FLASH_ERASE_COMPLETE (R290). -/
def execFlashEraseComplete (blk : Nat) (ok : Bool) (s : State) : Out :=
  .next <| settle <|
    let k := lunOfBlk blk
    let v := lunOf s k
    if v.op = 2 ∧ v.blk = blk then
      let c := blkCh blk
      let s := addWrap (setLun s k { v with op := 0, blk := 0, suspensions := 0 }) (Reg.fchOps c) 0 32 1
      let s :=
        if ok then
          let b := blkOf s blk
          let s := setBlk s blk { b with cls := .erased, frontier := 0, done := 0, top := 0, reads := 0, cycles := b.cycles + 1 }
          let native := !(b.stream == 1 || b.stream == 3)
          let s := if native then { s with fst := { s.fst with cycles := s.fst.cycles + 1 } } else s
          updateWear (updatePe (intentNow s c { type := 2, blk := blk }) c)
        else retireBlk (report s (Pg.fch c) 17 0) blk
      runErases (bandFreed s (blkBand blk))
    else s

/-- On-touch fetches that wait for a LUN. -/
def fetchesAt (s : State) (k : Nat) : Bool :=
  s.gen.restore.fetches.any fun f => f.onTouch && (locEntry s f.swatch) / 2 ^ 62 % 4 == 1 &&
    lunOfBlk (locBlk (locEntry s f.swatch)) == k

/-- ERASE_RESUME (R280, R142): no operation of orders 1 to 3 waits for the LUN; one suspended for a hem never resumes. -/
def execEraseResume (ch target lun : Nat) (s : State) : Out :=
  .next <|
    let k := lunKey ch target lun
    let v := lunOf s k
    if v.op = 3 ∧ v.forHem = false ∧ fetchesAt s k = false then
      setLun s k { v with op := 2, inside := false, resumedAt := now s }
    else s

-- reads

/-- FLASH_READ_COMPLETE (R275): a codeword of a page that cannot be recovered is handled under R122. -/
def execFlashReadComplete (loc : Nat) (res : LadderResult) (s : State) : Out :=
  .next <| settle <|
    if fchReady s (locCh loc) then
      let s := ladder s loc res
      if res = .uncorrectable then
        match (s.gen.cw.find? fun e => e.1 == loc).map Prod.snd with
        | some c => verifyFail s c.g c.gen c.idx
        | none => s
      else s
    else s

-- stuck targets (R290)

/-- The operations of a target end with its reset; a block under erase is undefined. -/
def resetTarget (s : State) (ch t : Nat) : State :=
  forEach ((s.fst.luns.filter fun e => e.1 / 8 == ch * 16 + t && e.2.op != 0).map Prod.fst) s fun s k =>
    let v := lunOf s k
    let s := if (blkOf s v.blk).cls = .erasing then setBlk s v.blk { blkOf s v.blk with cls := .undefined } else s
    setLun s k { v with op := 0, blk := 0, suspensions := 0, inside := false, forHem := false }

/-- A target leaves until the next power-up: its open blocks close and the bands it held referenced data in are to be
relocated (R274, R290). -/
def unmountTarget (s : State) (ch t : Nat) : State :=
  let s := report s (Pg.fch ch) 19 0
  let s := wrB (wrF s (Reg.fchMountWhy ch) (2 * t) 2 3) (Reg.fchMount ch) (16 + t) true
  let mine := (s.fst.blocks.filter fun e => blkCh e.1 == ch && blkTarget e.1 == t).map Prod.fst
  let s := forEach mine s fun s b =>
    let s := closeBlk s b
    if bandUsed s (blkBand b) then addCand s 1 (blkBand b) else s
  let left := ((List.range (fgeom s).targets).filter fun t => !rb s (Reg.fchMount ch) (16 + t)).length
  if 2 * left < (fgeom s).targets then report s (Pg.fch ch) 20 0 else s

/-- STUCK_TARGET_TIMEOUT (R290): reset once; the second time unmounted. -/
def execStuckTargetTimeout (ch target : Nat) (s : State) : Out :=
  .next <| settle <|
    if fchServes s ch && decide (target < (fgeom s).targets) && !rb s (Reg.fchMount ch) (16 + target) then
      let s := resetTarget s ch target
      let v := fchOf s ch
      if v.stuckOnce.contains target then unmountTarget s ch target
      else eraseLost (setFch s ch { v with stuckOnce := v.stuckOnce ++ [target] }) ch
    else s

-- intent pages and recount

/-- INTENT_PAGE_DURABLE (R285, R288). -/
def execIntentPageDurable (ch : Nat) (s : State) : Out := .next <| if fchServes s ch then intentFlush s ch else s

/-- VALID_COUNT_RECOUNT (R288): the recount ends; a stale block whose band is referenced stays in use, another is erased. -/
def execValidCountRecount (s : State) : Out :=
  .next <| settle <|
    if restored s && !recounted s then
      let s := storeEvent (wr s Reg.fstRecount (wd (100 * 256))) 2
      forEach ((s.fst.blocks.filter fun e => e.2.cls == .stale || e.2.cls == .undefined || e.2.cls == .closed).map Prod.fst) s fun s b =>
        if bandUsed s (blkBand b) then
          if (blkOf s b).cls = .stale then setBlk s b { blkOf s b with cls := .closed } else s
        else eraseBlk s b
    else s

-- relocation (R292 to R294)

/-- Score of a compaction candidate (R292). -/
def score (s : State) (band : Nat) : Nat :=
  let inBand := fun l => blkBand (locBlk l) == band
  let gens := s.gen.groups.flatMap fun e => e.2.gens.filter fun r => r.delta.any fun d => inBand d.loc
  ((referenced s).filter inBand).length + 16 * (gens.map (·.parts)).sum

/-- Bands with a closed block, outside the hem region: they may be compacted. -/
def closedBands (s : State) : List Nat :=
  ((s.fst.blocks.filter fun e => e.2.cls == .closed && e.2.stream != 3).map fun e => blkBand e.1).eraseDups

/-- The store takes a band: queued candidates first, then data age, then compaction (R292); the reason as in
FST_RELOC_STATUS. -/
def candidate (s : State) : Option (Nat × Nat) :=
  let queued := [1, 2, 3].findSome? fun r => s.fst.cands.find? fun e => e.1 == r
  let limit := rf s Reg.fstAgeLimit 0 10 * 86400 * 32768
  let aged := (s.fst.blocks.find? fun e =>
    (e.2.cls == .closed || e.2.cls == .opened) && decide (e.2.openedAt + limit < now s) && bandUsed s (blkBand e.1)).map fun e =>
      (4, blkBand e.1)
  let low := decide (s.fst.free * 1000 < storeCw s * rf s Reg.fstFreeCfg 8 8)
  let compact := if low then (minBy (fun a b => decide (score s a < score s b)) (closedBands s)).map fun b => (5, b) else none
  queued <|> aged <|> compact

/-- Data moves natively, parts in pseudo-SLC (R276): a codeword is copied, as it is, through stream 2. -/
def moveCw (s : State) (old new : Nat) : State :=
  let s := programAt s new 2
  match (s.gen.cw.find? fun x => x.1 == old).map Prod.snd with
  | none => s
  | some c =>
    let s := if locSlc new then s else countNative s 1
    { s with gen := { s.gen with
        cw := (s.gen.cw.filter fun e => e.1 != new && e.1 != old) ++ [(new, { c with wseq := s.fst.wseq })]
        loc := s.gen.loc.map fun e => if e.2 = old + 2 ^ 62 then (e.1, new + 2 ^ 62) else e } }

/-- A generation has a page, a part or its seal in a band: it is to be re-sealed (R293). -/
def affected (band : Nat) (r : GenRec) : Bool :=
  let here := fun l => blkBand (locBlk l) == band
  r.delta.any (fun d => here d.loc) || r.ckptDelta.any (fun d => here d.loc) || r.locs.any here

/-- Codewords of a band that are copied as they are: pages, records, and the parts that R115 keeps. -/
def copied (s : State) (band : Nat) : List Nat :=
  let pages := s.gen.cw.map Prod.fst
  let others := s.gen.groups.flatMap fun e => e.2.gens.flatMap (·.recLocs) ++ e.2.keptParts.flatMap (·.locs)
  ((pages ++ others).filter fun l => blkBand (locBlk l) == band).eraseDups

/-- A delta with the moved locations; a relief page that leaves the hem region is no longer one (R109). -/
def movedDelta (s : State) (m : List (Nat × Nat)) (l : List DeltaEntry) : List DeltaEntry :=
  l.map fun d => match m.find? fun e => e.1 == d.loc with
    | some e => { d with loc := e.2, relief := d.relief && (blkOf s (locBlk e.1)).stream != 3 }
    | none => d

/-- An affected generation is re-sealed: a complete new set of parts, any checkpoint included, with the moved locations, then
its kind-0 seal; the old ones are released (R293). Answers the locations not used. -/
def reseal (s : State) (g n : Nat) (m : List (Nat × Nat)) (locs : List Nat) : State × List Nat :=
  match genOf (grp s g) n with
  | none => (s, locs)
  | some r =>
    let k := partsOf r.delta.length + partsOf r.ckptDelta.length
    let s := forEach (locs.take k) s fun s l => programPart s l 2
    let s := forEach ((locs.drop k).take 1) s fun s l => programAt s l 2
    let s := modGen s g n fun r => { r with
      delta := movedDelta s m r.delta
      ckptDelta := movedDelta s m r.ckptDelta
      locs := locs.take (k + 1) }
    (s, locs.drop (k + 1))

/-- Records and kept parts that were copied. -/
def moveRecords (s : State) (m : List (Nat × Nat)) : State :=
  let f := fun l => ((m.find? fun e => e.1 == l).map Prod.snd).getD l
  { s with gen := { s.gen with groups := s.gen.groups.map fun e => (e.1, { e.2 with
      gens := e.2.gens.map fun r => { r with recLocs := r.recLocs.map f }
      keptParts := e.2.keptParts.map fun k => { k with locs := k.locs.map f } }) } }

/-- Generations that a band's relocation re-seals, with their groups; each takes its parts and a seal. -/
def affectedGens (s : State) (band : Nat) : List (Nat × GenRec) :=
  s.gen.groups.flatMap fun e => (e.2.gens.filter (affected band)).map fun r => (e.1, r)

/-- Relief pages of all generations. -/
def reliefCount (s : State) : Nat :=
  (s.gen.groups.flatMap fun e => e.2.gens.flatMap fun r => r.delta.filter (·.relief)).length

/-- RELOCATION (R292, R293, R294): the candidate band is emptied and erased; `locs` are the places of the copied codewords,
then of each affected generation's parts and seal. Not with the write window closed, not during a hem, not before restore,
and not while an affected generation still seals. -/
def execRelocation (target lun block : Nat) (locs : List Nat) (s : State) : Out :=
  .next <| settle <|
    let band := block * 128 + lun * 16 + target
    if windowOpen s && !hemBusy s && restored s && ((candidate s).map Prod.snd) == some band then
      let old := copied s band
      let gs := affectedGens s band
      let need := old.length + (gs.map fun e => partsOf e.2.delta.length + partsOf e.2.ckptDelta.length + 1).sum
      if gs.all (fun e => durable e.2) && locs.length == need && placesOk (locs.map fun l => (l, 2)) s then
        let s := forEach (List.range 32) s fun s c => closeBlk s (band * 32 + c)
        let m := old.zip locs
        let s := moveRecords (forEach m s fun s e => moveCw s e.1 e.2) m
        let relief := reliefCount s
        let r := gs.foldl (fun (a : State × List Nat) e => reseal a.1 e.1 e.2.num m a.2) (s, locs.drop old.length)
        let s := r.1
        let s := { s with gen := { s.gen with reliefPages := s.gen.reliefPages - (relief - reliefCount s) } }
        let s := { s with fst := { s.fst with cands := s.fst.cands.filter fun e => e.2 != band } }
        eraseBand (addSat s Reg.fstRelocStatus 16 16 1) band
      else s
    else s

end Sys2Proof.Machine
end

