-- ==== Sys2Proof/Machine/Gen.lean ====
section
/-! DEFINITION. The commands of generations, tacks and unpicking (R38 to R92). Every mailbox command is a function
of the logical device and its payload, so that a served doorbell runs the same one (R201). -/

namespace Sys2Proof.Machine

open Bits

-- tacks

/-- TACK_DOORBELL (R47, R48). -/
def execTackDoorbell (src : TackSrc) (val : Word) (s : State) : Out :=
  let g := fld val 0 8
  let tag := fld val 8 8
  .next <| settle <|
    match src with
    | .mgmt => if enabled s Pg.gen then tack s g { path := .mgmt, tag } else accessErr s Pg.gen
    | .host ld =>
      if !enabled s (Pg.hl0 + ld / 32) then s
      else if tackOk s g ld then tack s g { path := .doorbell, tag } else hlCount s Reg.hlTackRefused (ld / 16)

/-- Groups of a byte mask, ascending. -/
def groupsOf (m : List Byte) : List Nat := (List.range 256).filter (maskBit m)

/-- Outcome of each group of a set, judged before any is tacked (R50, R51). -/
def setOutcomes (s : State) (gs : List Nat) (ok : Nat → Bool) : List (Nat × Nat) :=
  gs.map fun g => (g, if ok g then tackOutcome s g else oACCESS)

/-- A set of groups is tacked as one event (R50, R51): the outcomes, and whether the set was refused as a whole. -/
def tackSet (s : State) (os : List (Nat × Nat)) (atomic : Bool) (r : TackReq) : State × Bool :=
  if atomic && os.any fun o => o.2 != oTAKEN then (s, true)
  else (forEach os s fun s o => if o.2 = oACCESS then s else tack s o.1 r, false)

/-- First refusal code in group order; a would-be queue of a refused set counts as TACK_BUSY (R51). -/
def firstRefusal (os : List (Nat × Nat)) (whole : Bool) : Nat :=
  ((os.find? fun o => o.2 != oTAKEN && (whole || o.2 != oQUEUED)).map fun o => if o.2 = oQUEUED then oTACK_BUSY else o.2).getD oTAKEN

/-- Tack Groups (R50, R51, R83). -/
def mbTackGroups (ld : Nat) (inp : List Byte) (s : State) : State :=
  if inp.length ≠ 36 then replyBad s ld
  else if !enabled s Pg.gen then reply s ld rcBusy []
  else
    let os := setOutcomes s (groupsOf (inp.take 32)) fun g => tackOk s g ld
    let r := tackSet s os (byteAt inp 32 % 2 = 1) { path := .mailbox, tag := byteAt inp 33 }
    let has := fun (p : Nat → Bool) => groupMask fun g => os.any fun o => o.1 == g && p o.2
    let taken := if r.2 then zeros 32 else has (· == oTAKEN)
    let queued := if r.2 then zeros 32 else has (· == oQUEUED)
    let refused := has fun o => o != oTAKEN && (r.2 || o != oQUEUED)
    replyOk r.1 ld (leBytes 4 (firstRefusal os r.2) ++ taken ++ queued ++ refused)

/-- TACK_GROUPS (R50). -/
def execTackGroups (ld : Nat) (inp : List Byte) (s : State) : Out := .next (settle (mbTackGroups ld inp s))

/-- Groups of the eight mask registers from an address. -/
def regGroups (s : State) (reg : Nat → Nat) : List Nat := (List.range 256).filter fun g => rb s (reg (g / 32)) (g % 32)

/-- GEN_TACK_MASK_GO (R50, R51, R85). The register carries no tag: the tacks are posted with tag 0 (log entry 122). -/
def execGenTackMaskGo (val : Word) (s : State) : Out :=
  .next <| settle <|
    if bit val 0 && !enabled s Pg.gen then accessErr s Pg.gen
    else if bit val 0 then
      let os := setOutcomes s (regGroups s Reg.genTackMask) fun _ => true
      let r := tackSet s os (bit val 1) { path := .mask, tag := 0 }
      wr r.1 Reg.genTackMaskStatus (wd (2 + firstRefusal os r.2 * 256))
    else s

-- sync (R52 to R56, R87)

/-- Why an arm is refused: its outcome and the groups that block it (R52); the time before restore has completed counts as a
hem in progress (log entry 110). -/
def armRefusal (s : State) (gs : List Nat) : Option (Nat × List Nat) :=
  let busy := gs.filter fun g => (tackedGen (grp s g)).isSome || (grp s g).queued.isSome
  if !busy.isEmpty then some (oTACK_BUSY, busy)
  else if hemActive s then some (oHEM_ACTIVE, gs)
  else if s.gen.sync.lineLow then some (oSYNC_LINE_LOW, gs) else none

/-- Arms a set of groups; an arm in force is replaced (R52). -/
def arm (s : State) (gs : List Nat) (tag expiry : Nat) : State :=
  let s := disarm s none
  let s := forEach gs s fun s g => setGrp s g { grp s g with armed := true }
  { s with gen := { s.gen with sync := { s.gen.sync with
      armed := true
      tag := tag
      armedAt := now s
      expiry := expiry } } }

/-- Arm Sync Tack (R52, R83). -/
def mbArmSyncTack (ld : Nat) (inp : List Byte) (s : State) : State :=
  let expiry := pay inp 32 2
  if inp.length ≠ 36 ∨ expiry = 0 ∨ 60000 < expiry then replyBad s ld
  else if !enabled s Pg.gen then reply s ld rcBusy []
  else
    let gs := groupsOf (inp.take 32)
    let out := fun (c : Nat) (b : List Nat) => leBytes 4 c ++ groupMask fun g => b.contains g
    let noAccess := gs.filter fun g => !tackOk s g ld
    if !noAccess.isEmpty then replyOk s ld (out oACCESS noAccess)
    else
      match armRefusal s gs with
      | some (c, b) => replyOk s ld (out c b)
      | none => replyOk (arm s gs (byteAt inp 34) expiry) ld (out oTAKEN [])

/-- ARM_SYNC_TACK (R52). -/
def execArmSyncTack (ld : Nat) (inp : List Byte) (s : State) : Out := .next (settle (mbArmSyncTack ld inp s))

/-- The module drives TACK_SYNC low (R54). -/
def fireSync (s : State) : State :=
  { s with gen := { s.gen with sync := { s.gen.sync with driving := true, lineLow := true } } }

/-- A write of GEN_SYNC_CTRL (R87): the tag is stored, arm arms or disarms, fire drives the line. -/
def syncCtrlWrite (s : State) (val : Word) : State :=
  let keep := locked s Pg.gen && decide (rd s Reg.genSyncCtrl &&& 0xFF01#32 ≠ val &&& 0xFF01#32)
  let s :=
    if keep || !enabled s Pg.gen then accessErr s Pg.gen
    else
      let tag := fld val 8 8
      let s := wrF s Reg.genSyncCtrl 8 8 tag
      if bit val 0 then
        let gs := regGroups s Reg.genSyncMask
        match armRefusal s gs with
        | some (c, _) => wrB (forEach gs s fun s g => postOutcome s g c tag) Reg.genSyncCtrl 0 false
        | none => wrB (arm s gs tag (rf s Reg.genSyncExpiry 0 16)) Reg.genSyncCtrl 0 true
      else if s.gen.sync.armed then disarm s none else s
  if bit val 1 && enabled s Pg.gen then fireSync s else s

/-- GEN_SYNC_ARM (R52, R87). -/
def execGenSyncArm (val : Word) (s : State) : Out := .next (settle (syncCtrlWrite s val))

/-- GEN_SYNC_FIRE (R54, R87). -/
def execGenSyncFire (val : Word) (s : State) : Out := .next (settle (syncCtrlWrite s val))

/-- The logical device holds a tack-mask bit on some group (R190). -/
def anyTack (s : State) (ld : Nat) : Bool := (List.range 256).any fun g => tackOk s g ld

/-- Disarm Sync Tack (R53). -/
def mbDisarmSyncTack (ld : Nat) (inp : List Byte) (s : State) : State :=
  if inp.length ≠ 0 then replyBad s ld
  else if !enabled s Pg.gen then reply s ld rcBusy []
  else if anyTack s ld then replyCode (disarm s none) ld oTAKEN else replyCode s ld oACCESS

/-- DISARM_SYNC_TACK (R53). -/
def execDisarmSyncTack (ld : Nat) (inp : List Byte) (s : State) : Out := .next (settle (mbDisarmSyncTack ld inp s))

/-- Fire Sync Tack (R54, R190). -/
def mbFireSyncTack (ld : Nat) (inp : List Byte) (s : State) : State :=
  if inp.length ≠ 0 then replyBad s ld
  else if !enabled s Pg.gen then reply s ld rcBusy []
  else if anyTack s ld then replyCode (fireSync s) ld oTAKEN else replyCode s ld oACCESS

/-- FIRE_SYNC_TACK (R54). -/
def execFireSyncTack (ld : Nat) (inp : List Byte) (s : State) : Out := .next (settle (mbFireSyncTack ld inp s))

/-- TACK_SYNC_RELEASE (R54): after 20 µs the line is released and reads high. -/
def execTackSyncRelease (s : State) : Out :=
  .next { s with gen := { s.gen with sync := { s.gen.sync with driving := false, lineLow := false } } }

/-- TACK_SYNC_FIRE_EDGE (R54, R56): the armed groups take one ordering point; nothing armed, or a line found stuck
and not yet high again, is ignored. -/
def execTackSyncFireEdge (s : State) : Out :=
  .next <| settle <|
    let sy := s.gen.sync
    let s := { s with gen := { s.gen with sync := { sy with lineLow := true } } }
    if sy.armed && !sy.stuck then
      let gs := armedGroups s
      let s := disarm s none
      let s := forEach gs s fun s g => tack s g { path := .sync, tag := sy.tag }
      let s := wrB s Reg.genSyncStatus 1 true
      icu (addWrap s Reg.genSyncStatus 16 16 1) 242
    else s

/-- SYNC_EXPIRY (R53): the arm expires without a fire edge. -/
def execSyncExpiry (s : State) : Out :=
  .next <| settle <|
    if s.gen.sync.armed then icu (wrB (disarm s (some oSYNC_EXPIRED)) Reg.genSyncStatus 2 true) 243 else s

/-- SYNC_STUCK (R56): the line stays low for more than 1 ms. While sync_stuck is set a repeat is only counted (R88). -/
def execSyncStuck (s : State) : Out :=
  .next <| settle <|
    let t := { s with gen := { s.gen with sync := { s.gen.sync with stuck := true, lineLow := true } } }
    if rb s (errStatusA Pg.gen) 17 then addSat t (errCountA Pg.gen) 0 16 1 else report t Pg.gen 17 0

/-- SYNC_LINE_REARM (R56): the line has read high for 100 µs. -/
def execSyncLineRearm (s : State) : Out :=
  .next { s with gen := { s.gen with sync := { s.gen.sync with stuck := false, lineLow := false } } }

-- generation list and pins

/-- A generation list entry of 24 bytes (R84). -/
def listEntry (cur : List GenRec) (r : GenRec) : List Byte :=
  let flags := r.pinned.toNat + 2 * r.hem.toNat + 4 * r.outside.toNat + 8 * r.verified.toNat +
    16 * (decide (r.st = 0) || cur.any fun e => e.num == r.num).toNat
  leBytes 6 r.num ++ leBytes 1 r.st ++ leBytes 1 flags ++ leBytes 4 r.secs ++ leBytes 2 r.ticks ++ leBytes 2 r.lineage ++
    leBytes 4 r.swatches ++ zeros 4

/-- Every generation of a group that is not reclaimed, the open one last; after a hem cut that one is closed (R139). -/
def allGens (gr : Group) : List GenRec :=
  if gr.gens.any fun r => r.num == gr.openGen then gr.gens
  else gr.gens ++ [{ num := gr.openGen, st := 0, lineage := gr.lineage, prev := gr.base, swatches := gr.openCount }]

/-- Get Generation List (R83, R84, R190). -/
def mbGetGenerationList (ld : Nat) (inp : List Byte) (s : State) : State :=
  let g := byteAt inp 0
  let want := pay inp 2 2
  if inp.length ≠ 12 ∨ want = 0 ∨ 85 < want then replyBad s ld
  else if !ldSees s ld g then replyCode s ld oACCESS
  else if !grpEnabled s g then replyCode s ld oNO_GROUP
  else
    let gr := grp s g
    let es := ((allGens gr).filter fun r => decide (pay inp 4 6 ≤ r.num)).take want
    replyOk s ld (leBytes 2 oTAKEN ++ leBytes 2 es.length ++ es.flatMap (listEntry (chain gr)))

/-- GET_GENERATION_LIST (R84). -/
def execGetGenerationList (ld : Nat) (inp : List Byte) (s : State) : Out := .next (settle (mbGetGenerationList ld inp s))

/-- What refuses a pin or an unpin of a generation (R66). -/
def pinRefusal (s : State) (g n : Nat) (pin : Bool) : Option Nat :=
  let gr := grp s g
  if !grpEnabled s g then some oNO_GROUP
  else
    match genOf gr n with
    | none => some oNOT_RETAINED
    | some r =>
      if grpLocked s g && r.hem then some oGROUP_LOCKED
      else if !durable r then some oNOT_RETAINED
      else if pin && !r.pinned && decide (min 256 (gr.ringSize - 1) ≤ (gr.gens.filter (·.pinned)).length) then some oPIN_LIMIT
      else none

/-- A pin or unpin: refused, or its record of kind 3 is written and takes effect at its read-back (R66, R118). -/
def pin (s : State) (g n : Nat) (on : Bool) (ld : Option Nat) : State :=
  match pinRefusal s g n on with
  | some c => finishCode s ld c
  | none => addRec s g { kind := 3, gen := n, arg := on.toNat, ld }

/-- Pin Generation (R66, R83). -/
def mbPinGeneration (ld : Nat) (inp : List Byte) (s : State) : State :=
  let g := byteAt inp 0
  if inp.length ≠ 12 ∨ 1 < byteAt inp 2 then replyBad s ld
  else if !enabled s Pg.gen then reply s ld rcBusy []
  else if !manageOk s g ld then replyCode s ld oACCESS
  else pin s g (pay inp 4 6) (byteAt inp 2 = 1) (some ld)

/-- PIN_GENERATION (R66). -/
def execPinGeneration (ld : Nat) (inp : List Byte) (s : State) : Out := .next (settle (mbPinGeneration ld inp s))

-- quiesce, unpick, release

/-- A quiesce of a group: refused, or begun and answered when drained (R70). -/
def quiesce (s : State) (g : Nat) (ld : Option Nat) : State :=
  match groupRefusal s g with
  | some c => finishCode s ld c
  | none =>
    if (grp s g).quiesced || (grp s g).unpick.isSome then finishCode s ld oUNPICK_ACTIVE else beginQuiesce s g ld

/-- Quiesce Group (R70, R83). -/
def mbQuiesceGroup (ld : Nat) (inp : List Byte) (s : State) : State :=
  let g := byteAt inp 0
  if inp.length ≠ 4 then replyBad s ld
  else if !enabled s Pg.gen then reply s ld rcBusy []
  else if !manageOk s g ld then replyCode s ld oACCESS else quiesce s g (some ld)

/-- QUIESCE_GROUP (R70). -/
def execQuiesceGroup (ld : Nat) (inp : List Byte) (s : State) : Out := .next (settle (mbQuiesceGroup ld inp s))

/-- QUIESCE_DRAINED (R70): every write accepted before has committed; the command completes, source 244. -/
def execQuiesceDrained (g : Nat) (s : State) : Out :=
  .next <| settle <|
    let gr := grp s g
    if gr.quiesced && !gr.quiesceDrained && !(s.hl.waits.any fun r => r.write && r.g == g && r.why != .quiesce) then
      icu (finishCode (setGrp s g { gr with quiesceDrained := true }) gr.quiesceLd oTAKEN) 244
    else s

/-- QUIESCE_LIMIT_EXPIRY (R69): no unpick has followed in time. -/
def execQuiesceLimitExpiry (g : Nat) (s : State) : Out :=
  .next <| settle <| if (grp s g).quiesced && (grp s g).unpick.isNone then endQuiesce s g else s

/-- An unpick: refused, pending until the unlock, or its record is written (R71, R72). -/
def unpick (s : State) (g t : Nat) (ld : Option Nat) : State :=
  match unpickRefusal s g t with
  | none => intentFlushAll (setGrp s g { grp s g with unpick := some { target := t, phase := 1, ld } })
  | some c =>
    let s := if c = oPENDING_UNLOCK then setGrp s g { grp s g with unpick := some { target := t, phase := 0 } } else s
    finish s ld c 0 (unpickOut c 0 0)

/-- Unpick Group (R71, R83). -/
def mbUnpickGroup (ld : Nat) (inp : List Byte) (s : State) : State :=
  let g := byteAt inp 0
  if inp.length ≠ 12 then replyBad s ld
  else if !enabled s Pg.gen then reply s ld rcBusy []
  else if !manageOk s g ld then replyOk s ld (unpickOut oACCESS 0 0) else unpick s g (pay inp 4 6) (some ld)

/-- UNPICK_GROUP (R71). -/
def execUnpickGroup (ld : Nat) (inp : List Byte) (s : State) : Out := .next (settle (mbUnpickGroup ld inp s))

/-- Fetches and waiting requests of a group's swatches turn to the rebuild (R166). -/
def redirectFetches (s : State) (g : Nat) : State :=
  let s := { s with gen := { s.gen with restore := { s.gen.restore with
      fetches := s.gen.restore.fetches.filter fun f => !inGroup s g f.swatch } } }
  { s with hl := { s.hl with waits := s.hl.waits.map fun r => if r.g == g && r.why == .fetch then { r with why := .rebuild } else r } }

/-- The unpick commits (R72): discards, restore base, ABSENT lines, H + 1 open, end of the quiesce, the answer. -/
def commitUnpick (s : State) (g : Nat) (u : UnpickRun) : State :=
  let n := discarded (grp s g) u.target
  let s := unpickDiscard s g u.target
  let s := resweep (redirectFetches (markAbsent s g) g) g
  let s := setGrp s g { grp s g with unpick := some { u with phase := 2 } }
  let s := finish s u.ld oTAKEN n (unpickOut oTAKEN (grp s g).openGen n)
  let s := freeUnused (trimRing (icu s 245) g)
  pace (retrySlots (endQuiesce s g)) g

/-- UNPICK_COMMIT (R72, R118, R119): the unpick record's read-back. -/
def execUnpickCommit (g : Nat) (ok : Bool) (loc : Nat) (s : State) : Out :=
  .next <| settle <|
    match (grp s g).unpick with
    | none => s
    | some u =>
      if u.phase = 1 ∧ placeOk s loc 1 = true then
        let s := programAt s loc 1
        if ok then commitUnpick (modGen s g u.target fun r => { r with recLocs := r.recLocs ++ [loc] }) g u else programFailed s loc
      else s

/-- UNPICK_REBUILD_DONE (R166): the location table is built against T's lineage; requests that waited go on. -/
def execUnpickRebuildDone (g : Nat) (s : State) : Out :=
  .next <| settle <|
    if ((grp s g).unpick.map (·.phase)) = some 2 then
      let s := rebuildLoc (setGrp s g { grp s g with unpick := none }) g
      retryWaits s fun r => r.why == .rebuild && r.g == g
    else s

/-- A release: ends the quiesce, and withdraws a pending unpick (R69). -/
def release (s : State) (g : Nat) (ld : Option Nat) : State :=
  match groupRefusal s g with
  | some c => finishCode s ld c
  | none =>
    let gr := grp s g
    if !gr.quiesced then finishCode s ld oQUIESCE_REQUIRED
    else if gr.unpick.any fun u => u.phase != 0 then finishCode s ld oUNPICK_ACTIVE
    else
      let s := endQuiesce (setGrp s g { gr with unpick := none }) g
      icu (finishCode s ld oTAKEN) 245

/-- Release Group (R69, R83). -/
def mbReleaseGroup (ld : Nat) (inp : List Byte) (s : State) : State :=
  let g := byteAt inp 0
  if inp.length ≠ 4 then replyBad s ld
  else if !enabled s Pg.gen then reply s ld rcBusy []
  else if !manageOk s g ld then replyCode s ld oACCESS else release s g (some ld)

/-- RELEASE_GROUP (R69). -/
def execReleaseGroup (ld : Nat) (inp : List Byte) (s : State) : Out := .next (settle (mbReleaseGroup ld inp s))

/-- The target generation of the management path (R85). -/
def genTarget (s : State) : Nat := (rd s Reg.genTargetLo).toNat + 2 ^ 32 * rf s Reg.genTargetHi 0 16

/-- GEN_GEN_CMD (R85): on the selected group; refused while the last command is busy. -/
def execGenGenCmd (val : Word) (s : State) : Out :=
  let g := rf s Reg.genGroupSel 0 8
  .next <| settle <|
    if rb s Reg.genGenStatus 0 || !enabled s Pg.gen then accessErr s Pg.gen
    else
      let b := wrB s Reg.genGenStatus 0 true
      match fld val 0 3 with
      | 1 => quiesce b g none
      | 2 => unpick b g (genTarget s) none
      | 3 => release b g none
      | 4 => pin b g (genTarget s) true none
      | 5 => pin b g (genTarget s) false none
      | _ => s

-- keys

/-- A command that needs a key waits while the known-answer tests run (R91). -/
def keyWait (s : State) (c : Instr) : State := { s with gen := { s.gen with keyWaits := s.gen.keyWaits ++ [c] } }

/-- Set Group Key Mode (R80, R83, R91). -/
def mbSetGroupKeyMode (ld : Nat) (inp : List Byte) (s : State) : State :=
  let g := byteAt inp 0
  let gr := grp s g
  if inp.length ≠ 68 ∨ 1 < byteAt inp 1 then replyBad s ld
  else if !keyOk s g ld then replyCode s ld oACCESS
  else if !grpEnabled s g then replyCode s ld oNO_GROUP
  else if keysBusy s then keyWait s (.setGroupKeyMode ld inp)
  else if !keyHealthy s then replyCode s ld oGROUP_LOCKED
  else
    match gr.key with
    | none => replyCode s ld oGROUP_LOCKED
    | some k =>
      let wrap := if byteAt inp 1 = 1 then wrapOf ((inp.drop 36).take 32) else 0
      let done := fun s => replyCode (setGrp s g { grp s g with
        wrapped := some { key := k, wrap := wrap }
        hostMode := byteAt inp 1 = 1 }) ld oTAKEN
      if gr.hostMode then
        if gr.lockout then replyCode s ld oKEY_LOCKOUT
        else if (gr.wrapped.map (·.wrap)) = some (wrapOf ((inp.drop 4).take 32)) then
          done (setGrp s g { gr with fails := 0 })
        else let r := badSecret s g; replyCode r.1 ld r.2
      else done s

/-- SET_GROUP_KEY_MODE (R80). -/
def execSetGroupKeyMode (ld : Nat) (inp : List Byte) (s : State) : Out := .next (settle (mbSetGroupKeyMode ld inp s))

/-- A pending unpick runs once its group is unlocked: its target is validated against the group's generations as they are
now; one that has been reclaimed meanwhile ends it and the quiesce, nothing discarded (R72 step 1, log entry 125). -/
def runPending (s : State) (g : Nat) : State :=
  let gr := grp s g
  match gr.unpick with
  | none => s
  | some u =>
    if u.phase ≠ 0 then s
    else if (genOf gr u.target).any durable then
      intentFlushAll (setGrp s g { gr with unpick := some { u with phase := 1 } })
    else icu (endQuiesce (setGrp s g { gr with unpick := none }) g) 245

/-- A group's key is unwrapped (R78, R79): a pending unpick runs, the windows may come online; outside-window data is
verified first (R158). -/
def unwrapKey (s : State) (g : Nat) : State :=
  let gr := grp s g
  bringOnline (runPending (setGrp s g { gr with key := gr.wrapped.map (·.key) }) g)

/-- The 4-byte output of Unlock Group: outcome and fail count (R83). -/
def unlockOut (s : State) (g code : Nat) : List Byte := leBytes 1 code ++ leBytes 1 (grp s g).fails ++ zeros 2

/-- Unlock Group (R79, R83, R91). -/
def mbUnlockGroup (ld : Nat) (inp : List Byte) (s : State) : State :=
  let g := byteAt inp 0
  let gr := grp s g
  let ans := fun (s : State) (c : Nat) => replyOk s ld (unlockOut s g c)
  if inp.length ≠ 36 then replyBad s ld
  else if !keyOk s g ld then ans s oACCESS
  else if !grpEnabled s g then ans s oNO_GROUP
  else if keysBusy s then keyWait s (.unlockGroup ld inp)
  else if !keyHealthy s then ans s oGROUP_LOCKED
  else if !gr.hostMode then ans s oTAKEN
  else if gr.lockout then ans s oKEY_LOCKOUT
  else if (gr.wrapped.map (·.wrap)) = some (wrapOf ((inp.drop 4).take 32)) then
    let s := setGrp s g { gr with fails := 0 }
    ans (if gr.key.isNone then unwrapKey s g else s) oTAKEN
  else let r := badSecret s g; ans r.1 r.2

/-- UNLOCK_GROUP (R79). -/
def execUnlockGroup (ld : Nat) (inp : List Byte) (s : State) : Out := .next (settle (mbUnlockGroup ld inp s))

/-- Erase Group (R81, R83, R91). -/
def mbEraseGroup (ld : Nat) (inp : List Byte) (s : State) : State :=
  let g := byteAt inp 0
  if inp.length ≠ 8 then replyBad s ld
  else if !keyOk s g ld then replyCode s ld oACCESS
  else if !grpEnabled s g then replyCode s ld oNO_GROUP
  else if hemActive s then replyCode s ld oHEM_ACTIVE
  else if keysBusy s then keyWait s (.eraseGroup ld inp)
  else if !keyHealthy s then replyCode s ld oGROUP_LOCKED
  else if !(grp s g).quiesced then replyCode s ld oQUIESCE_REQUIRED
  else if (grp s g).unpick.any fun u => u.phase != 0 then replyCode s ld oUNPICK_ACTIVE
  else if pay inp 4 4 ≠ 0x45524153 then replyCode s ld oACCESS
  else
    let s := bringOnline (eraseGroup s g)
    retrySlots (retryWaits (replyCode s ld oTAKEN) fun r => r.g == g && (r.why == .fetch || r.why == .slot || r.why == .rebuild))

/-- ERASE_GROUP (R81). -/
def execEraseGroup (ld : Nat) (inp : List Byte) (s : State) : Out := .next (settle (mbEraseGroup ld inp s))

/-- GEN_RING_CFG_WRITE (R65, R66): the ring size of the selected group. -/
def execGenRingCfgWrite (val : Word) (s : State) : Out :=
  let g := rf s Reg.genGroupSel 0 8
  let n := fld val 0 16
  .next <| settle <|
    let gr := grp s g
    if n = 0 ∨ n < (gr.gens.filter (·.pinned)).length + 1 then accessErr s Pg.gen
    else if locked s Pg.gen && decide (n ≠ gr.ringSize) then accessErr s Pg.gen
    else trimRing (setGrp s g { gr with ringSize := n }) g

/-- KEY_SELFTEST (R91): a write while a run is busy is discarded. -/
def execKeySelftest (val : Word) (s : State) : Out :=
  .next <|
    if bit val 0 && !s.gen.selftestBusy && enabled s Pg.key then
      wrB { s with gen := { s.gen with selftestBusy := true } } Reg.keyModuleStatus 3 true
    else s

/-- A command that waited for the tests is carried out. -/
def runKeyWait (s : State) (c : Instr) : State :=
  match c with
  | .setGroupKeyMode ld inp => mbSetGroupKeyMode ld inp s
  | .unlockGroup ld inp => mbUnlockGroup ld inp s
  | .eraseGroup ld inp => mbEraseGroup ld inp s
  | _ => s

/-- KEY_SELFTEST_DONE (R91): auto-mode keys are unwrapped, keys not yet drawn are drawn and waiting requests run; a
failure is a fatal error of KEY, and every group is locked. -/
def execKeySelftestDone (pass moduleKey drbgOk : Bool) (s : State) : Out :=
  .next <| settle <|
    if s.gen.selftestBusy then
      let s := { s with gen := { s.gen with selftestBusy := false } }
      let s := wr s Reg.keyModuleStatus (wd (moduleKey.toNat + 2 * drbgOk.toNat + 4 * pass.toNat))
      let s :=
        if keyHealthy s then
          forEach (enabledGroups s) s fun s g =>
            let gr := grp s g
            match gr.key, gr.wrapped with
            | none, none => drawKey s g
            | none, some _ => if gr.hostMode then s else unwrapKey s g
            | _, _ => s
        else report (forEach (enabledGroups s) s fun s g => setGrp s g { grp s g with key := none }) Pg.key 2 0
      let ws := s.gen.keyWaits
      let s := { s with gen := { s.gen with keyWaits := [] } }
      noteReasons (forEach ws s runKeyWait)
    else s

end Sys2Proof.Machine
end

