-- ==== Sys2Proof/Machine/Hl.lean ====
section
/-! DEFINITION. The commands of the host link: table writes (R184, R189), the commands of R199, R202 and R203, doorbells
(R201), resets and link events (R209 to R216). -/

namespace Sys2Proof.Machine

open Bits

-- tables

/-- WINDOW_ENTRY_WRITE (R183 to R185): one word of bytes 0 to 19; the rest is maintained by the device. -/
def execWindowEntryWrite (off : Nat) (val : Word) (s : State) : Out :=
  .next <| settle <|
    let w := off / 32
    let o := winEntry s w
    if 4096 ≤ w then s
    else
      match off % 32 / 4 with
      | 0 => (writeWin s w { o with ctl := val } true).1
      | 1 => (writeWin s w { o with ldBase := val.toNat } true).1
      | 2 => (writeWin s w { o with size := val.toNat } true).1
      | 3 => (writeWin s w { o with dramBase := val.toNat } true).1
      | 4 => (writeWin s w { o with groupBase := val.toNat } true).1
      | _ => s

/-- GROUP_ENTRY_WRITE (R189). -/
def execGroupEntryWrite (off : Nat) (val : Word) (s : State) : Out :=
  .next <| settle <| if 256 ≤ off / 64 then s else (writeGrp s (off / 64) [(off % 64 / 4, val)]).1

/-- The 32 bytes of a window entry, with its state and counter (R183, R186). -/
def winBytes (s : State) (w : Nat) : List Byte :=
  ((List.range 5).flatMap fun i => leBytes 4 (winWord s w i).toNat) ++ leBytes 2 (winState s w) ++
    leBytes 2 (fld (winWord s w 5) 16 16) ++ zeros 8

/-- Get Window (R202). -/
def mbGetWindow (ld : Nat) (inp : List Byte) (s : State) : State :=
  let w := pay inp 0 2
  if inp.length ≠ 4 ∨ 4096 ≤ w then replyBad s ld
  else if winValid s w && winLd s w == ld then replyOk s ld (leBytes 4 0 ++ winBytes s w)
  else replyOk s ld (leBytes 4 8 ++ zeros 32)

/-- GET_WINDOW (R202). -/
def execGetWindow (ld : Nat) (inp : List Byte) (s : State) : Out := .next (mbGetWindow ld inp s)

/-- Set Window (R184, R185, R202). -/
def mbSetWindow (ld : Nat) (inp : List Byte) (s : State) : State :=
  let w := pay inp 0 2
  if inp.length ≠ 24 ∨ 4096 ≤ w then replyBad s ld
  else
    let r := writeWin s w
      { ctl := wd (pay inp 4 4), ldBase := pay inp 8 4, size := pay inp 12 4, dramBase := pay inp 16 4, groupBase := pay inp 20 4 }
      (isAdmin s ld)
    replyCode r.1 ld r.2

/-- SET_WINDOW (R202). -/
def execSetWindow (ld : Nat) (inp : List Byte) (s : State) : Out := .next (settle (mbSetWindow ld inp s))

/-- Get Group Config (R190, R202). -/
def mbGetGroupConfig (ld : Nat) (inp : List Byte) (s : State) : State :=
  let g := byteAt inp 0
  if inp.length ≠ 4 then replyBad s ld
  else if ldSees s ld g then
    replyOk s ld (leBytes 4 0 ++ (List.range 16).flatMap fun i => leBytes 4 (grpWord s g i).toNat)
  else replyOk s ld (leBytes 4 8 ++ zeros 64)

/-- GET_GROUP_CONFIG (R202). -/
def execGetGroupConfig (ld : Nat) (inp : List Byte) (s : State) : Out := .next (mbGetGroupConfig ld inp s)

/-- Set Group Config (R189, R202). -/
def mbSetGroupConfig (ld : Nat) (inp : List Byte) (s : State) : State :=
  let g := byteAt inp 0
  if inp.length ≠ 68 then replyBad s ld
  else if isAdmin s ld then
    let r := writeGrp s g ((List.range 16).map fun i => (i, wd (pay inp (4 + 4 * i) 4)))
    replyCode r.1 ld r.2
  else replyCode (winRefuse s 8 g true) ld 8

/-- SET_GROUP_CONFIG (R202). -/
def execSetGroupConfig (ld : Nat) (inp : List Byte) (s : State) : Out := .next (settle (mbSetGroupConfig ld inp s))

/-- The request that governs a window: the lower target, then the lower code, of its group's and its own (R129, R192). -/
def winGoverning (s : State) (w : Nat) : Option PaceReq :=
  governing ((grp s (winGroup s w)).pacing ++ (winOf s w).disturb.toList)

/-- The pacing table entry of a window (R197). -/
def paceEntry (s : State) (w : Nat) : List Byte :=
  let v := winOf s w
  let r := winGoverning s w
  let e := winEnforced s w
  let flags := r.isSome.toNat + 2 * e.toNat + 4 * (e && v.rate == floorRate s w).toNat +
    8 * ((portOf s (winLd s w / 16)).stopWins.contains w).toNat
  leBytes 1 ((r.map (·.reason)).getD 0) ++ leBytes 1 flags ++ leBytes 2 v.events ++
    leBytes 4 (if e then v.rate / 1000000 else 0xFFFFFFFF) ++ leBytes 4 (v.wr.headD 0 / 1000) ++ leBytes 2 (heldOf s w) ++ zeros 2

/-- Get Pacing (R197, R198, R202): the entries of windows the device does not own read as 0. -/
def mbGetPacing (ld : Nat) (inp : List Byte) (s : State) : State :=
  let w := pay inp 0 2
  let n := pay inp 2 2
  if inp.length ≠ 4 ∨ n = 0 ∨ 127 < n ∨ 4096 ≤ w then replyBad s ld
  else
    let m := min n (4096 - w)
    replyOk s ld (leBytes 2 0 ++ leBytes 2 m ++ ((List.range m).flatMap fun i =>
      if winValid s (w + i) && winLd s (w + i) == ld then paceEntry s (w + i) else zeros 16))

/-- GET_PACING (R202). -/
def execGetPacing (ld : Nat) (inp : List Byte) (s : State) : Out := .next (mbGetPacing ld inp s)

/-- Status byte of a port (R205). -/
def portByte (s : State) (p : Nat) : Nat :=
  let v := portOf s p
  v.up.toNat + 2 * (v.width % 8) + 16 * (v.rate % 8) + 128 * (ideOf s p == 2).toNat

/-- Counters of a port (R203). -/
def portCounters (s : State) (p : Nat) : List Byte :=
  let h := fun (reg : Nat → Nat) => leBytes 2 (rf s (reg (p / 2)) (16 * (p % 2)) 16)
  h Reg.hlLinkdown ++ h Reg.hlCreditStops ++ h Reg.hlUnmapped ++ h Reg.hlOfflineAcc ++ h Reg.hlRsvdWrites ++
    h Reg.hlTackRefused ++ leBytes 1 (portByte s p) ++ zeros 3

/-- Get Link Counters (R203). -/
def mbGetLinkCounters (ld : Nat) (inp : List Byte) (s : State) : State :=
  if inp.length ≠ 0 then replyBad s ld
  else replyOk s ld (leBytes 4 0 ++ (List.range 4).flatMap (portCounters s))

/-- GET_LINK_COUNTERS (R203). -/
def execGetLinkCounters (ld : Nat) (inp : List Byte) (s : State) : Out := .next (mbGetLinkCounters ld inp s)

-- standard commands (R199); their payloads are those of the CXL specification (log entry 14)

/-- Identify: part numbers, largest message 2^11 bytes, component type 3. -/
def mbIdentify (ld : Nat) (inp : List Byte) (s : State) : State :=
  if inp.length ≠ 0 then replyBad s ld
  else replyOk s ld ((List.range 16).map Config.identity ++ leBytes 1 11 ++ leBytes 1 3)

/-- IDENTIFY (R199). -/
def execIdentify (ld : Nat) (inp : List Byte) (s : State) : Out := .next (mbIdentify ld inp s)

/-- Background Operation Status. -/
def mbBackgroundStatus (ld : Nat) (inp : List Byte) (s : State) : State :=
  if inp.length ≠ 0 then replyBad s ld
  else
    let v := ldOf s ld
    replyOk s ld (leBytes 1 (v.bg.isSome.toNat + 2 * min 100 v.bgPct) ++ zeros 1 ++ leBytes 2 (v.bg.getD 0) ++
      leBytes 2 v.bgRc ++ zeros 2)

/-- BACKGROUND_OPERATION_STATUS (R199). -/
def execBackgroundOperationStatus (ld : Nat) (inp : List Byte) (s : State) : Out := .next (mbBackgroundStatus ld inp s)

/-- A CXL event record of 128 bytes: its handle, time stamp and the event's payload. -/
def eventBytes (e : Nat × Ev) : List Byte :=
  padTo 128 (zeros 16 ++ leBytes 4 (128 + 2 ^ 8 * e.2.sev) ++ leBytes 2 e.1 ++ zeros 10 ++ zeros 16 ++ leBytes 2 e.2.code ++ e.2.payload)

/-- Get Event Records of one log, 0 information to 3 fatal. -/
def mbGetEventRecords (ld : Nat) (inp : List Byte) (s : State) : State :=
  if inp.length ≠ 1 ∨ 3 < byteAt inp 0 then replyBad s ld
  else
    let l := (ldOf s ld).events.filter fun e => e.2.sev == byteAt inp 0
    let got := l.take 15
    replyOk s ld (leBytes 2 (if got.length < l.length then 2 else 0) ++ zeros 18 ++ leBytes 2 got.length ++ zeros 10 ++
      got.flatMap eventBytes)

/-- GET_EVENT_RECORDS (R199). -/
def execGetEventRecords (ld : Nat) (inp : List Byte) (s : State) : Out := .next (mbGetEventRecords ld inp s)

/-- Clear Event Records: byte 0 the log, byte 1 bit 0 all, byte 2 the number of handles, handles from byte 6. -/
def mbClearEventRecords (ld : Nat) (inp : List Byte) (s : State) : State :=
  let n := byteAt inp 2
  if inp.length ≠ 6 + 2 * n ∨ 3 < byteAt inp 0 then replyBad s ld
  else
    let hs := (List.range n).map fun i => pay inp (6 + 2 * i) 2
    let all := byteAt inp 1 % 2 = 1
    let v := ldOf s ld
    let s := setLd s ld { v with events := v.events.filter fun e => !(e.2.sev == byteAt inp 0 && (all || hs.contains e.1)) }
    replyOk s ld []

/-- CLEAR_EVENT_RECORDS (R199). -/
def execClearEventRecords (ld : Nat) (inp : List Byte) (s : State) : Out := .next (mbClearEventRecords ld inp s)

/-- Get Event Interrupt Policy: every policy reads "no interrupts". -/
def mbGetEventPolicy (ld : Nat) (inp : List Byte) (s : State) : State :=
  if inp.length ≠ 0 then replyBad s ld else replyOk s ld (zeros 4)

/-- GET_EVENT_INTERRUPT_POLICY (R199). -/
def execGetEventInterruptPolicy (ld : Nat) (inp : List Byte) (s : State) : Out := .next (mbGetEventPolicy ld inp s)

/-- Set Event Interrupt Policy: accepted only with every policy set to "no interrupts". -/
def mbSetEventPolicy (ld : Nat) (inp : List Byte) (s : State) : State :=
  if inp.length ≠ 4 ∨ inp.any (fun b => b &&& 3#8 != 0#8) then replyBad s ld else replyOk s ld []

/-- SET_EVENT_INTERRUPT_POLICY (R199). -/
def execSetEventInterruptPolicy (ld : Nat) (inp : List Byte) (s : State) : Out := .next (mbSetEventPolicy ld inp s)

/-- The time stamp in ns: what the host set and the operating time since; 0 before it is set. -/
def timestamp (s : State) (ld : Nat) : Nat :=
  match (ldOf s ld).stamp with
  | none => 0
  | some (v, t) => v + (now s - t) * 1000000000 / 32768

/-- Get Timestamp. -/
def mbGetTimestamp (ld : Nat) (inp : List Byte) (s : State) : State :=
  if inp.length ≠ 0 then replyBad s ld else replyOk s ld (leBytes 8 (timestamp s ld))

/-- GET_TIMESTAMP (R199). -/
def execGetTimestamp (ld : Nat) (inp : List Byte) (s : State) : Out := .next (mbGetTimestamp ld inp s)

/-- Set Timestamp. -/
def mbSetTimestamp (ld : Nat) (inp : List Byte) (s : State) : State :=
  if inp.length ≠ 8 then replyBad s ld
  else replyOk (setLd s ld { ldOf s ld with stamp := some (pay inp 0 8, now s) }) ld []

/-- SET_TIMESTAMP (R199). -/
def execSetTimestamp (ld : Nat) (inp : List Byte) (s : State) : Out := .next (mbSetTimestamp ld inp s)

/-- UUID of the Command Effects Log. -/
def celUuid : List Byte :=
  [0x0D#8, 0xA9#8, 0xC0#8, 0xB5#8, 0xBF#8, 0x41#8, 0x4B#8, 0x78#8, 0x8F#8, 0x79#8, 0x96#8, 0xB1#8, 0x62#8, 0x3B#8, 0x3F#8, 0x17#8]

/-- Opcodes the device supports (R199, R200). -/
def opcodes : List Nat :=
  [0x0001, 0x0002, 0x0100, 0x0101, 0x0102, 0x0103, 0x0200, 0x0201, 0x0202, 0x0300, 0x0301, 0x0400, 0x0401, 0x4000, 0x4200] ++
    ((List.range 6).map (· + 0xC010)) ++ ((List.range 12).map (· + 0xC020)) ++ ((List.range 4).map (· + 0xC030)) ++
    ((List.range 7).map (· + 0xC040)) ++ ((List.range 4).map (· + 0xC050)) ++ ((List.range 5).map (· + 0xC060)) ++
    ((List.range 4).map (· + 0xC070)) ++ [0xC078]

/-- The Command Effects Log: 4 bytes for each opcode. -/
def celBytes : List Byte := opcodes.flatMap fun o => leBytes 2 o ++ leBytes 2 (Config.cmdEffects o).toNat

/-- Get Supported Logs. -/
def mbGetSupportedLogs (ld : Nat) (inp : List Byte) (s : State) : State :=
  if inp.length ≠ 0 then replyBad s ld
  else replyOk s ld (leBytes 2 1 ++ zeros 6 ++ celUuid ++ leBytes 4 (4 * opcodes.length))

/-- GET_SUPPORTED_LOGS (R199). -/
def execGetSupportedLogs (ld : Nat) (inp : List Byte) (s : State) : Out := .next (mbGetSupportedLogs ld inp s)

/-- Get Log: the UUID, an offset, a length. -/
def mbGetLog (ld : Nat) (inp : List Byte) (s : State) : State :=
  let off := pay inp 16 4
  let n := pay inp 20 4
  if inp.length ≠ 24 ∨ inp.take 16 ≠ celUuid ∨ 4 * opcodes.length < off + n ∨ 2048 < n then replyBad s ld
  else replyOk s ld ((celBytes.drop off).take n)

/-- GET_LOG (R199). -/
def execGetLog (ld : Nat) (inp : List Byte) (s : State) : Out := .next (mbGetLog ld inp s)

/-- A logical device's DPA extent in units of 256 MiB (R199). -/
def dpaExtent (s : State) (ld : Nat) : Nat :=
  4 * ((validWins s).filter fun w => winLd s w == ld).foldl (fun a w => max a (winLdBase s w + winSize s w)) 0

/-- Identify Memory Device: no volatile capacity, the persistent capacity of R199. -/
def mbIdentifyMemory (ld : Nat) (inp : List Byte) (s : State) : State :=
  if inp.length ≠ 0 then replyBad s ld
  else replyOk s ld (zeros 16 ++ leBytes 8 (dpaExtent s ld) ++ leBytes 8 0 ++ leBytes 8 (dpaExtent s ld) ++ zeros 29)

/-- IDENTIFY_MEMORY_DEVICE (R199). -/
def execIdentifyMemoryDevice (ld : Nat) (inp : List Byte) (s : State) : Out := .next (mbIdentifyMemory ld inp s)

/-- Get Health Info: 18 bytes, whose fields the spec does not derive; each reply is a free value (log entry 4). -/
def mbGetHealthInfo (ld : Nat) (inp : List Byte) (s : State) : State :=
  if inp.length ≠ 0 then replyBad s ld
  else
    let r := freeBytes s 18
    replyOk r.2 ld r.1

/-- GET_HEALTH_INFO (R199). -/
def execGetHealthInfo (ld : Nat) (inp : List Byte) (s : State) : Out := .next (mbGetHealthInfo ld inp s)

/-- An opcode that nothing defines (R199, R200). -/
def mbUnsupported (ld : Nat) (s : State) : State := reply s ld rcUnsupported []

/-- UNSUPPORTED_OPCODE (R200). -/
def execUnsupportedOpcode (ld _opcode : Nat) (s : State) : Out := .next (mbUnsupported ld s)

/-- MAILBOX_DOORBELL (R199, R201, sources 28 to 31): the doorbell stays set until it is served. -/
def execMailboxDoorbell (ld opcode : Nat) (inp : List Byte) (s : State) : Out :=
  .next <| settle <|
    let v := ldOf s ld
    if v.doorbell.isSome || !enabled s (Pg.hl0 + ld / 32) then s
    else icu (setLd s ld { v with doorbell := some (opcode, inp.take 2048) }) (28 + ld / 16 % 4)

-- ports

/-- CONVENTIONAL_RESET (R208, R209). -/
def execConventionalReset (port : Nat) (s : State) : Out :=
  .next <| settle <| if portExists s port then portReset s port true else s

/-- HOT_RESET (R209). -/
def execHotReset (port : Nat) (s : State) : Out :=
  .next <| settle <| if portExists s port then portReset s port false else s

/-- LINK_DOWN (R209). -/
def execLinkDown (port : Nat) (s : State) : Out := .next (settle (portDown s port))

/-- LINK_UP (R178, R180, R214, R215): trained within the width and rate allowed; source 16 + p. -/
def execLinkUp (port width rate : Nat) (flit256 : Bool) (s : State) : Out :=
  .next <| settle <|
    let link := port / 2
    let w := min width (portWidth s port)
    if portExists s port && coreUp s && !s.hl.linksOff && !linkFenced s link && (domOf s (80 + link)).st == 2 && w != 0 then
      let v := portOf s port
      let s := setPort s port { v with
        up := true, width := w, rate := max 1 (min rate v.maxRate), flit256, equalised := v.equalised || decide (3 ≤ rate) }
      noteReasons (icu s (16 + port))
    else s

/-- FUNCTION_LEVEL_RESET (R209). -/
def execFunctionLevelReset (ld : Nat) (s : State) : Out := .next (resetFunction s ld)

/-- L0P_REQUEST (R180, R214): honoured down to x4 while l0p_en in force allows it. -/
def execL0pRequest (port width : Nat) (s : State) : Out :=
  .next <|
    let v := portOf s port
    if v.up && v.l0p && decide (3 ≤ width) && decide (width ≤ portWidth s port) then
      setPort s port { v with width := width }
    else s

/-- IDE_FAIL (R180, R216): the port's link goes down, source 36 + p. -/
def execIdeFail (port : Nat) (s : State) : Out :=
  .next <| settle <|
    let s := report s (Pg.hl0 + port / 2) 16 (port % 2)
    setIde (portDown s port) port 3

/-- A quad carries lanes of a port as trained: lanes are counted from the port's lane 0 (R215). -/
def usesQuad (s : State) (p q : Nat) : Bool :=
  match (portQuads s p).findIdx? (· == q) with
  | some i => (portOf s p).up && decide (4 * i < 2 ^ ((portOf s p).width - 1))
  | none => false

/-- A domain of an HL page switches off: the controller takes both ports down, a quad the port whose lanes it carries
(R215). -/
def linkDomOff (s : State) (d : Nat) : State :=
  if d < 82 then linkOff s (d - 80)
  else
    let l := (d - 82) / 4
    forEach [2 * l, 2 * l + 1] s fun s p => if usesQuad s p ((d - 82) % 4) then portDown s p else s

/-- HL_PWR takes a value (R215). -/
def hlPwrSet (s : State) (link : Nat) (val : Word) : State :=
  let s := wr s (Reg.hlPwr link) (val &&& 0x1F#32)
  if s.hl.linksOff then s
  else
    let t := applyPower s (Pg.hl0 + link)
    forEach (domsOfPage (Pg.hl0 + link)) t fun t d =>
      if (domOf s d).st == 2 && (domOf t d).st == 3 then linkDomOff t d else t

/-- HL_PWR_WRITE (R215). -/
def execHlPwrWrite (link : Nat) (val : Word) (s : State) : Out :=
  .next <| settle <|
    if locked s (Pg.hl0 + link) && rd s (Reg.hlPwr link) != val &&& 0x1F#32 then accessErr s (Pg.hl0 + link)
    else hlPwrSet s link val

/-- HDM_DECODER_COMMIT (R180, R182): within the limits of R180; a decoder outside them is not committed. -/
def execHdmDecoderCommit (ld dec base size ways gran pos skip : Nat) (s : State) : Out :=
  .next <|
    if dec < 4 ∧ [1, 2, 4, 8, 16].contains ways = true ∧ [256, 512, 1024, 2048, 4096, 8192, 16384].contains gran = true ∧ pos < ways then
      let v := ldOf s ld
      setLd s ld { v with hdm := (v.hdm.filter fun d => d.dec != dec) ++ [{ dec, base, size, ways, gran, pos, skip }] }
    else s

/-- DOE_REQUEST (R180): protocols 0 Discovery, 1 CMA/SPDM, 2 secured CMA/SPDM, 3 CDAT, 4 CXL IDE_KM, which sets the
port's IDE state. -/
def execDoeRequest (ld proto ideStep : Nat) (s : State) : Out :=
  .next <|
    if 4 < proto then s
    else
      let s := setLd s ld { ldOf s ld with doe := some proto }
      if proto = 4 ∧ ideStep ≤ 2 then setIde s (ld / 16) ideStep else s

end Sys2Proof.Machine
end

