-- ==== Sys2Proof/Machine/Pool.lean ====
section
/-! DEFINITION. The commands of the buffer pool (R308, R309, R324). -/

namespace Sys2Proof.Machine

open Bits

/-- POOL_GRANT (R308): granted at once, or it waits behind the client's own earlier requests. META's buffers come in mirrored
pairs, each of two buffers (R306). -/
def execPoolGrant (client count : Nat) (s : State) : Out :=
  .next <| settle <|
    let count := if client = 10 then 2 * count else count
    if 12 ≤ client ∨ count = 0 then s
    else if mayTake s client count && !(s.pool.waits.any fun e => e.1 == client) then takeBuffers s client count
    else
      let full := decide (maxOf s client < (clientOf s client).held + count)
      let s := { s with pool := { s.pool with waits := s.pool.waits ++ [(client, count)] } }
      if full then waitAtMax s client else s

/-- Order in which requests that wait are granted (R308). -/
def grantOrder : List Nat := [7, 4, 8, 0, 1, 2, 3, 5, 10, 6, 9, 11]

/-- POOL_GRANT_AFTER_WAIT (R308): the first client in order whose oldest request can be granted. -/
def execPoolGrantAfterWait (s : State) : Out :=
  .next <| settle <|
    let first := grantOrder.findSome? fun k =>
      match s.pool.waits.find? fun e => e.1 == k with
      | some e => if mayTake s k e.2 then some e else none
      | none => none
    match first with
    | some e => takeBuffers { s with pool := { s.pool with waits := s.pool.waits.erase e } } e.1 e.2
    | none => s

/-- Whether POOL_Qk may take a value (R309, R324): ranges, a latency client's least reserve, the sum of the reserves. -/
def quotaOk (s : State) (k : Nat) (val : Word) : Bool :=
  let res := fld val 0 15
  let mx := fld val 16 15
  let others := (((List.range 12).filter fun j => j != k).map fun j => rf s (Reg.poolQ j) 0 15).sum
  decide (1 ≤ mx ∧ mx ≤ 16384) && decide (res ≤ mx) && (isThroughput k || decide (fld (resetOf (Reg.poolQ k)) 0 15 ≤ res)) &&
    decide (others + res ≤ 15360)

/-- POOL_QUOTA_WRITE (R309, R324). -/
def execPoolQuotaWrite (client : Nat) (val : Word) (s : State) : Out :=
  .next <| settle <|
    let v := val &&& 0x7FFF7FFF#32
    if 12 ≤ client then s
    else if !quotaOk s client v || (locked s Pg.pool && rd s (Reg.poolQ client) != v) then accessErr s Pg.pool
    else updateScale (wr s (Reg.poolQ client) v)

end Sys2Proof.Machine
end

