-- ==== Sys2Proof/Machine/Power.lean ====
section
/-! DEFINITION. Power sequencing, supervision and hold-up (chapter 9), the resets of VAO and its straps (R526, R531): the
meanings. An event that the device's state rules out changes nothing (log entry 18). -/

namespace Sys2Proof.Machine

open Bits

-- walking

/-- The walk in progress goes on. -/
def walk (s : State) : State :=
  if s.psq.st = 1 then walkUp 13 s
  else if s.psq.st = 4 then walkDown s
  else if s.psq.st = 3 ∧ stepBusy s s.psq.step = false then walkDown s
  else s

/-- No hold stands against an on request (R333, R350, R395). -/
def onAllowed (s : State) : Bool := !s.psq.softOff && !s.psq.shutdown && !s.psq.heldInReset

/-- An on request that waits for all-off is latched (R339, source 359). -/
def latchOn (s : State) (kind : Nat) : State :=
  traceReq (icu { s with psq := { s.psq with onLatched := true } } 359) 1 kind

/-- POWER_UP (R333, R334): an on request in the all-off state, the minimum off time over and no hold in force. -/
def execPowerUp (bif0 bif1 : Bool) (s : State) : Out :=
  .next <| settle <|
    if s.psq.vao && s.psq.st == 0 && s.psq.minOff && s.psq.input && onAllowed s then
      startPowerUp { s with hl := { s.hl with strap0 := bif0, strap1 := bif1 } } false
    else s

/-- RAIL_UP (R329): with VIO18 the bifurcation straps load HL_LINK_CFG.bif (R526). -/
def execRailUp (rail ramp : Nat) (s : State) : Out :=
  .next <| settle <|
    let r := railOf s rail
    if decide (rail < 24) && rail != 22 && r.enabled && !r.up && !r.failed then
      let s := railPg s rail true
      let s := setRail s rail { railOf s rail with up := true, ramp := min 255 ramp, outCount := 0 }
      let s := if rail = 0 then coreStarted s else s
      let s := if rail = 2 then
          wrB (wrB s (Reg.hlLinkCfg 0) 0 s.hl.strap0) (Reg.hlLinkCfg 1) 0 s.hl.strap1
        else s
      walk s
    else s

/-- RAIL_RAMP_TIMEOUT (R329): cause 1. -/
def execRailRampTimeout (rail : Nat) (s : State) : Out :=
  .next <| settle <|
    let r := railOf s rail
    if decide (rail < 24) && rail != 22 && r.enabled && !r.up && !r.failed then walk (railFail s rail 1) else s

/-- HOLD_PG falls, or the converter's output leaves its window, while HOLD_EN is asserted (R344): logged as a failure of
rail 22 that releases and fences nothing. -/
def holdFail (s : State) (cause : Nat) : State :=
  let s := setRail s 22 { railOf s 22 with failed := true, cause := cause }
  let s := if coreUp s && rb s Reg.psqTraceCfg 16 then traceTrigger (trace s 5 22 cause) else trace s 5 22 cause
  icu s 326

/-- RAIL_PG_FALL (R330): cause 2. A DG rail that falls in keep-alive breaks check 2 of R154. -/
def execRailPgFall (rail : Nat) (s : State) : Out :=
  .next <| settle <|
    let r := railOf s rail
    if decide (rail < 24) && rail != 22 && r.enabled && r.up then walk (railFail (railPg s rail false) rail 2) else s

-- the scan (R331, R332)

/-- The window check of a rail that is up: the second consecutive reading outside fails it, below with cause 3, above with
cause 4 (R330). -/
def windowCheck (s : State) (k mv : Nat) : State :=
  let r := railOf s k
  if r.up then
    let nom := rf s (Reg.psqRailkCfg k) 0 12
    let w := rf s (Reg.psqRailkCfg k) 12 4
    let kind := if 100 * mv < nom * (100 - w) then 3 else if nom * (100 + w) < 100 * mv then 4 else 0
    if kind = 0 then setRail s k { r with outKind := 0, outCount := 0 }
    else if r.outCount = 0 then setRail s k { r with outKind := kind, outCount := 1 }
    else
      let s := setRail s k { r with outKind := kind, outCount := 0 }
      if k = 22 then holdFail s kind else walk (railFail s k kind)
  else s

/-- Inputs 30 and 31: the second consecutive reading outside its window raises source 361 (R360; log entry 16). -/
def busCheck (s : State) (n mv : Nat) : State :=
  let out := Config.busWindowOut n mv
  let c := if n = 30 then s.psq.out30 else s.psq.out31
  let c' := if out then min 2 (c + 1) else 0
  let s := if n = 30 then { s with psq := { s.psq with out30 := c' } } else { s with psq := { s.psq with out31 := c' } }
  if c = 1 ∧ c' = 2 then icu s 361 else s

/-- SCAN_READ (R331, R332, R330, R362). -/
def execScanRead (input mv : Nat) (refOk : Bool) (s : State) : Out :=
  .next <| settle <|
    if coreUp s && decide (input < 32) then
      let mv := min 4095 mv
      let s := wr s (Reg.psqScann input) (wd (mv + 0x8000))
      let was := s.psq.scanFault
      let s := { s with psq := { s.psq with scanFault := !refOk } }
      let s := if !refOk && !was then report s Pg.psq 19 0 else s
      if input < 24 then (if refOk then windowCheck s input mv else s)
      else if input = 27 then recomputeBudget (tapCheck s)
      else if input = 28 then recomputeBudget (thermistorCheck s)
      else if 30 ≤ input then (if refOk then busCheck s input mv else s)
      else s
    else s

/-- TRACE_SAMPLE (R354): inputs 29 and 30. -/
def execTraceSample (input : Nat) (s : State) : Out :=
  .next <| settle <| if input = 29 ∨ input = 30 then trace s 0x0D input (scanMv s input) else s

-- PSQ_CMD (R356)

/-- A hold-up test is asked for (R346). -/
def holdTest (s : State) : State :=
  if s.psq.st == 2 && s.psq.input && !hemBusy s && !s.psq.holdTest then
    batHold (updateHold { s with psq := { s.psq with holdTest := true } })
  else accessErr s Pg.psq

/-- PSQ_CMD.on (R333, R339): it ends a soft-off that has not been reached yet. -/
def cmdOn (s : State) : State :=
  if (s.psq.st == 3 || s.psq.st == 4) && !s.psq.shutdown && !s.psq.heldInReset then
    latchOn { s with psq := { s.psq with softOff := false } } 3
  else s

/-- PSQ_CMD.off (R333, R336, R338, R339). -/
def cmdOff (s : State) : State := offRequest { s with psq := { s.psq with softOff := true } } 5 5

/-- A write of PSQ_CMD; CTRL.enable = 0 refuses it. -/
def psqCmd (s : State) (val : Word) : State :=
  if !enabled s Pg.psq then accessErr s Pg.psq
  else
    let s := if bit val 0 then cmdOn s else s
    let s := if bit val 1 && fld val 16 16 == 0x5053 then cmdOff s else s
    let s := if bit val 2 then holdTest s else s
    let s := if bit val 3 then traceTrigger s else s
    if bit val 4 then { s with psq := { s.psq with traceFrozen := false, tracePost := none } } else s

/-- PSQ_CMD_ON (R339). -/
def execPsqCmdOn (val : Word) (s : State) : Out := .next <| settle <| if bit val 0 then psqCmd s val else s

/-- PSQ_CMD_OFF (R333): acted on only with the key. -/
def execPsqCmdOff (val : Word) (s : State) : Out := .next <| settle <| if bit val 1 then psqCmd s val else s

/-- PSQ_HOLD_TEST (R346). -/
def execPsqHoldTest (val : Word) (s : State) : Out := .next <| settle <| if bit val 2 then psqCmd s val else s

/-- PSQ_TRACE_FREEZE (R355). -/
def execPsqTraceFreeze (val : Word) (s : State) : Out := .next <| settle <| if bit val 3 then psqCmd s val else s

/-- PSQ_TRACE_UNFREEZE (R355). -/
def execPsqTraceUnfreeze (val : Word) (s : State) : Out := .next <| settle <| if bit val 4 then psqCmd s val else s

-- discharge and minimum off time

/-- RAIL_DISCHARGED (R335). -/
def execRailDischarged (rail ms : Nat) (s : State) : Out :=
  .next <| settle <|
    let r := railOf s rail
    if r.discharging then
      walk (trace (setRail s rail { r with discharging := false, discharge := min 255 ms, pg := false }) 6 rail 0)
    else s

/-- DISCHARGE_TIMEOUT (R335): logged and counted; the walk goes on. -/
def execDischargeTimeout (rail : Nat) (s : State) : Out :=
  .next <| settle <|
    let r := railOf s rail
    if r.discharging then
      let s := setRail s rail { r with discharging := false, disTimeout := true, timeouts := satAdd 8 r.timeouts 1 }
      let s := icu (trace s 6 rail 1) (328 + rail)
      walk (if coreUp s then report s Pg.psq 17 0 else s)
    else s

/-- MIN_OFF_TIME_EXPIRY (R339): a latched on begins its power-up. -/
def execMinOffTimeExpiry (s : State) : Out :=
  .next <| settle <|
    if s.psq.minOff || coreUp s then s
    else
      let s := { s with psq := { s.psq with minOff := true } }
      if s.psq.st = 5 then
        let go := s.psq.onLatched && s.psq.input && onAllowed s
        let s := { s with psq := { s.psq with st := 0, onLatched := false } }
        if go then startPowerUp s false else s
      else s

-- input power

/-- INPUT_PRESENT (R341, R343, R151, R152, R333, R339): the outcome of the warm checks is kept for the moment they run. -/
def execInputPresent (canaryOk : Bool) (weak : List Nat) (s : State) : Out :=
  .next <| settle <|
    if s.psq.input || !s.psq.vao then s
    else
      let ok := some (canaryOk, weak)
      let s := trace (icu { s with psq := { s.psq with input := true, below := false } } 353) 8 0 1
      let s := updateHold { s with psq := { s.psq with holdLoss := false } }
      let h := s.gen.hem
      if h.active && s.psq.st == 2 then setHem s { h with returned := true, warmOk := ok }
      else if h.st = 4 ∧ (s.psq.st = 6 ∨ s.psq.st = 4) then
        let s := wrF s Reg.genKaLast 16 16 (min 65535 (kaServed s))
        let s := updateHold { s with psq := { s.psq with holdKa := false } }
        startPowerUp (setHem s { s.gen.hem with warmOk := ok }) true
      else if (s.psq.st == 3 || s.psq.st == 4 || s.psq.st == 5) && onAllowed s then latchOn s 1
      else s

/-- What a power cycle clears (R342, R79, R333, R349, R350, R387, R395). -/
def clearLatches (s : State) : State :=
  let s := if s.psq.faultDriven = some 15 then driveFault s none else s
  let s := forEach (Sparse.keys s.gen.groups) s fun s g => setGrp s g { grp s g with fails := 0, lockout := false }
  { s with
    psq := { s.psq with
      softOff := false
      shutdown := false
      heldInReset := false
      st := if s.psq.st = 7 ∨ s.psq.st = 8 then (if s.psq.minOff then 0 else 5) else s.psq.st }
    thm := { s.thm with lost := false } }

/-- POWER_CYCLE (R342, R542): the input has been absent for 500 ms without a break. -/
def execPowerCycle (s : State) : Out :=
  .next <| settle <|
    if s.psq.input then s else clearLatches (addSat s Reg.sysPowerCycles 0 24 1)

-- VAO (R531)

/-- Registers held in the selvedge, which take their reset values when VAO comes up (R356, R424, R427, R519; the hem's
figures: log entry 19). -/
def selvedgeReg (a : Nat) : Bool :=
  a / 0x1000 == 0x06 || a == Reg.sysSeconds || a == Reg.sysPowerCycles || (decide (0x2300 ≤ a) && decide (a < 0x2340)) ||
    a == Reg.fltSticky || a == Reg.genHemState || (decide (0xC218 ≤ a) && decide (a < 0xC228))

/-- VAO_RESET (R531, R342, R542): every rail is off and the selvedge is lost; what flash, one-time memory and the
configuration area hold stays. -/
def execVaoReset (s : State) : Out :=
  .next <| settle <|
    let s := coreLost (setHem s { record := s.gen.hem.record })
    let s := clearLatches { s with psq := { vao := false, cyclesPending := true } }
    { s with
      regs := s.regs.filter fun e => keepsReg e.1 && !selvedgeReg e.1
      icu := {}
      evr := { s.evr with latch := [], latchLost := 0 }
      flt := { s.flt with fences := [], skipped := 0, last464 := none, last465 := none }
      gen := { s.gen with map := [], loc := [], lineBits := [] }
      dram := {}
      bat := { knownSerial := s.bat.knownSerial, packTerm := s.bat.shipTaken }
      thm := {}
      sb := {}
      hl := { s.hl with bif0 := false, bif1 := false, strap0 := false, strap1 := false } }

/-- VAO_RESET_RELEASE (R531, R484): the address straps are sampled. -/
def execVaoResetRelease (strap : Nat) (s : State) : Out :=
  .next <| settle <|
    if s.psq.vao then s
    else { s with psq := { s.psq with vao := true }, sb := { s.sb with strap := strap % 8 } }

-- the hold-up converter (R344, R346)

/-- The limit of PSQ_HOLD_CFG is exceeded: judged once for each assertion (R344). -/
def holdSlow (s : State) : State :=
  if s.psq.holdJudged then s
  else
    let s := { s with psq := { s.psq with holdJudged := true } }
    if coreUp s then report s Pg.psq 18 0 else s

/-- HOLD_PG_RISE (R344), `t` in 10 µs after HOLD_EN. -/
def execHoldPgRise (t : Nat) (s : State) : Out :=
  .next <| settle <|
    if s.psq.holdEn then
      let s := railPg s 22 true
      let s := setRail s 22 { railOf s 22 with up := true }
      let s := { s with psq := { s.psq with holdTime := min 255 t } }
      if rf s Reg.psqHoldCfg 0 8 < t then holdSlow s else { s with psq := { s.psq with holdJudged := true } }
    else s

/-- HOLD_PG_LIMIT_EXPIRY (R344). -/
def execHoldPgLimitExpiry (s : State) : Out :=
  .next <| settle <| if s.psq.holdEn && !(railOf s 22).pg then holdSlow s else s

/-- HOLD_PG_FALL (R344). -/
def execHoldPgFall (s : State) : Out :=
  .next <| settle <|
    if s.psq.holdEn && (railOf s 22).pg then
      let s := railPg s 22 false
      holdFail (setRail s 22 { railOf s 22 with up := false }) 2
    else s

/-- HOLD_TEST_END (R346, source 362): passed if HOLD_PG rose within the limit. -/
def execHoldTestEnd (s : State) : Out :=
  .next <| settle <|
    if s.psq.holdTest then
      let ok := (railOf s 22).pg && decide (s.psq.holdTime ≤ rf s Reg.psqHoldCfg 0 8)
      icu (updateHold { s with psq := { s.psq with holdTest := false, testPassed := ok } }) 362
    else s

-- resets, SYS_FAULT_N, latch, VID

/-- RESET_STRETCH_EXPIRY (R348): DGk has been up for its stretch time. -/
def execResetStretchExpiry (k : Nat) (s : State) : Out :=
  .next <| settle <|
    if decide (k < 8) && (railOf s (6 + k)).up then
      let s := setRail s (6 + k) { railOf s (6 + k) with stretched := true }
      if rb s Reg.psqRstCtrl k || s.psq.heldInReset then s else setRst s k true
    else s

/-- A write of PSQ_RST_CTRL (R348): a set bit asserts its output, a cleared one frees it. -/
def rstCtrl (s : State) (val : Word) : State :=
  let s := wr s Reg.psqRstCtrl (wd (fld val 0 8))
  forEach (List.range 8) s fun s k =>
    if bit val k then setRst s k false
    else if (railOf s (6 + k)).up && (railOf s (6 + k)).stretched && !s.psq.heldInReset then setRst s k true else s

/-- PSQ_RST_CTRL_WRITE (R348, R36). -/
def execPsqRstCtrlWrite (val : Word) (s : State) : Out :=
  .next <| settle <|
    if locked s Pg.psq && rf s Reg.psqRstCtrl 0 8 != fld val 0 8 then accessErr s Pg.psq else rstCtrl s val

/-- TRIGGER2_ARM (R351): SYS_FAULT_N has read high for 1 ms; from the start of memory service on that arms trigger 2. -/
def execTrigger2Arm (s : State) : Out :=
  .next <| settle <|
    if s.psq.faultDriven.isSome then s
    else
      let s := { s with psq := { s.psq with faultLow := false } }
      if s.psq.restoreBegun && !s.psq.armed then icu { s with psq := { s.psq with armed := true } } 356 else s

/-- LATCH_OPEN_CHANGE (R352, R467): an opened latch abandons a reconstruction. -/
def execLatchOpenChange (isOpen : Bool) (s : State) : Out :=
  .next <| settle <|
    let s := { s with psq := { s.psq with latchOpen := isOpen } }
    if isOpen then abandonReconstruction s else s

/-- VID_STEP (R532): one code toward the target, within 8 to 25; held from a hem cut until step 6 ends and while a domain
switches on. -/
def execVidStep (target : Nat) (s : State) : Out :=
  .next <| settle <|
    let t := max 8 (min 25 target)
    if !coreUp s || (s.gen.hem.active && !s.gen.hem.step6) || decide (0 < switchingOn s) then s
    else if s.psq.vid < t then { s with psq := { s.psq with vid := s.psq.vid + 1 } }
    else if t < s.psq.vid then { s with psq := { s.psq with vid := s.psq.vid - 1 } }
    else s

end Sys2Proof.Machine
end

