-- ==== Sys2Proof/Machine/Thermal.lean ====
section
/-! DEFINITION. Thermal management (chapter 11): the meanings. Temperatures are in 0.1 °C but for those that the DRAM and
flash dies report in whole °C. -/

namespace Sys2Proof.Machine

open Bits

-- neighbours (R386)

/-- The larger of two values, one of which may be missing. -/
def maxOpt (a : Option Int) (b : Int) : Option Int := some (match a with
  | none => b
  | some x => max x b)

/-- An offset of THM_NEIGH_OFFS, 0.1 °C. -/
def neighOff (s : State) (k : Nat) : Int := 10 * sfld (rd s Reg.thmNeighOffs) (8 * k) 8

/-- The DRAM estimate: the hottest device of the unfenced channels. -/
def neighDram (s : State) : Option Int :=
  ((s.thm.dram.filter fun e => !chFenced s e.1).foldl (fun a e => maxOpt a e.2) none).map fun t => 10 * t + neighOff s 0

/-- The NAND estimate: the hottest die of the unfenced channels. -/
def neighNand (s : State) : Option Int :=
  ((s.fst.chs.filter fun e => !fchFenced s e.1).foldl (fun a e => match e.2.temp with
    | some t => maxOpt a t
    | none => a) none).map fun t => 10 * t + neighOff s 1

/-- The thermistor's reading, if input 28 has been read and shows no fault (R362). -/
def packReading (s : State) : Option Int :=
  if rb s (Reg.psqScann 28) 15 && !rb s (errStatusA Pg.bat) 18 then some s.bat.temp else none

/-- The pack estimate, unless the thermistor is suspect (R388). -/
def neighPack (s : State) : Option Int := if s.thm.packSuspect then none else (packReading s).map (· + neighOff s 2)

/-- The estimates that exist. -/
def neighbours (s : State) : List Int := [neighDram s, neighNand s, neighPack s].filterMap id

/-- The middle of three, the mean of two, the single one (R386). -/
def medianOf (l : List Int) : Option Int :=
  match l with
  | [a] => some a
  | [a, b] => some ((a + b) / 2)
  | [a, b, c] => some (max (min a b) (min (max a b) c))
  | _ => none

/-- A byte of THM_NEIGH: whole °C, 0x80 for none (R398). -/
def neighByte (o : Option Int) : Nat := match o with
  | none => 0x80
  | some t => ofInt 8 (t / 10)

-- the flash write window (R393)

/-- What each unfenced channel of the store is judged on. -/
def windowTemps (s : State) : List Int :=
  ((List.range 32).filter fun c => rb s (Reg.fchMount c) 0 && !fchFenced s c).filterMap fun c =>
    if (fgeom s).declaresTemp then (fchOf s c).temp.map (10 * ·) else some (s.thm.inUse - neighOff s 1)

/-- The window closes with a value outside 0 °C to 85 °C and opens with all inside 2 °C to 83 °C; lost sensors hold it
closed (R387). -/
def judgeWindow (s : State) : State :=
  let l := windowTemps s
  if thmLost s then setWindow s true
  else if l.any fun t => decide (t < 0) || decide (850 < t) then setWindow s true
  else if !l.isEmpty && l.all fun t => decide (20 ≤ t) && decide (t ≤ 830) then setWindow s false
  else s

-- pacing (R389, R390)

/-- Limits of THM_LIMITS, 0.1 °C: ask 0, enforce 1, relief 2, clear 3. -/
def thmLimit (s : State) (k : Nat) : Int := 10 * (rf s Reg.thmLimits (8 * k) 8 : Nat)

/-- The pacing rows have changed from `was`: groups whose open count rose in the last 10 ms are asked, or reason THERMAL
ends (source 384). -/
def pacingRows (s : State) (was : Bool) : State :=
  let row := thermalRow s
  if row = was then s
  else if row then
    icu (forEach ((enabledGroups s).filter fun g => s.gen.rose.any fun e => e.1 == g && decide (now s ≤ e.2 + 330)) s thermalAsk) 384
  else icu (thermalClear s) 384

/-- The shutdown latch (R395): an off request, with a hem under trigger 3 first where there is something to save. A
further shutdown condition while the latch stands is only logged, in a hem as a further trigger 3 (R136). -/
def latchShutdown (s : State) : State :=
  if s.psq.shutdown then furtherTrigger s 3
  else
    let s := report s Pg.thm 20 0
    let s := { s with thm := { s.thm with shutRecord := true, shutShown := true }, psq := { s.psq with shutdown := true } }
    offRequest s 3 6

/-- The rows that are judged on every new figure in use (R385, R389). -/
def judgeAbs (s : State) : State :=
  let t := s.thm.inUse
  let was := thermalRow s
  let ask := if thmLimit s 0 ≤ t then true else if t ≤ thmLimit s 0 - thmLimit s 3 then false else s.thm.askAbs
  let enf := decide (thmLimit s 1 ≤ t)
  let rel := if thmLimit s 2 ≤ t then true else if t ≤ thmLimit s 2 - thmLimit s 3 then false else s.thm.reliefAll
  let change := enf != s.thm.enforce
  let s := { s with thm := { s.thm with askAbs := ask, enforce := enf, reliefAll := rel } }
  let s := pacingRows s was
  let s := if change then icu s 385 else s
  let s := if change && enf && enabled s Pg.thm then
      forEach ((s.gen.groups.filter fun e => e.2.pacing.any fun r => r.reason == 4).map Prod.fst) s fun s g => enforce s g 4
    else s
  let s := applyRelief s
  let newly := decide (1150 ≤ t) && !s.thm.atLimit
  let s := { s with thm := { s.thm with atLimit := decide (1150 ≤ t) } }
  if newly then latchShutdown s else s

-- sensors (R385, R387)

/-- The sensors are lost: the latch of R387 (source 390). -/
def sensorsLost (s : State) : State :=
  if s.thm.broken && (neighbours s).isEmpty && !s.thm.lost then
    lostResponses (icu (report { s with thm := { s.thm with lost := true } } Pg.thm 17 0) 390)
  else s

/-- The diode is declared broken (source 389). -/
def diodeBroken (s : State) : State :=
  if s.thm.broken then s
  else sensorsLost (icu (report { s with thm := { s.thm with broken := true } } Pg.thm 16 0) 389)

/-- The figure in use (R385, R387): with a broken diode the largest neighbour plus 10 °C; without a neighbour the spec
states no figure, and the value is free (log entry 4). -/
def setInUse (s : State) : State :=
  let r : Int × State :=
    if s.thm.broken then
      match (neighbours s).foldl maxOpt none with
      | some t => (t + 100, s)
      | none => let v := freeVal s; (v.1.toInt, v.2)
    else (s.thm.diode, s)
  let s := extreme (extreme r.2 0 r.1 true) 1 r.1 false
  { s with thm := { s.thm with
    inUse := r.1
    peak := if s.thm.live then max s.thm.peak r.1 else r.1
    live := true } }

/-- DIODE_READ (R385, R387, R389, R395). -/
def execDiodeRead (t : Int) (s : State) : Out :=
  .next <| settle <|
    if !coreUp s then s
    else
      let l := (t :: s.thm.reads).take 4
      let s := { s with thm := { s.thm with reads := l, diode := l.sum / (l.length : Int) } }
      let s := if t < -500 ∨ 1500 < t then diodeBroken s else s
      judgeAbs (setInUse s)

-- the check (R385 to R390, R394)

/-- The cross-check of the diode: three disagreements break it. -/
def crossCheck (s : State) : State :=
  match medianOf (neighbours s) with
  | none => { s with thm := { s.thm with disagree := 0 } }
  | some m =>
    let n := if 150 < (s.thm.diode - m).natAbs then min 3 (s.thm.disagree + 1) else 0
    let s := { s with thm := { s.thm with disagree := n } }
    if n = 3 then diodeBroken s else s

/-- The thermistor's cross-check (R388): suspect after three checks beyond 25 °C, cleared after ten within 20 °C. -/
def packCheck (s : State) : State :=
  match packReading s, neighDram s, neighNand s with
  | some t, some a, some b =>
    let d := (t - (a + b) / 2).natAbs
    let off := if 250 < d then s.thm.packOff + 1 else 0
    let on := if d ≤ 200 then s.thm.packOn + 1 else 0
    let s := { s with thm := { s.thm with packOff := off, packOn := on } }
    if !s.thm.packSuspect && decide (3 ≤ off) then
      chargeControl (icu (report { s with thm := { s.thm with packSuspect := true } } Pg.thm 18 0) 391)
    else if s.thm.packSuspect && decide (10 ≤ on) then icu { s with thm := { s.thm with packSuspect := false } } 391
    else s
  | _, _, _ => { s with thm := { s.thm with packOff := 0, packOn := 0 } }

/-- The rate of rise in 0.1 °C/s, once a figure has been held for 1 s (R385). -/
def rateStep (s : State) : State :=
  let old := s.thm.past[9]?
  { s with thm := { s.thm with
    rate := match old with
      | some t => s.thm.inUse - t
      | none => 0
    rateValid := old.isSome
    past := (s.thm.inUse :: s.thm.past).take 10 } }

/-- The highest rate of rise, in 0.01 °C/s (R447). -/
def noteRate (s : State) : State := if s.thm.rateValid then extreme s 7 (10 * s.thm.rate) true else s

/-- The rate rows: pacing, and the emergency after 20 consecutive checks (R389, R394). -/
def judgeRate (s : State) : State :=
  if !s.thm.rateValid then s
  else
    let r := s.thm.rate
    let ask : Int := (rf s Reg.thmRateCfg 0 8 : Nat)
    let was := thermalRow s
    let low := if 2 * r < ask then s.thm.rateLow + 1 else 0
    let on := if ask ≤ r then true else if s.thm.askRate && decide (10 ≤ low) then false else s.thm.askRate
    let hot := if 80 ≤ r then s.thm.hot + 1 else 0
    let s := pacingRows { s with thm := { s.thm with rateLow := low, askRate := on, hot := hot } } was
    if hot = 20 ∧ s.thm.emergency = true then furtherTrigger s 3
    else if 20 ≤ hot ∧ s.thm.emergency = false then
      let s := { s with thm := { s.thm with emergency := true } }
      let s := icu (report s Pg.thm 19 0) 392
      latchShutdown (hemCut s 3)
    else s

/-- THM_CHECK (R385), every 100 ms. -/
def execThmCheck (s : State) : Out :=
  .next <| settle <|
    if !coreUp s then s
    else
      let n := neighByte (neighDram s) + 256 * neighByte (neighNand s) + 65536 * neighByte (neighPack s) +
        2 ^ 24 * neighByte (medianOf (neighbours s))
      let s := wr s Reg.thmNeigh (wd n)
      let s := if s.thm.live && !s.thm.broken then crossCheck s else sensorsLost s
      let s := packCheck s
      let s := if s.thm.broken then judgeAbs (setInUse s) else s
      let s := if s.thm.live then judgeRate (noteRate (rateStep s)) else s
      let s := if thmLimit s 0 ≤ s.thm.inUse then { s with thm := { s.thm with askTicks := s.thm.askTicks + 1 } } else s
      let s := if thmLost s then applyDoubled (applyRelief (forEach (enabledGroups s) s thermalJoin)) else s
      judgeWindow s

/-- DRAM_TEMP_READ (R392, R389): the hotter subchannel governs its channel's relief and doubled regime. -/
def execDramTempRead (ch : Nat) (a b : Byte) (s : State) : Out :=
  .next <| settle <|
    if coreUp s && decide (ch < 16) && dchPopulated s ch && !chFenced s ch then
      let t := max a.toInt b.toInt
      let s := extreme (wr s (Reg.dchTemp ch) (wd (a.toNat + 256 * b.toNat))) 2 t true
      let rel : Int := (rf s Reg.thmDramCfg 8 8 : Nat)
      let dbl : Int := (rf s Reg.thmDramCfg 0 8 : Nat)
      let put := fun (l : List Nat) (on off : Bool) =>
        if on then (if l.contains ch then l else l ++ [ch]) else if off then l.filter (· != ch) else l
      let s := { s with thm := { s.thm with
        dram := Sparse.set (fun _ => (-1000 : Int)) s.thm.dram ch t
        reliefCh := put s.thm.reliefCh (decide (rel ≤ t)) (decide (t ≤ rel - 3))
        doubled := put s.thm.doubled (decide (dbl < t)) (decide (t ≤ dbl - 2)) } }
      applyDoubled (applyRelief s)
    else s

/-- NAND_TEMP_READ (R296, R393, R145): outside 0 °C to 85 °C during a hem the outside-window flag is set. -/
def execNandTempRead (ch : Nat) (temp : Byte) (target : Nat) (s : State) : Out :=
  .next <| settle <|
    if coreUp s && decide (ch < 32) && rb s (Reg.fchMount ch) 0 && !fchFenced s ch then
      let s := wr s (Reg.fchTemp ch) (wd (temp.toNat + 256 * (target % 256)))
      let s := setFch s ch { fchOf s ch with temp := some temp.toInt }
      let s := extreme (extreme s 3 temp.toInt true) 4 temp.toInt false
      let s := if s.gen.hem.active && !s.gen.hem.step6 && nandOutside s then hemFlag s 8 true else s
      judgeWindow s
    else s

-- status (R397 to R399)

/-- THM_TJ, THM_RATE, THM_STATE, THM_HIST (R398, R399). -/
def thmTjWord (s : State) : Word := wd (ofInt 16 s.thm.inUse + 65536 * ofInt 16 s.thm.diode)
def thmRateWord (s : State) : Word := wd (if s.thm.rateValid then ofInt 16 (10 * s.thm.rate) else 0)
def thmStateWord (s : State) : Word :=
  wd (s.thm.askAbs.toNat + 2 * s.thm.askRate.toNat + 4 * s.thm.enforce.toNat + 8 * s.thm.reliefAll.toNat +
    16 * s.thm.windowClosed.toNat + 32 * s.thm.broken.toNat + 64 * s.thm.packSuspect.toNat + 128 * s.thm.lost.toNat +
    256 * s.thm.emergency.toNat + 512 * s.thm.shutShown.toNat + 65536 * maskOf 16 fun c => (dchOf s c).doubledReq)
def thmHistWord (s : State) : Word := wd (ofInt 16 s.thm.peak + 65536 * min 65535 (s.thm.askTicks / 600))

/-- Get Thermal Status (R397). -/
def mbGetThermalStatus (ld : Nat) (inp : List Byte) (s : State) : State :=
  if inp.length ≠ 0 then replyBad s ld
  else
    replyOk s ld (zeros 2 ++ leBytes 2 (thmTjWord s).toNat ++ leBytes 2 (thmRateWord s).toNat ++ leBytes 2 (ofInt 16 s.thm.peak) ++
      leBytes 4 (thmStateWord s).toNat ++ leBytes 4 (rd s Reg.thmNeigh).toNat ++ leBytes 2 (min 65535 (s.thm.askTicks / 600)) ++ zeros 6)

/-- GET_THERMAL_STATUS (R397). -/
def execGetThermalStatus (ld : Nat) (inp : List Byte) (s : State) : Out := .next <| settle <| mbGetThermalStatus ld inp s

end Sys2Proof.Machine
end

