-- ==== Sys2Proof/Machine/Mirror.lean ====
section
/-! DEFINITION. What the device shows of a group: the group summary (R49), GEN_GROUP_STATE (R86), KEY_GROUP_STATUS (R90),
GENM_GROUP_PACING (R132), the pacing view (R198), and the Status Mirror (R204 to R206). -/

namespace Sys2Proof.Machine

open Bits

-- groups

/-- Flags of a summary (R49). -/
def groupFlags (s : State) (g : Nat) : Nat :=
  let gr := grp s g
  (grpEnabled s g).toNat + 2 * (tackedGen gr).isSome.toNat + 4 * gr.queued.isSome.toNat + 8 * gr.quiesced.toNat +
    16 * gr.unpick.isSome.toNat + 32 * (grpLocked s g).toNat + 64 * (ringFlag gr).toNat + 128 * gr.armed.toNat +
    256 * (noBaste s g).toNat

/-- The 16 bytes of a group's summary (R49). -/
def groupSummary (s : State) (g : Nat) : List Byte :=
  let gr := grp s g
  leBytes 6 (if grpEnabled s g then gr.openGen else 0) ++ leBytes 2 (groupFlags s g) ++ leBytes 6 (sewnNum gr) ++
    leBytes 1 gr.outcome ++ leBytes 1 gr.tag

/-- GEN_GROUP_STATE (R86). -/
def groupStateWord (s : State) (g : Nat) : Word :=
  let gr := grp s g
  wd (groupFlags s g + 512 * (lineageCount gr - 1) + 4096 * gr.fails + 65536 * gr.outcome + 2 ^ 24 * gr.tag)

/-- KEY_GROUP_STATUS (R90). -/
def keyGroupWord (s : State) (g : Nat) : Word :=
  let gr := grp s g
  wd (gr.key.isSome.toNat + 2 * (gr.hostMode && gr.key.isNone).toNat + 4 * gr.hostMode.toNat + 16 * gr.fails +
    256 * gr.lockout.toNat)

/-- GROUP_BUDGET applies and the group has no tacked generation (R129). -/
def noTacked (s : State) (g : Nat) : Bool :=
  ((grp s g).pacing.any fun r => r.reason == 1) && (tackedGen (grp s g)).isNone

/-- GENM_GROUP_PACING (R132). -/
def groupPacingWord (s : State) (g : Nat) : Word :=
  let gr := grp s g
  let r := governing gr.pacing
  wd ((r.map (·.reason)).getD 0 + 8 * r.isSome.toNat + 16 * (grpEnforced s g).toNat + 32 * (noTacked s g).toNat +
    65536 * gr.paceEvents)

/-- GENM_BUDGET (R132). -/
def budgetWord (s : State) : Word :=
  wd (s.gen.budget + 65536 * s.gen.budgetByEnergy.toNat + 2 ^ 17 * min 32767 s.gen.budgetEnergy)

/-- The pacing view of a window, as its owner reads it (R198). -/
def pacingView (s : State) (w : Nat) : Word :=
  let r := winGoverning s w
  let e := winEnforced s w
  wd ((r.map (·.reason)).getD 0 + 8 * r.isSome.toNat + 16 * e.toNat + 32 * (winOnline s w).toNat +
    65536 * (if !e then 0xFFFF else if (r.map (·.reason)) = some 6 then 0 else min 0xFFFE ((winOf s w).rate / 64000000)))

-- the Status Mirror (R205)

/-- The group is online: it has valid windows, and all are online (R205). -/
def grpOnline (s : State) (g : Nat) : Bool := !(winsOf s g).isEmpty && (winsOf s g).all (winOnline s)

/-- A group record (R205). -/
def groupRecord (s : State) (g : Nat) : List Byte :=
  let gr := grp s g
  let r := governing gr.pacing
  let b := grpBudget s g
  let u := unsewn s g
  leBytes 1 ((r.map (·.reason)).getD 0) ++
    leBytes 1 (r.isSome.toNat + 2 * (grpEnforced s g).toNat + 4 * (noTacked s g).toNat) ++
    leBytes 2 (min 65535 ((r.map (·.target)).getD 0 / 4000000)) ++
    leBytes 2 (if b = 0 then (if u = 0 then 0 else 65535) else min 65535 (u * 1000 / b)) ++
    leBytes 2 (min 65535 ((r.map fun r => (now s - r.posted) * 1000 / 32768).getD 0))

/-- The battery byte and the thermal byte (R205). -/
def batteryByte (s : State) : Nat := (batStateWord s).toNat % 32
def thermalByte (s : State) : Nat :=
  (s.thm.askAbs || s.thm.askRate).toNat + 2 * s.thm.windowClosed.toNat +
    4 * ((List.range 16).any fun c => (dchOf s c).doubledReq).toNat + 8 * s.thm.broken.toNat

/-- The flags byte (R205). -/
def mirrorFlags (s : State) : Nat :=
  (persistLost s).toNat + 2 * (s.evr.mode == 2).toNat + 4 * (fwAvailable s).toNat +
    8 * (s.psq.faultLow || s.psq.faultDriven.isSome).toNat + 16 * s.psq.latchOpen.toNat + 32 * s.thm.shutShown.toNat

/-- The fields between the two sequence words (R205). -/
def mirrorFields (s : State) : List Byte :=
  let rw := (restoreWord s).toNat
  leBytes 2 1 ++ leBytes 1 s.psq.level ++ leBytes 1 (mirrorFlags s) ++ leBytes 4 (seconds s) ++
    leBytes 1 s.gen.hem.st ++ leBytes 1 s.gen.hem.trigger ++ leBytes 2 (rw % 65536) ++
    leBytes 2 (rf s Reg.genHemState 8 5) ++ leBytes 2 s.gen.budget ++ leBytes 1 (fld (budgetWord s) 16 1) ++
    leBytes 1 (thermalByte s) ++ leBytes 1 (batteryByte s) ++ leBytes 1 (batSoc s / 10) ++
    leBytes 4 (globalUnsewn s) ++ leBytes 4 s.bat.energy ++ leBytes 2 (ofInt 16 s.thm.inUse) ++ leBytes 2 (hostGib s) ++
    leBytes 4 (newestSeq s) ++ leBytes 2 (maskOf 16 (chFenced s)) ++ zeros 2 ++ leBytes 4 (maskOf 32 (fchFenced s)) ++
    leBytes 4 (rd s (Reg.hlMirrorFw 0)).toNat ++ ((List.range 4).flatMap fun p => leBytes 1 (portByte s p)) ++
    leBytes 4 s.hl.offlineWrites ++ zeros 4 ++
    groupMask (fun g => !(grp s g).pacing.isEmpty) ++ groupMask (grpEnforced s) ++ groupMask (grpLocked s) ++
    groupMask (grpOnline s) ++ groupMask (fun g => (grp s g).incomplete) ++ zeros 32 ++
    ((List.range 256).flatMap (groupRecord s)) ++ zeros 0x6FC

/-- The mirror as a refresh with sequence number `n` leaves it (R206). -/
def mirrorBytes (s : State) (n : Nat) : List Byte := leBytes 4 n ++ mirrorFields s ++ leBytes 4 n

/-- The mirror as last refreshed; before the first refresh every byte is 0. -/
def mirrorNow (s : State) : List Byte := s.hl.mirror

/-- STATUS_MIRROR_REFRESH (R206): seq_head, fields, seq_tail. -/
def execStatusMirrorRefresh (s : State) : Out :=
  .next <|
    if coreUp s then
      let n := (s.hl.mirrorSeq + 1) % 2 ^ 32
      { s with hl := { s.hl with mirrorSeq := n, mirror := mirrorBytes s n } }
    else s

-- BAR0 of a logical device (R24, R190, R198, R207)

/-- The mirror as a logical device reads it: the fields of groups it does not see are 0 (R207). -/
def mirrorSeen (s : State) (ld : Nat) : List Byte :=
  let m := padTo 4096 (mirrorNow s)
  let see := groupMask (ldSees s ld)
  let masks := (List.range 5).flatMap fun k => List.zipWith (· &&& ·) ((m.drop (0x40 + 32 * k)).take 32) see
  let recs := (List.range 256).flatMap fun g => if ldSees s ld g then (m.drop (0x100 + 8 * g)).take 8 else zeros 8
  m.take 0x40 ++ masks ++ (m.drop 0xE0).take 0x20 ++ recs ++ m.drop 0x900

/-- A group's summary as a logical device reads it (R190). -/
def summarySeen (s : State) (ld g : Nat) : List Byte := if ldSees s ld g then groupSummary s g else zeros 16

/-- A window's pacing view as a logical device reads it: 0 for one it does not own (R198). -/
def pacingSeen (s : State) (ld w : Nat) : Word := if winValid s w && winLd s w == ld then pacingView s w else 0#32

/-- The mailbox registers and the payload area of 2,048 bytes (R199); their places are those of the CXL specification (log
entry 14): capabilities at 0, doorbell at 4, command at 8, status at 16, background status at 24, payload from 32. -/
def mailboxBytes (s : State) (ld : Nat) : List Byte :=
  let v := ldOf s ld
  let cmd := (v.doorbell.map Prod.fst).getD 0
  padTo 4096 (leBytes 4 11 ++ leBytes 4 v.doorbell.isSome.toNat ++ leBytes 8 cmd ++
    leBytes 8 (v.bg.isSome.toNat + 2 ^ 32 * v.rc) ++
    leBytes 8 ((v.bg.getD 0) + 2 ^ 16 * v.bgPct + 2 ^ 32 * v.bgRc) ++ (padTo 2048 v.out).take 2048)

/-- Byte `off` of a logical device's BAR0 (R24); a reserved offset reads 0 (R25). -/
def barByte (s : State) (ld off : Nat) : Byte :=
  if off < 0x1000 then (mailboxBytes s ld).getD off 0#8
  else if off < 0x2000 then (mirrorSeen s ld).getD (off - 0x1000) 0#8
  else if off < 0x3000 then 0#8
  else if off < 0x4000 then (summarySeen s ld ((off - 0x3000) / 16)).getD (off % 16) 0#8
  else if off < 0x8000 then (leBytes 4 (pacingSeen s ld ((off - 0x4000) / 4)).toNat).getD (off % 4) 0#8
  else 0#8

/-- A reserved offset of BAR0 (R24). -/
def barReserved (off : Nat) : Bool := (decide (0x2004 ≤ off) && decide (off < 0x3000)) || decide (0x8000 ≤ off)

/-- BAR0_RESERVED_ACCESS (R25): a read of a reserved offset returns 0, a write is discarded and counted. A read of any other
offset returns what BAR0 holds there for the logical device. -/
def execBar0ReservedAccess (ld off : Nat) (write : Bool) (s : State) : Out :=
  .next <|
    if write then (if barReserved off then hlCount s Reg.hlRsvdWrites (ld / 16) else s)
    else { s with hl := { s.hl with barRead := wd (ofLe ((List.range 4).map fun i => barByte s ld (off + i))) } }

end Sys2Proof.Machine
end

