-- ==== Sys2Proof/Machine/Sb.lean ====
section
/-! DEFINITION. The sideband buses (chapter 15): SB0, the host's target, and SB1, the controller of the module's parts.
What the other side of a bus does is an operand of the command. -/

namespace Sys2Proof.Machine

open Bits

-- SB0 (R483 to R490)

/-- SB0 recognises its address: VCORE up, its domain on, the block enabled and not fenced (R489). -/
def sb0Ready (s : State) : Bool :=
  coreUp s && (domOf s 107).st == 2 && enabled s Pg.sb0 && !isFenced s Pg.sb0 0

/-- A transaction ends without an acknowledge. -/
def sb0Nack (s : State) : State := { s with sb := { s.sb with ack := false, data := [] } }

/-- An acknowledged transaction, with the bytes it reads (SB0_XACTS wraps). -/
def sb0Ack (s : State) (data : List Byte) : State :=
  addWrap { s with sb := { s.sb with ack := true, data := data } } Reg.sb0Xacts 0 32 1

/-- A read command. -/
def sb0Read (s : State) (data : State → List Byte) : State := if sb0Ready s then sb0Ack s (data s) else sb0Nack s

/-- An error of SB0: its count in SB0_ERRS, its ERR_STATUS bit, its source (R500, R501). -/
def sb0Error (s : State) (k : Nat) : State := report (addSat s Reg.sb0Errs (8 * k) 8 1) Pg.sb0 (16 + k) 0

/-- The PEC rule of R487 for a write whose data bytes were acknowledged. -/
def sb0Write (s : State) (pec : Pec) (act : State → State) : State :=
  if pec = .bad ∨ (pec = .absent ∧ rb s Reg.sb0Cfg 0 = true) then sb0Error (sb0Ack s []) 0 else act (sb0Ack s [])

/-- Bytes of the running image's version (R485). -/
def runningVersion (s : State) : Nat := imgVersion s s.upd.slot

/-- SB0_READ_IDENTITY: code 0x00. -/
def execSb0ReadIdentity (s : State) : Out :=
  .next <| sb0Read s fun s => leBytes 2 0x1632 ++ leBytes 1 0xB0 ++ leBytes 1 s.psq.level ++ leBytes 4 (runningVersion s)

/-- SB0_READ_LEVEL: code 0x01. -/
def execSb0ReadLevel (s : State) : Out := .next <| sb0Read s fun s => leBytes 1 s.psq.level ++ leBytes 1 (mirrorFlags s)

/-- SB0_READ_TJ: code 0x02. -/
def execSb0ReadTj (s : State) : Out := .next <| sb0Read s fun s => leBytes 2 (ofInt 16 s.thm.inUse)

/-- SB0_READ_ENERGY: code 0x03. -/
def execSb0ReadEnergy (s : State) : Out :=
  .next <| sb0Read s fun s =>
    leBytes 4 s.bat.energy ++ leBytes 1 (batSoc s / 10) ++ leBytes 1 (batteryByte s) ++ leBytes 2 s.gen.budget

/-- SB0_READ_HEM: code 0x04. -/
def execSb0ReadHem (s : State) : Out :=
  .next <| sb0Read s fun s =>
    leBytes 1 s.gen.hem.st ++ leBytes 1 s.gen.hem.trigger ++ leBytes 1 s.gen.restore.phase ++ leBytes 1 (restorePct s)

/-- SB0_READ_EVENT_SEQ: code 0x05. -/
def execSb0ReadEventSeq (s : State) : Out := .next <| sb0Read s fun s => leBytes 4 (newestSeq s)

/-- SB0_SET_WINDOW: code 0x10; an offset out of range or not aligned is refused at its last data byte. -/
def execSb0SetWindow (data : Nat) (pec : Pec) (s : State) : Out :=
  .next <| settle <|
    if !sb0Ready s then sb0Nack s
    else if data % 4 ≠ 0 ∨ 0xFE0 < data then sb0Nack s
    else sb0Write s pec fun s => wr s Reg.sb0Window (wd data)

/-- SB0_READ_MIRROR: code 0x11; the window advances by 32 and wraps. -/
def execSb0ReadMirror (s : State) : Out :=
  .next <|
    let off := rf s Reg.sb0Window 0 12
    if sb0Ready s then
      wr (sb0Ack s ((List.range 32).map fun i => (mirrorNow s).getD ((off + i) % 4096) 0#8)) Reg.sb0Window
        (wd ((off + 32) % 4096))
    else sb0Nack s

/-- SB0_POWER_OFF: code 0x20 (R486). -/
def execSb0PowerOff (data : Nat) (pec : Pec) (s : State) : Out :=
  .next <| settle <|
    if !sb0Ready s then sb0Nack s
    else if data ≠ 0x5053 ∨ rb s Reg.sb0Cfg 1 = false ∨ rb s Reg.sb0CmdIn 31 = true then sb0Nack s
    else sb0Write s pec fun s =>
      let s := wr s Reg.sb0CmdIn (wd (0x20 + 256 * data + 2 ^ 31))
      icu { s with sb := { s.sb with result := 1 } } 400

/-- SB0_READ_RESULT: code 0x22. -/
def execSb0ReadResult (s : State) : Out := .next <| sb0Read s fun s => leBytes 1 s.sb.result

/-- SB0_UNKNOWN_COMMAND: not acknowledged at the command byte. -/
def execSb0UnknownCommand (_code : Nat) (s : State) : Out := .next (sb0Nack s)

/-- SB0_CMD_DONE written by firmware (R486): a result, 0 or 2, for the command that waits. -/
def sb0Done (s : State) (val : Word) : State :=
  let r := fld val 0 2
  if r = 1 ∨ r = 3 then accessErr s Pg.sb0
  else if rb s Reg.sb0CmdIn 31 then wrB { s with sb := { s.sb with result := r } } Reg.sb0CmdIn 31 false
  else s

/-- SB0_CMD_DONE (R486). -/
def execSb0CmdDone (val : Word) (s : State) : Out := .next <| settle <| sb0Done s val

/-- SB0_PROTOCOL_ERROR (R488). -/
def execSb0ProtocolError (s : State) : Out := .next <| settle <| if sb0Ready s then sb0Error (sb0Nack s) 1 else s

/-- SB0_TIMEOUT (R483): an SCL low of 25 ms. -/
def execSb0Timeout (s : State) : Out := .next <| settle <| if sb0Ready s then sb0Error (sb0Nack s) 2 else s

/-- SB0_WAKE_START (R489): acted on while SB0's domain is off; in soft-off with input it is an on request (R333). -/
def execSb0WakeStart (s : State) : Out :=
  .next <| settle <|
    if coreUp s then
      if (domOf s 107).st = 0 then domReq (icu (addSat s Reg.sb0Errs 24 8 1) 404) 107 true else s
    else if s.psq.input && s.psq.vao && s.psq.softOff && !s.psq.shutdown && !s.psq.heldInReset then
      let s := icu { s with psq := { s.psq with softOff := false } } 404
      if s.psq.minOff then startPowerUp s false else latchOn { s with psq := { s.psq with st := 5 } } 2
    else s

-- SB1 (R491 to R497)

/-- SB1 may issue a hardware transaction: VIO18 up, block and domain on, not fenced, no recovery in progress. -/
def sb1Ready (s : State) : Bool :=
  coreUp s && (railOf s 2).up && enabled s Pg.sb1 && (domOf s 108).st == 2 && !isFenced s Pg.sb1 0 && !s.sb.recovering

/-- From a hem cut until power-down or warm resume only the hold-up converter is read (R496). -/
def sb1Poll (s : State) : Bool := sb1Ready s && !hemBusy s

/-- What the bus's end of a transaction counts and sets (R493, R494, R499, R500). -/
def busEnd (s : State) (e : BusEnd) : State :=
  match e with
  | .ok | .timeout => s
  | .nack => report (addSat s Reg.sb1Errs 0 8 1) Pg.sb1 16 0
  | .arbLost => addSat s Reg.sb1Errs 8 8 1
  | .arbLostCtl => report (addSat s Reg.sb1Errs 16 8 1) Pg.sb1 17 0
  | .pecBad => report s Pg.sb1 18 0

/-- SB1_HOLDUP_STATUS_POLL (R492): a non-zero STATUS_WORD raises source 422. -/
def execSb1HoldupStatusPoll (e : BusEnd) (status : Nat) (s : State) : Out :=
  .next <| settle <|
    if sb1Ready s then
      let s := busEnd s e
      if e = .ok ∧ status ≠ 0 then icu s 422 else s
    else s

/-- SB1_CHARGER_CURRENT_WRITE (R492): a mismatch of the read-back has it sent again at the next poll. -/
def execSb1ChargerCurrentWrite (e : BusEnd) (back : Nat) (s : State) : Out :=
  .next <| settle <|
    if sb1Poll s && s.sb.setCurrent.isSome then
      let s := busEnd s e
      if (e = .ok ∨ e = .arbLostCtl) ∧ s.sb.setCurrent = some back then { s with sb := { s.sb with setCurrent := none } } else s
    else s

/-- SB1_CHARGER_VOLTAGE_WRITE (R492). -/
def execSb1ChargerVoltageWrite (e : BusEnd) (back : Nat) (s : State) : Out :=
  .next <| settle <|
    if sb1Poll s && s.sb.setVoltage.isSome then
      let s := busEnd s e
      if (e = .ok ∨ e = .arbLostCtl) ∧ s.sb.setVoltage = some back then { s with sb := { s.sb with setVoltage := none } } else s
    else s

/-- The charger answers: its phase is taken; done sets SOC_i to 100 %; a fault releases CHG_EN (R364, R375). -/
def chargerAnswer (s : State) (phase : Byte) : State :=
  let p := phase.toNat % 4
  let flt := decide (128 ≤ phase.toNat)
  let s := { s with bat := { s.bat with misses := 0, chargerOk := true, chgFault := flt, phase := p } }
  let s := if p = 3 ∧ s.bat.chgEn = true then { s with bat := { s.bat with charge := batFull s } } else s
  let s := if flt then report (setChgEn s false) Pg.bat 21 0 else s
  recomputeBudget (judgeEnergy s)

/-- No answer: on the third read in a row the charger is lost (R375, sources 417 and 377). -/
def chargerMiss (s : State) : State :=
  let s := { s with bat := { s.bat with misses := s.bat.misses + 1 } }
  if s.bat.misses = 3 then report (chargerGone (icu s 417)) Pg.bat 21 0 else s

/-- SB1_CHARGER_PHASE_READ (R492, R375). -/
def execSb1ChargerPhaseRead (e : BusEnd) (phase : Byte) (s : State) : Out :=
  .next <| settle <|
    if sb1Poll s then
      let s := busEnd s e
      if e = .ok then chargerAnswer s phase else chargerMiss s
    else s

/-- SB1_PMIC_POLL (R492): a PMIC marked in SB1_TGT1. -/
def execSb1PmicPoll (k : Nat) (e : BusEnd) (isFault : Bool) (s : State) : Out :=
  .next <| settle <|
    if sb1Poll s && decide (k < 8) && rb s Reg.sb1Tgt1 (8 + k) then
      let s := busEnd s e
      if e = .ok ∧ isFault = true then icu s 421 else s
    else s

/-- Another pack is found (R377). -/
def packChanged (s : State) : State :=
  let s := wrF s Reg.batCapLearned 0 16 (rf s Reg.batCapRated 0 16)
  let s := { s with bat := { s.bat with packTerm := true, request := true } }
  recomputeBudget (judgeEnergy (icu (report s Pg.bat 20 0) 378))

/-- SB1_PACK_ID_READ (R492, R377): compared with the serial number in the configuration area. -/
def execSb1PackIdRead (e : BusEnd) (serial : Word) (s : State) : Out :=
  .next <| settle <|
    if sb1Poll s then
      let s := busEnd s e
      if e = .ok then
        let s := { s with bat := { s.bat with serial := serial } }
        if serial = s.bat.knownSerial then s else packChanged s
      else s
    else s

/-- A write of SB1_XFER (R497, R495, R496): go while busy is refused; fenced it ends with 6, from a hem cut on with 7. -/
def sb1Go (s : State) (val : Word) : State :=
  if 32 < fld val 16 6 then accessErr s Pg.sb1
  else if !bit val 31 then wr s Reg.sb1Xfer (val &&& 0x013FFFFF#32)
  else if s.sb.busy then accessErr s Pg.sb1
  else
    let s := wr s Reg.sb1Xfer (val &&& 0x013FFFFF#32)
    if isFenced s Pg.sb1 0 then xferEnd s 6 0
    else if hemBusy s || !enabled s Pg.sb1 then xferEnd s 7 0
    else wr { s with sb := { s.sb with busy := true, retries := 0, waitFree := false } } Reg.sb1XferStatus 1#32

/-- SB1_XFER_GO (R497). -/
def execSb1XferGo (val : Word) (s : State) : Out := .next <| settle <| sb1Go s val

/-- The bytes read go to SB1_BUF (R499). -/
def fillBuf (s : State) (data : List Byte) : State :=
  forEach (List.range (min 32 data.length)) s fun s i => wrF s (Reg.sb1Buf (i / 4)) (8 * (i % 4)) 8 (data.getD i 0#8).toNat

/-- SB1_XFER_DONE (R493, R494, R497): lost arbitration has it repeated up to SB1_CFG.retries times. -/
def execSb1XferDone (e : BusEnd) (done : Nat) (data : List Byte) (s : State) : Out :=
  .next <| settle <|
    if !s.sb.busy || s.sb.waitFree || s.sb.recovering then s
    else if e = .arbLost ∧ s.sb.retries < rf s Reg.sb1Cfg 2 3 then
      { s with sb := { s.sb with waitFree := true, retries := s.sb.retries + 1 } }
    else
      let s := busEnd s e
      let s := if e = .ok ∧ rb s Reg.sb1Xfer 7 = true then fillBuf s data else s
      let code := match e with
        | .ok => 0
        | .nack => 1
        | .arbLost => 2
        | .arbLostCtl => 3
        | .pecBad => 4
        | .timeout => 5
      xferEnd s code (min 32 done)

/-- SB1_ARB_LOST_RETRY (R493): the bus has been free for 50 µs, and the whole transaction is repeated. -/
def execSb1ArbLostRetry (s : State) : Out := .next { s with sb := { s.sb with waitFree := false } }

/-- SB1_SDA_STUCK (R495): SB1_RST_N is asserted for 1 ms (source 419). -/
def execSb1SdaStuck (s : State) : Out :=
  .next <| settle <|
    if sb1Ready s then
      icu (addSat { s with sb := { s.sb with recovering := true, sda := false } } Reg.sb1Errs 24 8 1) 419
    else s

/-- SB1_STUCK_RECOVERY_CHECK (R495): SDA high, the interrupted transaction is repeated once; low, SB1 is fenced. -/
def execSb1StuckRecoveryCheck (sdaHigh : Bool) (s : State) : Out :=
  .next <| settle <|
    if s.sb.recovering then
      let s := { s with sb := { s.sb with recovering := false, sda := sdaHigh } }
      if sdaHigh then { s with sb := { s.sb with waitFree := false, retries := rf s Reg.sb1Cfg 2 3 } }
      else report s Pg.sb1 19 0
    else s

end Sys2Proof.Machine
end

