-- ==== Sys2Proof/Machine/Sys.lean ====
section
/-! DEFINITION. The SYS page's events (chapter 12): restarts of the core pair, the watchdog, SRAM errors, the time base. -/

namespace Sys2Proof.Machine

open Bits

-- restarts (R403, R404)

/-- A restart under R403 or R404 with its cause bit; the third within 60 s is fatal (restart_limit). -/
def restartUnder (s : State) (cause : Nat) : State :=
  let s := { s with icu := { s.icu with
    restarts := now s :: s.icu.restarts.filter fun t => decide (now s < t + 60 * 32768)
    kicked := now s } }
  let s := icu (restartPair s cause (imgEntry s s.upd.slot)) 1
  let s := if 3 ≤ recentRestarts s then report s Pg.sys 19 0 else s
  updOnRestart s

/-- The pair runs, awake or in light sleep. -/
def pairUp (s : State) : Bool := s.icu.core == .running || s.icu.core == .lightSleep

/-- LOCKSTEP_DIVERGENCE (R403). -/
def execLockstepDivergence (pc : Word) (s : State) : Out :=
  .next <| settle <|
    if pairUp s then
      restartUnder (report (addSat (wr s Reg.sysDivPc pc) Reg.sysLockstep 0 16 1) Pg.sys 16 0) 2
    else s

/-- WATCHDOG_EXPIRY (R404): treated as a divergence under R403, with its own bits. -/
def execWatchdogExpiry (pc : Word) (s : State) : Out :=
  .next <| settle <|
    if pairUp s && rb s Reg.sysWdt 16 then
      restartUnder (report (addSat (wr s Reg.sysDivPc pc) Reg.sysLockstep 16 16 1) Pg.sys 18 0) 3
    else s

/-- A write of SYS_WDT_KICK: the key reloads the watchdog (R404). -/
def wdtKick (s : State) (val : Word) : State :=
  if fld val 16 16 = 0x574B then { s with icu := { s.icu with kicked := now s } } else s

/-- WATCHDOG_KICK (R404). -/
def execWatchdogKick (val : Word) (s : State) : Out := .next (wdtKick s val)

/-- WATCHDOG_HALF_TIMEOUT (R432): source 4. -/
def execWatchdogHalfTimeout (s : State) : Out :=
  .next <| settle <| if pairUp s && rb s Reg.sysWdt 16 then icu s 4 else s

/-- JTAG_RESET (R425): the pair is reset through JTAG. -/
def execJtagReset (s : State) : Out :=
  .next <| settle <| if coreUp s && s.icu.core != .down then restartPair s 5 (imgEntry s s.upd.slot) else s

-- SRAM (R405)

/-- SRAM_UNCORRECTABLE (R405): the word's offset is recorded. -/
def execSramUncorrectable (off : Nat) (s : State) : Out :=
  .next <| settle <|
    if coreUp s then
      let s := wr s Reg.sysSramUeAddr (wd (off % 2 ^ 20 / 4 * 4 + 2 ^ 31))
      report (addSat s Reg.sysSramEcc 16 16 1) Pg.sys 17 0
    else s

-- time base (R424, R432)

/-- TICK_COMPARE (R424): source 8. -/
def execTickCompare (s : State) : Out :=
  .next <| settle <|
    if coreUp s && rb s Reg.sysTimerCmp 16 && decide (rf s Reg.sysTimerCmp 0 15 = ticks s) then icu s 8 else s

/-- Bin of a temperature in °C (R446). -/
def tempBin (t : Int) : Nat := if t < -20 then 0 else min 15 ((t + 20).toNat / 10 + 1)

/-- The samples of each second, and those of each minute (R446). -/
def samples (s : State) : State :=
  let s := if s.thm.live then histAdd s 0 (tempBin (s.thm.inUse.fdiv 10)) else s
  let s := match (s.thm.dram.map Prod.snd).foldl maxOpt none with
    | some t => histAdd s 1 (tempBin t)
    | none => s
  let s := match (s.fst.chs.filterMap fun e => e.2.temp).foldl maxOpt none with
    | some t => histAdd s 2 (tempBin t)
    | none => s
  let b := s.gen.budget * 262144
  let s := histAdd s 5 (if b = 0 then (if globalUnsewn s = 0 then 0 else 15) else globalUnsewn s * 16 / b)
  if seconds s % 60 = 0 then histAdd (histAdd s 3 (tempBin (s.bat.temp.fdiv 10))) 4 (batSoc s * 2 / 125) else s

/-- OPERATING_SECOND (R424, R432, R446, R476). -/
def execOperatingSecond (s : State) : Out :=
  .next <| settle <|
    if coreUp s then
      let s := { s with psq := { s.psq with upTicks := s.psq.upTicks + (32768 - ticks s) } }
      let s := wr (addWrap s Reg.sysSeconds 0 32 1) Reg.sysTicks 0#32
      let s := if s.upd.st = 6 then { s with upd := { s.upd with trialSecs := s.upd.trialSecs + 1 } } else s
      samples (icu s 9)
    else s

end Sys2Proof.Machine
end

