-- ==== Sys2Proof/Machine/Upd.lean ====
section
/-! DEFINITION. The commands of firmware update (R459 to R482). -/

namespace Sys2Proof.Machine

open Bits

-- Transfer FW (R463, R464): payload byte 0 action, 1 slot, 4 to 7 offset in units of 128 B, data from 128 (log entry 14)

/-- Number of the inactive slot in Transfer FW: 1 is A, 2 is B. -/
def inactiveNo (s : State) : Nat := if s.upd.slot then 1 else 2

/-- Container length: header and records. -/
def containerLen (s : State) : Nat := 128 + leAt (cflBytes s stageBase 128) 12 4

/-- A refused step: Busy, with the reason in UPD_REFUSE (R463, R466). -/
def fwBusy (s : State) (ld : Nat) : State := reply (noteRefusal s) ld rcBusy []

/-- The transfer is aborted, its reason in UPD_STATE.result. -/
def fwInvalid (s : State) (ld result : Nat) : State :=
  let s := abandonTransfer s
  replyBad { s with upd := { s.upd with aborted := false, result := result } } ld

/-- A block is programmed into the staging area (R464). -/
def storeBlock (s : State) (off : Nat) (data : List Byte) : State :=
  let s := cflProgram s (stageBase + off) data
  { s with upd := { s.upd with received := off + data.length, lastOff := off, lastData := data, lastAt := now s } }

/-- Initiate's own checks and effects (R463): the header, the staging area, the erase of the inactive slot. The flag
tells whether the transfer is in progress. -/
def fwStart (s : State) (ld : Nat) (inp : List Byte) : State × Bool :=
  let data := inp.drop 128
  if byteAt inp 1 ≠ inactiveNo s then (reply s ld rcInvalidSlot [], false)
  else if 1 ≤ s.upd.st ∧ s.upd.st ≤ 3 then (reply s ld rcFwInProgress [], false)
  else if 5 ≤ s.upd.st then (reply s ld rcBusy [], false)
  else if refuseMask s ≠ 0 then (fwBusy s ld, false)
  else if pay inp 4 4 ≠ 0 then (reply s ld rcFwOutOfOrder [], false)
  else if data.length < 128 ∨ leAt data 124 4 ≠ (crc32c (data.take 124)).toNat then (fwInvalid s ld udBAD_CONTAINER, false)
  else if 2 ^ 24 < leAt data 8 4 ∨ stageSize < 128 + leAt data 12 4 then (fwInvalid s ld udTOO_LARGE, false)
  else if data.length % 128 ≠ 0 ∧ data.length < 128 + leAt data 12 4 then (replyBad s ld, false)
  else
    let s := cflErase (cflErase s stageBase stageSize) (slotBase (!s.upd.slot)) ((leAt data 8 4 + 4095) / 4096 * 4096)
    let s := { s with upd := { s.upd with st := 1, staged := false, aborted := false, targetLen := leAt data 8 4 } }
    (storeBlock s 0 data, true)

/-- End: reconstruction starts in the background (R463, R465). -/
def fwEnd (s : State) (ld : Nat) : State :=
  if refuseMask s ≠ 0 then fwBusy s ld
  else startBg s ld 0x0201 fun s => { s with upd := { s.upd with st := 3, xferLd := some ld } }

/-- What every Transfer FW command checks first: its length, the administrative device (R463), that UPD is enabled (R30). -/
def fwOpen (s : State) (ld : Nat) (inp : List Byte) (f : State → State) : State :=
  if inp.length < 128 ∨ 2048 < inp.length then replyBad s ld
  else if !isAdmin s ld then reply s ld rcUnsupported []
  else if enabled s Pg.upd then f s else reply s ld rcBusy []

/-- Full transfer. -/
def mbFwFull (ld : Nat) (inp : List Byte) (s : State) : State :=
  fwOpen s ld inp fun s =>
    let r := fwStart s ld inp
    if r.2 then fwEnd r.1 ld else r.1

/-- Initiate. -/
def mbFwInitiate (ld : Nat) (inp : List Byte) (s : State) : State :=
  fwOpen s ld inp fun s =>
    let r := fwStart s ld inp
    if r.2 then replyOk r.1 ld [] else r.1

/-- A block of Continue or End; the flag tells whether it was taken. -/
def fwBlock (s : State) (ld : Nat) (inp : List Byte) : State × Bool :=
  let data := inp.drop 128
  let off := 128 * pay inp 4 4
  if s.upd.aborted then (reply { s with upd := { s.upd with aborted := false } } ld rcAborted [], false)
  else if s.upd.st ≠ 1 then (reply s ld rcFwOutOfOrder [], false)
  else if byteAt inp 1 ≠ inactiveNo s then (reply s ld rcInvalidSlot [], false)
  else if off = s.upd.lastOff ∧ data = s.upd.lastData then (s, true)
  else if off ≠ s.upd.received then (reply s ld rcFwOutOfOrder [], false)
  else if stageSize < off + data.length then (fwInvalid s ld udTOO_LARGE, false)
  else if data.length % 128 ≠ 0 ∧ off + data.length < containerLen s then (replyBad s ld, false)
  else (storeBlock s off data, true)

/-- Continue. -/
def mbFwContinue (ld : Nat) (inp : List Byte) (s : State) : State :=
  fwOpen s ld inp fun s =>
    let r := fwBlock s ld inp
    if r.2 then replyOk r.1 ld [] else r.1

/-- End, with the last block if it carries data. -/
def mbFwEnd (ld : Nat) (inp : List Byte) (s : State) : State :=
  fwOpen s ld inp fun s =>
    if inp.length = 128 then
      if s.upd.aborted then reply { s with upd := { s.upd with aborted := false } } ld rcAborted []
      else if s.upd.st = 1 then fwEnd s ld else reply s ld rcFwOutOfOrder []
    else
      let r := fwBlock s ld inp
      if r.2 then fwEnd r.1 ld else r.1

/-- Abort: the next command sees FW Transfer Aborted. -/
def mbFwAbort (ld : Nat) (inp : List Byte) (s : State) : State :=
  fwOpen s ld inp fun s => replyOk (abandonTransfer s) ld []

/-- TRANSFER_FW_FULL (R463). -/
def execTransferFwFull (ld : Nat) (inp : List Byte) (s : State) : Out := .next (settle (mbFwFull ld inp s))

/-- TRANSFER_FW_INITIATE (R463, R464). -/
def execTransferFwInitiate (ld : Nat) (inp : List Byte) (s : State) : Out := .next (settle (mbFwInitiate ld inp s))

/-- TRANSFER_FW_CONTINUE (R463). -/
def execTransferFwContinue (ld : Nat) (inp : List Byte) (s : State) : Out := .next (settle (mbFwContinue ld inp s))

/-- TRANSFER_FW_END (R463). -/
def execTransferFwEnd (ld : Nat) (inp : List Byte) (s : State) : Out := .next (settle (mbFwEnd ld inp s))

/-- TRANSFER_FW_ABORT (R463). -/
def execTransferFwAbort (ld : Nat) (inp : List Byte) (s : State) : Out := .next (settle (mbFwAbort ld inp s))

/-- TRANSFER_FW_TIMEOUT (R463): no block for UPD_CFG.xfer_timeout. -/
def execTransferFwTimeout (s : State) : Out :=
  .next <| settle <| if s.upd.st = 1 then abandonTransfer s else s

/-- Transfer FW by its action (R463). -/
def mbTransferFw (ld : Nat) (inp : List Byte) (s : State) : State :=
  match byteAt inp 0 with
  | 0 => mbFwFull ld inp s
  | 1 => mbFwInitiate ld inp s
  | 2 => mbFwContinue ld inp s
  | 3 => mbFwEnd ld inp s
  | 4 => mbFwAbort ld inp s
  | _ => replyBad s ld

-- reconstruction (R465)

/-- RECONSTRUCTION (R465): a valid result leaves the slot staged; a failure marks it not valid. -/
def execReconstruction (flashOk : Bool) (s : State) : Out :=
  .next <| settle <|
    if s.upd.st = 3 then
      let slot := !s.upd.slot
      let r := reconstruct s
      let s := cflReadUse s (containerLen s)
      let ld := s.upd.xferLd
      let s := if r.1 = udDONE then cflProgram s (slotBase slot) r.2 else s
      let code := if r.1 ≠ udDONE then r.1 else if flashOk then imgCheck s slot else udFLASH_FAIL
      if code = udDONE then
        let s := { s with upd := { s.upd with st := 4, staged := true, result := udDONE, xferLd := none } }
        updEnd (endBg s ld rcSuccess [])
      else
        let s := slotInvalid s slot
        let s := { s with upd := { s.upd with st := 0, staged := false, result := code, xferLd := none } }
        updEnd (endBg (report s Pg.upd 16 0) ld rcFwVerification [])
    else s

-- activation (R468 to R472)

/-- Lowest settings format that a slot's image converts from, and the format it reads (R458). -/
def imgLowest (s : State) (slot : Bool) : Nat := leAt (imgHeader s slot) 10 2
def imgFormat (s : State) (slot : Bool) : Nat := leAt (imgHeader s slot) 8 2

/-- What both actions of Activate FW check (R466, R468): payload byte 0 action, 1 slot. -/
def activateOpen (s : State) (ld : Nat) (inp : List Byte) (f : State → State) : State :=
  if inp.length ≠ 2 then replyBad s ld
  else if !enabled s Pg.upd then reply s ld rcBusy []
  else if s.upd.st ≠ 4 ∨ s.upd.staged = false ∨ byteAt inp 1 ≠ inactiveNo s then reply s ld rcInvalidSlot []
  else if refuseMask s ≠ 0 then fwBusy s ld
  else f s

/-- Activate FW, action 0: the handover begins once the running image writes UPD_CMD.activate (R470). -/
def mbActivateOnline (ld : Nat) (inp : List Byte) (s : State) : State :=
  activateOpen s ld inp fun s =>
    startBg s ld 0x0202 fun s => { s with upd := { s.upd with actPending := true, actLd := some ld } }

/-- Activate FW, action 1: the staged slot starts at the next power-up (R468). -/
def mbActivateCold (ld : Nat) (inp : List Byte) (s : State) : State :=
  activateOpen s ld inp fun s =>
    let slot := !s.upd.slot
    if areaFmt s (areaOf s s.upd.slot) < imgLowest s slot then reply s ld rcColdReset []
    else
      let s := { s with upd := { s.upd with trialSecs := 0, restarts := 0, oldArea := areaOf s s.upd.slot } }
      replyOk (appendBoot s fun e => { e with slot := slot, trial := 1 }) ld []

/-- ACTIVATE_FW_ONLINE (R468). -/
def execActivateFwOnline (ld : Nat) (inp : List Byte) (s : State) : Out := .next (settle (mbActivateOnline ld inp s))

/-- ACTIVATE_FW_COLD (R468). -/
def execActivateFwCold (ld : Nat) (inp : List Byte) (s : State) : Out := .next (settle (mbActivateCold ld inp s))

/-- Activate FW by its action (R468). -/
def mbActivateFw (ld : Nat) (inp : List Byte) (s : State) : State :=
  match byteAt inp 0 with
  | 0 => mbActivateOnline ld inp s
  | 1 => mbActivateCold ld inp s
  | _ => replyBad s ld

/-- UPD_CMD.activate (R470, steps 3 and 4): the pair restarts at the new slot's entry. -/
def beginHandover (s : State) : State :=
  if s.upd.actPending ∧ s.upd.st = 4 then
    let ld := s.upd.actLd
    let s := { s with upd := { s.upd with actPending := false } }
    if refuseMask s ≠ 0 then
      let s := { s with upd := { s.upd with actLd := none } }
      endBg (noteRefusal s) ld rcBusy []
    else
      let new := !s.upd.slot
      let s := { s with upd := { s.upd with
        st := 5
        slot := new
        handoverAt := now s
        oldArea := areaOf s s.upd.slot } }
      let s := appendBoot s fun e => { e with slot := new, trial := 2 }
      restartPair (wr s Reg.sysBoot (wd new.toNat)) 4 (imgEntry s new)
  else s

/-- A write of UPD_CMD with its key (R481): the commands its bits call for, in bit order; UPD has to be enabled (R30). -/
def updCmdWrite (s : State) (val : Word) : State :=
  if fld val 16 16 = 0x5550 ∧ enabled s Pg.upd = false then accessErr s Pg.upd
  else if fld val 16 16 = 0x5550 then
    let s := if bit val 0 then beginHandover s else s
    let s := if bit val 1 && s.upd.st == 6 && !s.upd.unconverted then confirmTrial s else s
    let s := if bit val 2 || bit val 3 then failTrial s else s
    if bit val 4 then abandonTransfer s else s
  else s

/-- UPD_ACTIVATE (R470). -/
def execUpdActivate (val : Word) (s : State) : Out := .next (settle (updCmdWrite s val))

/-- The handover record in the SRAM is whole: magic, lengths, and the CRC of its header and both sections (R469). -/
def handoverOk (s : State) : Bool :=
  let h := sramBytes s 0xF0000 64
  let n := leAt h 12 4 + leAt h 16 4
  decide (leAt h 0 4 = 0x4F485351) && decide (64 + n ≤ 0x10000) &&
    decide (leAt h 60 4 = (crc32c (h.take 60 ++ sramBytes s 0xF0040 n)).toNat)

/-- UPD_HO_ACK (R470 step 5 and 6, R474, R475): the trial starts, on converted settings, whose records go to the other area,
or on the effective settings of the record; a record whose CRC fails is a failed handover (R471). -/
def execUpdHoAck (val : Word) (converted : Bool) (recs : List Byte) (s : State) : Out :=
  .next <| settle <|
    if s.upd.st = 5 ∧ fld val 16 16 = 0x4841 ∧ bit val 0 = true then
      if handoverOk s then
        let new := 1 - s.upd.oldArea
        let ld := s.upd.actLd
        let slot := s.upd.slot
        let s := if converted then writeArea s new (imgFormat s slot) recs else s
        let s := { s with upd := { s.upd with
          st := 6
          unconverted := !converted
          trialSecs := 0
          restarts := 0
          result := udDONE
          actLd := none } }
        let s := appendBoot s fun e => { e with
          trial := 1
          areaA := if slot then e.areaA else if converted then new else e.areaA
          areaB := if slot then (if converted then new else e.areaB) else e.areaB }
        updEnd (endBg s ld rcSuccess [])
      else handoverFail s
    else s

/-- HANDOVER_TIMEOUT (R471): no acknowledgement within 2 s. -/
def execHandoverTimeout (s : State) : Out := .next (settle (handoverFail s))

/-- TRIAL_EXPIRY (R476): 600 operating seconds have passed. -/
def execTrialExpiry (s : State) : Out :=
  .next <| settle <|
    if s.upd.st = 6 then
      if rb s Reg.updCfg 8 && !s.upd.unconverted then confirmTrial s else failTrial s
    else s

/-- What the vendor commands check: their length and the administrative device (R478). -/
def updOpen (s : State) (ld len : Nat) (inp : List Byte) (f : State → State) : State :=
  if inp.length ≠ len then replyBad s ld
  else if isAdmin s ld then f s else replyCode s ld udREFUSED

/-- Confirm Update (R475 to R477). -/
def mbConfirmUpdate (ld : Nat) (inp : List Byte) (s : State) : State :=
  updOpen s ld 0 inp fun s =>
    if s.upd.st ≠ 6 then replyCode s ld udNO_TRIAL
    else if s.upd.unconverted then replyCode s ld udSETTINGS_UNCONVERTED
    else replyCode (confirmTrial s) ld udDONE

/-- CONFIRM_UPDATE (R477). -/
def execConfirmUpdate (ld : Nat) (inp : List Byte) (s : State) : Out := .next (settle (mbConfirmUpdate ld inp s))

/-- Fall Back (R476, R477): never refused in a trial. -/
def mbFallBack (ld : Nat) (inp : List Byte) (s : State) : State :=
  updOpen s ld 0 inp fun s =>
    if s.upd.st = 6 ∨ s.upd.st = 7 then replyCode (failTrial s) ld udDONE else replyCode s ld udNO_TRIAL

/-- FALL_BACK (R477). -/
def execFallBack (ld : Nat) (inp : List Byte) (s : State) : Out := .next (settle (mbFallBack ld inp s))

/-- FALL_BACK_DEFERRED_RUN (R476): the condition that a fall-back waited for has ended. -/
def execFallBackDeferredRun (s : State) : Out :=
  .next <| settle <| if s.upd.fallDue ∧ fallWaits s = false then runFallBack s else s

/-- Set Owner Lock (R478): the first 32 bytes of the secret's SHA-384 go to the boot record (R457). -/
def mbSetOwnerLock (ld : Nat) (inp : List Byte) (s : State) : State :=
  updOpen s ld 36 inp fun s =>
    let check := (Config.sha384 (inp.drop 4)).take 32
    if byteAt inp 0 = 1 then
      if s.upd.ownerLock then replyCode s ld udREFUSED
      else replyCode (appendBoot { s with upd := { s.upd with ownerLock := true, lockCheck := check } } id) ld udDONE
    else if byteAt inp 0 = 0 then
      if s.upd.ownerLock then
        if check = s.upd.lockCheck then
          replyCode (appendBoot { s with upd := { s.upd with ownerLock := false, lockCheck := [] } } id) ld udDONE
        else replyCode s ld udBAD_SECRET
      else replyCode s ld udDONE
    else replyBad s ld

/-- SET_OWNER_LOCK (R478). -/
def execSetOwnerLock (ld : Nat) (inp : List Byte) (s : State) : Out := .next (settle (mbSetOwnerLock ld inp s))

/-- UPD_STATE (R481). -/
def updStateWord (s : State) : Word :=
  wd (s.upd.st + s.upd.slot.toNat * 16 + s.upd.staged.toNat * 32 + s.upd.ownerLock.toNat * 64 + s.upd.unconverted.toNat * 128 +
    s.upd.result * 256)

/-- Trial seconds remaining. -/
def trialLeft (s : State) : Nat := if s.upd.st = 6 ∨ s.upd.st = 7 then 600 - s.upd.trialSecs else 0

/-- Get Update Status (R478). -/
def mbGetUpdateStatus (ld : Nat) (inp : List Byte) (s : State) : State :=
  if inp.length ≠ 0 then replyBad s ld
  else
    replyOk s ld (leBytes 1 udDONE ++ leBytes 1 (fld (updStateWord s) 0 8) ++ leBytes 2 (trialLeft s) ++
      leBytes 4 (rf s Reg.updRefuse 0 8) ++ leBytes 4 (needJ s) ++ leBytes 4 (imgVersion s false) ++
      leBytes 4 (imgVersion s true) ++ leBytes 4 s.upd.received)

/-- GET_UPDATE_STATUS (R478). -/
def execGetUpdateStatus (ld : Nat) (inp : List Byte) (s : State) : Out := .next (mbGetUpdateStatus ld inp s)

/-- A number in decimal, as text. -/
def decText (n : Nat) : List Byte := (Nat.toDigits 10 n).map fun c => BitVec.ofNat 8 c.toNat

/-- An image version as the text "major.minor.patch.build" in 16 bytes (R478). -/
def versionText (v : Nat) : List Byte :=
  let b := leBytes 4 v
  let part := fun i => decText (byteAt b i)
  let dot := leBytes 1 0x2E
  padTo 16 (part 0 ++ dot ++ part 1 ++ dot ++ part 2 ++ dot ++ part 3)

/-- Get FW Info (R478), in the layout of the CXL specification (log entry 14). -/
def mbGetFwInfo (ld : Nat) (inp : List Byte) (s : State) : State :=
  if inp.length ≠ 0 then replyBad s ld
  else
    let act := 1 + s.upd.slot.toNat
    let stg := if s.upd.staged then inactiveNo s else 0
    replyOk s ld (leBytes 1 2 ++ leBytes 1 (act + 8 * stg) ++ leBytes 1 1 ++ zeros 13 ++
      versionText (imgVersion s false) ++ versionText (imgVersion s true) ++ zeros 32)

/-- GET_FW_INFO (R478). -/
def execGetFwInfo (ld : Nat) (inp : List Byte) (s : State) : Out := .next (mbGetFwInfo ld inp s)

/-- UPD_CMD_CONFIRM (R476). -/
def execUpdCmdConfirm (val : Word) (s : State) : Out := .next (settle (updCmdWrite s val))

/-- UPD_CMD_FALL_BACK (R477). -/
def execUpdCmdFallBack (val : Word) (s : State) : Out := .next (settle (updCmdWrite s val))

/-- UPD_CMD_FAIL (R476). -/
def execUpdCmdFail (val : Word) (s : State) : Out := .next (settle (updCmdWrite s val))

/-- UPD_CMD_ABORT (R481). -/
def execUpdCmdAbort (val : Word) (s : State) : Out := .next (settle (updCmdWrite s val))

/-- UPD_KEY_RETIRE (R459): permanent; a request for the running image's key slot is discarded. -/
def execUpdKeyRetire (val : Word) (s : State) : Out :=
  .next <| settle <|
    if bit val s.upd.keySlot then accessErr s Pg.upd
    else { s with upd := { s.upd with retired := Nat.lor s.upd.retired (fld val 0 4) } }

end Sys2Proof.Machine
end

