-- ==== Sys2Proof/Machine/Words.lean ====
section
/-! DEFINITION. What a management read returns (R6, R21 to R23): common registers (R27 to R36), registers that the device
computes from what it holds, the large tables. -/

namespace Sys2Proof.Machine

open Bits

-- parts

def bitsOf (n : Nat) (p : Nat → Bool) : Word := wd (maskOf n p)

/-- Generations that the ring retains, and the oldest of them (GEN_RETAIN_COUNT, GEN_OLDEST). -/
def ringGens (s : State) (g : Nat) : List GenRec := (grp s g).gens.filter durable
def oldestGen (s : State) (g : Nat) : Nat := ((minBy (fun a b : GenRec => decide (a.num < b.num)) (ringGens s g)).map (·.num)).getD 0

/-- 48-bit number as a low or a high word. -/
def lo32 (n : Nat) : Word := wd (n % 2 ^ 32)
def hi32 (n : Nat) : Word := wd (n / 2 ^ 32 % 2 ^ 32)

/-- ID (R28). -/
def idWord (p : Nat) : Word :=
  let ty := if p = Pg.hl1 then Pg.hl0 else if 0x20 ≤ p ∧ p < 0x30 then 0x20 else if 0x30 ≤ p ∧ p < 0x40 then 0x30
    else if 0x40 ≤ p ∧ p < 0x60 then 0x40 else p
  wd (ty + 256 * (p - ty) + 65536 * 0x1632)

-- pages

/-- Computed registers of GEN (R85 to R87, R175, R176, R541). -/
def genWord (s : State) (a : Nat) : Option Word :=
  let g := rf s Reg.genGroupSel 0 8
  let gr := grp s g
  if a = Reg.genGroupState then some (groupStateWord s g)
  else if a = Reg.genOpenLo then some (lo32 (if grpEnabled s g then gr.openGen else 0))
  else if a = Reg.genOpenHi then some (hi32 (if grpEnabled s g then gr.openGen else 0))
  else if a = Reg.genSewnLo then some (lo32 (sewnNum gr))
  else if a = Reg.genSewnHi then some (hi32 (sewnNum gr))
  else if a = Reg.genOldestLo then some (lo32 (oldestGen s g))
  else if a = Reg.genOldestHi then some (hi32 (oldestGen s g))
  else if a = Reg.genRetainCount then
    some (wd ((ringGens s g).length % 65536 + 65536 * ((gr.gens.filter (·.pinned)).length % 512)))
  else if a = Reg.genRingCfg then some (wd gr.ringSize)
  else if a = Reg.genSyncStatus then
    some (setBit (setBit (rd s a) 0 s.gen.sync.armed) 3 s.gen.sync.lineLow)
  else if a = Reg.genSliceStatus then
    some (wd (maskOf 8 (fun k => (domOf s (90 + k)).st == 2) + 256 * maskOf 8 (sliceFenced s) + 65536 * rf s a 16 4))
  else if a = Reg.genHemState then some (hemStateWord s)
  else if a = Reg.genHemCfg then some (setBit (rd s a) 2 (rb s a 2 && !s.bat.ship))
  else if a = Reg.genRestoreStatus then some (restoreWord s)
  else if a = Reg.genRestoreAbsent then some (wd (absentCount s))
  else if a = Reg.genFoldStatus then some (foldWord s)
  else none

/-- Computed registers of KEY (R89, R90). -/
def keyWord (s : State) (a : Nat) : Option Word :=
  if a = Reg.keyGroupStatus then some (keyGroupWord s (rf s Reg.keyGroupSel 0 8))
  else if Reg.keyLocked 0 ≤ a ∧ a ≤ Reg.keyLocked 7 then some (bitsOf 32 fun b => grpLocked s (8 * (a - Reg.keyLocked 0) + b))
  else if Reg.keyLockout 0 ≤ a ∧ a ≤ Reg.keyLockout 7 then
    some (bitsOf 32 fun b => (grp s (8 * (a - Reg.keyLockout 0) + b)).lockout)
  else none

/-- Computed registers of GENM (R131, R132). -/
def genmWord (s : State) (a : Nat) : Option Word :=
  let g := rf s Reg.genmGroupSel 0 8
  let gr := grp s g
  if a = Reg.genmLiningBaseLo then some (lo32 s.dram.liningBase)
  else if a = Reg.genmLiningBaseHi then some (hi32 s.dram.liningBase)
  else if a = Reg.genmCowFree then some (wd (freeSlots s))
  else if a = Reg.genmBudget then some (budgetWord s)
  else if a = Reg.genmUnsewn then some (wd (globalUnsewn s))
  else if a = Reg.genmGroupPending then some (wd gr.pending)
  else if a = Reg.genmGroupOpen then some (wd gr.openCount)
  else if a = Reg.genmGroupBudget then some (wd (grpBudget s g))
  else if a = Reg.genmGroupSlots then some (wd gr.slots.length)
  else if a = Reg.genmGroupPacing then some (groupPacingWord s g)
  else none

/-- Computed registers of an HL page (R213). -/
def hlWord (s : State) (a : Nat) : Option Word :=
  let l := a / 0x1000 - 0x0E
  let pend := fun p => maskOf 16 fun n => (ldOf s (16 * p + n)).doorbell.isSome
  if a = Reg.hlLinkStatus l then some (wd (portByte s (2 * l) + 256 * portByte s (2 * l + 1)))
  else if a = Reg.hlPaceHold l then some (wd (min 511 (heldOn s (2 * l)) + 65536 * min 511 (heldOn s (2 * l + 1))))
  else if a = Reg.hlMbPending l then some (wd (pend (2 * l) + 65536 * pend (2 * l + 1)))
  else none

/-- Host-usable GiB that no valid window takes. -/
def winFreeGib (s : State) : Nat :=
  let h := hostGib s
  h - ((validWins s).map fun w => min h (winDramBase s w + winSize s w) - min h (winDramBase s w)).sum

/-- Computed registers of WIN (R217). -/
def winPageWord (s : State) (a : Nat) : Option Word :=
  let v := validWins s
  if a = Reg.winCount then some (wd (v.length + 65536 * (v.filter (winOnline s)).length))
  else if a = Reg.winCapacity then some (wd (hostGib s))
  else if a = Reg.winFree then some (wd (winFreeGib s))
  else none

/-- DCH_LAYOUT: set size, set number, local index (R222). -/
def layoutWord (s : State) (c : Nat) : Word :=
  let sets := layoutSets s.dram.layout
  let k := sets.findIdx fun l => l.contains c
  match sets[k]? with
  | some l => wd (l.length + 32 * k + 256 * l.findIdx (· == c))
  | none => 0#32

/-- Computed registers of a DCH page (R258). -/
def dchWord (s : State) (a : Nat) : Option Word :=
  let c := a / 0x1000 - 0x20
  let v := dchOf s c
  let n := fun (l : List DQ) (w : Bool) => (l.filter fun q => q.write == w).length % 128
  if a = Reg.dchQueue c then some (wd (n v.qa false + 256 * n v.qa true + 65536 * n v.qb false + 2 ^ 24 * n v.qb true))
  else if a = Reg.dchLayout c then some (layoutWord s c)
  else none

/-- Computed registers of FST (R298). -/
def fstWord (s : State) (a : Nat) : Option Word :=
  if a = Reg.fstFree then some (wd (s.fst.free / 262144))
  else if a = Reg.fstHemStatus then
    some (wd (hemFreeGib s + 65536 * (decide (rf s Reg.fstHemSize 0 15 ≠ s.fst.hemSize)).toNat))
  else if a = Reg.fstRecount then some (setBit (rd s a) 0 (restored s && !recounted s))
  else if a = Reg.fstWseqLo then some (lo32 s.fst.wseq)
  else if a = Reg.fstWseqHi then some (hi32 s.fst.wseq)
  else none

/-- Computed registers of POOL (R323). -/
def poolWord (s : State) (a : Nat) : Option Word :=
  let v := clientOf s (rf s Reg.poolClientSel 0 4)
  if a = Reg.poolBankStatus then
    some (wd (maskOf 16 (fun b => (domOf s (64 + b)).st == 2) + 65536 * maskOf 16 (bankFenced s)))
  else if a = Reg.poolFree then some (wd (poolFree s))
  else if a = Reg.poolFreeLow then some (wd s.pool.low)
  else if a = Reg.poolClientHeld then some (wd v.held)
  else if a = Reg.poolClientPeak then some (wd v.peak)
  else if a = Reg.poolClientWaits then some (wd v.waited)
  else none

/-- The selected entry of the trace. -/
def traceEnt (s : State) : TraceEnt :=
  Sparse.get (fun _ => { time := 0, code := 0, idx := 0, data := 0 }) s.psq.trace (rf s Reg.psqTraceSel 0 12)

/-- PSQ_RAILk_STATUS (R358). -/
def railWord (s : State) (k : Nat) : Word :=
  let r := railOf s k
  wd (r.enabled.toNat + 2 * r.up.toNat + 4 * r.failed.toNat + 8 * r.cause + 64 * r.disTimeout.toNat + 256 * r.ramp +
    65536 * r.discharge + 2 ^ 24 * r.timeouts)

/-- Computed registers of PSQ (R356 to R358). -/
def psqWord (s : State) (a : Nat) : Option Word :=
  let q := s.psq
  let e := traceEnt s
  if a = Reg.psqState then
    some (wd (q.st + 16 * q.step + 256 * q.onLatched.toNat + 512 * q.input.toNat + 1024 * q.latchOpen.toNat + 2048 * q.warm.toNat))
  else if a = Reg.psqRailEn then some (bitsOf 24 fun k => (railOf s k).enabled)
  else if a = Reg.psqRailPg then some (bitsOf 24 fun k => (railOf s k).pg)
  else if a = Reg.psqRailFailed then some (bitsOf 24 fun k => (railOf s k).failed)
  else if a = Reg.psqInfailStatus then some (wd (q.input.toNat + 2 * q.below.toNat + 65536 * q.losses))
  else if a = Reg.psqFaultStatus then
    some (wd (q.faultDriven.isSome.toNat + 2 * (q.faultLow || q.faultDriven.isSome).toNat + 4 * q.armed.toNat +
      16 * (q.faultDriven.getD 0) + 65536 * q.lows))
  else if a = Reg.psqRstStatus then some (bitsOf 8 fun k => (q.rst.find? fun e => e.1 == k).any (·.2))
  else if a = Reg.psqHoldStatus then
    some (wd (q.holdEn.toNat + 2 * (railOf s 22).pg.toNat + 4 * q.holdTest.toNat + 8 * q.testPassed.toNat + 256 * q.holdTime))
  else if a = Reg.psqTraceStatus then some (wd (q.traceAt + 65536 * q.traceFrozen.toNat + 2 ^ 17 * q.traceWrapped.toNat))
  else if a = Reg.psqTraceLo then some (wd e.time)
  else if a = Reg.psqTraceHi then some (wd (e.code + 256 * e.idx + 65536 * (e.data % 65536)))
  else if a = Reg.psqGateStatus then some (wd (switchingOn s % 16 + 65536 * rf s a 16 16))
  else if Reg.psqRailkStatus 0 ≤ a ∧ a ≤ Reg.psqRailkStatus 23 ∧ (a - Reg.psqRailkStatus 0) % 8 = 0 then
    some (railWord s ((a - Reg.psqRailkStatus 0) / 8))
  else none

/-- Computed registers of BAT (R381, R382). -/
def batWord (s : State) (a : Nat) : Option Word :=
  let b := s.bat
  if a = Reg.batState then some (batStateWord s)
  else if a = Reg.batSoc then some (wd (b.socV % 1024 + 65536 * (socI s % 1024)))
  else if a = Reg.batEnergy then some (wd b.energy)
  else if a = Reg.batChgStatus then
    some (wd (b.phase + 4 * (chgWindowClosed s).toNat + 8 * b.pause.toNat + 16 * b.learnStop.toNat +
      65536 * min 65535 (if batFull s = 0 then 0 else b.chargedIn / batFull s)))
  else if a = Reg.batRest then some (wd (min 65535 (b.sinceRest / 60)))
  else if a = Reg.batTemp then some (wd (ofInt 16 b.temp))
  else if a = Reg.batCells then
    some (wd ((lowestCell s).1 % 4096 + 4096 * (lowestCell s).2 + 65536 * (highestCell s % 4096)))
  else if a = Reg.batPackId then some b.serial
  else if a = Reg.batLearnCtrl then some (setBit (setBit (rd s a) 0 b.request) 1 b.learning)
  else none

/-- Computed registers of THM (R398, R399). -/
def thmWord (s : State) (a : Nat) : Option Word :=
  if a = Reg.thmTj then some (thmTjWord s)
  else if a = Reg.thmRate then some (thmRateWord s)
  else if a = Reg.thmState then some (thmStateWord s)
  else if a = Reg.thmHist then some (thmHistWord s)
  else none

/-- ICU_STACKn (R427) gives bit 8 to the source and to the priority: where they differ there, that bit is free (log
entry 21). -/
def stackWord (s : State) (e : Nat × Nat) : Word :=
  let b := if (e.1 / 256) % 2 = e.2 % 2 then e.2 % 2 else (Config.freeWord s.free).toNat % 2
  wd (e.1 % 256 + 256 * b + 512 * (e.2 / 2))

/-- Computed registers of ICU (R427, R428). -/
def icuWord (s : State) (a : Nat) : Option Word :=
  let st := s.icu.stack
  if a = Reg.icuStatus then
    some (wd ((st.head?.map Prod.fst).getD 0 + 512 * (!st.isEmpty).toNat + 1024 * st.length + 65536 * rf s a 16 1 +
      2 ^ 17 * (decide (16 ≤ st.length)).toNat))
  else if Reg.icuAct 0 ≤ a ∧ a ≤ Reg.icuAct 15 then some (bitsOf 32 fun b => isActive s (8 * (a - Reg.icuAct 0) + b))
  else if Reg.icuStack 0 ≤ a ∧ a ≤ Reg.icuStack 15 then
    some (match st.reverse[(a - Reg.icuStack 0) / 4]? with
      | some e => stackWord s e
      | none => 0#32)
  else none

/-- CFL_BANK_STATE of a bank (R430). -/
def bankNibble (s : State) (b : Nat) : Nat :=
  match cflOp s b with
  | none => 0
  | some o =>
    (if o.suspended then 3 else if o.kind = 1 then 1 else if o.kind = 2 then 2 else 0) +
      4 * (match o.req with
        | .fw => 0
        | .upd => 1
        | .evr => 2)

/-- Computed registers of CFL (R430). -/
def cflWord (s : State) (a : Nat) : Option Word :=
  if a = Reg.cflStatus then some (setBit (rd s a) 0 (s.cfl.ops.any fun e => e.2.req == .fw))
  else if a = Reg.cflBankState then some (wd (((List.range 4).map fun b => bankNibble s b * 16 ^ b).sum))
  else none

/-- Computed registers of EVR (R453). -/
def evrWord (s : State) (a : Nat) : Option Word :=
  if a = Reg.evrState then
    some (wd (s.evr.mode + 4 * s.evr.frozen.toNat + 8 * s.evr.policy + 16 * min 15 (bufsWaiting s).length +
      256 * min 255 s.evr.ready.length + 65536 * min 4095 (retiredSectors s).length))
  else if a = Reg.evrSeqOldest then some (wd (oldestSeq s))
  else none

/-- Computed registers of UPD (R481). -/
def updWord (s : State) (a : Nat) : Option Word :=
  let area := areaOf s s.upd.slot
  if a = Reg.updState then some (updStateWord s)
  else if a = Reg.updXfer then some (wd s.upd.received)
  else if a = Reg.updTrial then some (wd (trialLeft s + 65536 * min 15 s.upd.restarts))
  else if a = Reg.updEnergy then some (wd (min (2 ^ 24 - 1) (needJ s)))
  else if a = Reg.updImgA then some (wd (imgVersion s false))
  else if a = Reg.updImgB then some (wd (imgVersion s true))
  else if a = Reg.updKeyStatus then some (wd (s.upd.keys + 16 * s.upd.retired + 256 * s.upd.keySlot))
  else if a = Reg.updKeyRetire then some (wd s.upd.retired)
  else if a = Reg.updCfgArea then some (wd (area + 65536 * areaFmt s area))
  else none

/-- Computed registers of SB0 and SB1 (R498, R499). -/
def sbWord (s : State) (a : Nat) : Option Word :=
  if a = Reg.sb0Addr then some (wd (0x58 + s.sb.strap))
  else if a = Reg.sb1Line then
    some (wd (s.sb.scl.toNat + 2 * s.sb.sda.toNat +
      4 * (!(railOf s 2).up || !enabled s Pg.sb1 || s.sb.recovering).toNat))
  else none

/-- Computed registers of FLT (R519). -/
def fltWord (s : State) (a : Nat) : Option Word :=
  let pend := fun p => isPage p && decide (rd s (errStatusA p) &&& ~~~(rd s (errMaskA p) &&& ~~~4#32) ≠ 0#32)
  let unit := fun p => if 0x30 ≤ p ∧ p < 0x40 then p - 0x10 else p
  if a = Reg.fltState then some (wd (s.flt.state + 8 * s.flt.dump.isSome.toNat))
  else if Reg.fltPend 0 ≤ a ∧ a ≤ Reg.fltPend 3 then some (bitsOf 32 fun b => pend (8 * (a - Reg.fltPend 0) + b))
  else if Reg.fltFenced 0 ≤ a ∧ a ≤ Reg.fltFenced 3 then
    some (bitsOf 32 fun b => s.flt.fences.any fun f => f.page == unit (8 * (a - Reg.fltFenced 0) + b))
  else if a = Reg.fltDumpStatus then some (wd (dumpState s + 4 * s.flt.dump.isSome.toNat + 256 * s.flt.skipped))
  else if a = Reg.fltSnapData then
    some (Sparse.get (fun _ => 0#32) s.flt.snap (8 * rf s Reg.fltSnapSel 0 7 + rf s Reg.fltSnapSel 8 3))
  else none

/-- Computed registers of SYS (R424, R425). -/
def sysWord (s : State) (a : Nat) : Option Word :=
  if a = Reg.sysResetCause then some (setFld (rd s a) 8 8 (min 255 (recentRestarts s))) else none

/-- The computed register at an address of a page, if it is one. -/
def computedWord (s : State) (a : Nat) : Option Word :=
  let p := a / 0x1000
  if p < 0x20 then
    match p with
    | 0x00 => sysWord s a | 0x01 => fltWord s a | 0x02 => icuWord s a | 0x03 => evrWord s a
    | 0x04 => cflWord s a | 0x05 => updWord s a | 0x06 => psqWord s a | 0x07 => batWord s a
    | 0x08 => thmWord s a | 0x09 => sbWord s a | 0x0A => sbWord s a | 0x0B => poolWord s a
    | 0x0C => genWord s a | 0x0D => genmWord s a | 0x0E => hlWord s a | 0x0F => hlWord s a
    | 0x10 => winPageWord s a | 0x11 => keyWord s a | _ => none
  else if p < 0x30 then dchWord s a
  else if p = 0x60 then fstWord s a else none

/-- The common registers of a page (R27 to R36). -/
def commonWord (s : State) (p o : Nat) : Word :=
  if o = 0x00 then idWord p
  else if o = 0x04 then 0xB0#32
  else if o = 0x08 ∨ o = 0x0C then Config.cap (0x1000 * p + o)
  else if o = 0x14 then statusWord s p
  else if o = 0x10 ∨ o = 0x18 ∨ o = 0x1C ∨ o = 0x24 ∨ o = 0x28 ∨ o = 0x2C then rd s (0x1000 * p + o)
  else 0#32

/-- The word that a read of a register address returns; a page index without a page and reserved offsets read 0 (R7, R22). -/
def readReg (s : State) (a : Nat) : Word :=
  let p := a / 0x1000
  let o := a % 0x1000
  if !isPage p then 0#32
  else if o < 0x100 then commonWord s p o
  else match computedWord s a with
    | some w => w
    | none => if (descOf a).isSome then rd s a else 0#32

-- the large tables (R23)

/-- The device-maintained part of a throttle entry (R252). -/
def thrBytes (s : State) (w : Nat) : List Byte :=
  let v := winOf s w
  let enf := v.disturb.any (·.enforced)
  leBytes 4 (thrWord s w 0).toNat ++ leBytes 3 (thrWord s w 1).toNat ++
    leBytes 1 (v.disturb.isSome.toNat + 2 * enf.toNat + 4 * enf.toNat) ++ leBytes 4 (min (2 ^ 32 - 1) v.offend) ++
    leBytes 2 (min 65535 (v.lastOff / 64)) ++ leBytes 2 v.rowEvents

/-- The word at an offset of the large tables; a gap between two tables holds nothing (R21, R23). -/
def tableWord (s : State) (off : Nat) : Option Word :=
  if off < 0x20000 then some (wd (leAt (winBytes s (off / 32)) (off % 32 / 4 * 4) 4))
  else if off < 0x24000 then some (grpWord s ((off - 0x20000) / 64) ((off - 0x20000) % 64 / 4))
  else if 0x30000 ≤ off ∧ off < 0x40000 then some (wd (leAt (paceEntry s ((off - 0x30000) / 16)) (off % 16 / 4 * 4) 4))
  else if 0x40000 ≤ off ∧ off < 0x50000 then some (wd (leAt (thrBytes s ((off - 0x40000) / 16)) (off % 16 / 4 * 4) 4))
  else none

end Sys2Proof.Machine
end

