-- ==== Sys2Proof/Machine/Common.lean ====
section
/-! DEFINITION. The management bus and what every page has in common (chapter 1): register writes and reads (R6 to R8,
R21 to R23), the common registers (R27 to R36), power domains and gating credits (R16 to R18), strobe checks (R14) and
stage watchdogs (R15). -/

namespace Sys2Proof.Machine

open Bits

/-- The state that an outcome leaves; `s` where it gives none. -/
def after (o : Out) (s : State) : State :=
  match o with
  | .next t => t
  | _ => s

-- the address map (R21)

/-- A range of the management address map, with the offset in it. -/
inductive Region where
  | flash (off : Nat)
  | sram (off : Nat)
  | page (a : Nat)
  | table (off : Nat)
  | unmapped
  deriving DecidableEq, Repr

/-- The range that holds an address (R21). -/
def regionOf (a : Nat) : Region :=
  if a < 0x04000000 then .flash a
  else if 0x10000000 ≤ a ∧ a < 0x10100000 then .sram (a - 0x10000000)
  else if 0x40000000 ≤ a ∧ a < 0x40061000 then .page (a - 0x40000000)
  else if 0x41000000 ≤ a ∧ a < 0x41050000 then .table (a - 0x41000000)
  else .unmapped

/-- Bytes of an access (R22). -/
def accBytes (z : AccSize) : Nat :=
  match z with
  | .byte => 1
  | .half => 2
  | .word => 4

/-- The SRAM bank that holds an offset is on (R16). -/
def sramOn (s : State) (off : Nat) : Bool := (domOf s (101 + off / 0x40000)).st == 2

-- ERR_STATUS, ERR_INJECT, LOCK (R33 to R36)

/-- A write of ERR_STATUS (R8, R33, R34, R504): bits that hardware sets in the same hop stay, and handling ends with each
bit that is cleared. -/
def errClear (s : State) (p : Nat) (val hw : Word) : State :=
  let s := forEach (List.range 32) s fun s b => if bit hw b then detect s p b 0 else s
  let old := rd s (errStatusA p)
  let gone := old &&& val &&& ~~~hw
  let s := forEach (List.range 32) s fun s b => if bit gone b then handled s p b else s
  let s := wr s (errStatusA p) (old &&& ~~~gone)
  if rd s (errStatusA p) = 0#32 then wr s (errFirstA p) 0#32 else s

/-- The unit of an injected error: of POOL and GEN the lowest-numbered one that is on and unfenced (R541); the map line or
window that an injected fault would lie in is a free value. -/
def injectUnit (s : State) (p b : Nat) : Nat × State :=
  if p = Pg.pool then
    (((List.range 16).find? fun k => (domOf s (64 + k)).st == 2 && !bankFenced s k).getD 0, s)
  else if p = Pg.gen then
    (((List.range 8).find? fun k => (domOf s (90 + k)).st == 2 && !sliceFenced s k).getD 0, s)
  else if (p = Pg.genm ∧ b = 16) ∨ (p = Pg.win ∧ b = 17) then
    let r := freeVal s
    (r.1.toNat % (if p = Pg.genm then 256 else 4096), r.2)
  else (0, s)

/-- A write of ERR_INJECT (R33, R36): each error once, as if detected. -/
def inject (s : State) (p : Nat) (val : Word) : State :=
  if injectLocked s p then accessErr s p
  else forEach (List.range 32) s fun s b =>
    if bit val b && classOf p b != 0 then
      let r := injectUnit s p b
      detect r.2 p b r.1
    else s

/-- A write of LOCK (R36). -/
def lockWrite (s : State) (p : Nat) (val : Word) : State := wr s (lockA p) (rd s (lockA p) ||| (val &&& 3#32))

/-- ERR_STATUS_CLEAR (R33, R34, R8). -/
def execErrStatusClear (page : Nat) (val hw : Word) (s : State) : Out :=
  .next <| settle <| if isPage page then errClear s page val hw else s

/-- ERR_INJECT (R33, R541). -/
def execErrInject (page : Nat) (val : Word) (s : State) : Out :=
  .next <| settle <| if isPage page then inject s page val else s

/-- LOCK_SET (R36). -/
def execLockSet (page : Nat) (val : Word) (s : State) : Out := .next <| if isPage page then lockWrite s page val else s

-- CTRL (R30, R31)

/-- POWER_REQ (R16, R17, R30): a CTRL write. -/
def execPowerReq (page : Nat) (val : Word) (s : State) : Out := .next <| settle <| ctrlWrite s page val

/-- SOFT_RESET (R31): a CTRL write with soft_reset set. -/
def execSoftReset (page : Nat) (val : Word) (s : State) : Out := .next <| settle <| ctrlWrite s page (val ||| 2#32)

/-- SOFT_RESET_TAKE_EFFECT (R31): the handshakes in progress have completed. -/
def execSoftResetTakeEffect (page : Nat) (s : State) : Out :=
  .next <| settle <|
    match s.resets.find? fun e => e.1 == page with
    | some e => softReset { s with resets := s.resets.filter fun x => x.1 != page } page e.2
    | none => s

-- domains (R16 to R18, R353)

/-- What follows once a domain is on: the pair restarts after deep sleep (R421), a recorder that is enabled mounts. -/
def domainOn (s : State) (d : Nat) : State :=
  if d = 100 then
    match s.icu.core with
    | .deepSleep => { s with icu := { s.icu with core := .running } }
    | .down =>
      if s.psq.st = 2 then
        { s with icu := { s.icu with core := .running, vector := wd (imgEntry s s.upd.slot), context := [] } }
      else s
    | _ => s
  else if d = 109 then (if enabled s Pg.evr then { s with evr := { s.evr with mode := 0 } } else s)
  else if 64 ≤ d ∧ d < 80 then updateScale s
  else s

/-- What a domain loses once it is off: a pair not in deep sleep stops, SRAM banks and the recorder lose what they hold,
links go down (R215). -/
def domainOff (s : State) (d : Nat) : State :=
  if d = 100 then
    if s.icu.core = .deepSleep then s
    else { s with icu := { s.icu with core := .down, stack := [], live := [], context := [] } }
  else if 101 ≤ d ∧ d < 105 then
    { s with sram := Sparse.keep (fun k => k / 0x40000 != d - 101) s.sram }
  else if d = 109 then evrLost s
  else if 80 ≤ d ∧ d < 90 then linkDomOff s d
  else if 64 ≤ d ∧ d < 80 then updateScale s
  else s

/-- The transition of a domain has ended; the latest latched request is carried out (R18), and a switch-on that waited for
a place may start (R353). -/
def domainDone (s : State) (d : Nat) : State :=
  let v := domOf s d
  if v.st = 1 then
    let s := domainOn (setDom s d { v with st := 2, latched := none }) d
    startWaiting (match v.latched with
      | some false => startOff s d
      | _ => s)
  else if v.st = 3 then
    let s := domainOff (setDom s d { v with st := 0, latched := none }) d
    match v.latched with
      | some true => startOn s d
      | _ => s
  else s

/-- DOMAIN_SWITCH_DONE (R18). -/
def execDomainSwitchDone (dom : Nat) (s : State) : Out := .next <| settle <| domainDone s dom

/-- A domain gains a credit, up to 8; a deferred switch-off then happens (R17). -/
def gainCredit (s : State) (d : Nat) : State :=
  let v := domOf s d
  let s := setDom s d { v with credit := min 8 (v.credit + 1) }
  if v.deferred then startOff s d else s

/-- GATING_CREDIT_GAIN (R17): every 500 ms. -/
def execGatingCreditGain (s : State) : Out := .next <| settle <| forEach (Sparse.keys s.doms) s gainCredit

-- strobes and stage watchdogs (R14, R15)

/-- STROBE_DELAY_CHECK (R14): the measured period against the calibrated one, in per mille. -/
def execStrobeDelayCheck (ch driftPm : Nat) (s : State) : Out :=
  .next <| if 30 < driftPm ∧ ch < 32 ∧ rb s (Reg.fchMount ch) 0 = true then setFch s ch { fchOf s ch with recal := true } else s

/-- STROBE_RECALIBRATE (R14, R297, R303): new taps, or a failure; two failures in a row are cal_fail. -/
def execStrobeRecalibrate (ch : Nat) (ok : Bool) (reTaps dqsTaps : Nat) (s : State) : Out :=
  .next <| settle <|
    let v := fchOf s ch
    if !v.recal then s
    else if ok then
      let s := wr s (Reg.fchCal ch) (wd (reTaps % 4096 + dqsTaps % 4096 * 65536 + 2 ^ 31))
      icu (setFch s ch { v with recal := false, calFails := 0 }) (114 + 4 * ch)
    else
      let s := setFch s ch { v with calFails := v.calFails + 1 }
      if v.calFails = 1 then report s (Pg.fch ch) 21 0 else s

/-- HANDSHAKE_WATCHDOG (R15). -/
def execHandshakeWatchdog (page unit : Nat) (s : State) : Out := .next <| settle <| detect s page 4 unit

-- register values

/-- Every field lies in its stated range. -/
def limsOk (d : RegDesc) (v : Word) : Bool :=
  d.lims.all fun l =>
    let x := fld v l.1 l.2.1
    decide (l.2.2.1 ≤ x) && decide (x ≤ l.2.2.2.1) && decide ((x - l.2.2.1) % l.2.2.2.2 = 0)

/-- A signed byte field within −40 to 60 (R398). -/
def offsOk (v : Word) (lsb : Nat) : Bool := decide (-40 ≤ sfld v lsb 8) && decide (sfld v lsb 8 ≤ 60)

/-- SYS_WAKE_VECTOR: code flash, or an SRAM bank that deep sleep retains (R421, R424). -/
def wakeOk (s : State) (v : Nat) : Bool :=
  match regionOf v with
  | .flash _ => true
  | .sram off => decide (off / 0x40000 = 0) || rb s Reg.sysSleepCfg (4 + off / 0x40000)
  | _ => false

/-- GENM_CEILING: at most half of FST_HEM_SIZE, and R168 kept while windows are online (R168, R277). -/
def ceilingOk (s : State) (v : Word) : Bool :=
  decide (2 * fld v 0 11 ≤ rf s Reg.fstHemSize 0 15) &&
    (!anyOnline s || decide ((fld v 0 11 + s.fst.hemSize / 8) * 262144 ≤ s.fst.hemFree))

/-- GENM_LINING_CFG and GENM_COW_SIZE: with no group enabled, and an area that fits (R103, R105). -/
def cowOk (s : State) (a : Nat) (v : Word) : Bool :=
  (enabledGroups s).isEmpty &&
    (a != Reg.genmCowSize || s.dram.layout.isEmpty ||
      cowFits (s.dram.layout.length * s.dram.chBytes) (rf s Reg.genmLiningCfg 0 2) (fld v 0 16))

/-- Conditions on a value that go beyond one field's range. -/
def crossOk (s : State) (a : Nat) (v : Word) : Bool :=
  if a = Reg.genmPacePct then decide (fld v 8 8 + 5 ≤ fld v 0 8)
  else if a = Reg.fstFreeCfg then decide (fld v 0 8 + 5 ≤ fld v 8 8)
  else if a = Reg.thmLimits then decide (fld v 0 8 + 1 ≤ fld v 8 8) && decide (fld v 0 8 ≤ fld v 16 8)
  else if a = Reg.thmNeighOffs then offsOk v 0 && offsOk v 8 && offsOk v 16
  else if a = Reg.sysWakeVector then wakeOk s v.toNat
  else if a = Reg.icuHtab then decide (0x10000000 ≤ v.toNat) && decide (v.toNat + 2000 ≤ 0x10100000)
  else if a = Reg.icuFrameBase then
    s.icu.stack.isEmpty && decide (0x10000000 ≤ v.toNat) && decide (v.toNat + 1280 ≤ 0x10100000)
  else if a = Reg.genmCeiling then ceilingOk s v
  else if a = Reg.fstHemSize then decide (2 * rf s Reg.genmCeiling 0 11 ≤ fld v 0 15)
  else if a = Reg.genmLiningCfg ∨ a = Reg.genmCowSize then cowOk s a v
  else if a = Reg.cflAddr ∨ (Reg.cflBuf 0 ≤ a ∧ a ≤ Reg.cflBuf 63) then !cflFwBusy s
  else if a = Reg.evrFwHdr ∨ (Reg.evrFwData 0 ≤ a ∧ a ≤ Reg.evrFwData 56) then !rb s Reg.evrFwStatus 0
  else true

/-- Registers whose writes are ignored for now: DCH_GEOM after training (R221), BAT's tables while BAT is enabled (R378). -/
def heldNow (s : State) (a : Nat) : Bool :=
  let p := a / 0x1000
  (decide (0x20 ≤ p) && decide (p < 0x30) && a == Reg.dchGeom (p - 0x20) && (dchOf s (p - 0x20)).geomLocked) ||
    (decide (Reg.batOcv 0 ≤ a) && decide (a ≤ Reg.batTableCrc) && enabled s Pg.bat)

/-- What follows at once from a stored value. -/
def storedEffect (s : State) (a : Nat) : State :=
  let p := a / 0x1000
  if a = Reg.genmCeiling then spaceFreed (recomputeBudget s)
  else if a = Reg.genmHemPower ∨ a = Reg.genmHemBw ∨ a = Reg.genmHemFixed then recomputeBudget s
  else if a = Reg.batCapRated then recomputeBudget (judgeEnergy s)
  else if Reg.batOcv 0 ≤ a ∧ a ≤ Reg.batTableCrc then { s with bat := { s.bat with tablesOk := false } }
  else if a = Reg.fstFreeCfg then freeLevels s
  else if 0x20 ≤ p ∧ p < 0x30 ∧ a = Reg.dchRefreshCtrl (p - 0x20) then updateRegime s (p - 0x20)
  else if a = Reg.genSlicePwr ∨ a = Reg.genmCacheCtrl ∨ a = Reg.sysSramPwr ∨ a = Reg.sysDebug then applyPower s p
  else if a = Reg.poolBankPwr then updateScale (applyPower s p)
  else s

/-- Stores a value by the access codes of a register's fields (R6), under LOCK.cfg (R36). -/
def storeFields (s : State) (a : Nat) (d : RegDesc) (val : Word) : State :=
  let p := a / 0x1000
  let old := rd s a
  let new := (old &&& ~~~d.rw) ||| (val &&& d.rw)
  let s := if locked s p && new != old then accessErr s p else wr s a new
  wr s a (rd s a ||| (val &&& d.w1s))

/-- A write of a block-specific register that has no row of its own (R6, R7). -/
def plainWrite (s : State) (a : Nat) (val : Word) : State :=
  match descOf a with
  | none => s
  | some d =>
    if heldNow s a then s
    else if !limsOk d val || !crossOk s a (val &&& d.rw) then accessErr s (a / 0x1000)
    else storedEffect (storeFields s a d val) a

/-- A write that would switch SRAM bank 0 off while the core pair domain is on is discarded (R405). -/
def powerWrite (s : State) (a : Nat) (val : Word) : State :=
  if a = Reg.sysSramPwr ∧ bit val 0 = false ∧ (domOf s 100).st ≠ 0 then accessErr s Pg.sys else plainWrite s a val

/-- BLOCK_DOMAIN_POWER_WRITE (R16, R310, R405): GEN_SLICE_PWR, POOL_BANK_PWR, GENM_CACHE_CTRL, SYS_SRAM_PWR, SYS_DEBUG. -/
def execBlockDomainPowerWrite (addr val : Word) (s : State) : Out :=
  .next <| settle <|
    match regionOf addr.toNat with
    | .page a =>
      if [Reg.genSlicePwr, Reg.poolBankPwr, Reg.genmCacheCtrl, Reg.sysSramPwr, Reg.sysDebug].contains a then
        powerWrite s a val
      else s
    | _ => s

-- writes with a row of their own: REGISTER_WRITE sends them the same way

/-- A write of CFL_CMD; the bank that the pair fetches from is a free value here. -/
def cflCmdWrite (s : State) (val : Word) : State :=
  let r := freeVal s
  let fetch := if bit r.1 2 then none else some (fld r.1 0 2)
  let k := fld val 0 3
  if k = 1 ∨ k = 2 ∨ k = 3 then cflStart r.2 k fetch else s

/-- A write of GEN_HEM_CMD (R135, R150, R175); how canary and training come out is a free value here. -/
def hemCmdWrite (s : State) (val : Word) : State :=
  let s := after (execGenHemCmdHem val s) s
  if bit val 1 then
    let r := freeVal s
    after (execGenHemCmdResume val (bit r.1 0) (s.dram.layout.filter fun c => bit r.1 (1 + c)) r.2) r.2
  else s

/-- A write of UPD_HO_ACK; whether the settings were converted, and their records, are free values here. -/
def hoAckWrite (s : State) (val : Word) : State :=
  let r := freeVal s
  let b := freeBytes r.2 (fld r.1 1 12)
  after (execUpdHoAck val (bit r.1 0) b.1 b.2) b.2

/-- A write of EVR_CMD; whether the summary's two copies program is a free value here. -/
def evrCmd (s : State) (val : Word) : State :=
  if bit val 4 then
    let r := freeVal s
    evrCmdWrite r.2 val (bit r.1 0) (bit r.1 1)
  else evrCmdWrite s val true true

/-- Writes of the pages below 0x20 that have a row of their own. -/
def ownWrite (s : State) (a : Nat) (val : Word) : Option State :=
  if a = Reg.genTackDoorbell then some (after (execTackDoorbell .mgmt val s) s)
  else if a = Reg.genTackMaskGo then some (after (execGenTackMaskGo val s) s)
  else if a = Reg.genSyncCtrl then some (syncCtrlWrite s val)
  else if a = Reg.genRingCfg then some (after (execGenRingCfgWrite val s) s)
  else if a = Reg.genGenCmd then some (after (execGenGenCmd val s) s)
  else if a = Reg.genHemCmd then some (hemCmdWrite s val)
  else if a = Reg.keySelftest then some (after (execKeySelftest val s) s)
  else if a = Reg.hlPwr 0 then some (after (execHlPwrWrite 0 val s) s)
  else if a = Reg.hlPwr 1 then some (after (execHlPwrWrite 1 val s) s)
  else if Reg.poolQ 0 ≤ a ∧ a ≤ Reg.poolQ 11 then some (after (execPoolQuotaWrite ((a - Reg.poolQ 0) / 4) val s) s)
  else if a = Reg.psqCmd then some (psqCmd s val)
  else if a = Reg.psqRstCtrl then some (after (execPsqRstCtrlWrite val s) s)
  else if a = Reg.batLearnCtrl then some (learnCtrl s val)
  else if a = Reg.sysWdtKick then some (wdtKick s val)
  else if a = Reg.sysSramPwr then some (powerWrite s a val)
  else if a = Reg.icuDoorbell then some (after (execIcuDoorbell val s) s)
  else if a = Reg.icuDone then some (after (execIcuDone val s) s)
  else if a = Reg.icuPrioSet then some (after (execIcuPrioSet val s) s)
  else if a = Reg.icuEnset then some (after (execIcuEnset val s) s)
  else if a = Reg.icuEnclr then some (after (execIcuEnclr val s) s)
  else if a = Reg.icuPendclr then some (after (execIcuPendclr val s) s)
  else if a = Reg.cflCmd then some (cflCmdWrite s val)
  else if a = Reg.evrCmd then some (evrCmd s val)
  else if a = Reg.evrFwGo then some (after (execEvrFwGo val s) s)
  else if a = Reg.updCmd then some (updCmdWrite s val)
  else if a = Reg.updHoAck then some (hoAckWrite s val)
  else if a = Reg.updKeyRetire then some (after (execUpdKeyRetire val s) s)
  else if a = Reg.sb0CmdDone then some (sb0Done s val)
  else if a = Reg.sb1Xfer then some (sb1Go s val)
  else if a = Reg.fltFenceCmd then some (fenceCmd s val)
  else if a = Reg.fltStickyClr then some (after (execFltStickyClr val s) s)
  else if a = Reg.fltDumpCmd then some (dumpCmd s val)
  else none

/-- A write of DPH_TRAIN_CTRL (R245, R247, R261). -/
def trainCtrlWrite (s : State) (c : Nat) (val : Word) : State :=
  let s := if bit val 0 then after (execDphFullSweep c s) s else s
  if bit val 1 then startSliced s c else s

/-- A write of ERR_MASK: bit 2 reads 0 (R33, R36). -/
def errMaskWrite (s : State) (p : Nat) (val : Word) : State :=
  let v := val &&& errBits p &&& ~~~4#32
  if locked s p && rd s (errMaskA p) != v then accessErr s p else wr s (errMaskA p) v

/-- A 32-bit write of a register (R6, R7, R27). -/
def regWrite (s : State) (a : Nat) (val : Word) : State :=
  let p := a / 0x1000
  let o := a % 0x1000
  if !isPage p then s
  else if o < 0x100 then
    if o = 0x10 then ctrlWrite s p val
    else if o = 0x18 then errClear s p val 0#32
    else if o = 0x1C then errMaskWrite s p val
    else if o = 0x20 then inject s p val
    else if o = 0x2C then lockWrite s p val
    else s
  else if 0x20 ≤ p ∧ p < 0x30 ∧ o = 0x108 then after (execTsetRequest (p - 0x20) val s) s
  else if 0x30 ≤ p ∧ p < 0x40 ∧ o = 0x100 then trainCtrlWrite s (p - 0x30) val
  else match ownWrite s a val with
    | some t => t
    | none => plainWrite s a val

/-- A write of the throttle table (R252): firmware writes bytes 0 to 6. -/
def thrWrite (s : State) (off : Nat) (val : Word) : State :=
  let w := off / 16
  let put := fun v => { s with hl := { s.hl with thrTab := Sparse.set (fun _ => 0#32) s.hl.thrTab (4 * w + off % 16 / 4) v } }
  match off % 16 / 4 with
  | 0 => put val
  | 1 => put (val &&& 0x00FFFFFF#32)
  | _ => s

/-- A 32-bit write of the large tables (R23): the pacing table is maintained by the device. -/
def tableWrite (s : State) (off : Nat) (val : Word) : State :=
  if off < 0x20000 then after (execWindowEntryWrite off val s) s
  else if off < 0x24000 then after (execGroupEntryWrite (off - 0x20000) val s) s
  else if 0x40000 ≤ off then thrWrite s (off - 0x40000) val
  else s

/-- REGISTER_WRITE (R6, R21 to R23): pages and tables take aligned 32-bit writes; the code flash is not written here. -/
def execRegisterWrite (addr : Word) (size : AccSize) (val : Word) (s : State) : Out :=
  let whole := size == .word && addr.toNat % 4 == 0
  .next <| settle <|
    match regionOf addr.toNat with
    | .page a =>
      if whole then regWrite s a val else if isPage (a / 0x1000) then accessErr s (a / 0x1000) else s
    | .table off => if whole then tableWrite s off val else accessErr s Pg.win
    | .sram off =>
      if sramOn s off then sramStore s off (leBytes (accBytes size) val.toNat) else s
    | .flash _ => s
    | .unmapped => accessErr s Pg.sys

-- reads

/-- The bytes that a read returns, lowest address first. SRAM of a bank that is off holds nothing that the spec names: a
free value. -/
def mgmtBytes (s : State) (r : Region) (n : Nat) : List Byte :=
  match r with
  | .flash off => flashRead s off n
  | .sram off =>
    (List.range n).map fun i =>
      if sramOn s (off + i) then Sparse.get (fun _ => 0#8) s.sram (off + i)
      else (Config.freeWord (s.free + i)).truncate 8
  | .page a => (leBytes 4 (readReg s (a / 4 * 4)).toNat).drop (a % 4) |>.take n
  | .table off => (leBytes 4 ((tableWord s (off / 4 * 4)).getD 0#32).toNat).drop (off % 4) |>.take n
  | .unmapped => zeros n

/-- Bits of a register that an access of `n` bytes at `a` covers. -/
def accMask (a n : Nat) : Word := wd ((2 ^ (8 * n) - 1) * 2 ^ (8 * (a % 4)))

/-- RC bits that an access clears: every field that it reads a part of, whole (R6). -/
def rcCleared (w : Nat) (acc : Word) : Word :=
  match descOf w with
  | none => 0#32
  | some d => (d.rc &&& acc) ||| (if acc &&& d.wide = 0#32 then 0#32 else d.wide)

/-- The lesser of the present value of a least figure and one that hardware brings in the same hop, 0 where it brings none. -/
def leastOf (v hw : Nat) : Nat := if hw = 0 then v else min v hw

/-- A read of the register at `a` clears its RC fields, but for what hardware sets in the same hop (R6, R8). A figure
that holds a least or a greatest value starts again at the present one, or at the one that hardware brings (log entry 38). -/
def rcClear (s : State) (a n : Nat) (hw : Word) : State :=
  let w := a / 4 * 4
  let rc := ((descOf w).map (·.rc)).getD 0#32
  let m := rcCleared w (accMask a n)
  let keepAll := rb s Reg.fltDumpCtrl 0 || m == 0#32
  if w = Reg.poolFreeLow then
    (if keepAll then s else { s with pool := { s.pool with low := leastOf (poolFree s) (fld hw 0 19) } })
  else if w = Reg.poolClientPeak then
    let k := rf s Reg.poolClientSel 0 4
    if keepAll then s else setClient s k { clientOf s k with peak := max (clientOf s k).held (fld hw 0 19) }
  else if w = Reg.genmCowLow then (if keepAll then s else wr s w (wd (leastOf (freeSlots s) hw.toNat)))
  else
    let s := if 0x40 ≤ w / 0x1000 ∧ w / 0x1000 < 0x60 ∧ w % 0x1000 = 0x108 ∧ accMask a n &&& one 31 ≠ 0#32 ∧ rb s Reg.fltDumpCtrl 0 = false
      then wrB s w 31 false else s
    if rc = 0#32 then s
    else wr s w ((if keepAll then rd s w else rd s w &&& ~~~m) ||| (hw &&& rc))

/-- A management read (R21, R22): a misaligned one of a page or a table is refused and clears nothing. -/
def mgmtRead (s : State) (addr : Word) (z : AccSize) (hw : Word) : State :=
  let n := accBytes z
  let r := regionOf addr.toNat
  let bad := decide (addr.toNat % n ≠ 0)
  let data := fun (s : State) => { s with mgmtRead := wd (ofLe (mgmtBytes s r n)) }
  match r with
  | .page a =>
    if bad then
      let s := { s with mgmtRead := 0#32 }
      if isPage (a / 0x1000) then accessErr s (a / 0x1000) else s
    else if isPage (a / 0x1000) then rcClear (data s) a n hw else data s
  | .table _ => if bad then accessErr { s with mgmtRead := 0#32 } Pg.win else data s
  | .flash _ => cflReadUse (data s) n
  | .sram _ => cflReadUse (data s) n
  | .unmapped => accessErr (data s) Pg.sys

/-- RC_READ (R6, R8, R21, R22, R513): a management read. -/
def execRcRead (addr : Word) (size : AccSize) (hw : Word) (s : State) : Out := .next <| settle <| mgmtRead s addr size hw

/-- MGMT_UNMAPPED_ACCESS (R21, R402): an access outside the map, a fetch outside code flash and SRAM. -/
def execMgmtUnmappedAccess (addr : Word) (kind : AccKind) (s : State) : Out :=
  .next <| settle <|
    match kind, regionOf addr.toNat with
    | .read, .unmapped => accessErr { s with mgmtRead := 0#32 } Pg.sys
    | .write, .unmapped => accessErr s Pg.sys
    | .fetch, .flash _ => s
    | .fetch, .sram _ => s
    | .fetch, _ => accessErr s Pg.sys
    | _, _ => s

end Sys2Proof.Machine
end

