-- ==== Sys2Proof/Machine/Mem.lean ====
section
/-! DEFINITION. CXL.mem requests (R42, R180 to R188, R232), held writes (R193 to R196) and the pacing clock (R128,
R129). -/

namespace Sys2Proof.Machine

open Bits

/-- The request of a routed access. -/
def mkReq (s : State) (ld tag w dpa : Nat) (write : Bool) (data : List Byte) (mask : List Bool) (poison : Bool) : Req :=
  { ld, tag, write, addr := winDram s w dpa / 64 * 64, win := w, g := winGroup s w, data, mask, poison, why := .hold }

/-- CXLMEM_READ (R182). -/
def execCxlmemRead (ld hpa tag : Nat) (s : State) : Out :=
  .next <| settle <|
    if takes s ld false then route s ld hpa tag false fun w dpa => readEntry s (mkReq s ld tag w dpa false [] [] false) else s

/-- A received write that carries poison is noted (R216). -/
def poisonRx (s : State) (ld : Nat) (poison : Bool) : State := if poison then report s (Pg.hl0 + ld / 32) 17 0 else s

/-- A write, whole or partial, is taken and routed. -/
def hostWriteReq (s : State) (ld hpa tag : Nat) (data : List Byte) (mask : List Bool) (poison : Bool) : State :=
  if takes s ld true then
    let s := poisonRx s ld poison
    route s ld hpa tag true fun w dpa => serveWrite s (mkReq s ld tag w dpa true data mask poison)
  else s

/-- CXLMEM_WRITE (R42, R182). -/
def execCxlmemWrite (ld hpa tag : Nat) (data : List Byte) (poison : Bool) (s : State) : Out :=
  .next <| settle <| hostWriteReq s ld hpa tag data [] poison

/-- CXLMEM_WRITE_PARTIAL (R232): read, merge and full-line write. -/
def execCxlmemWritePartial (ld hpa tag : Nat) (data : List Byte) (mask : List Bool) (poison : Bool) (s : State) : Out :=
  .next <| settle <| hostWriteReq s ld hpa tag data (mask ++ List.replicate (64 - mask.length) false) poison

/-- CXLMEM_SPEC_READ (R180): accepted and ignored. -/
def execCxlmemSpecRead (_ld _hpa : Nat) (s : State) : Out := .next s

/-- CXLMEM_MALFORMED (R180, R187): answered as offline, counted only as malformed. -/
def execCxlmemMalformed (ld tag : Nat) (wantsData : Bool) (s : State) : Out :=
  .next <| settle <|
    let s := report s (Pg.hl0 + ld / 32) 18 0
    if wantsData then respond s ld tag true (zeros 64) true else respond s ld tag false [] false

/-- HELD_WRITE_RELEASE (R193 to R195): the bucket fills; the write of the tag, if it is the window's oldest held one, leaves
the queue once 64 bytes are there, or once the window is no longer enforced; writes accepted before a quiesce drain whatever
the bucket (R70, log entry 126). -/
def execHeldWriteRelease (win tag : Nat) (s : State) : Out :=
  .next <| settle <|
    let s := fillBucket s win
    let b := (winOf s win).bucket
    match s.hl.waits.find? fun r => r.why == .hold && r.win == win with
    | none => s
    | some r =>
      let e := winEnforced s win
      if r.tag ≠ tag ∨ (e && decide (b < 64) && !(grp s r.g).quiesced) = true then s
      else
        let s := { s with hl := { s.hl with waits := s.hl.waits.erase r } }
        let s := if e then setWin s win { winOf s win with bucket := b - 64 } else s
        creditResume (writeEntry (releaseBuffers s (r.ld / 16) 1) r false) (r.ld / 16)

-- pacing clock

/-- One millisecond of a list of ten ends. -/
def shiftMs (l : List Nat) : List Nat :=
  let n := 0 :: l.take 9
  if n.all (· == 0) then [] else n

/-- One millisecond of a list of a hundred ends. -/
def shift100 (l : List Nat) : List Nat :=
  let n := 0 :: l.take 99
  if n.all (· == 0) then [] else n

/-- Bytes per second of the current millisecond. -/
def avgMs (l : List Nat) : Nat := l.headD 0 * 1000

/-- A window's ROW_DISTURB enforcement begins (R251, source 255). -/
def enforceWin (s : State) (w : Nat) : State :=
  let v := winOf s w
  match v.disturb with
  | none => s
  | some r =>
    let s := setWin s w { v with disturb := some { r with enforced := true }, rowEvents := (v.rowEvents + 1) % 65536 }
    icu (updateRates s (winGroup s w)) 255

/-- After the grace, a 1 ms average above the target begins enforcement (R128). -/
def judgePace (s : State) (g : Nat) : State :=
  let gr := grp s g
  let s := forEach (gr.pacing.filter fun r => r.graceOver && !r.enforced && decide (r.target < avgMs gr.newBytes)) s
    fun s r => enforce s g r.reason
  forEach (winsOf s g) s fun s w =>
    match (winOf s w).disturb with
    | some r => if r.graceOver && !r.enforced && decide (r.target < avgMs (winOf s w).wr) then enforceWin s w else s
    | none => s

/-- Requests of a group and of its windows still in their grace. -/
def inGrace (s : State) (g : Nat) : List PaceReq :=
  ((grp s g).pacing ++ (winsOf s g).filterMap fun w => (winOf s w).disturb).filter fun r => !r.graceOver

/-- PACING_GRACE_EXPIRY (R128): the grace of the group's earliest posted requests has run out. -/
def execPacingGraceExpiry (g : Nat) (s : State) : Out :=
  .next <| settle <|
    match minBy (fun a b => decide (a.posted < b.posted)) (inGrace s g) with
    | none => s
    | some e =>
      let expire := fun r : PaceReq => if r.posted = e.posted then { r with graceOver := true } else r
      let s := setGrp s g { grp s g with pacing := (grp s g).pacing.map expire }
      let s := forEach (winsOf s g) s fun s w => setWin s w { winOf s w with disturb := (winOf s w).disturb.map expire }
      judgePace s g

/-- PACING_AVERAGE (R128, R129): a millisecond ends; averages are judged, clear conditions and rates made again. -/
def execPacingAverage (s : State) : Out :=
  .next <| settle <|
    let gs := Sparse.keys s.gen.groups
    let s := forEach gs s judgePace
    let s := forEach gs s fun s g =>
      let gr := grp s g
      setGrp s g { gr with
        newBytes := shift100 gr.newBytes
        wrBytes := shiftMs gr.wrBytes
        bastBytes := shiftMs gr.bastBytes
        bothBytes := shiftMs gr.bothBytes }
    let s := forEach (Sparse.keys s.hl.wins) s fun s w => setWin s w { winOf s w with wr := shiftMs (winOf s w).wr }
    let s := { s with gen := { s.gen with paceAt := now s, rose := s.gen.rose.filter fun e => decide (now s ≤ e.2 + 10 * msTicks) } }
    forEach gs s fun s g =>
      let s := pace s g
      if (winsOf s g).any (winEnforced s) then updateRates s g else s

end Sys2Proof.Machine
end

