-- ==== Sys2Proof/Machine/Serve.lean ====
section
/-! DEFINITION. Firmware serves the mailbox (R199 to R201): the opcode map and the order in which doorbells are taken. -/

namespace Sys2Proof.Machine

open Bits

/-- Commands of the CXL opcodes (R199). -/
def serveCxl (s : State) (ld op : Nat) (inp : List Byte) : State :=
  match op with
  | 0x0001 => mbIdentify ld inp s
  | 0x0002 => mbBackgroundStatus ld inp s
  | 0x0100 => mbGetEventRecords ld inp s
  | 0x0101 => mbClearEventRecords ld inp s
  | 0x0102 => mbGetEventPolicy ld inp s
  | 0x0103 => mbSetEventPolicy ld inp s
  | 0x0200 => mbGetFwInfo ld inp s
  | 0x0201 => mbTransferFw ld inp s
  | 0x0202 => mbActivateFw ld inp s
  | 0x0300 => mbGetTimestamp ld inp s
  | 0x0301 => mbSetTimestamp ld inp s
  | 0x0400 => mbGetSupportedLogs ld inp s
  | 0x0401 => mbGetLog ld inp s
  | 0x4000 => mbIdentifyMemory ld inp s
  | 0x4200 => mbGetHealthInfo ld inp s
  | _ => mbUnsupported ld s

/-- Vendor commands 0xC010 to 0xC033 (R200, R202, R82, R173). -/
def serveLow (s : State) (ld op : Nat) (inp : List Byte) : State :=
  match op with
  | 0xC010 => mbGetWindow ld inp s
  | 0xC011 => mbSetWindow ld inp s
  | 0xC012 => mbGetGroupConfig ld inp s
  | 0xC013 => mbSetGroupConfig ld inp s
  | 0xC014 => mbGetPacing ld inp s
  | 0xC015 => mbGetLinkCounters ld inp s
  | 0xC020 => mbTackGroups ld inp s
  | 0xC021 => mbArmSyncTack ld inp s
  | 0xC022 => mbFireSyncTack ld inp s
  | 0xC023 => mbDisarmSyncTack ld inp s
  | 0xC024 => mbGetGenerationList ld inp s
  | 0xC025 => mbPinGeneration ld inp s
  | 0xC026 => mbQuiesceGroup ld inp s
  | 0xC027 => mbUnpickGroup ld inp s
  | 0xC028 => mbReleaseGroup ld inp s
  | 0xC029 => mbSetGroupKeyMode ld inp s
  | 0xC02A => mbUnlockGroup ld inp s
  | 0xC02B => mbEraseGroup ld inp s
  | 0xC030 => mbHemNow ld inp s
  | 0xC031 =>
    let r := freeVal s
    mbResumeMemory ld inp (bit r.1 0) (s.dram.layout.filter fun c => bit r.1 (1 + c)) r.2
  | 0xC032 => mbGetHemStatus ld inp s
  | 0xC033 => mbSetRestoreMode ld inp s
  | _ => mbUnsupported ld s

/-- Vendor commands 0xC040 to 0xC078 (R451, R478, R517, R380, R397). -/
def serveHigh (s : State) (ld op : Nat) (inp : List Byte) : State :=
  match op with
  | 0xC040 => mbGetLogInfo ld inp s
  | 0xC041 => mbReadLog ld inp s
  | 0xC042 => mbGetSummary ld inp s
  | 0xC043 => mbFreezeLog ld inp s
  | 0xC044 => mbUnfreezeLog ld inp s
  | 0xC045 => mbClearLog ld inp s
  | 0xC046 => mbSetLogPolicy ld inp s
  | 0xC050 => mbGetUpdateStatus ld inp s
  | 0xC051 => mbConfirmUpdate ld inp s
  | 0xC052 => mbFallBack ld inp s
  | 0xC053 => mbSetOwnerLock ld inp s
  | 0xC060 => mbGetFaultStatus ld inp s
  | 0xC061 => mbTakeDump ld inp s
  | 0xC062 => mbReadDump ld inp s
  | 0xC063 => mbClearDump ld inp s
  | 0xC064 => mbClearSticky ld inp s
  | 0xC070 => mbGetBatteryStatus ld inp s
  | 0xC071 => mbRequestLearningCycle ld inp s
  | 0xC072 => mbArmShipMode ld inp s
  | 0xC073 => mbDisarmShipMode ld inp s
  | 0xC078 => mbGetThermalStatus ld inp s
  | _ => mbUnsupported ld s

/-- A command by its opcode (R199, R200). -/
def serve (s : State) (ld op : Nat) (inp : List Byte) : State :=
  if op < 0xC000 then serveCxl s ld op inp
  else if op < 0xC040 then serveLow s ld op inp
  else serveHigh s ld op inp

/-- The next logical device whose doorbell is taken: round-robin in ascending global number (R201). -/
def nextDoorbell (s : State) : Option Nat :=
  let l := (List.range 64).filter fun d => (ldOf s d).doorbell.isSome
  match l.find? fun d => decide (s.hl.next ≤ d) with
  | some d => some d
  | none => l.head?

/-- MAILBOX_COMMAND_SERVE (R201): while firmware is available. -/
def execMailboxCommandServe (s : State) : Out :=
  .next <| settle <|
    if fwAvailable s then
      match nextDoorbell s with
      | none => s
      | some d =>
        match (ldOf s d).doorbell with
        | none => s
        | some c =>
          let s := setLd s d { ldOf s d with doorbell := none }
          serve { s with hl := { s.hl with next := (d + 1) % 64 } } d c.1 c.2
    else s

end Sys2Proof.Machine
end

