-- ==== Sys2Proof/Machine/Dispatch.lean ====
section
/-! DEFINITION. The commands' meanings, one arm per row of the table of operations and events. -/

namespace Sys2Proof.Machine

def exec (i : Instr) (s : State) : Host.Outcome State Fault Refusal :=
  match i with
  | .registerWrite addr size val => Sys2Proof.Machine.execRegisterWrite addr size val s
  | .mgmtUnmappedAccess addr kind => Sys2Proof.Machine.execMgmtUnmappedAccess addr kind s
  | .rcRead addr size hw => Sys2Proof.Machine.execRcRead addr size hw s
  | .errStatusClear page val hw => Sys2Proof.Machine.execErrStatusClear page val hw s
  | .errInject page val => Sys2Proof.Machine.execErrInject page val s
  | .lockSet page val => Sys2Proof.Machine.execLockSet page val s
  | .powerReq page val => Sys2Proof.Machine.execPowerReq page val s
  | .softReset page val => Sys2Proof.Machine.execSoftReset page val s
  | .softResetTakeEffect page => Sys2Proof.Machine.execSoftResetTakeEffect page s
  | .domainSwitchDone dom => Sys2Proof.Machine.execDomainSwitchDone dom s
  | .gatingCreditGain => Sys2Proof.Machine.execGatingCreditGain s
  | .strobeDelayCheck ch driftPm => Sys2Proof.Machine.execStrobeDelayCheck ch driftPm s
  | .strobeRecalibrate ch ok reTaps dqsTaps => Sys2Proof.Machine.execStrobeRecalibrate ch ok reTaps dqsTaps s
  | .handshakeWatchdog page unit => Sys2Proof.Machine.execHandshakeWatchdog page unit s
  | .bar0ReservedAccess ld off write => Sys2Proof.Machine.execBar0ReservedAccess ld off write s
  | .tackDoorbell src val => Sys2Proof.Machine.execTackDoorbell src val s
  | .tackGroups ld inp => Sys2Proof.Machine.execTackGroups ld inp s
  | .genTackMaskGo val => Sys2Proof.Machine.execGenTackMaskGo val s
  | .armSyncTack ld inp => Sys2Proof.Machine.execArmSyncTack ld inp s
  | .genSyncArm val => Sys2Proof.Machine.execGenSyncArm val s
  | .disarmSyncTack ld inp => Sys2Proof.Machine.execDisarmSyncTack ld inp s
  | .fireSyncTack ld inp => Sys2Proof.Machine.execFireSyncTack ld inp s
  | .genSyncFire val => Sys2Proof.Machine.execGenSyncFire val s
  | .tackSyncRelease => Sys2Proof.Machine.execTackSyncRelease s
  | .tackSyncFireEdge => Sys2Proof.Machine.execTackSyncFireEdge s
  | .syncExpiry => Sys2Proof.Machine.execSyncExpiry s
  | .syncStuck => Sys2Proof.Machine.execSyncStuck s
  | .syncLineRearm => Sys2Proof.Machine.execSyncLineRearm s
  | .getGenerationList ld inp => Sys2Proof.Machine.execGetGenerationList ld inp s
  | .pinGeneration ld inp => Sys2Proof.Machine.execPinGeneration ld inp s
  | .quiesceGroup ld inp => Sys2Proof.Machine.execQuiesceGroup ld inp s
  | .quiesceDrained g => Sys2Proof.Machine.execQuiesceDrained g s
  | .quiesceLimitExpiry g => Sys2Proof.Machine.execQuiesceLimitExpiry g s
  | .unpickGroup ld inp => Sys2Proof.Machine.execUnpickGroup ld inp s
  | .unpickCommit g ok loc => Sys2Proof.Machine.execUnpickCommit g ok loc s
  | .unpickRebuildDone g => Sys2Proof.Machine.execUnpickRebuildDone g s
  | .releaseGroup ld inp => Sys2Proof.Machine.execReleaseGroup ld inp s
  | .setGroupKeyMode ld inp => Sys2Proof.Machine.execSetGroupKeyMode ld inp s
  | .unlockGroup ld inp => Sys2Proof.Machine.execUnlockGroup ld inp s
  | .eraseGroup ld inp => Sys2Proof.Machine.execEraseGroup ld inp s
  | .genRingCfgWrite val => Sys2Proof.Machine.execGenRingCfgWrite val s
  | .keySelftest val => Sys2Proof.Machine.execKeySelftest val s
  | .keySelftestDone pass moduleKey drbgOk => Sys2Proof.Machine.execKeySelftestDone pass moduleKey drbgOk s
  | .cxlmemRead ld hpa tag => Sys2Proof.Machine.execCxlmemRead ld hpa tag s
  | .cxlmemWrite ld hpa tag data poison => Sys2Proof.Machine.execCxlmemWrite ld hpa tag data poison s
  | .cxlmemWritePartial ld hpa tag data mask poison => Sys2Proof.Machine.execCxlmemWritePartial ld hpa tag data mask poison s
  | .cxlmemSpecRead ld hpa => Sys2Proof.Machine.execCxlmemSpecRead ld hpa s
  | .cxlmemMalformed ld tag wantsData => Sys2Proof.Machine.execCxlmemMalformed ld tag wantsData s
  | .heldWriteRelease win tag => Sys2Proof.Machine.execHeldWriteRelease win tag s
  | .pacingGraceExpiry g => Sys2Proof.Machine.execPacingGraceExpiry g s
  | .pacingAverage => Sys2Proof.Machine.execPacingAverage s
  | .bastingStart g => Sys2Proof.Machine.execBastingStart g s
  | .capture c => Sys2Proof.Machine.execCapture c s
  | .reliefStart => Sys2Proof.Machine.execReliefStart s
  | .reliefProgramDone e loc => Sys2Proof.Machine.execReliefProgramDone e loc s
  | .flashProgramComplete id e loc => Sys2Proof.Machine.execFlashProgramComplete id e loc s
  | .deltaReadback g part ok loc => Sys2Proof.Machine.execDeltaReadback g part ok loc s
  | .sealReadback g kind ok loc => Sys2Proof.Machine.execSealReadback g kind ok loc s
  | .sealRetry g => Sys2Proof.Machine.execSealRetry g s
  | .verifyPass g gen bad => Sys2Proof.Machine.execVerifyPass g gen bad s
  | .verifySweep e => Sys2Proof.Machine.execVerifySweep e s
  | .inputLoss => Sys2Proof.Machine.execInputLoss s
  | .siblingFault => Sys2Proof.Machine.execSiblingFault s
  | .hemNow ld inp => Sys2Proof.Machine.execHemNow ld inp s
  | .genHemCmdHem val => Sys2Proof.Machine.execGenHemCmdHem val s
  | .hemSealWrite => Sys2Proof.Machine.execHemSealWrite s
  | .hemSealReadback g gen ok loc => Sys2Proof.Machine.execHemSealReadback g gen ok loc s
  | .keepAliveStart => Sys2Proof.Machine.execKeepAliveStart s
  | .keepAliveTimeExpiry => Sys2Proof.Machine.execKeepAliveTimeExpiry s
  | .resumeMemory ld inp canaryOk weak => Sys2Proof.Machine.execResumeMemory ld inp canaryOk weak s
  | .genHemCmdResume val canaryOk weak => Sys2Proof.Machine.execGenHemCmdResume val canaryOk weak s
  | .getHemStatus ld inp => Sys2Proof.Machine.execGetHemStatus ld inp s
  | .setRestoreMode ld inp => Sys2Proof.Machine.execSetRestoreMode ld inp s
  | .restoreStart => Sys2Proof.Machine.execRestoreStart s
  | .restoreRebuildDone walk chainBad => Sys2Proof.Machine.execRestoreRebuildDone walk chainBad s
  | .onTouchFetchDone swatch res us => Sys2Proof.Machine.execOnTouchFetchDone swatch res us s
  | .restoreSweepFetch slice res => Sys2Proof.Machine.execRestoreSweepFetch slice res s
  | .foldHemGeneration g gen locs => Sys2Proof.Machine.execFoldHemGeneration g gen locs s
  | .windowEntryWrite off val => Sys2Proof.Machine.execWindowEntryWrite off val s
  | .groupEntryWrite off val => Sys2Proof.Machine.execGroupEntryWrite off val s
  | .getWindow ld inp => Sys2Proof.Machine.execGetWindow ld inp s
  | .setWindow ld inp => Sys2Proof.Machine.execSetWindow ld inp s
  | .getGroupConfig ld inp => Sys2Proof.Machine.execGetGroupConfig ld inp s
  | .setGroupConfig ld inp => Sys2Proof.Machine.execSetGroupConfig ld inp s
  | .getPacing ld inp => Sys2Proof.Machine.execGetPacing ld inp s
  | .getLinkCounters ld inp => Sys2Proof.Machine.execGetLinkCounters ld inp s
  | .identify ld inp => Sys2Proof.Machine.execIdentify ld inp s
  | .backgroundOperationStatus ld inp => Sys2Proof.Machine.execBackgroundOperationStatus ld inp s
  | .getEventRecords ld inp => Sys2Proof.Machine.execGetEventRecords ld inp s
  | .clearEventRecords ld inp => Sys2Proof.Machine.execClearEventRecords ld inp s
  | .getEventInterruptPolicy ld inp => Sys2Proof.Machine.execGetEventInterruptPolicy ld inp s
  | .setEventInterruptPolicy ld inp => Sys2Proof.Machine.execSetEventInterruptPolicy ld inp s
  | .getFwInfo ld inp => Sys2Proof.Machine.execGetFwInfo ld inp s
  | .getTimestamp ld inp => Sys2Proof.Machine.execGetTimestamp ld inp s
  | .setTimestamp ld inp => Sys2Proof.Machine.execSetTimestamp ld inp s
  | .getSupportedLogs ld inp => Sys2Proof.Machine.execGetSupportedLogs ld inp s
  | .getLog ld inp => Sys2Proof.Machine.execGetLog ld inp s
  | .identifyMemoryDevice ld inp => Sys2Proof.Machine.execIdentifyMemoryDevice ld inp s
  | .getHealthInfo ld inp => Sys2Proof.Machine.execGetHealthInfo ld inp s
  | .unsupportedOpcode ld opcode => Sys2Proof.Machine.execUnsupportedOpcode ld opcode s
  | .mailboxDoorbell ld opcode inp => Sys2Proof.Machine.execMailboxDoorbell ld opcode inp s
  | .mailboxCommandServe => Sys2Proof.Machine.execMailboxCommandServe s
  | .statusMirrorRefresh => Sys2Proof.Machine.execStatusMirrorRefresh s
  | .conventionalReset port => Sys2Proof.Machine.execConventionalReset port s
  | .hotReset port => Sys2Proof.Machine.execHotReset port s
  | .linkDown port => Sys2Proof.Machine.execLinkDown port s
  | .linkUp port width rate flit256 => Sys2Proof.Machine.execLinkUp port width rate flit256 s
  | .functionLevelReset ld => Sys2Proof.Machine.execFunctionLevelReset ld s
  | .l0pRequest port width => Sys2Proof.Machine.execL0pRequest port width s
  | .ideFail port => Sys2Proof.Machine.execIdeFail port s
  | .hlPwrWrite link val => Sys2Proof.Machine.execHlPwrWrite link val s
  | .dramAccessComplete ch sub aged errs => Sys2Proof.Machine.execDramAccessComplete ch sub aged errs s
  | .refreshDue ch rank => Sys2Proof.Machine.execRefreshDue ch rank s
  | .refreshDebtIssue ch rank => Sys2Proof.Machine.execRefreshDebtIssue ch rank s
  | .drfmIssue ch => Sys2Proof.Machine.execDrfmIssue ch s
  | .rfmIssue ch => Sys2Proof.Machine.execRfmIssue ch s
  | .rowTrackerClear => Sys2Proof.Machine.execRowTrackerClear s
  | .dramAlert ch parity crc => Sys2Proof.Machine.execDramAlert ch parity crc s
  | .alertWindowClose ch => Sys2Proof.Machine.execAlertWindowClose ch s
  | .tsetRequest ch val => Sys2Proof.Machine.execTsetRequest ch val s
  | .timingSetSwitchDone e => Sys2Proof.Machine.execTimingSetSwitchDone e s
  | .dphFullSweep ch => Sys2Proof.Machine.execDphFullSweep ch s
  | .dphSlicedSweep ch => Sys2Proof.Machine.execDphSlicedSweep ch s
  | .trainingSweepDone ch a0 b0 a1 b1 ms e => Sys2Proof.Machine.execTrainingSweepDone ch a0 b0 a1 b1 ms e s
  | .retrainPause ch sub drift => Sys2Proof.Machine.execRetrainPause ch sub drift s
  | .sweepSlice ch last m => Sys2Proof.Machine.execSweepSlice ch last m s
  | .patrolScrub ch errs => Sys2Proof.Machine.execPatrolScrub ch errs s
  | .dramTempRead ch a b => Sys2Proof.Machine.execDramTempRead ch a b s
  | .flashMount ch geom checks intentOk => Sys2Proof.Machine.execFlashMount ch geom checks intentOk s
  | .flashEraseComplete blk ok => Sys2Proof.Machine.execFlashEraseComplete blk ok s
  | .flashReadComplete loc res => Sys2Proof.Machine.execFlashReadComplete loc res s
  | .stuckTargetTimeout ch target => Sys2Proof.Machine.execStuckTargetTimeout ch target s
  | .eraseResume ch target lun => Sys2Proof.Machine.execEraseResume ch target lun s
  | .intentPageDurable ch => Sys2Proof.Machine.execIntentPageDurable ch s
  | .validCountRecount => Sys2Proof.Machine.execValidCountRecount s
  | .relocation target lun block locs => Sys2Proof.Machine.execRelocation target lun block locs s
  | .nandTempRead ch temp target => Sys2Proof.Machine.execNandTempRead ch temp target s
  | .poolGrant client count => Sys2Proof.Machine.execPoolGrant client count s
  | .poolGrantAfterWait => Sys2Proof.Machine.execPoolGrantAfterWait s
  | .poolQuotaWrite client val => Sys2Proof.Machine.execPoolQuotaWrite client val s
  | .powerUp bif0 bif1 => Sys2Proof.Machine.execPowerUp bif0 bif1 s
  | .railUp rail ramp => Sys2Proof.Machine.execRailUp rail ramp s
  | .railRampTimeout rail => Sys2Proof.Machine.execRailRampTimeout rail s
  | .railPgFall rail => Sys2Proof.Machine.execRailPgFall rail s
  | .scanRead input mv refOk => Sys2Proof.Machine.execScanRead input mv refOk s
  | .psqCmdOn val => Sys2Proof.Machine.execPsqCmdOn val s
  | .psqCmdOff val => Sys2Proof.Machine.execPsqCmdOff val s
  | .railDischarged rail ms => Sys2Proof.Machine.execRailDischarged rail ms s
  | .dischargeTimeout rail => Sys2Proof.Machine.execDischargeTimeout rail s
  | .minOffTimeExpiry => Sys2Proof.Machine.execMinOffTimeExpiry s
  | .inputPresent canaryOk weak => Sys2Proof.Machine.execInputPresent canaryOk weak s
  | .powerCycle => Sys2Proof.Machine.execPowerCycle s
  | .vaoReset => Sys2Proof.Machine.execVaoReset s
  | .holdPgRise t => Sys2Proof.Machine.execHoldPgRise t s
  | .holdPgLimitExpiry => Sys2Proof.Machine.execHoldPgLimitExpiry s
  | .holdPgFall => Sys2Proof.Machine.execHoldPgFall s
  | .psqHoldTest val => Sys2Proof.Machine.execPsqHoldTest val s
  | .holdTestEnd => Sys2Proof.Machine.execHoldTestEnd s
  | .psqTraceFreeze val => Sys2Proof.Machine.execPsqTraceFreeze val s
  | .psqTraceUnfreeze val => Sys2Proof.Machine.execPsqTraceUnfreeze val s
  | .traceSample input => Sys2Proof.Machine.execTraceSample input s
  | .resetStretchExpiry k => Sys2Proof.Machine.execResetStretchExpiry k s
  | .psqRstCtrlWrite val => Sys2Proof.Machine.execPsqRstCtrlWrite val s
  | .trigger2Arm => Sys2Proof.Machine.execTrigger2Arm s
  | .latchOpenChange isOpen => Sys2Proof.Machine.execLatchOpenChange isOpen s
  | .vidStep target => Sys2Proof.Machine.execVidStep target s
  | .batSecond => Sys2Proof.Machine.execBatSecond s
  | .restPauseEnd => Sys2Proof.Machine.execRestPauseEnd s
  | .hibEstimatorTick secs => Sys2Proof.Machine.execHibEstimatorTick secs s
  | .batEnableTableCheck val => Sys2Proof.Machine.execBatEnableTableCheck val s
  | .batLearnRequest val => Sys2Proof.Machine.execBatLearnRequest val s
  | .getBatteryStatus ld inp => Sys2Proof.Machine.execGetBatteryStatus ld inp s
  | .requestLearningCycle ld inp => Sys2Proof.Machine.execRequestLearningCycle ld inp s
  | .armShipMode ld inp => Sys2Proof.Machine.execArmShipMode ld inp s
  | .disarmShipMode ld inp => Sys2Proof.Machine.execDisarmShipMode ld inp s
  | .diodeRead t => Sys2Proof.Machine.execDiodeRead t s
  | .thmCheck => Sys2Proof.Machine.execThmCheck s
  | .getThermalStatus ld inp => Sys2Proof.Machine.execGetThermalStatus ld inp s
  | .lockstepDivergence pc => Sys2Proof.Machine.execLockstepDivergence pc s
  | .watchdogExpiry pc => Sys2Proof.Machine.execWatchdogExpiry pc s
  | .watchdogKick val => Sys2Proof.Machine.execWatchdogKick val s
  | .sramUncorrectable off => Sys2Proof.Machine.execSramUncorrectable off s
  | .cflProgramPage val fetchBank => Sys2Proof.Machine.execCflProgramPage val fetchBank s
  | .cflEraseSector val fetchBank => Sys2Proof.Machine.execCflEraseSector val fetchBank s
  | .cflBlankCheck val fetchBank => Sys2Proof.Machine.execCflBlankCheck val fetchBank s
  | .cflOperationDone bank ok => Sys2Proof.Machine.execCflOperationDone bank ok s
  | .cflReadSuspend bank => Sys2Proof.Machine.execCflReadSuspend bank s
  | .cflEraseResume bank => Sys2Proof.Machine.execCflEraseResume bank s
  | .icuMessage src => Sys2Proof.Machine.execIcuMessage src s
  | .icuDoorbell val => Sys2Proof.Machine.execIcuDoorbell val s
  | .icuEntry ctx => Sys2Proof.Machine.execIcuEntry ctx s
  | .icuDone val => Sys2Proof.Machine.execIcuDone val s
  | .icuExit => Sys2Proof.Machine.execIcuExit s
  | .icuPendclr val => Sys2Proof.Machine.execIcuPendclr val s
  | .icuEnset val => Sys2Proof.Machine.execIcuEnset val s
  | .icuEnclr val => Sys2Proof.Machine.execIcuEnclr val s
  | .icuPrioSet val => Sys2Proof.Machine.execIcuPrioSet val s
  | .wfiSleep => Sys2Proof.Machine.execWfiSleep s
  | .sleepWake => Sys2Proof.Machine.execSleepWake s
  | .thimbleWake src => Sys2Proof.Machine.execThimbleWake src s
  | .operatingSecond => Sys2Proof.Machine.execOperatingSecond s
  | .tickCompare => Sys2Proof.Machine.execTickCompare s
  | .eventAdmission => Sys2Proof.Machine.execEventAdmission s
  | .evrFlushTimer => Sys2Proof.Machine.execEvrFlushTimer s
  | .evrPageDurable ok => Sys2Proof.Machine.execEvrPageDurable ok s
  | .evrMount torn summaryOk => Sys2Proof.Machine.execEvrMount torn summaryOk s
  | .evrFreeze val => Sys2Proof.Machine.execEvrFreeze val s
  | .evrUnfreeze val => Sys2Proof.Machine.execEvrUnfreeze val s
  | .evrFlush val => Sys2Proof.Machine.execEvrFlush val s
  | .evrClear val => Sys2Proof.Machine.execEvrClear val s
  | .evrSummaryCmd val aOk bOk => Sys2Proof.Machine.execEvrSummaryCmd val aOk bOk s
  | .summaryInterval aOk bOk => Sys2Proof.Machine.execSummaryInterval aOk bOk s
  | .clearLogDone => Sys2Proof.Machine.execClearLogDone s
  | .evrFwGo val => Sys2Proof.Machine.execEvrFwGo val s
  | .getLogInfo ld inp => Sys2Proof.Machine.execGetLogInfo ld inp s
  | .readLog ld inp => Sys2Proof.Machine.execReadLog ld inp s
  | .getSummary ld inp => Sys2Proof.Machine.execGetSummary ld inp s
  | .freezeLog ld inp => Sys2Proof.Machine.execFreezeLog ld inp s
  | .unfreezeLog ld inp => Sys2Proof.Machine.execUnfreezeLog ld inp s
  | .clearLog ld inp => Sys2Proof.Machine.execClearLog ld inp s
  | .setLogPolicy ld inp => Sys2Proof.Machine.execSetLogPolicy ld inp s
  | .transferFwFull ld inp => Sys2Proof.Machine.execTransferFwFull ld inp s
  | .transferFwInitiate ld inp => Sys2Proof.Machine.execTransferFwInitiate ld inp s
  | .transferFwContinue ld inp => Sys2Proof.Machine.execTransferFwContinue ld inp s
  | .transferFwEnd ld inp => Sys2Proof.Machine.execTransferFwEnd ld inp s
  | .transferFwAbort ld inp => Sys2Proof.Machine.execTransferFwAbort ld inp s
  | .transferFwTimeout => Sys2Proof.Machine.execTransferFwTimeout s
  | .reconstruction flashOk => Sys2Proof.Machine.execReconstruction flashOk s
  | .activateFwOnline ld inp => Sys2Proof.Machine.execActivateFwOnline ld inp s
  | .activateFwCold ld inp => Sys2Proof.Machine.execActivateFwCold ld inp s
  | .updActivate val => Sys2Proof.Machine.execUpdActivate val s
  | .updHoAck val converted recs => Sys2Proof.Machine.execUpdHoAck val converted recs s
  | .handoverTimeout => Sys2Proof.Machine.execHandoverTimeout s
  | .trialExpiry => Sys2Proof.Machine.execTrialExpiry s
  | .confirmUpdate ld inp => Sys2Proof.Machine.execConfirmUpdate ld inp s
  | .fallBack ld inp => Sys2Proof.Machine.execFallBack ld inp s
  | .fallBackDeferredRun => Sys2Proof.Machine.execFallBackDeferredRun s
  | .setOwnerLock ld inp => Sys2Proof.Machine.execSetOwnerLock ld inp s
  | .getUpdateStatus ld inp => Sys2Proof.Machine.execGetUpdateStatus ld inp s
  | .updCmdConfirm val => Sys2Proof.Machine.execUpdCmdConfirm val s
  | .updCmdFallBack val => Sys2Proof.Machine.execUpdCmdFallBack val s
  | .updCmdFail val => Sys2Proof.Machine.execUpdCmdFail val s
  | .updCmdAbort val => Sys2Proof.Machine.execUpdCmdAbort val s
  | .updKeyRetire val => Sys2Proof.Machine.execUpdKeyRetire val s
  | .sb0ReadIdentity => Sys2Proof.Machine.execSb0ReadIdentity s
  | .sb0ReadLevel => Sys2Proof.Machine.execSb0ReadLevel s
  | .sb0ReadTj => Sys2Proof.Machine.execSb0ReadTj s
  | .sb0ReadEnergy => Sys2Proof.Machine.execSb0ReadEnergy s
  | .sb0ReadHem => Sys2Proof.Machine.execSb0ReadHem s
  | .sb0ReadEventSeq => Sys2Proof.Machine.execSb0ReadEventSeq s
  | .sb0SetWindow data pec => Sys2Proof.Machine.execSb0SetWindow data pec s
  | .sb0ReadMirror => Sys2Proof.Machine.execSb0ReadMirror s
  | .sb0PowerOff data pec => Sys2Proof.Machine.execSb0PowerOff data pec s
  | .sb0ReadResult => Sys2Proof.Machine.execSb0ReadResult s
  | .sb0UnknownCommand code => Sys2Proof.Machine.execSb0UnknownCommand code s
  | .sb0CmdDone val => Sys2Proof.Machine.execSb0CmdDone val s
  | .sb0ProtocolError => Sys2Proof.Machine.execSb0ProtocolError s
  | .sb0Timeout => Sys2Proof.Machine.execSb0Timeout s
  | .sb0WakeStart => Sys2Proof.Machine.execSb0WakeStart s
  | .sb1HoldupStatusPoll e status => Sys2Proof.Machine.execSb1HoldupStatusPoll e status s
  | .sb1ChargerCurrentWrite e back => Sys2Proof.Machine.execSb1ChargerCurrentWrite e back s
  | .sb1ChargerVoltageWrite e back => Sys2Proof.Machine.execSb1ChargerVoltageWrite e back s
  | .sb1ChargerPhaseRead e phase => Sys2Proof.Machine.execSb1ChargerPhaseRead e phase s
  | .sb1PmicPoll k e isFault => Sys2Proof.Machine.execSb1PmicPoll k e isFault s
  | .sb1PackIdRead e serial => Sys2Proof.Machine.execSb1PackIdRead e serial s
  | .sb1XferGo val => Sys2Proof.Machine.execSb1XferGo val s
  | .sb1XferDone e done data => Sys2Proof.Machine.execSb1XferDone e done data s
  | .sb1ArbLostRetry => Sys2Proof.Machine.execSb1ArbLostRetry s
  | .sb1SdaStuck => Sys2Proof.Machine.execSb1SdaStuck s
  | .sb1StuckRecoveryCheck sdaHigh => Sys2Proof.Machine.execSb1StuckRecoveryCheck sdaHigh s
  | .errorReport page bit unit => Sys2Proof.Machine.execErrorReport page bit unit s
  | .handlingTimeout page unit => Sys2Proof.Machine.execHandlingTimeout page unit s
  | .fltFence val => Sys2Proof.Machine.execFltFence val s
  | .fltLift val => Sys2Proof.Machine.execFltLift val s
  | .dumpWindowExpiry => Sys2Proof.Machine.execDumpWindowExpiry s
  | .fltDumpTake val => Sys2Proof.Machine.execFltDumpTake val s
  | .fltDumpDone val => Sys2Proof.Machine.execFltDumpDone val s
  | .fltDumpClear val => Sys2Proof.Machine.execFltDumpClear val s
  | .fltStickyClr val => Sys2Proof.Machine.execFltStickyClr val s
  | .getFaultStatus ld inp => Sys2Proof.Machine.execGetFaultStatus ld inp s
  | .takeDump ld inp => Sys2Proof.Machine.execTakeDump ld inp s
  | .readDump ld inp => Sys2Proof.Machine.execReadDump ld inp s
  | .clearDump ld inp => Sys2Proof.Machine.execClearDump ld inp s
  | .clearDumpDone => Sys2Proof.Machine.execClearDumpDone s
  | .clearSticky ld inp => Sys2Proof.Machine.execClearSticky ld inp s
  | .genGenCmd val => Sys2Proof.Machine.execGenGenCmd val s
  | .blockDomainPowerWrite addr val => Sys2Proof.Machine.execBlockDomainPowerWrite addr val s
  | .hdmDecoderCommit ld dec base size ways gran pos skip => Sys2Proof.Machine.execHdmDecoderCommit ld dec base size ways gran pos skip s
  | .doeRequest ld proto ideStep => Sys2Proof.Machine.execDoeRequest ld proto ideStep s
  | .pllUnlock ch => Sys2Proof.Machine.execPllUnlock ch s
  | .watchdogHalfTimeout => Sys2Proof.Machine.execWatchdogHalfTimeout s
  | .codeFlashUncorrectable addr => Sys2Proof.Machine.execCodeFlashUncorrectable addr s
  | .jtagReset => Sys2Proof.Machine.execJtagReset s
  | .vaoResetRelease strap => Sys2Proof.Machine.execVaoResetRelease strap s

end Sys2Proof.Machine
end

