-- ==== Sys2Proof/Machine/Tick.lean ====
section
/-! DEFINITION. One tick of the 32.768 kHz time base (R12, R424; log entry 7): what an empty queue lets pass. -/

namespace Sys2Proof.Machine

/-- The time base advances one tick: the tick counter within the second while VCORE is up (it waits at its last
value for OPERATING_SECOND), the off-time count while VCORE is off. -/
def tick (s : State) : State :=
  if coreUp s then
    let t := ticks s
    let s := if t < 32767 then wrF s Reg.sysTicks 0 15 (t + 1) else s
    { s with psq := { s.psq with upTicks := s.psq.upTicks + 1 } }
  else { s with psq := { s.psq with offTicks := s.psq.offTicks + 1 } }

end Sys2Proof.Machine
end

