-- ==== Sys2Proof/Safety.lean ====
section
/-! DEFINITION. What a sound state of the block is: the sparse maps it is held in keep their canonical form,
a gating credit never exceeds 8 (R17) and the priority stack never holds more than 16 entries (R415). -/

namespace Sys2Proof.Machine

/-- Every byte memory and the register file are in canonical form. -/
def State.memWf (s : State) : Bool :=
  Sparse.wf resetOf s.regs && Sparse.wf (fun _ => (0#8 : Byte)) s.dram.mem && Sparse.wf (fun _ => (0#8 : Byte)) s.sram
    && Sparse.wf (fun _ => (0xFF#8 : Byte)) s.cfl.mem

/-- The canonical form of memory. -/
abbrev Memory.wf (s : State) : Prop := s.memWf = true

/-- No gating credit exceeds 8 (R17). -/
def State.creditsOk (s : State) : Bool := s.doms.all fun e => decide (e.2.credit ≤ 8)

/-- The priority stack holds at most 16 entries (R415). -/
def State.stackOk (s : State) : Bool := decide (s.icu.stack.length ≤ 16)

/-- Bit `b` of ERR_STATUS of page `p` (R33). -/
def hasErr (s : State) (p b : Nat) : Bool := Bits.bit (rd s (errStatusA p)) b

/-- Firmware may start an operation of a kind in the code flash (R408, R409, R464, R474, R515): the address is aligned and
in no protected or barred place, its bank is idle, fewer than two banks work and no firmware operation runs. -/
def flashReady (s : State) (kind : Nat) : Bool :=
  let addr := (rd s Reg.cflAddr).toNat
  let bank := addr / 2 ^ 24
  (kind == 3 || !rb s Reg.cflProtect bank) && (cflOp s bank).isNone && decide (s.cfl.ops.length < 2) && !cflFwBusy s
    && decide (addr % cflUnit kind = 0) && !cflBarred s kind addr && !cflDumpBarred s addr

/-- No escalation waits (R505): the state between two commands. -/
def State.calm (s : State) : Bool := s.flt.esc.isEmpty

/-- The offline reasons of every window are taken over (R219), and no budget reason stands at a service level that ends
it (R126): the end of a step has nothing to bring up to date. -/
def State.quiet (s : State) : Bool :=
  (!coreUp s || !((validWins s ++ Sparse.keys s.hl.wins).eraseDups.any fun w => (winOf s w).seen != winReasons s w)) &&
    (!persistLost s || !(s.gen.groups.any fun e => e.2.pacing.any fun r => r.reason == 1 || r.reason == 2))

end Sys2Proof.Machine
end

