-- ==== Sys2Proof/Certificates/Slice0/Obligations.lean ====
section
/-! DEFINITION. The statements for the provers. The first 36 say, for every command of the table, in which states it
completes and what it then leaves; the others state rules of single units, frames, and what every step keeps. -/

open Sys2Proof Sys2Proof.Machine Sys2Proof.Bits

/-- R36, R30, R31, R16: LOCK bits only rise; CTRL writes carry enable and power_req, or leave a soft reset to the hop in
which the handshakes have ended; the power registers of a block store their value. -/
def Obligations.CommonPageCommands : Prop :=
  (∀ page val s, isPage page = true →
    exec (.lockSet page val) s = .next (wr s (lockA page) (rd s (lockA page) ||| (val &&& 3#32)))) ∧
  (∀ page val s, isPage page = true → bit val 1 = false →
    exec (.powerReq page val) s = .next (settle (setCtrl s page (bit val 0) (bit val 2)))) ∧
  (∀ page val s, isPage page = true → softRefused s page = false →
    exec (.softReset page val) s =
      .next (settle { s with resets := (s.resets.filter fun e => e.1 != page) ++ [(page, val ||| 2#32)] })) ∧
  (∀ page val s, s.resets = [(page, val)] →
    exec (.softResetTakeEffect page) s = .next (settle (softReset { s with resets := [] } page val))) ∧
  (∀ (addr val : Word) s a, addr.toNat = 0x40000000 + a →
    a ∈ [Reg.genSlicePwr, Reg.poolBankPwr, Reg.genmCacheCtrl, Reg.sysSramPwr, Reg.sysDebug] →
    a ≠ Reg.sysSramPwr ∨ bit val 0 = true ∨ (domOf s 100).st = 0 →
    exec (.blockDomainPowerWrite addr val) s = .next (settle (plainWrite s a val))) ∧
  (∀ (addr val : Word) s, addr.toNat = 0x40000000 + Reg.sysSramPwr → bit val 0 = false → (domOf s 100).st ≠ 0 →
    exec (.blockDomainPowerWrite addr val) s = .next (settle (accessErr s Pg.sys)))

/-- R33, R34, R541, R503, R21, R15: an ERR_STATUS write clears the bits it names; an injected or detected error sets its
bit, and so do a handshake that overruns and an access outside the map. -/
def Obligations.ErrorCommands : Prop :=
  (∀ page val s, isPage page = true → s.memWf = true →
    ∃ u, exec (.errStatusClear page val 0#32) s = .next (settle u) ∧
      rd u (errStatusA page) = rd s (errStatusA page) &&& ~~~val) ∧
  (∀ page b unit s, isPage page = true → classOf page b ≠ 0 → coreUp s = true → s.memWf = true → b < 32 →
    ∃ u, exec (.errorReport page b unit) s = .next (settle u) ∧ hasErr u page b = true) ∧
  (∀ page unit s, isPage page = true → coreUp s = true → s.memWf = true →
    ∃ u, exec (.handshakeWatchdog page unit) s = .next (settle u) ∧ hasErr u page 4 = true) ∧
  (∀ addr kind s, regionOf (BitVec.toNat addr) = .unmapped → s.memWf = true →
    ∃ u, exec (.mgmtUnmappedAccess addr kind) s = .next (settle u) ∧ hasErr u Pg.sys 3 = true) ∧
  (∀ addr a s, regionOf (BitVec.toNat addr) = .page a ∨ regionOf (BitVec.toNat addr) = .table a →
    exec (.mgmtUnmappedAccess addr .fetch) s = .next (settle (accessErr s Pg.sys))) ∧
  (∀ page b s, isPage page = true → classOf page b ≠ 0 → coreUp s = true → s.memWf = true → b < 32 →
    injectLocked s page = false →
    ∃ u, exec (.errInject page (one b)) s = .next (settle u) ∧ hasErr u page b = true)

/-- R504, R507, R508, R514, R517, R519: the commands of the fault manager. -/
def Obligations.FaultManagerCommands : Prop :=
  (∀ page unit s, ∃ u, exec (.handlingTimeout page unit) s = .next (settle u) ∧
    u.flt.handling = s.flt.handling.filter (fun h => unitKey h.1 h.2.1 != unitKey page (unit % unitsOf page)) ∧
    u = { s with flt := { s.flt with handling := u.flt.handling } }) ∧
  (∀ (val : Word) s, fld val 24 8 = 0x46 → fenceable (fld val 0 7) = true → fld val 8 4 < unitsOf (fld val 0 7) →
    bit val 16 = true → exec (.fltFence val) s = .next (settle (fenceUnit s (fld val 0 7) (fld val 8 4) false))) ∧
  (∀ (val : Word) s k, fld val 24 8 = 0x46 → fenceable (fld val 0 7) = true → fld val 8 4 < unitsOf (fld val 0 7) →
    bit val 16 = false → unitKey (fld val 0 7) (fld val 8 4) = k → s.flt.fences = [{ page := k.1, unit := k.2, hw := false }] →
    exec (.fltLift val) s = .next (settle (if 0x20 ≤ k.1 ∧ k.1 < 0x40 then icu s 468 else liftUnit s k))) ∧
  (∀ (val : Word) s k, fld val 24 8 = 0x46 → fenceable (fld val 0 7) = true → fld val 8 4 < unitsOf (fld val 0 7) →
    bit val 16 = false → unitKey (fld val 0 7) (fld val 8 4) = k → s.flt.fences = [{ page := k.1, unit := k.2, hw := true }] →
    exec (.fltLift val) s = .next (settle (accessErr s Pg.flt))) ∧
  (∀ s, s.flt.state = 3 → exec .dumpWindowExpiry s = .next (settle (closeWindow s))) ∧
  (∀ s, s.flt.state ≠ 3 → canDump s = true →
    ∃ u, exec (.fltDumpTake 1#32) s = .next (settle u) ∧ u.flt.dump = some 2 ∧ u.flt.snap = (takeSnap s).flt.snap) ∧
  (∀ s k, s.flt.state ≠ 3 → s.flt.dump = some k →
    exec (.fltDumpDone 2#32) s = .next (settle (icu { s with flt := { s.flt with dump := none } } 470))) ∧
  (∀ s, s.flt.erasing = false → s.flt.dump = none →
    exec (.fltDumpClear 0x44430004#32) s = .next (settle { s with flt := { s.flt with erasing := true } })) ∧
  (∀ s, exec (.fltStickyClr 0x53430000#32) s = .next (settle (wr s Reg.fltSticky 0#32)))

/-- R517, R518: the mailbox commands of the fault manager answer with the payload of their table. -/
def Obligations.FaultMailboxCommands : Prop :=
  (∀ ld s, exec (.getFaultStatus ld []) s = .next (settle (replyOk s ld (faultStatus s)))) ∧
  (∀ ld s, isAdmin s ld = true → canDump s = true →
    exec (.takeDump ld []) s = .next (settle (replyCode (dumpOnCommand s) ld frDONE))) ∧
  (∀ ld s off n, off % 4 = 0 → 4 ≤ n → n ≤ 2040 → off + n ≤ dumpSize → dumpState s = 1 →
    exec (.readDump ld (leBytes 4 off ++ leBytes 2 n ++ zeros 2)) s =
      .next (settle (replyOk s ld (leBytes 1 0 ++ leBytes 1 1 ++ zeros 6 ++ cflBytes s (dumpBase + off) n)))) ∧
  (∀ ld s, isAdmin s ld = true → s.flt.erasing = false → s.flt.dump = none →
    exec (.clearDump ld (leBytes 4 clearMagic)) s = .next (settle (startBg s ld 0xC063 dumpClear))) ∧
  (∀ ld s, isAdmin s ld = true →
    exec (.clearSticky ld (leBytes 4 clearMagic)) s = .next (settle (replyCode (wr s Reg.fltSticky 0#32) ld frDONE))) ∧
  (∀ ld s, s.flt.erasing = true → (s.hl.lds.find? fun e => e.2.bg == some 0xC063).map Prod.fst = ld →
    exec .clearDumpDone s = .next (settle (endBg (icu (cflErase { s with flt := { s.flt with erasing := false } }
      dumpBase dumpSize) 474) ld rcSuccess (leBytes 4 0))))

/-- R333, R329 to R332, R354: power-up, the rails and the scan. -/
def Obligations.PowerWalkCommands : Prop :=
  (∀ b0 b1 s, s.psq.vao = true → s.psq.st = 0 → s.psq.minOff = true → s.psq.input = true → onAllowed s = true →
    exec (.powerUp b0 b1) s =
      .next (settle (startPowerUp { s with hl := { s.hl with strap0 := b0, strap1 := b1 } } false))) ∧
  (∀ rail ramp s, rail < 24 → rail ≠ 22 → (railOf s rail).enabled = true → (railOf s rail).up = false →
    (railOf s rail).failed = false →
    ∃ u, exec (.railUp rail ramp) s = .next (settle (walk (if rail = 0 then coreStarted u else if rail = 2 then
        wrB (wrB u (Reg.hlLinkCfg 0) 0 u.hl.strap0) (Reg.hlLinkCfg 1) 0 u.hl.strap1 else u))) ∧
      u = setRail (railPg s rail true) rail
        { railOf (railPg s rail true) rail with up := true, ramp := min 255 ramp, outCount := 0 }) ∧
  (∀ rail s, rail < 24 → rail ≠ 22 → (railOf s rail).enabled = true → (railOf s rail).up = false → (railOf s rail).failed = false →
    exec (.railRampTimeout rail) s = .next (settle (walk (railFail s rail 1)))) ∧
  (∀ rail s, rail < 24 → rail ≠ 22 → (railOf s rail).enabled = true → (railOf s rail).up = true →
    exec (.railPgFall rail) s = .next (settle (walk (railFail (railPg s rail false) rail 2)))) ∧
  (∀ input mv s, coreUp s = true → input < 32 →
    ∃ u, exec (.scanRead input mv true) s = .next (settle (if input < 24 then windowCheck u input (min 4095 mv)
        else if input = 27 then recomputeBudget (tapCheck u) else if input = 28 then recomputeBudget (thermistorCheck u)
        else if 30 ≤ input then busCheck u input (min 4095 mv) else u)) ∧
      u = { wr s (Reg.psqScann input) (wd (min 4095 mv + 0x8000)) with psq := { s.psq with scanFault := false } }) ∧
  (∀ input s, input = 29 ∨ input = 30 → exec (.traceSample input) s = .next (settle (trace s 0x0D input (scanMv s input))))

/-- R356, R333, R339, R346, R355: the commands of PSQ_CMD, each under its own bit. -/
def Obligations.SequencerCommands : Prop :=
  (∀ s, enabled s Pg.psq = true → (s.psq.st = 3 ∨ s.psq.st = 4) → s.psq.shutdown = false → s.psq.heldInReset = false →
    exec (.psqCmdOn 1#32) s = .next (settle (latchOn { s with psq := { s.psq with softOff := false } } 3))) ∧
  (∀ s, enabled s Pg.psq = true →
    exec (.psqCmdOff 0x50530002#32) s = .next (settle (offRequest { s with psq := { s.psq with softOff := true } } 5 5))) ∧
  (∀ s, enabled s Pg.psq = true → s.psq.st = 2 → s.psq.input = true → hemBusy s = false → s.psq.holdTest = false →
    exec (.psqHoldTest 4#32) s =
      .next (settle (batHold (updateHold { s with psq := { s.psq with holdTest := true } })))) ∧
  (∀ s, s.psq.holdTest = true → ∃ ok, exec .holdTestEnd s =
      .next (settle (icu (updateHold { s with psq := { s.psq with holdTest := false, testPassed := ok } }) 362)) ∧
      (ok = true ↔ (railOf s 22).pg = true ∧ s.psq.holdTime ≤ rf s Reg.psqHoldCfg 0 8)) ∧
  (∀ s, enabled s Pg.psq = true → exec (.psqTraceFreeze 8#32) s = .next (settle (traceTrigger s))) ∧
  (∀ s, enabled s Pg.psq = true → exec (.psqTraceUnfreeze 16#32) s =
      .next (settle { s with psq := { s.psq with traceFrozen := false, tracePost := none } }))

/-- R335, R339, R341, R342, R531: off walks, the minimum off time, input power, power cycles and VAO. -/
def Obligations.PowerOffCommands : Prop :=
  (∀ rail ms s, (railOf s rail).discharging = true →
    exec (.railDischarged rail ms) s = .next (settle (walk (trace (setRail s rail
      { railOf s rail with discharging := false, discharge := min 255 ms, pg := false }) 6 rail 0)))) ∧
  (∀ rail s, (railOf s rail).discharging = true →
    coreUp s = false → exec (.dischargeTimeout rail) s = .next (settle (walk (icu (trace (setRail s rail { railOf s rail with
      discharging := false, disTimeout := true, timeouts := satAdd 8 (railOf s rail).timeouts 1 }) 6 rail 1) (328 + rail))))) ∧
  (∀ rail s, (railOf s rail).discharging = true → coreUp s = true → s.memWf = true →
    ∃ u, exec (.dischargeTimeout rail) s = .next (settle (walk u)) ∧ hasErr u Pg.psq 17 = true) ∧
  (∀ s, s.psq.minOff = false → coreUp s = false → s.psq.st = 5 → s.psq.onLatched = false →
    exec .minOffTimeExpiry s = .next (settle { s with psq := { s.psq with minOff := true, st := 0, onLatched := false } })) ∧
  (∀ s, s.psq.minOff = false → coreUp s = false → s.psq.st = 5 → s.psq.onLatched = true → s.psq.input = true →
    onAllowed s = true → exec .minOffTimeExpiry s = .next (settle
      (startPowerUp { s with psq := { s.psq with minOff := true, st := 0, onLatched := false } } false))) ∧
  (∀ c weak s, s.psq.input = false → s.psq.vao = true → s.gen.hem.active = false → s.gen.hem.st = 0 →
    s.psq.st = 3 ∨ s.psq.st = 4 ∨ s.psq.st = 5 → onAllowed s = true →
    ∃ u, exec (.inputPresent c weak) s = .next (settle (latchOn (updateHold { u with psq := { u.psq with holdLoss := false } }) 1)) ∧
      u = trace (icu { s with psq := { s.psq with input := true, below := false } } 353) 8 0 1) ∧
  (∀ c weak s, s.psq.input = false → s.psq.vao = true → s.gen.hem.active = true → s.psq.st = 2 →
    ∃ u, exec (.inputPresent c weak) s = .next (settle (setHem (updateHold { u with psq := { u.psq with holdLoss := false } })
        { s.gen.hem with returned := true, warmOk := some (c, weak) })) ∧
      u = trace (icu { s with psq := { s.psq with input := true, below := false } } 353) 8 0 1) ∧
  (∀ c weak s, s.psq.input = false → s.psq.vao = true → s.gen.hem.active = false → s.gen.hem.st = 4 → s.psq.st = 6 ∨ s.psq.st = 4 →
    ∃ u, exec (.inputPresent c weak) s = .next (settle (startPowerUp
        (setHem u { u.gen.hem with warmOk := some (c, weak) }) true)) ∧ u.gen = s.gen ∧ u.psq.input = true ∧
      u.psq.holdLoss = false ∧ u.psq.holdKa = false) ∧
  (∀ s, s.psq.input = false → ∃ u, exec .powerCycle s = .next (settle u) ∧
      u = clearLatches (addSat s Reg.sysPowerCycles 0 24 1) ∧ u.psq.softOff = false ∧
      u.psq.shutdown = false ∧ u.psq.heldInReset = false ∧ u.thm.lost = false) ∧
  (∀ s, ∃ u, exec .vaoReset s = .next (settle u) ∧ u.psq.vao = false ∧ u.dram = {} ∧ u.sb = {} ∧ u.sram = [] ∧
      u.gen.map = [] ∧ u.pending = s.pending) ∧
  (∀ strap s, s.psq.vao = false → exec (.vaoResetRelease strap) s = .next (settle
      { s with psq := { s.psq with vao := true }, sb := { s.sb with strap := strap % 8 } }))

/-- R344, R348, R351, R352, R532: the hold-up converter, the resets, SYS_FAULT_N, the latch and VCORE's code. -/
def Obligations.SupervisionCommands : Prop :=
  (∀ t s, s.psq.holdEn = true → t ≤ rf s Reg.psqHoldCfg 0 8 → ∃ u, exec (.holdPgRise t) s = .next (settle u) ∧
      u.psq.holdTime = min 255 t ∧ u.psq.holdJudged = true) ∧
  (∀ s, s.psq.holdEn = true → (railOf s 22).pg = false →
    exec .holdPgLimitExpiry s = .next (settle (holdSlow s))) ∧
  (∀ s, s.psq.holdEn = true → (railOf s 22).pg = true → ∃ u, exec .holdPgFall s = .next (settle (holdFail u 2)) ∧
      u = setRail (railPg s 22 false) 22 { railOf (railPg s 22 false) 22 with up := false }) ∧
  (∀ k s, k < 8 → (railOf s (6 + k)).up = true → rb s Reg.psqRstCtrl k = false → s.psq.heldInReset = false →
    exec (.resetStretchExpiry k) s = .next (settle (setRst (setRail s (6 + k)
      { railOf s (6 + k) with stretched := true }) k true))) ∧
  (∀ val s, locked s Pg.psq = false → exec (.psqRstCtrlWrite val) s = .next (settle (rstCtrl s val))) ∧
  (∀ s, s.psq.faultDriven = none → s.psq.restoreBegun = true → s.psq.armed = false →
    exec .trigger2Arm s = .next (settle (icu { s with psq := { s.psq with faultLow := false, armed := true } } 356))) ∧
  (∀ isOpen s, exec (.latchOpenChange isOpen) s = .next (settle (if isOpen = true then
    abandonReconstruction { s with psq := { s.psq with latchOpen := true } } else { s with psq := { s.psq with latchOpen := false } }))) ∧
  (∀ target s, coreUp s = true → s.gen.hem.active = false → switchingOn s = 0 → s.psq.vid < max 8 (min 25 target) →
    exec (.vidStep target) s = .next (settle { s with psq := { s.psq with vid := s.psq.vid + 1 } })) ∧
  (∀ target s, coreUp s = true → s.gen.hem.active = false → switchingOn s = 0 → max 8 (min 25 target) < s.psq.vid →
    exec (.vidStep target) s = .next (settle { s with psq := { s.psq with vid := s.psq.vid - 1 } }))

/-- R47, R50, R51, R85: tacks by doorbell, by mask and by mailbox, to an enabled GEN (R30); tag 0 of the mask's tacks is the
model's choice (log entry 122). -/
def Obligations.TackCommands : Prop :=
  (∀ (val : Word) s, enabled s Pg.gen = true → exec (.tackDoorbell .mgmt val) s =
      .next (settle (tack s (fld val 0 8) { path := .mgmt, tag := fld val 8 8 }))) ∧
  (∀ ld (val : Word) s, enabled s (Pg.hl0 + ld / 32) = true → tackOk s (fld val 0 8) ld = true →
    exec (.tackDoorbell (.host ld) val) s =
      .next (settle (tack s (fld val 0 8) { path := .doorbell, tag := fld val 8 8 }))) ∧
  (∀ ld (val : Word) s, enabled s (Pg.hl0 + ld / 32) = true → tackOk s (fld val 0 8) ld = false →
    exec (.tackDoorbell (.host ld) val) s = .next (settle (hlCount s Reg.hlTackRefused (ld / 16)))) ∧
  (∀ (val : Word) s, enabled s Pg.gen = true → tackOutcome s (fld val 0 8) = oTAKEN →
    exec (.tackDoorbell .mgmt val) s =
      .next (settle (orderingPoint s (fld val 0 8) { path := .mgmt, tag := fld val 8 8 }))) ∧
  (∀ ld g inp s, inp.length = 36 → enabled s Pg.gen = true → groupsOf (inp.take 32) = [g] → byteAt inp 32 % 2 = 0 →
    tackOk s g ld = true → tackOutcome s g = oTAKEN →
    ∃ out, exec (.tackGroups ld inp) s =
      .next (settle (replyOk (orderingPoint s g { path := .mailbox, tag := byteAt inp 33 }) ld out)) ∧
      out.length = 100 ∧ out.take 4 = leBytes 4 oTAKEN) ∧
  (∀ ld inp s os, inp.length = 36 → enabled s Pg.gen = true →
    os = setOutcomes s (groupsOf (inp.take 32)) (fun g => tackOk s g ld) → (os.all fun o => o.2 == oTAKEN) = true →
    ∃ out, exec (.tackGroups ld inp) s = .next (settle (replyOk (forEach os s fun s o =>
        tack s o.1 { path := .mailbox, tag := byteAt inp 33 }) ld out)) ∧ out.take 4 = leBytes 4 oTAKEN) ∧
  (∀ g s, enabled s Pg.gen = true → regGroups s Reg.genTackMask = [g] → tackOutcome s g = oTAKEN →
    exec (.genTackMaskGo 1#32) s = .next (settle
      (wr (orderingPoint s g { path := .mask, tag := 0 }) Reg.genTackMaskStatus 2#32)))

/-- R52 to R56, R87: arming, disarming, firing, the edge, the expiry and the stuck line of TACK_SYNC. -/
def Obligations.SyncCommands : Prop :=
  (∀ ld inp s, inp.length = 36 → pay inp 32 2 ≠ 0 → pay inp 32 2 ≤ 60000 → enabled s Pg.gen = true →
    (groupsOf (inp.take 32)).all (fun g => tackOk s g ld) = true → armRefusal s (groupsOf (inp.take 32)) = none →
    ∃ u, exec (.armSyncTack ld inp) s = .next (settle (replyOk u ld (leBytes 4 oTAKEN ++ zeros 32))) ∧
      u = arm s (groupsOf (inp.take 32)) (byteAt inp 34) (pay inp 32 2) ∧ u.gen.sync.armed = true ∧
      u.gen.sync.expiry = pay inp 32 2) ∧
  (∀ s, enabled s Pg.gen = true → locked s Pg.gen = false → armRefusal s (regGroups s Reg.genSyncMask) = none →
    ∃ u, exec (.genSyncArm 1#32) s = .next (settle u) ∧ u.gen.sync.armed = true) ∧
  (∀ ld s, enabled s Pg.gen = true → anyTack s ld = true →
    exec (.disarmSyncTack ld []) s = .next (settle (replyCode (disarm s none) ld oTAKEN))) ∧
  (∀ ld s, enabled s Pg.gen = true → anyTack s ld = true →
    exec (.fireSyncTack ld []) s = .next (settle (replyCode (fireSync s) ld oTAKEN))) ∧
  (∀ (val : Word) s, enabled s Pg.gen = true → bit val 1 = true →
    ∃ u, exec (.genSyncFire val) s = .next (settle u) ∧ u.gen.sync.driving = true ∧ u.gen.sync.lineLow = true) ∧
  (∀ s, exec .tackSyncRelease s =
      .next { s with gen := { s.gen with sync := { s.gen.sync with driving := false, lineLow := false } } }) ∧
  (∀ s, s.gen.sync.armed = true → s.gen.sync.stuck = false →
    ∃ u, exec .tackSyncFireEdge s = .next (settle (icu (addWrap (wrB (forEach (armedGroups s) u fun t g =>
        tack t g { path := .sync, tag := s.gen.sync.tag }) Reg.genSyncStatus 1 true) Reg.genSyncStatus 16 16 1) 242)) ∧
      u = disarm { s with gen := { s.gen with sync := { s.gen.sync with lineLow := true } } } none) ∧
  (∀ s, s.gen.sync.armed = true → exec .syncExpiry s =
      .next (settle (icu (wrB (disarm s (some oSYNC_EXPIRED)) Reg.genSyncStatus 2 true) 243))) ∧
  (∀ s, s.memWf = true → ∃ u, exec .syncStuck s = .next (settle u) ∧ u.gen.sync.stuck = true ∧ hasErr u Pg.gen 17 = true) ∧
  (∀ s, exec .syncLineRearm s =
      .next { s with gen := { s.gen with sync := { s.gen.sync with stuck := false, lineLow := false } } })

/-- R66, R69 to R72, R84, R166: the generation list, pins, quiesce, unpick and release. -/
def Obligations.UnpickCommands : Prop :=
  (∀ ld inp s, inp.length = 12 → pay inp 2 2 ≠ 0 → pay inp 2 2 ≤ 85 → ldSees s ld (byteAt inp 0) = true →
    grpEnabled s (byteAt inp 0) = true →
    ∃ es, exec (.getGenerationList ld inp) s = .next (settle (replyOk s ld (leBytes 2 oTAKEN ++ leBytes 2 (List.length es) ++
        es.flatMap (listEntry (chain (grp s (byteAt inp 0))))))) ∧
      es = ((allGens (grp s (byteAt inp 0))).filter fun r => decide (pay inp 4 6 ≤ r.num)).take (pay inp 2 2)) ∧
  (∀ ld inp s, inp.length = 12 → enabled s Pg.gen = true → byteAt inp 2 ≤ 1 → manageOk s (byteAt inp 0) ld = true →
    pinRefusal s (byteAt inp 0) (pay inp 4 6) (byteAt inp 2 == 1) = none →
    exec (.pinGeneration ld inp) s =
      .next (settle (addRec s (byteAt inp 0) { kind := 3, gen := pay inp 4 6, arg := byteAt inp 2, ld := some ld }))) ∧
  (∀ ld inp s, inp.length = 4 → enabled s Pg.gen = true → manageOk s (byteAt inp 0) ld = true → groupRefusal s (byteAt inp 0) = none →
    (grp s (byteAt inp 0)).quiesced = false → (grp s (byteAt inp 0)).unpick = none →
    exec (.quiesceGroup ld inp) s = .next (settle (beginQuiesce s (byteAt inp 0) (some ld)))) ∧
  (∀ g s, (grp s g).quiesced = true → (grp s g).quiesceDrained = false →
    (s.hl.waits.any fun r => r.write && r.g == g && r.why != .quiesce) = false →
    exec (.quiesceDrained g) s = .next (settle
      (icu (finishCode (setGrp s g { grp s g with quiesceDrained := true }) (grp s g).quiesceLd oTAKEN) 244))) ∧
  (∀ g s, (grp s g).quiesced = true → (grp s g).unpick = none →
    exec (.quiesceLimitExpiry g) s = .next (settle (endQuiesce s g))) ∧
  (∀ ld inp s, inp.length = 12 → enabled s Pg.gen = true → manageOk s (byteAt inp 0) ld = true → unpickRefusal s (byteAt inp 0) (pay inp 4 6) = none →
    exec (.unpickGroup ld inp) s = .next (settle (intentFlushAll (setGrp s (byteAt inp 0)
      { grp s (byteAt inp 0) with unpick := some { target := pay inp 4 6, phase := 1, ld := some ld } })))) ∧
  (∀ g loc u s, (grp s g).unpick = some u → u.phase = 1 → placeOk s loc 1 = true →
    exec (.unpickCommit g true loc) s = .next (settle (commitUnpick (modGen (programAt s loc 1) g u.target fun r =>
      { r with recLocs := r.recLocs ++ [loc] }) g u))) ∧
  (∀ g u s, (grp s g).unpick = some u → u.phase = 2 →
    exec (.unpickRebuildDone g) s = .next (settle (retryWaits (rebuildLoc (setGrp s g { grp s g with unpick := none }) g)
      fun r => r.why == .rebuild && r.g == g))) ∧
  (∀ ld inp s, inp.length = 4 → enabled s Pg.gen = true → manageOk s (byteAt inp 0) ld = true →
    groupRefusal s (byteAt inp 0) = none → (grp s (byteAt inp 0)).quiesced = true →
    ((grp s (byteAt inp 0)).unpick.any fun u => u.phase != 0) = false →
    exec (.releaseGroup ld inp) s = .next (settle (icu (finishCode (endQuiesce (setGrp s (byteAt inp 0)
      { grp s (byteAt inp 0) with unpick := none }) (byteAt inp 0)) (some ld) oTAKEN) 245))) ∧
  (∀ (val : Word) s b g, rb s Reg.genGenStatus 0 = false → enabled s Pg.gen = true → 1 ≤ fld val 0 3 → fld val 0 3 ≤ 5 →
    b = wrB s Reg.genGenStatus 0 true → g = rf s Reg.genGroupSel 0 8 →
    exec (.genGenCmd val) s = .next (settle (match fld val 0 3 with
      | 1 => quiesce b g none
      | 2 => unpick b g (genTarget s) none
      | 3 => release b g none
      | 4 => pin b g (genTarget s) true none
      | _ => pin b g (genTarget s) false none)))

/-- R78 to R81, R91, R65, R66: key modes, unlock, erase, the ring size and the self-test. -/
def Obligations.KeyCommands : Prop :=
  (∀ ld inp s k, inp.length = 68 → byteAt inp 1 ≤ 1 → keyOk s (byteAt inp 0) ld = true → grpEnabled s (byteAt inp 0) = true →
    keysBusy s = false → keyHealthy s = true → (grp s (byteAt inp 0)).key = some k → (grp s (byteAt inp 0)).hostMode = false →
    exec (.setGroupKeyMode ld inp) s = .next (settle (replyCode (setGrp s (byteAt inp 0)
      { grp s (byteAt inp 0) with
        wrapped := some { key := k, wrap := if byteAt inp 1 = 1 then wrapOf ((inp.drop 36).take 32) else 0 }
        hostMode := byteAt inp 1 = 1 }) ld oTAKEN))) ∧
  (∀ ld inp s, inp.length = 36 → keyOk s (byteAt inp 0) ld = true → grpEnabled s (byteAt inp 0) = true → keysBusy s = false →
    keyHealthy s = true → (grp s (byteAt inp 0)).hostMode = true → (grp s (byteAt inp 0)).lockout = false →
    ((grp s (byteAt inp 0)).wrapped.map (·.wrap)) = some (wrapOf ((inp.drop 4).take 32)) →
    ∃ u, exec (.unlockGroup ld inp) s = .next (settle (replyOk u ld (unlockOut u (byteAt inp 0) oTAKEN))) ∧
      ((grp s (byteAt inp 0)).key ≠ none → u = setGrp s (byteAt inp 0) { grp s (byteAt inp 0) with fails := 0 }) ∧
      ((grp s (byteAt inp 0)).key = none →
        u = unwrapKey (setGrp s (byteAt inp 0) { grp s (byteAt inp 0) with fails := 0 }) (byteAt inp 0))) ∧
  (∀ ld inp s, inp.length = 8 → pay inp 4 4 = 0x45524153 → keyOk s (byteAt inp 0) ld = true →
    grpEnabled s (byteAt inp 0) = true → hemActive s = false → keysBusy s = false → keyHealthy s = true →
    (grp s (byteAt inp 0)).quiesced = true → ((grp s (byteAt inp 0)).unpick.any fun u => u.phase != 0) = false →
    exec (.eraseGroup ld inp) s = .next (settle (retrySlots (retryWaits
      (replyCode (bringOnline (eraseGroup s (byteAt inp 0))) ld oTAKEN)
      fun r => r.g == byteAt inp 0 && (r.why == .fetch || r.why == .slot || r.why == .rebuild))))) ∧
  (∀ (val : Word) s, fld val 0 16 ≠ 0 → locked s Pg.gen = false →
    ((grp s (rf s Reg.genGroupSel 0 8)).gens.filter (·.pinned)).length + 1 ≤ fld val 0 16 →
    exec (.genRingCfgWrite val) s = .next (settle (trimRing (setGrp s (rf s Reg.genGroupSel 0 8)
      { grp s (rf s Reg.genGroupSel 0 8) with ringSize := fld val 0 16 }) (rf s Reg.genGroupSel 0 8)))) ∧
  (∀ s, s.gen.selftestBusy = false → enabled s Pg.key = true → exec (.keySelftest 1#32) s =
      .next (wrB { s with gen := { s.gen with selftestBusy := true } } Reg.keyModuleStatus 3 true)) ∧
  (∀ s t, s.gen.selftestBusy = true → s.gen.keyWaits = [] → enabledGroups s = [] → s.memWf = true →
    t = wr { s with gen := { s.gen with selftestBusy := false } } Reg.keyModuleStatus 7#32 →
    exec (.keySelftestDone true true true) s = .next (settle (noteReasons t))) ∧
  (∀ s, s.gen.selftestBusy = true → s.gen.keyWaits = [] → enabledGroups s = [] → s.memWf = true →
    ∃ u, exec (.keySelftestDone false true true) s = .next (settle u) ∧ u.gen.selftestBusy = false ∧ hasErr u Pg.key 2 = true)

/-- R135, R136, R144, R148 to R150, R154, R155, R173 to R175: the hem, its seals, keep-alive and resume. -/
def Obligations.HemCommands : Prop :=
  (∀ s, s.psq.input = true → s.psq.st = 2 → s.psq.restoreBegun = true → s.gen.hem.active = false → s.gen.hem.st = 0 →
    ∃ u, exec .inputLoss s = .next (settle (hemCut (evrSecure u) 1)) ∧ u.psq.input = false ∧ u.psq.holdLoss = true) ∧
  (∀ s, s.psq.armed = true → rb s Reg.genHemCfg 0 = true → s.psq.faultDriven = none →
    ∃ u, exec .siblingFault s = .next (settle (hemCut u 2)) ∧ u.gen = s.gen ∧ u.psq.faultLow = true ∧
      u.psq.lows = satAdd 16 s.psq.lows 1 ∧ (hemCan s = true → hemCan u = true)) ∧
  (∀ s, s.psq.armed = false ∨ rb s Reg.genHemCfg 0 = false ∨ s.psq.faultDriven ≠ none →
    ∃ u, exec .siblingFault s = .next (settle u) ∧ u.gen = s.gen ∧ u.psq.faultLow = true ∧
      u.psq.lows = satAdd 16 s.psq.lows 1) ∧
  (∀ ld s, isAdmin s ld = true → rb s Reg.genHemCfg 1 = true → hemBusy s = false → s.gen.restore.phase = 6 → hemCan s = true →
    exec (.hemNow ld (leBytes 4 0x4E4D4548)) s = .next (settle (startBg s ld 0xC030 fun s =>
      setHem (hemCut s 4) { (hemCut s 4).gen.hem with cmdLd := some ld }))) ∧
  (∀ s, hemCan s = true → exec (.genHemCmdHem 0x48450001#32) s = .next (settle (hemCut s 5))) ∧
  (∀ s, s.gen.hem.active = true ∨ s.gen.hem.st = 5 →
    exec (.genHemCmdHem 0x48450001#32) s = .next (settle (logged s (.hemTrigger 5)))) ∧
  (∀ s, s.gen.hem.active = true → s.gen.hem.st = 2 → (s.gen.progs.any fun p => p.use == 1) = false → fchCount s ≠ 0 →
    hemSeals s ≠ [] → exec .hemSealWrite s =
      .next (settle (closeDeltas (setHem s { s.gen.hem with st := 3, seals := hemSeals s }) (hemSeals s)))) ∧
  (∀ s, s.gen.hem.active = true → s.gen.hem.st = 2 → (s.gen.progs.any fun p => p.use == 1) = false → fchCount s ≠ 0 →
    hemSeals s = [] → exec .hemSealWrite s =
      .next (settle (sixEnded (sealsDone (setHem s { s.gen.hem with st := 3, seals := [] }))))) ∧
  (∀ g gen loc x s t, s.gen.hem.seals = [x] → x.g = g → x.gen = gen → g ≠ 256 → hemPartsDone s = true →
    placeOk s loc 3 = true →
    t = sewnHem (modGen (programAt s loc 3) g gen fun r => { r with locs := r.locs ++ [loc] }) g gen →
    exec (.hemSealReadback g gen true loc) s =
      .next (settle (sealsEnd (setHem t { t.gen.hem with seals := t.gen.hem.seals.filter (· != x) })))) ∧
  (∀ loc s, s.gen.hem.recLeft = [(1, 0)] → placeOk s loc 3 = true →
    exec (.hemSealReadback 256 1 true loc) s =
      .next (settle (sixEnded (recordDone (setHem (programAt s loc 3) { (programAt s loc 3).gen.hem with recLeft := [] }))))) ∧
  (∀ s, s.gen.hem.active = true → s.gen.hem.step6 = true → s.gen.hem.thenStop = false → s.gen.hem.thenHold = false →
    s.gen.hem.thenOff = false → s.gen.hem.trigger = 4 ∨ s.gen.hem.trigger = 5 → s.psq.input = true →
    exec .keepAliveStart s = .next (settle (enterHemmed s))) ∧
  (∀ s, s.gen.hem.active = true → s.gen.hem.step6 = true → s.gen.hem.returned = false → s.psq.input = false →
    kaAllowed s = true → exec .keepAliveStart s = .next (settle (enterKa s))) ∧
  (∀ s, s.gen.hem.active = true → s.gen.hem.step6 = true → s.gen.hem.thenStop = false → s.gen.hem.thenHold = false →
    s.gen.hem.thenOff = false → s.gen.hem.returned = false → s.psq.input = false → kaAllowed s = false →
    exec .keepAliveStart s = .next (settle (powerDown { wr s Reg.genKaLast 0#32 with
      psq := { s.psq with onLatched := false } }))) ∧
  (∀ s, s.gen.hem.st = 4 → s.psq.st = 6 → ∃ u, exec .keepAliveTimeExpiry s = .next (settle (powerDown u)) ∧
      u.gen.hem = { s.gen.hem with st := 0, kaNonce := none } ∧ u.psq.holdKa = false) ∧
  (∀ ld s, isAdmin s ld = true → s.gen.hem.st = 5 → warmFailed s true = 0 →
    exec (.resumeMemory ld [] true []) s = .next (settle (replyCode (warmResume s) ld hrDONE))) ∧
  (∀ ld c weak s, isAdmin s ld = true → s.gen.hem.st = 5 → exec (.resumeMemory ld [] c weak) s = .next (settle
      (replyCode (tryResume s c weak).1 ld (if (tryResume s c weak).2 then hrDONE else hrSEAL_MISMATCH)))) ∧
  (∀ s, s.gen.hem.st = 5 → warmFailed s true = 0 →
    exec (.genHemCmdResume 2#32 true []) s = .next (settle (warmResume s))) ∧
  (∀ c weak s, s.gen.hem.st = 5 → exec (.genHemCmdResume 2#32 c weak) s = .next (settle (tryResume s c weak).1))

/-- R157, R158, R160, R164, R167, R173, R174: restore and its status. -/
def Obligations.RestoreCommands : Prop :=
  (∀ ld s, ∃ out, exec (.getHemStatus ld []) s = .next (settle (replyOk s ld out)) ∧ out.length = 48 ∧
      out.take 4 = leBytes 1 0 ++ leBytes 1 s.gen.hem.st ++ leBytes 1 s.gen.hem.trigger ++ leBytes 1 s.gen.restore.phase ∧
      (out.drop 32).take 4 = leBytes 4 s.gen.restore.touched) ∧
  (∀ ld inp s, inp.length = 33 → isAdmin s ld = true → 1 ≤ byteAt inp 32 → byteAt inp 32 ≤ 8 →
    exec (.setRestoreMode ld inp) s = .next (settle (replyCode (wrF (forEach (List.range 8) s fun s k =>
      wr s (Reg.genRestoreMode k) (wd (pay inp (4 * k) 4))) Reg.genRestoreCfg 0 4 (byteAt inp 32)) ld hrDONE))) ∧
  (∀ s, s.psq.st = 2 → s.psq.restoreBegun = false → s.dram.layout ≠ [] → hemBusy s = false →
    exec .restoreStart s = .next (settle (startRestore s false))) ∧
  (∀ bad s, s.gen.restore.phase = 2 → hemBusy s = false →
    exec (.restoreRebuildDone true bad) s = .next (settle (setPhase s 3))) ∧
  (∀ bad s, s.gen.restore.phase = 3 → stillSealing s = false → hemBusy s = false →
    exec (.restoreRebuildDone false bad) s = .next (settle (restoreRebuilt s bad))) ∧
  (∀ sw res us w f s, (s.gen.restore.fetches.find? fun f => f.swatch == sw && f.onTouch) = some f → swatchWin s sw = some w →
    ∃ u, exec (.onTouchFetchDone sw res us) s = .next (settle (fetchDone u (winGroup s w) sw res)) ∧
      u.gen = { s.gen with restore := { s.gen.restore with touched := (s.gen.restore.touched + 1) % 2 ^ 32 } }) ∧
  (∀ sl res sw g s, 4 ≤ s.gen.restore.phase → hemBusy s = false → nextAbsent s sl = some (sw, g) →
    exec (.restoreSweepFetch sl res) s = .next (settle (fetchDone (startFetch (touchLine s sw) sw false) g sw res))) ∧
  (∀ g n r es data rest locs s, genOf (grp s g) n = some r → mayFold s g r = true → hemEntries s r = es →
    locs = data ++ rest → data.length = es.length → rest.length = partsOf r.delta.length + 1 →
    placesOk (data.map (fun l => (l, 0)) ++ rest.map fun l => (l, 1)) s = true →
    ∃ u, exec (.foldHemGeneration g n locs) s = .next (settle (spaceFreed (icu (freeUnused (rebuildLoc u g)) 268))) ∧
      u.gen.reliefPages = s.gen.reliefPages - (es.filter (·.relief)).length ∧
      ∃ old, u.gen.groups = (modGen s g n fun r => { r with
        delta := r.delta.map fun d => match (es.zip data).find? fun e => e.1.idx == d.idx && e.1.loc == d.loc with
          | some e => { d with loc := e.2, relief := false }
          | none => d
        locs := old ++ rest
        hem := false
        relief := false }).gen.groups)

/-- R108 to R112, R142, R143, R290: basting, captures, relief and flash programs. -/
def Obligations.BastingCommands : Prop :=
  (∀ g r s, tackedGen (grp s g) = some r → r.st = 1 → noBaste s g = false → hemBusy s = false → enabled s Pg.genm = true →
    exec (.bastingStart g) s =
      .next (settle (blockWaiting (trySealing (modGen s g r.num fun r => { r with st := 2 }) g)))) ∧
  (∀ sl readOk g left sw rest r s, nextGroup s sl = some (g, left) → mayTake s 6 16 = true →
    captureList s sl g = sw :: rest → tackedGen (grp s g) = some r →
    ∃ u, exec (.capture ⟨sl, readOk⟩) s =
        .next (settle (pace (captureSwatch (mapAccess (touchWalk u sl g sw)) g sw r.num (!readOk)) g)) ∧
      u = { s with gen := { s.gen with turn := Sparse.set (fun _ => (0, 0)) s.gen.turn sl (g, left - 1) } }) ∧
  (∀ s x, s.gen.relief = none → hemBusy s = false → enabled s Pg.genm = true → reliefSlot s = some x → reliefRoom s = true →
    exec .reliefStart s =
      .next (settle (icu (takeBuffers { s with gen := { s.gen with relief := some x } } 7 16) 253))) ∧
  (∀ s x, s.gen.relief = none → hemBusy s = false → enabled s Pg.genm = true → reliefSlot s = some x → reliefRoom s = false →
    exec .reliefStart s = .next (settle (reliefFull s))) ∧
  (∀ g x readOk loc s t, s.gen.relief = some (g, x) → t = suspendErase s (lunOfBlk (locBlk loc)) false → placeOk t loc 3 = true →
    exec (.reliefProgramDone ⟨true, readOk⟩ loc) s = .next (settle (reliefStart (retrySlots
      (relieved { t with gen := { t.gen with relief := none } } g x readOk loc))))) ∧
  (∀ p readOk loc s, s.gen.progs = [p] → p.use = 0 → hemBusy s = false → placeOk s loc 0 = true →
    exec (.flashProgramComplete p.id ⟨true, readOk⟩ loc) s = .next (settle (basted (releaseBuffers
      { s with gen := { s.gen with progs := [] } } 6 16) p loc))) ∧
  (∀ p readOk loc s, s.gen.progs = [p] → p.use = 1 → placeOk s loc 3 = true →
    exec (.flashProgramComplete p.id ⟨true, readOk⟩ loc) s = .next (settle (hemSaved
      { s with gen := { s.gen with progs := [] } } { p with bad := p.bad || !readOk } loc))) ∧
  (∀ p readOk loc s, s.gen.progs = [p] → placeOk s loc (if p.use = 1 then 3 else 0) = true →
    exec (.flashProgramComplete p.id ⟨false, readOk⟩ loc) s =
      .next (settle (programFailed (addWrap s (Reg.fchOps (locCh loc)) 0 32 1) loc)))

/-- R81, R117 to R122, R144: read-backs of parts, seals, records and keys, retries, the verify pass and the sweep. -/
def Obligations.SealCommands : Prop :=
  (∀ g part loc r s, hemBusy s = false → tackedGen (grp s g) = some r → part < writtenParts r → placeOk s loc 1 = true →
    exec (.deltaReadback g ⟨r.num, part⟩ true loc) s = .next (settle (trySeal (clearExhausted
      (modGen (programPart s loc 1) g r.num fun r =>
        { r with matched := (r.matched ++ [part]).eraseDups, locs := r.locs ++ [loc], mism := 0 }) g) g r.num))) ∧
  (∀ g part loc r s, hemBusy s = false → tackedGen (grp s g) = some r → part < writtenParts r → placeOk s loc 1 = true →
    exec (.deltaReadback g ⟨r.num, part⟩ false loc) s =
      .next (settle (countMismatch (mismatch (programPart s loc 1) loc) g r.num))) ∧
  (∀ g n part loc x r s, hemBusy s = true → (s.gen.hem.seals.find? fun x => x.g == g && x.gen == n) = some x →
    genOf (grp s g) n = some r → part < r.parts → placeOk s loc 3 = true →
    exec (.deltaReadback g ⟨n, part⟩ true loc) s = .next (settle (modGen (programPart s loc 3) g n fun r =>
      { r with matched := (r.matched ++ [part]).eraseDups, locs := r.locs ++ [loc], mism := 0 }))) ∧
  (∀ g loc r s, tackedGen (grp s g) = some r → r.st = 3 → r.sealWritten = true → (grp s g).mapBad = false →
    placeOk s loc 1 = true →
    exec (.sealReadback g 0 true loc) s = .next (settle (sewn (modGen (programAt s loc 1) g r.num fun r =>
      { r with locs := r.locs ++ [loc] }) g r.num))) ∧
  (∀ g loc r s t, (grp s g).recs = [r] → r.kind = 4 → placeOk s loc 1 = true → t = programAt s loc 1 →
    exec (.sealReadback g 4 true loc) s = .next (settle (endDamage (recEffect (modGen
      (setGrp t g { grp t g with recs := (grp t g).recs.erase r }) g r.gen fun x => { x with recLocs := x.recLocs ++ [loc] }) g r)))) ∧
  (∀ g ld loc r s t, (grp s g).recs = [r] → r.kind = 3 → r.arg = 1 → r.ld = some ld → placeOk s loc 1 = true →
    t = modGen (setGrp (programAt s loc 1) g { grp (programAt s loc 1) g with recs := (grp (programAt s loc 1) g).recs.erase r })
      g r.gen (fun x => { x with recLocs := x.recLocs ++ [loc] }) → recOutcome t g r = oTAKEN →
    exec (.sealReadback g 3 true loc) s = .next (settle (replyCode (recEffect t g r) ld oTAKEN))) ∧
  (∀ g loc s, (grp s g).keyPending = true → placeOk s loc 1 = true →
    exec (.sealReadback g 5 true loc) s = .next (settle (setGrp (programAt s loc 1) g
      { grp (programAt s loc 1) g with keyPending := false }))) ∧
  (∀ g s, (grp s g).sealExhausted = true → exec (.sealRetry g) s = .next (addSat s Reg.genmSealRetry 0 32 1)) ∧
  (∀ g n bad s, ((genOf (grp s g) n).any durable) = true → grpLocked s g = false →
    ∃ u, exec (.verifyPass g n bad) s = .next (settle (if (grp u g).mustVerify && !hasOutside u g then verifyDone u g else u)) ∧
      u = freeUnused (forEach bad (modGen s g n fun r => { r with verified := true }) fun s i => verifyFail s g n i)) ∧
  (∀ pct bad s, rb s Reg.genmVerifyCtrl 0 = true → enabled s Pg.genm = true → rb s Reg.genmVerifyStatus 0 = false → pct < 100 →
    exec (.verifySweep ⟨pct, bad⟩) s = .next (settle (wr (forEach bad s fun s e => verifyFail s e.1 e.2.1 e.2.2)
      Reg.genmVerifyStatus (wd (1 + 256 * pct + 65536 * min 65535 bad.length))))) ∧
  (∀ pct bad s, rb s Reg.genmVerifyCtrl 0 = true → enabled s Pg.genm = true → 100 ≤ pct →
    ∃ had, exec (.verifySweep ⟨pct, bad⟩) s = .next (settle (icu (wr (forEach bad s fun s e => verifyFail s e.1 e.2.1 e.2.2)
      Reg.genmVerifyStatus (wd (25600 + 65536 * min 65535 (had + bad.length)))) 259)) ∧
      had = if rb s Reg.genmVerifyStatus 0 = true then rf s Reg.genmVerifyStatus 16 16 else 0)

/-- R42, R98, R99, R128, R129, R180, R182, R187, R193, R231, R232: CXL.mem requests that the port takes, held writes and the
pacing clock. A request to an online window is served: a read goes to its channel, or is answered from a queued write of its
line; a write, full or partial, commits. A speculative read is accepted and ignored, a malformed request answered as
offline: that is all that R180 and R187 let them do. -/
def Obligations.MemoryRequests : Prop :=
  (∀ ld hpa tag dpa w line s, line = winDram s w dpa / 64 * 64 → takes s ld false = true → hdmDpa (ldOf s ld).hdm hpa = some dpa →
    winFor s ld dpa = some w → winOnline s w = true → queueWaits s line false = false → lineBit s (line / 4096 / 128) = false →
    stOf s (winGroup s w) (line / 4096) ≠ .absent → stOf s (winGroup s w) (line / 4096) ≠ .bad →
    exec (.cxlmemRead ld hpa tag) s = .next (settle (hostRead (mapAccess s) ld tag w line))) ∧
  (∀ ld hpa tag dpa w line ch x s, line = winDram s w dpa / 64 * 64 → takes s ld false = true →
    hdmDpa (ldOf s ld).hdm hpa = some dpa → winFor s ld dpa = some w → winOnline s w = true → queueWaits s line false = false →
    lineBit s (line / 4096 / 128) = false → stOf s (winGroup s w) (line / 4096) ≠ .absent →
    stOf s (winGroup s w) (line / 4096) ≠ .bad → dramPlace s line = some (ch, x) →
    ((subQueue (dchOf s ch) (localOf s ch x).sub).any fun e => e.write && e.line == line / 64) = true →
    ∃ u c, exec (.cxlmemRead ld hpa tag) s = .next (settle u) ∧ u.hl.sent = s.hl.sent ++ [c] ∧ c.ld = ld ∧ c.tag = tag ∧
      c.isRead = true ∧ c.data = lineBytes s line ∧ c.poison = linePoison s line ∧ u.dram = s.dram ∧ u.gen = s.gen) ∧
  (∀ ld hpa tag dpa w line ch x s, line = winDram s w dpa / 64 * 64 → takes s ld false = true →
    hdmDpa (ldOf s ld).hdm hpa = some dpa → winFor s ld dpa = some w → winOnline s w = true → queueWaits s line false = false →
    lineBit s (line / 4096 / 128) = false → stOf s (winGroup s w) (line / 4096) ≠ .absent →
    stOf s (winGroup s w) (line / 4096) ≠ .bad → dramPlace s line = some (ch, x) →
    ((subQueue (dchOf s ch) (localOf s ch x).sub).any fun e => e.write && e.line == line / 64) = false →
    exec (.cxlmemRead ld hpa tag) s = .next (settle (enqueue (mapAccess s) ch (localOf s ch x)
      { line := line / 64, write := false, cls := if winDeadline s w then 4 else 5, ld, tag, win := w
        data := lineBytes s line, poison := linePoison s line }))) ∧
  (∀ ld hpa tag dpa w line s, line = winDram s w dpa / 64 * 64 → takes s ld false = true → hdmDpa (ldOf s ld).hdm hpa = some dpa →
    winFor s ld dpa = some w → winOnline s w = true → queueWaits s line false = false → lineBit s (line / 4096 / 128) = false →
    stOf s (winGroup s w) (line / 4096) = .absent → (grp s (winGroup s w)).unpick = none →
    exec (.cxlmemRead ld hpa tag) s = .next (settle (startFetch (wait (mapAccess s)
      { ld, tag, write := false, addr := line, win := w, g := winGroup s w, why := .hold } .fetch) (line / 4096) true))) ∧
  (∀ ld hpa tag data poison dpa w line s t u, t = poisonRx s ld poison → u = mapAccess (fillBucket t w) →
    line = winDram t w dpa / 64 * 64 → takes s ld true = true → hdmDpa (ldOf t ld).hdm hpa = some dpa → winFor t ld dpa = some w →
    winOnline t w = true → (grp t (winGroup t w)).quiesced = false → winEnforced t w = false → heldOf t w = 0 →
    queueWaits t line true = false → lineBit t (line / 4096 / 128) = false → slotAhead t (line / 4096) = false →
    stOf t (winGroup t w) (line / 4096) ∈ [.opened, .both, .clean] →
    exec (.cxlmemWrite ld hpa tag data poison) s = .next (settle (pace (commit
      (if stOf t (winGroup t w) (line / 4096) = .clean then openSwatch (setSt u (winGroup t w) (line / 4096) .opened) (winGroup t w)
        else u)
      { ld, tag, write := true, addr := line, win := w, g := winGroup t w, data, mask := [], poison, why := .hold })
      (winGroup t w)))) ∧
  (∀ ld hpa tag data mask poison dpa w line s t u, mask.length = 64 → t = poisonRx s ld poison → u = mapAccess (fillBucket t w) →
    line = winDram t w dpa / 64 * 64 → takes s ld true = true → hdmDpa (ldOf t ld).hdm hpa = some dpa → winFor t ld dpa = some w →
    winOnline t w = true → (grp t (winGroup t w)).quiesced = false → winEnforced t w = false → heldOf t w = 0 →
    queueWaits t line true = false → lineBit t (line / 4096 / 128) = false → slotAhead t (line / 4096) = false →
    stOf t (winGroup t w) (line / 4096) ∈ [.opened, .both, .clean] →
    exec (.cxlmemWritePartial ld hpa tag data mask poison) s = .next (settle (pace (commit
      (if stOf t (winGroup t w) (line / 4096) = .clean then openSwatch (setSt u (winGroup t w) (line / 4096) .opened) (winGroup t w)
        else u)
      { ld, tag, write := true, addr := line, win := w, g := winGroup t w, data, mask, poison, why := .hold })
      (winGroup t w)))) ∧
  (∀ ld hpa s, exec (.cxlmemSpecRead ld hpa) s = .next s) ∧
  (∀ ld tag wants s, s.memWf = true → ∃ u, exec (.cxlmemMalformed ld tag wants) s = .next (settle u) ∧
      hasErr u (Pg.hl0 + ld / 32) 18 = true ∧ ∃ c, u.hl.sent = s.hl.sent ++ [c] ∧ c.ld = ld ∧ c.tag = tag ∧ c.isRead = wants ∧
        (wants = true → c.data = zeros 64 ∧ c.poison = true)) ∧
  (∀ w r s v, v = fillBucket s w → (v.hl.waits.find? fun r => r.why == .hold && r.win == w) = some r → winEnforced v w = true →
    64 ≤ (winOf v w).bucket → ∃ u, exec (.heldWriteRelease w r.tag) s =
      .next (settle (creditResume (writeEntry (releaseBuffers u (r.ld / 16) 1) r false) (r.ld / 16))) ∧
      u.hl.waits = v.hl.waits.erase r ∧ u = setWin { v with hl := { v.hl with waits := v.hl.waits.erase r } } w
        { winOf v w with bucket := (winOf v w).bucket - 64 }) ∧
  (∀ w r s v, v = fillBucket s w → (v.hl.waits.find? fun r => r.why == .hold && r.win == w) = some r → winEnforced v w = false →
    exec (.heldWriteRelease w r.tag) s = .next (settle (creditResume (writeEntry (releaseBuffers
      { v with hl := { v.hl with waits := v.hl.waits.erase r } } (r.ld / 16) 1) r false) (r.ld / 16)))) ∧
  (∀ g e s f, minBy (fun a b => decide (a.posted < b.posted)) (inGrace s g) = some e →
    f = (fun r : PaceReq => if r.posted = e.posted then { r with graceOver := true } else r) →
    exec (.pacingGraceExpiry g) s = .next (settle (judgePace (forEach (winsOf s g)
      (setGrp s g { grp s g with pacing := (grp s g).pacing.map f }) fun s w =>
        setWin s w { winOf s w with disturb := (winOf s w).disturb.map f }) g))) ∧
  (∀ s t u, t = forEach (Sparse.keys s.gen.groups) (forEach (Sparse.keys s.gen.groups) s judgePace) (fun s g => setGrp s g
      { grp s g with
        newBytes := shift100 (grp s g).newBytes
        wrBytes := shiftMs (grp s g).wrBytes
        bastBytes := shiftMs (grp s g).bastBytes
        bothBytes := shiftMs (grp s g).bothBytes }) →
    u = forEach (Sparse.keys t.hl.wins) t (fun s w => setWin s w { winOf s w with wr := shiftMs (winOf s w).wr }) →
    exec .pacingAverage s = .next (settle (forEach (Sparse.keys s.gen.groups)
      { u with gen := { u.gen with paceAt := now u, rose := u.gen.rose.filter fun e => decide (now u ≤ e.2 + 10 * msTicks) } }
      fun s g => if (winsOf (pace s g) g).any (winEnforced (pace s g)) then updateRates (pace s g) g else pace s g)))

/-- R229 to R243, R248, R249, R251, R253 to R256: accesses, refresh, row disturbance, alerts and timing sets of a channel. -/
def Obligations.DramCommands : Prop :=
  (∀ ch sub aged errs q s, (if sub = true then (dchOf s ch).replayB else (dchOf s ch).replayA) = [] →
    nextAccess (dchOf s ch) sub aged = some q → q.rmw = false → q.write = true →
    exec (.dramAccessComplete ch sub aged errs) s =
      .next (settle (retryWaits (dropAccess s ch sub q) fun r => r.why == .dram))) ∧
  (∀ ch sub aged errs q s, (if sub = true then (dchOf s ch).replayB else (dchOf s ch).replayA) = [] →
    nextAccess (dchOf s ch) sub aged = some q → q.rmw = false → q.write = false →
    eccOutcome s ch (placeOf s ch q.line) errs = .clean →
    exec (.dramAccessComplete ch sub aged errs) s = .next (settle (retryWaits
      (respond (releaseBuffers (dropAccess s ch sub q) (dqClient q) 1) q.ld q.tag true q.data q.poison) fun r => r.why == .dram))) ∧
  (∀ ch sub aged errs dev q s, (if sub = true then (dchOf s ch).replayB else (dchOf s ch).replayA) = [] →
    nextAccess (dchOf s ch) sub aged = some q → q.rmw = false → q.write = false →
    eccOutcome s ch (placeOf s ch q.line) errs = .corrected dev →
    ∃ t, t = releaseBuffers (dropAccess s ch sub q) (dqClient q) 1 ∧
      exec (.dramAccessComplete ch sub aged errs) s = .next (settle (retryWaits
        (respond (corrected t ch (placeOf t ch q.line) dev) q.ld q.tag true q.data q.poison) fun r => r.why == .dram))) ∧
  (∀ ch sub aged errs q s, (if sub = true then (dchOf s ch).replayB else (dchOf s ch).replayA) = [] →
    nextAccess (dchOf s ch) sub aged = some q → q.rmw = false → q.write = false →
    eccOutcome s ch (placeOf s ch q.line) errs = .uncorrectable →
    ∃ t r, t = releaseBuffers (dropAccess s ch sub q) (dqClient q) 1 ∧ r = freeBytes t 64 ∧
      exec (.dramAccessComplete ch sub aged errs) s = .next (settle (retryWaits
        (respond (mediaEvent (uncorrectable r.2 ch (64 * q.line)) q.ld (64 * q.line)) q.ld q.tag true r.1 true)
        fun r => r.why == .dram))) ∧
  (∀ ch sub aged errs q s, (if sub = true then (dchOf s ch).replayB else (dchOf s ch).replayA) = [] →
    nextAccess (dchOf s ch) sub aged = some q → q.rmw = true →
    exec (.dramAccessComplete ch sub aged errs) s = .next (settle (retryWaits
      (rmwRead s ch sub q (eccOutcome s ch (placeOf s ch q.line) errs)) fun r => r.why == .dram))) ∧
  (∀ ch sub aged errs s, (if sub = true then (dchOf s ch).replayB else (dchOf s ch).replayA) ≠ [] →
    exec (.dramAccessComplete ch sub aged errs) s = .next (settle (replayNext s ch sub))) ∧
  (∀ ch rank s, noRefresh s ch = false → rank < 2 → deadlineBusy s ch rank = false →
    exec (.refreshDue ch rank) s = .next (refreshRaa (setDebt s ch rank 0) ch rank)) ∧
  (∀ ch rank s, noRefresh s ch = false → rank < 2 → deadlineBusy s ch rank = true → rb s (Reg.dchRefreshCtrl ch) 0 = false →
    exec (.refreshDue ch rank) s = .next (refreshRaa s ch rank)) ∧
  (∀ ch rank s, noRefresh s ch = false → rank < 2 → deadlineBusy s ch rank = true → rb s (Reg.dchRefreshCtrl ch) 0 = true →
    debt s ch rank < 4 → exec (.refreshDue ch rank) s =
      .next (addSat (setDebt s ch rank (debt s ch rank + 1)) (Reg.dchRefreshStats ch) 0 16 1)) ∧
  (∀ ch rank s, noRefresh s ch = false → rank < 2 → deadlineBusy s ch rank = true → rb s (Reg.dchRefreshCtrl ch) 0 = true →
    4 ≤ debt s ch rank → exec (.refreshDue ch rank) s =
      .next (refreshRaa (addSat s (Reg.dchRefreshStats ch) 16 16 1) ch rank)) ∧
  (∀ ch rank s, noRefresh s ch = false → rank < 2 → deadlineBusy s ch rank = false →
    exec (.refreshDebtIssue ch rank) s = .next (refreshRaa (setDebt s ch rank 0) ch rank)) ∧
  (∀ ch b row rest s, (dchOf s ch).drfm = (b, row) :: rest → exec (.drfmIssue ch) s =
      .next (addSat (setDch s ch { dchOf s ch with
        drfm := rest
        track := Sparse.set (fun _ => []) (dchOf s ch).track b
          ((Sparse.get (fun _ => []) (dchOf s ch).track b).filter fun e => e.1 != row) }) (Reg.dchRdStats ch) 0 16 1)) ∧
  (∀ ch b n s, minBy (fun a b => decide (b.2 < a.2)) (dchOf s ch).raa = some (b, n) → (dchOf s ch).rfm ≠ 0 →
    (dchOf s ch).rfm ≤ n → exec (.rfmIssue ch) s = .next (addSat (setDch s ch { dchOf s ch with
      raa := Sparse.set (fun _ => 0) (dchOf s ch).raa b (n - (dchOf s ch).rfm) }) (Reg.dchRdStats ch) 16 16 1)) ∧
  (∀ s t, t = forEach (Sparse.keys s.dram.chs) s (fun s c => setDch s c { dchOf s c with track := [] }) →
    exec .rowTrackerClear s = .next (settle (forEach (Sparse.keys t.hl.wins) t endInterval))) ∧
  (∀ ch p crc s, ((dchOf s ch).alertOpen = true → rf s (Reg.dchReplayStatus ch) 16 2 < 2) → s.memWf = true → ch < 16 →
    ∃ u, exec (.dramAlert ch p crc) s = .next (settle u) ∧ hasErr u (Pg.dch ch) 16 = true) ∧
  (∀ ch p crc s, (dchOf s ch).alertOpen = true → 2 ≤ rf s (Reg.dchReplayStatus ch) 16 2 → s.memWf = true → ch < 16 →
    ∃ u, exec (.dramAlert ch p crc) s = .next (settle u) ∧ hasErr u (Pg.dch ch) 17 = true) ∧
  (∀ ch s, exec (.alertWindowClose ch) s =
      .next (wrF (setDch s ch { dchOf s ch with alertOpen := false }) (Reg.dchReplayStatus ch) 16 2 0)) ∧
  (∀ ch (val : Word) s, exec (.tsetRequest ch val) s = .next (settle (updateTset
      (setCfgField s (Pg.dch ch) (Reg.dchTsetCtrl ch) 1 1 (fld val 1 1)) ch))) ∧
  (∀ ch late s t, rb s (Reg.dchTsetCtrl ch) 4 = true →
    t = ((dchOf s ch).target || ((dchOf s ch).redirect && !late)) →
    exec (.timingSetSwitchDone ⟨ch, late⟩) s = .next (settle (updateTset (icu (wr (addWrap (wrB (wrB
      (setDch s ch { dchOf s ch with target := t, redirect := false })
      (Reg.dchTsetCtrl ch) 4 false) (Reg.dchTsetCtrl ch) 0 t) (Reg.dchTsetCtrl ch) 16 16 1) (Reg.dphPll ch)
      (wd (dckMhz (addWrap (wrB (wrB
      (setDch s ch { dchOf s ch with target := t, redirect := false })
      (Reg.dchTsetCtrl ch) 4 false) (Reg.dchTsetCtrl ch) 0 t) (Reg.dchTsetCtrl ch) 16 16 1) ch t + 2 ^ 16))) (51 + 4 * ch)) ch)))

/-- R244 to R247, R253 to R257, R261, R262: training, retraining, sliced sweeps, the PLL and the patrol scrub. -/
def Obligations.TrainingCommands : Prop :=
  (∀ ch s, (chFenced s ch || s.dram.layout.isEmpty) = true → exec (.dphFullSweep ch) s = .next (settle (startSweep s ch))) ∧
  (∀ ch s, (chFenced s ch || s.dram.layout.isEmpty) = false →
    exec (.dphFullSweep ch) s = .next (settle (accessErr s (Pg.dph ch)))) ∧
  (∀ ch s, (dchOf s ch).sliced = false → (dchOf s ch).sweeping = false → (dchOf s ch).trained = true → s.memWf = true →
    ∃ u, exec (.dphSlicedSweep ch) s = .next (settle u) ∧ hasErr u (Pg.dph ch) 18 = true) ∧
  (∀ ch a0 b0 a1 b1 ms rfm s, (dchOf s ch).sweeping = true → marginOk a0 = true → marginOk b0 = true → marginOk a1 = true →
    marginOk b1 = true → ∃ u t, t = settle (startTrained u ch) ∧ rd u (Reg.dphMarginA0 ch) = a0 ∧
      rd u (Reg.dphTrainStatus ch) = 8#32 ∧ exec (.trainingSweepDone ch a0 b0 a1 b1 ms ⟨0, rfm⟩) s =
      .next (settle (if sweepsEnded t = true then noteReasons (fixLayout (fixLining t)) else t))) ∧
  (∀ ch a0 b0 a1 b1 ms fail rfm s, (dchOf s ch).sweeping = true → fail ≠ 0 → s.memWf = true →
    ∃ u t, t = settle u ∧ hasErr u (Pg.dph ch) 16 = true ∧ exec (.trainingSweepDone ch a0 b0 a1 b1 ms ⟨fail, rfm⟩) s =
      .next (settle (if sweepsEnded t = true then noteReasons (fixLayout (fixLining t)) else t))) ∧
  (∀ ch sub drift s u, (dchOf s ch).trained = true →
    u = raiseTo (adjustLanes (addWrap s (Reg.dchRetrainCount ch) 0 32 1) ch sub) (Reg.dphDrift ch) 0 8 drift →
    exec (.retrainPause ch sub drift) s =
      .next (settle (if rf u (Reg.dphFallback ch) 0 6 * rf u (if sub = true then Reg.dphMarginB0 ch else Reg.dphMarginA0 ch) 8 8 <
        100 * drift then startSliced u ch else u))) ∧
  (∀ ch a0 b0 s, (dchOf s ch).sliced = true → hemBusy s = false → (s.gen.map.any fun e => e.2 == 8#4) = false →
    s.gen.lineBits = [] → rf (addSat s (Reg.dphTrainStatus ch) 16 8 1) (Reg.dphTrainStatus ch) 16 8 < 128 →
    exec (.sweepSlice ch false (a0, b0)) s = .next (settle (addSat s (Reg.dphTrainStatus ch) 16 8 1))) ∧
  (∀ ch a0 b0 s, (dchOf s ch).sliced = true → hemBusy s = false → (s.gen.map.any fun e => e.2 == 8#4) = false →
    s.gen.lineBits = [] → marginOk a0 = true → marginOk b0 = true →
    ∃ u, exec (.sweepSlice ch true (a0, b0)) s = .next (settle (icu (wr (freeLanes (wr (wr u (Reg.dphMarginA0 ch) a0)
      (Reg.dphMarginB0 ch) b0) ch) (Reg.dphDrift ch) 0#32) (50 + 4 * ch))) ∧ (dchOf u ch).sliced = false) ∧
  (∀ ch a0 b0 s, (dchOf s ch).sliced = true → hemBusy s = false → (s.gen.map.any fun e => e.2 == 8#4) = false →
    s.gen.lineBits = [] → (marginOk a0 && marginOk b0) = false → s.memWf = true →
    ∃ u, exec (.sweepSlice ch true (a0, b0)) s = .next (settle u) ∧ hasErr u (Pg.dph ch) 16 = true) ∧
  (∀ ch s, s.memWf = true → ∃ u, exec (.pllUnlock ch) s = .next (settle u) ∧ hasErr u (Pg.dph ch) 17 = true) ∧
  (∀ ch a errs s, rb s (Reg.dchScrubCfg ch) 0 = true → dchServes s ch = true →
    dramAddr s ch (64 * (dchOf s ch).scrubAt) = some a →
    eccOutcome (activate s ch (localOf s ch (64 * (dchOf s ch).scrubAt)) none) ch
      (localOf s ch (64 * (dchOf s ch).scrubAt)) errs = .clean →
    exec (.patrolScrub ch errs) s =
      .next (settle (scrubAdvance (activate s ch (localOf s ch (64 * (dchOf s ch).scrubAt)) none) ch))) ∧
  (∀ ch a errs dev s, rb s (Reg.dchScrubCfg ch) 0 = true → dchServes s ch = true →
    dramAddr s ch (64 * (dchOf s ch).scrubAt) = some a →
    eccOutcome (activate s ch (localOf s ch (64 * (dchOf s ch).scrubAt)) none) ch
      (localOf s ch (64 * (dchOf s ch).scrubAt)) errs = .corrected dev →
    exec (.patrolScrub ch errs) s =
      .next (settle (scrubAdvance (corrected (activate s ch (localOf s ch (64 * (dchOf s ch).scrubAt)) none) ch
        (localOf s ch (64 * (dchOf s ch).scrubAt)) dev) ch))) ∧
  (∀ ch a errs s, rb s (Reg.dchScrubCfg ch) 0 = true → dchServes s ch = true →
    dramAddr s ch (64 * (dchOf s ch).scrubAt) = some a →
    eccOutcome (activate s ch (localOf s ch (64 * (dchOf s ch).scrubAt)) none) ch
      (localOf s ch (64 * (dchOf s ch).scrubAt)) errs = .uncorrectable →
    exec (.patrolScrub ch errs) s =
      .next (settle (scrubAdvance (scrubBad (activate s ch (localOf s ch (64 * (dchOf s ch).scrubAt)) none) ch a) ch)))

/-- R306, R308, R309, R324: grants of the buffer pool, META's in mirrored pairs, and its quotas. -/
def Obligations.PoolCommands : Prop :=
  (∀ k n s, k < 12 → n ≠ 0 → mayTake s k (if k = 10 then 2 * n else n) = true → (s.pool.waits.any fun e => e.1 == k) = false →
    exec (.poolGrant k n) s = .next (settle (takeBuffers s k (if k = 10 then 2 * n else n)))) ∧
  (∀ k n m s, k < 12 → n ≠ 0 → m = (if k = 10 then 2 * n else n) →
    (mayTake s k m = false ∨ (s.pool.waits.any fun e => e.1 == k) = true) → (clientOf s k).held + m ≤ maxOf s k →
    exec (.poolGrant k n) s = .next (settle { s with pool := { s.pool with waits := s.pool.waits ++ [(k, m)] } })) ∧
  (∀ k n m s, k < 12 → n ≠ 0 → m = (if k = 10 then 2 * n else n) → maxOf s k < (clientOf s k).held + m →
    exec (.poolGrant k n) s =
      .next (settle (waitAtMax { s with pool := { s.pool with waits := s.pool.waits ++ [(k, m)] } } k))) ∧
  (∀ k n s, s.pool.waits = [(k, n)] → grantOrder.contains k = true → mayTake s k n = true →
    exec .poolGrantAfterWait s = .next (settle (takeBuffers { s with pool := { s.pool with waits := [] } } k n))) ∧
  (∀ k (val : Word) s, k < 12 → quotaOk s k (val &&& 0x7FFF7FFF#32) = true → locked s Pg.pool = false →
    exec (.poolQuotaWrite k val) s = .next (settle (updateScale (wr s (Reg.poolQ k) (val &&& 0x7FFF7FFF#32))))) ∧
  (∀ k (val : Word) s, k < 12 → (quotaOk s k (val &&& 0x7FFF7FFF#32) = false ∨
    (locked s Pg.pool = true ∧ rd s (Reg.poolQ k) ≠ val &&& 0x7FFF7FFF#32)) → s.memWf = true →
    ∃ u, exec (.poolQuotaWrite k val) s = .next (settle u) ∧ hasErr u Pg.pool 3 = true ∧
      rd u (Reg.poolQ k) = rd s (Reg.poolQ k))

/-- R14, R266, R270, R275, R280, R285, R288, R290, R292, R293: the flash store and its strobes. -/
def Obligations.FlashCommands : Prop :=
  (∀ ch geom checks ok s, coreUp s = true → ch < 32 → enabled s (Pg.fch ch) = true → enabled s Pg.fst = true →
    fchFenced s ch = false → railPresent s (18 + ch / 8) = true →
    (rb s (Reg.fchMount ch) 0 = false ∨ s.fst.remount.contains ch = true) →
    exec (.flashMount ch geom checks ok) s = .next (settle (recomputeLevel (mount s ch geom checks ok)))) ∧
  (∀ blk s, (lunOf s (lunOfBlk blk)).op = 2 → (lunOf s (lunOfBlk blk)).blk = blk → Sparse.wf (fun _ => {}) s.fst.blocks = true →
    ∃ u, exec (.flashEraseComplete blk true) s = .next (settle (runErases (bandFreed u (blkBand blk)))) ∧
      u.gen = s.gen ∧ (blkOf u blk).cls = .erased ∧ (blkOf u blk).cycles = (blkOf s blk).cycles + 1) ∧
  (∀ blk s, (lunOf s (lunOfBlk blk)).op = 2 → (lunOf s (lunOfBlk blk)).blk = blk →
    exec (.flashEraseComplete blk false) s = .next (settle (runErases (bandFreed (retireBlk (report
      (addWrap (setLun s (lunOfBlk blk) { lunOf s (lunOfBlk blk) with op := 0, blk := 0, suspensions := 0 })
        (Reg.fchOps (blkCh blk)) 0 32 1) (Pg.fch (blkCh blk)) 17 0) blk) (blkBand blk))))) ∧
  (∀ loc res s, fchReady s (locCh loc) = true → res ≠ .uncorrectable →
    exec (.flashReadComplete loc res) s = .next (settle (ladder s loc res))) ∧
  (∀ loc c s, fchReady s (locCh loc) = true →
    ((ladder s loc .uncorrectable).gen.cw.find? fun e => e.1 == loc) = some (loc, c) →
    exec (.flashReadComplete loc .uncorrectable) s =
      .next (settle (verifyFail (ladder s loc .uncorrectable) c.g c.gen c.idx))) ∧
  (∀ ch t s, fchServes s ch = true → t < (fgeom s).targets → rb s (Reg.fchMount ch) (16 + t) = false →
    (fchOf (resetTarget s ch t) ch).stuckOnce.contains t = false →
    exec (.stuckTargetTimeout ch t) s = .next (settle (eraseLost (setFch (resetTarget s ch t) ch
      { fchOf (resetTarget s ch t) ch with stuckOnce := (fchOf (resetTarget s ch t) ch).stuckOnce ++ [t] }) ch))) ∧
  (∀ ch t s, fchServes s ch = true → t < (fgeom s).targets → rb s (Reg.fchMount ch) (16 + t) = false →
    (fchOf (resetTarget s ch t) ch).stuckOnce.contains t = true →
    exec (.stuckTargetTimeout ch t) s = .next (settle (unmountTarget (resetTarget s ch t) ch t))) ∧
  (∀ ch t l s, (lunOf s (lunKey ch t l)).op = 3 → (lunOf s (lunKey ch t l)).forHem = false → fetchesAt s (lunKey ch t l) = false →
    exec (.eraseResume ch t l) s = .next (setLun s (lunKey ch t l)
      { lunOf s (lunKey ch t l) with op := 2, inside := false, resumedAt := now s })) ∧
  (∀ ch s, fchServes s ch = true → exec (.intentPageDurable ch) s = .next (intentFlush s ch)) ∧
  (∀ s, restored s = true → recounted s = false →
    exec .validCountRecount s = .next (settle (forEach
      (((storeEvent (wr s Reg.fstRecount (wd 25600)) 2).fst.blocks.filter fun e =>
        e.2.cls == .stale || e.2.cls == .undefined || e.2.cls == .closed).map Prod.fst)
      (storeEvent (wr s Reg.fstRecount (wd 25600)) 2) fun s b =>
        if bandUsed s (blkBand b) = true then
          (if (blkOf s b).cls = .stale then setBlk s b { blkOf s b with cls := .closed } else s)
        else eraseBlk s b))) ∧
  (∀ t l b locs n s, n = b * 128 + l * 16 + t → windowOpen s = true → hemBusy s = false → restored s = true →
    (candidate s).map Prod.snd = some n → (affectedGens s n).all (fun e => durable e.2) = true →
    locs.length = (copied s n).length +
      ((affectedGens s n).map fun e => partsOf e.2.delta.length + partsOf e.2.ckptDelta.length + 1).sum →
    placesOk (locs.map fun l => (l, 2)) s = true →
    ∃ u, exec (.relocation t l b locs) s = .next (settle (eraseBand (addSat u Reg.fstRelocStatus 16 16 1) n)) ∧
      (u.fst.cands.any fun e => e.2 == n) = false) ∧
  (∀ ch d s, ch < 32 → 30 < d → rb s (Reg.fchMount ch) 0 = true →
    exec (.strobeDelayCheck ch d) s = .next (setFch s ch { fchOf s ch with recal := true })) ∧
  (∀ ch re dqs s, (fchOf s ch).recal = true → exec (.strobeRecalibrate ch true re dqs) s = .next (settle
      (icu (setFch (wr s (Reg.fchCal ch) (wd (re % 4096 + dqs % 4096 * 65536 + 2 ^ 31))) ch
        { fchOf s ch with recal := false, calFails := 0 }) (114 + 4 * ch)))) ∧
  (∀ ch re dqs s, (fchOf s ch).recal = true → exec (.strobeRecalibrate ch false re dqs) s = .next (settle
      (if (fchOf s ch).calFails = 1 then report (setFch s ch { fchOf s ch with calFails := (fchOf s ch).calFails + 1 }) (Pg.fch ch) 21 0
        else setFch s ch { fchOf s ch with calFails := (fchOf s ch).calFails + 1 })))

/-- R363 to R376, R378 to R380: the estimator's seconds, pauses, hibernation, the table check and the mailbox commands. -/
def Obligations.BatteryCommands : Prop :=
  (∀ s a b c d e, coreUp s = true →
    a = { integrate s 1 with bat := { (integrate s 1).bat with socV := socFromVoltage (integrate s 1) } } →
    b = extreme (extreme a 13 (lowestCell a).1 false) 14 (highestCell a) true → c = (if restDue b = true then restEnd b else b) →
    d = restAge (restCount (noteTemp c) 1) 1 → e = spanAge (spanSecond (if restDue d = true then restEnd d else d)) →
    exec .batSecond s = .next (settle (recomputeBudget (recomputeEnergy (chargeControl (pauseStart (learnEnd
      (chargeWindow (if e.psq.holdEn = true then batHold e else e))))))))) ∧
  (∀ s, s.bat.pause = true → restDue s = false →
    exec .restPauseEnd s = .next (settle (chargeControl (endPause s)))) ∧
  (∀ s, s.bat.pause = true → restDue s = true →
    exec .restPauseEnd s = .next (settle (chargeControl (endPause (restEnd s))))) ∧
  (∀ secs s t, coreUp s = false → s.psq.vao = true →
    t = recomputeEnergy (restAge (restCount (integrate s secs) secs) secs) →
    exec (.hibEstimatorTick secs) s =
      .next (settle (if t.gen.hem.st = 4 ∧ t.bat.energy ≤ rf t Reg.genKaReserve 0 16 then endKa t true else t))) ∧
  (∀ (val : Word) s, bit val 0 = true → exec (.batEnableTableCheck val) s = .next (settle (ctrlWrite s Pg.bat val))) ∧
  (∀ (val : Word) s, bit val 0 = true → 3900 ≤ fld val 16 13 → fld val 16 13 ≤ 4150 → locked s Pg.bat = false →
    ∃ u, exec (.batLearnRequest val) s = .next (settle u) ∧
      u = { wrF s Reg.batLearnCtrl 16 13 (fld val 16 13) with bat := { s.bat with request := true } }) ∧
  (∀ ld s, exec (.getBatteryStatus ld []) s = .next (settle (replyOk s ld (batStatus s)))) ∧
  (∀ ld s, exec (.requestLearningCycle ld []) s =
      .next (settle (replyCode { s with bat := { s.bat with request := true } } ld 0))) ∧
  (∀ ld s, isAdmin s ld = true → hemBusy s = false → restoring s = false → exec (.armShipMode ld (leBytes 4 0x50494853)) s =
      .next (settle (replyCode (icu { s with bat := { s.bat with ship := true } } 379) ld 0))) ∧
  (∀ ld s, isAdmin s ld = true → (hemBusy s = true ∨ restoring s = true) → exec (.armShipMode ld (leBytes 4 0x50494853)) s =
      .next (settle (replyCode (icu s 379) ld 1))) ∧
  (∀ ld s, s.bat.ship = true → exec (.disarmShipMode ld []) s =
      .next (settle (replyCode (icu { s with bat := { s.bat with ship := false } } 379) ld 0))) ∧
  (∀ ld s, s.bat.ship = false → exec (.disarmShipMode ld []) s = .next (settle (replyCode s ld 0)))

/-- R412 to R422: messages and the doorbell, entry, completion and exit, the single-source registers, sleep and wake. -/
def Obligations.InterruptCommands : Prop :=
  (∀ src s, exec (.icuMessage src) s = .next (settle (icu s src))) ∧
  (∀ (val : Word) s, fld val 0 9 < 500 → (496 ≤ fld val 0 9 ∨ injectLocked s Pg.icu = false) →
    exec (.icuDoorbell val) s = .next (settle (icuMsg s (fld val 0 9)))) ∧
  (∀ ctx src s, s.memWf = true → s.icu.core = .running → bestSource s s.icu.stack = some src → handlerOk (handlerAddr s src) = true →
    ∃ u, exec (.icuEntry ctx) s = .next (settle u) ∧ u.icu.stack = (src, prioOf s src) :: s.icu.stack ∧
      u.icu.live = some src :: s.icu.live ∧ isPending u src = false) ∧
  (∀ (val : Word) p rest s, s.icu.stack = (fld val 0 9, p) :: rest → fld val 0 9 < 500 →
    ∃ u, exec (.icuDone val) s = .next (settle u) ∧ u.icu.stack = rest ∧ u.regs = s.regs) ∧
  (∀ rest s, s.icu.live = none :: rest → bestSource s s.icu.stack = none →
    ∃ u, exec .icuExit s = .next (settle u) ∧ u.icu.live = rest ∧ u.icu.stack = s.icu.stack ∧
      u.icu.context = (List.range 18).map (fun i => wd (ofLe (sramBytes s (frameOff s s.icu.stack.length + 4 * i) 4))) ∧
      u.regs = s.regs) ∧
  (∀ (val : Word) s, fld val 0 9 < 500 → exec (.icuPendclr val) s = .next (settle (setPending s (fld val 0 9) false))) ∧
  (∀ (val : Word) s, fld val 0 9 < 500 → locked s Pg.icu = false →
    exec (.icuEnset val) s = .next (settle (wrF s (Reg.icuEn (fld val 0 9 / 32)) (fld val 0 9 % 32) 1 1))) ∧
  (∀ (val : Word) s, 0 < fld val 0 9 → fld val 0 9 < 500 → locked s Pg.icu = false →
    exec (.icuEnclr val) s = .next (settle (wrF s (Reg.icuEn (fld val 0 9 / 32)) (fld val 0 9 % 32) 1 0))) ∧
  (∀ (val : Word) s, 0 < fld val 0 9 → fld val 0 9 < 500 → locked s Pg.icu = false →
    exec (.icuPrioSet val) s =
      .next (settle (wrF s (Reg.icuPrio (fld val 0 9 / 4)) (8 * (fld val 0 9 % 4)) 8 (fld val 16 8)))) ∧
  (∀ s, s.icu.core = .running → rb s Reg.sysSleepCfg 0 = false → bestSource s s.icu.stack = none →
    exec .wfiSleep s = .next (settle { s with icu := { s.icu with core := .lightSleep } })) ∧
  (∀ src s, s.icu.core = .lightSleep → bestSource s s.icu.stack = some src →
    ∃ u, exec .sleepWake s = .next (settle u) ∧ u.icu.core = .running ∧
      u = wr { s with icu := { s.icu with core := .running } } Reg.sysWakeCause (wd (src % 512 + 512))) ∧
  (∀ src s, s.icu.core = .deepSleep → coreUp s = true → watched s src = true → isPending s src = true →
    exec (.thimbleWake src) s = .next (settle (deepWakeStart s src)))

/-- R403 to R405, R407, R424, R425, R432: restarts of the core pair, the watchdog, the time base and memory errors. -/
def Obligations.SystemCommands : Prop :=
  (∀ pc s, (s.icu.core = .running ∨ s.icu.core = .lightSleep) → exec (.lockstepDivergence pc) s =
    .next (settle (restartUnder (report (addSat (wr s Reg.sysDivPc pc) Reg.sysLockstep 0 16 1) Pg.sys 16 0) 2))) ∧
  (∀ pc s, (s.icu.core = .running ∨ s.icu.core = .lightSleep) → rb s Reg.sysWdt 16 = true →
    exec (.watchdogExpiry pc) s =
      .next (settle (restartUnder (report (addSat (wr s Reg.sysDivPc pc) Reg.sysLockstep 16 16 1) Pg.sys 18 0) 3))) ∧
  (∀ (val : Word) s, fld val 16 16 = 0x574B →
    exec (.watchdogKick val) s = .next { s with icu := { s.icu with kicked := now s } }) ∧
  (∀ s, (s.icu.core = .running ∨ s.icu.core = .lightSleep) → rb s Reg.sysWdt 16 = true →
    exec .watchdogHalfTimeout s = .next (settle (icu s 4))) ∧
  (∀ s, coreUp s = true → s.icu.core ≠ .down → ∃ u, exec .jtagReset s = .next (settle u) ∧
      u = restartPair s 5 (imgEntry s s.upd.slot) ∧ u.icu.core = .running ∧ u.icu.stack = []) ∧
  (∀ off s, coreUp s = true → s.memWf = true → ∃ u, exec (.sramUncorrectable off) s = .next (settle u) ∧
      hasErr u Pg.sys 17 = true) ∧
  (∀ addr s, s.memWf = true → ∃ u, exec (.codeFlashUncorrectable addr) s = .next (settle u) ∧ hasErr u Pg.cfl 17 = true) ∧
  (∀ s, coreUp s = true → rb s Reg.sysTimerCmp 16 = true → rf s Reg.sysTimerCmp 0 15 = ticks s →
    exec .tickCompare s = .next (settle (icu s 8))) ∧
  (∀ s, coreUp s = true → s.memWf = true → ∃ u, exec .operatingSecond s = .next (settle (samples (icu u 9))) ∧ rf u Reg.sysTicks 0 15 = 0)

/-- R408, R410: firmware's operations of the code flash interface. -/
def Obligations.CodeFlashCommands : Prop :=
  (∀ (val : Word) s, flashReady s 1 = true →
    exec (.cflProgramPage val none) s = .next (settle (setCflOp s ((rd s Reg.cflAddr).toNat / 2 ^ 24)
      (some { kind := 1, req := .fw, addr := (rd s Reg.cflAddr).toNat })))) ∧
  (∀ (val : Word) s, flashReady s 2 = true →
    exec (.cflEraseSector val none) s = .next (settle (setCflOp s ((rd s Reg.cflAddr).toNat / 2 ^ 24)
      (some { kind := 2, req := .fw, addr := (rd s Reg.cflAddr).toNat })))) ∧
  (∀ (val : Word) s, flashReady s 3 = true →
    exec (.cflBlankCheck val none) s = .next (settle (setCflOp s ((rd s Reg.cflAddr).toNat / 2 ^ 24)
      (some { kind := 3, req := .fw, addr := (rd s Reg.cflAddr).toNat })))) ∧
  (∀ bank o s, cflOp s bank = some o → o.req = .fw → o.kind = 2 → exec (.cflOperationDone bank true) s =
    .next (settle (evrPump (icu (cflResult (cflErase (setCflOp s bank none) o.addr 4096) bank 0) 456)))) ∧
  (∀ bank o s, cflOp s bank = some o → o.req = .fw → o.kind = 1 →
    cflBytes (cflProgram (setCflOp s bank none) o.addr (cflBuf s)) o.addr 256 = cflBuf s →
    exec (.cflOperationDone bank true) s =
      .next (settle (evrPump (icu (cflResult (cflProgram (setCflOp s bank none) o.addr (cflBuf s)) bank 0) 456)))) ∧
  (∀ bank o s, cflOp s bank = some o → o.kind = 2 → o.suspended = false → o.suspensions < 64 →
    exec (.cflReadSuspend bank) s =
      .next (setCflOp s bank (some { o with suspended := true, suspensions := o.suspensions + 1 }))) ∧
  (∀ bank o s, cflOp s bank = some o →
    exec (.cflEraseResume bank) s = .next (setCflOp s bank (some { o with suspended := false })))

/-- R385, R392, R393, R397: the diode, the check of every 100 ms, the die temperatures and Get Thermal Status. -/
def Obligations.ThermalCommands : Prop :=
  (∀ t s, coreUp s = true → -500 ≤ t → t ≤ 1500 → ∃ u, exec (.diodeRead t) s = .next (settle (judgeAbs (setInUse u))) ∧
      u.thm.reads = (t :: s.thm.reads).take 4 ∧ u.thm.diode = u.thm.reads.sum / (u.thm.reads.length : Int)) ∧
  (∀ s, coreUp s = true → ∃ u, exec .thmCheck s = .next (settle (judgeWindow u))) ∧
  (∀ s, coreUp s = true → s.thm.live = false → s.thm.broken = false → thmLost s = false → packReading s = none →
    s.thm.inUse < thmLimit s 0 → ∃ u, exec .thmCheck s = .next (settle (judgeWindow u)) ∧
      u = { wr s Reg.thmNeigh (wd (neighByte (neighDram s) + 256 * neighByte (neighNand s) + 65536 * neighByte (neighPack s) +
        2 ^ 24 * neighByte (medianOf (neighbours s)))) with thm := { s.thm with packOff := 0, packOn := 0 } }) ∧
  (∀ ch a b s, coreUp s = true → ch < 16 → dchPopulated s ch = true → chFenced s ch = false →
    ∃ u, exec (.dramTempRead ch a b) s = .next (settle (applyDoubled (applyRelief u))) ∧
      u.thm.dram = Sparse.set (fun _ => (-1000 : Int)) s.thm.dram ch (max (BitVec.toInt a) (BitVec.toInt b))) ∧
  (∀ ch temp target s, coreUp s = true → ch < 32 → rb s (Reg.fchMount ch) 0 = true → fchFenced s ch = false →
    ∃ u, exec (.nandTempRead ch temp target) s = .next (settle (judgeWindow u)) ∧
      u.fst.chs = (setFch s ch { fchOf s ch with temp := some (BitVec.toInt temp) }).fst.chs) ∧
  (∀ ld s, ∃ out, exec (.getThermalStatus ld []) s = .next (settle (replyOk s ld out)) ∧ out.length = 24)

/-- R439 to R444, R448, R453: the event recorder's own steps and the commands of its registers. -/
def Obligations.RecorderCommands : Prop :=
  (∀ e rest s, evrOn s = true → s.evr.mode = 1 ∨ s.evr.mode = 2 → s.evr.inbox = e :: rest →
    exec .eventAdmission s = .next (settle (admitEvent { s with evr := { s.evr with inbox := rest } } e))) ∧
  (∀ s, evrOn s = true → s.evr.mode = 1 → exec .evrFlushTimer s = .next (settle (evrPump (closeBuf s)))) ∧
  (∀ n x b rest o s, cflOp s 3 = some o → o.req = .evr → o.kind = 1 → o.addr % 2 ^ 24 / 4096 = n → sectorOf s n = some x →
    s.evr.bufs = b :: rest →
    ∃ u, exec (.evrPageDurable true) s = .next (settle (evrPump (topUpAll u))) ∧ u.evr.bufs = rest ∧
      sectorOf u n = some { x with pages := x.pages ++ [b.2] } ∧ cflOp u 3 = none) ∧
  (∀ n x b rest o s, cflOp s 3 = some o → o.req = .evr → o.kind = 1 → o.addr % 2 ^ 24 / 4096 = n → sectorOf s n = some x →
    s.evr.bufs = b :: rest →
    exec (.evrPageDurable false) s = .next (settle (evrPump (retireSector (setCflOp s 3 none) n o.addr)))) ∧
  (∀ torn ok s, evrOn s = true → s.evr.mode = 0 → exec (.evrMount torn ok) s = .next (settle (mountLog s torn ok))) ∧
  (∀ s, evrOn s = true → s.evr.clearing = false → s.evr.frozen = false →
    ∃ u, u = evrFlush (ownRec s 0x03F2 0 (leBytes 1 0)) ∧ exec (.evrFreeze 1#32) s =
      .next (settle (icu { u with evr := { u.evr with frozen := true, freezeIn := none } } 437))) ∧
  (∀ s, evrOn s = true → s.evr.clearing = true →
    exec (.evrFreeze 1#32) s = .next (settle { s with evr := { s.evr with freezeAsked := true } })) ∧
  (∀ s, evrOn s = true → s.evr.frozen = true →
    exec (.evrUnfreeze 2#32) s = .next (settle (icu (ownRec
      { s with evr := { s.evr with frozen := false, freezeIn := none } } 0x03F3 0 []) 437))) ∧
  (∀ s, evrOn s = true → s.evr.mode = 1 → exec (.evrFlush 4#32) s =
    .next (settle (evrPump (closeBuf { s with evr := { s.evr with flushing := true } })))) ∧
  (∀ s, evrOn s = true → s.evr.clearing = false → ∃ u, exec (.evrClear 0x434C0008#32) s = .next (settle (topUpAll u)) ∧
    u.evr.clearing = true ∧ u.evr.sectors = [] ∧ u.evr.ready = [] ∧ u.evr.live.hist = [] ∧ u.evr.live.ext = []) ∧
  (∀ a b s, evrOn s = true → exec (.evrSummaryCmd 16#32 a b) s = .next (settle (writeSummary s a b))) ∧
  (∀ s, evrOn s = true → s.evr.mode = 1 → ∃ u, exec (.summaryInterval true true) s = .next (settle (icu u 438)) ∧
    u.evr.live = { liveNow s with seq := (s.evr.live.seq + 1) % 2 ^ 32 } ∧ (s.evr.slotA % 32, u.evr.live) ∈ u.evr.sums ∧
    (32 + s.evr.slotB % 32, u.evr.live) ∈ u.evr.sums) ∧
  (∀ s, s.evr.clearing = true → s.evr.freezeAsked = false → ∃ u, exec .clearLogDone s =
    .next (settle (endBg (icu (ownRec u 0x03F5 0 []) 443) s.evr.clearLd rcSuccess (leBytes 4 0))) ∧ u.evr.clearing = false ∧
    u.evr.sectors = s.evr.sectors) ∧
  (∀ s, evrOn s = true → rb s Reg.evrFwStatus 0 = false → isFwCode (rf s Reg.evrFwHdr 0 16) = true →
    ∃ data, exec (.evrFwGo 1#32) s = .next (settle (event (wrB s Reg.evrFwStatus 0 true) (rf s Reg.evrFwHdr 0 16)
      (rf s Reg.evrFwHdr 16 2) data)) ∧
      data = ((List.range 57).flatMap fun k => leBytes 4 (rd s (Reg.evrFwData k)).toNat).take (rf s Reg.evrFwHdr 24 8))

/-- R443, R448, R451, R452: the recorder's mailbox commands. -/
def Obligations.LogMailboxCommands : Prop :=
  (∀ ld s, ∃ out, exec (.getLogInfo ld []) s = .next (replyOk s ld out) ∧ out.length = 32 ∧
    out.take 2 = leBytes 1 0 ++ leBytes 1 s.evr.mode) ∧
  (∀ ld inp s, inp.length = 8 → ∃ out, exec (.readLog ld inp) s = .next (replyOk s ld out) ∧ out.length ≤ 2048 ∧
    out.take 1 = leBytes 1 0) ∧
  (∀ ld inp s, inp.length = 4 → byteAt inp 0 ≤ 3 → byteAt inp 1 = 0 → exec (.getSummary ld inp) s = .next (replyOk s ld
    (leBytes 1 0 ++ leBytes 3 (byteAt inp 0) ++ ((summaryBytes (liveNow s)).drop (1024 * byteAt inp 0)).take 1024))) ∧
  (∀ ld inp u s, inp.length = 4 → byteAt inp 0 ≤ 3 → byteAt inp 1 = 1 → s.evr.mode ≠ 2 → newestCopy s = some u →
    exec (.getSummary ld inp) s = .next (replyOk s ld
      (leBytes 1 0 ++ leBytes 3 (byteAt inp 0) ++ ((summaryBytes u).drop (1024 * byteAt inp 0)).take 1024))) ∧
  (∀ ld s, evrOn s = true → exec (.freezeLog ld []) s = .next (settle (replyCode (evrFreeze s 0) ld 0))) ∧
  (∀ ld s, isAdmin s ld = true → evrOn s = true →
    exec (.unfreezeLog ld []) s = .next (settle (replyCode (evrUnfreeze s) ld 0))) ∧
  (∀ ld s, evrOn s = false → exec (.freezeLog ld []) s = .next (settle (replyCode s ld 1))) ∧
  (∀ ld s, isAdmin s ld = true → hemActive s = false → evrOn s = true → s.evr.clearing = false →
    exec (.clearLog ld (leBytes 4 0x474F4C43)) s = .next (settle (startBg s ld 0xC045 fun s => startClear s (some ld)))) ∧
  (∀ ld inp s, inp.length = 4 → isAdmin s ld = true → byteAt inp 0 ≤ 1 → pay inp 2 2 ≤ 2048 → pay inp 2 2 % 16 = 0 →
    exec (.setLogPolicy ld inp) s = .next (replyCode
      (wrF (wrF s Reg.evrCfg 0 1 (byteAt inp 0)) Reg.evrCfg 20 8 (pay inp 2 2 / 16)) ld 0))

/-- R463 to R466, R468: Transfer FW and Activate FW, the transfer's time limit and the reconstruction. -/
def Obligations.TransferCommands : Prop :=
  (∀ ld inp s, isAdmin s ld = true → enabled s Pg.upd = true → 256 ≤ inp.length → inp.length ≤ 2048 → byteAt inp 1 = inactiveNo s →
    s.upd.st = 0 ∨ s.upd.st = 4 → refuseMask s = 0 → pay inp 4 4 = 0 →
    leAt (inp.drop 128) 124 4 = (crc32c ((inp.drop 128).take 124)).toNat → leAt (inp.drop 128) 8 4 ≤ 2 ^ 24 →
    128 + leAt (inp.drop 128) 12 4 ≤ stageSize → inp.length % 128 = 0 →
    ∃ u, exec (.transferFwInitiate ld inp) s = .next (settle (replyOk u ld [])) ∧ u.upd.st = 1 ∧ u.upd.staged = false ∧
      u.upd.received = inp.length - 128 ∧ u.upd.targetLen = leAt (inp.drop 128) 8 4) ∧
  (∀ ld inp s u, isAdmin s ld = true → enabled s Pg.upd = true → 256 ≤ inp.length → inp.length ≤ 2048 → fwStart s ld inp = (u, true) →
    refuseMask u = 0 → exec (.transferFwFull ld inp) s =
      .next (settle (startBg u ld 0x0201 fun s => { s with upd := { s.upd with st := 3, xferLd := some ld } }))) ∧
  (∀ ld inp s, isAdmin s ld = true → enabled s Pg.upd = true → 128 ≤ inp.length → inp.length ≤ 2048 → s.upd.aborted = false → s.upd.st = 1 →
    byteAt inp 1 = inactiveNo s → 128 * pay inp 4 4 = s.upd.received → s.upd.lastOff < s.upd.received →
    s.upd.received + (inp.length - 128) ≤ stageSize → inp.length % 128 = 0 →
    exec (.transferFwContinue ld inp) s =
      .next (settle (replyOk (storeBlock s s.upd.received (inp.drop 128)) ld []))) ∧
  (∀ ld inp s, isAdmin s ld = true → enabled s Pg.upd = true → inp.length = 128 → s.upd.aborted = false → s.upd.st = 1 → refuseMask s = 0 →
    exec (.transferFwEnd ld inp) s =
      .next (settle (startBg s ld 0x0201 fun s => { s with upd := { s.upd with st := 3, xferLd := some ld } }))) ∧
  (∀ ld inp s, isAdmin s ld = true → enabled s Pg.upd = true → 128 ≤ inp.length → inp.length ≤ 2048 →
    exec (.transferFwAbort ld inp) s = .next (settle (replyOk (abandonTransfer s) ld []))) ∧
  (∀ s, s.upd.st = 1 → exec .transferFwTimeout s = .next (settle (abandonTransfer s))) ∧
  (∀ s, s.upd.st = 3 → ∃ t code u, t = cflReadUse s (containerLen s) ∧
      code = (if (reconstruct s).1 = 0 then imgCheck (cflProgram t (slotBase (!s.upd.slot)) (reconstruct s).2) (!s.upd.slot)
        else (reconstruct s).1) ∧ exec (.reconstruction true) s = .next (settle u) ∧
      (code = 0 → u = updEnd (endBg { cflProgram t (slotBase (!s.upd.slot)) (reconstruct s).2 with
        upd := { s.upd with st := 4, staged := true, result := 0, xferLd := none } } s.upd.xferLd rcSuccess [])) ∧
      (code ≠ 0 → ∃ v w, w = slotInvalid v (!s.upd.slot) ∧ u = updEnd (endBg (report { w with
        upd := { w.upd with st := 0, staged := false, result := code, xferLd := none } } Pg.upd 16 0) s.upd.xferLd
        rcFwVerification []))) ∧
  (∀ s, s.upd.st = 3 → ∃ v w, w = slotInvalid v (!s.upd.slot) ∧ exec (.reconstruction false) s =
      .next (settle (updEnd (endBg (report { w with upd := { w.upd with
        st := 0, staged := false, result := (if (reconstruct s).1 = 0 then 0x0B else (reconstruct s).1), xferLd := none } } Pg.upd 16 0) s.upd.xferLd
        rcFwVerification [])))) ∧
  (∀ ld inp s, inp.length = 2 → enabled s Pg.upd = true → s.upd.st = 4 → s.upd.staged = true → byteAt inp 1 = inactiveNo s → refuseMask s = 0 →
    exec (.activateFwOnline ld inp) s = .next (settle (startBg s ld 0x0202 fun s =>
      { s with upd := { s.upd with actPending := true, actLd := some ld } }))) ∧
  (∀ ld inp s, inp.length = 2 → enabled s Pg.upd = true → s.upd.st = 4 → s.upd.staged = true → byteAt inp 1 = inactiveNo s → refuseMask s = 0 →
    imgLowest s (!s.upd.slot) ≤ areaFmt s (areaOf s s.upd.slot) →
    exec (.activateFwCold ld inp) s = .next (settle (replyOk (appendBoot { s with upd := { s.upd with
      trialSecs := 0, restarts := 0, oldArea := areaOf s s.upd.slot } } fun e =>
        { e with slot := !s.upd.slot, trial := 1 }) ld []))) ∧
  (∀ ld inp s, inp.length = 2 → enabled s Pg.upd = true → s.upd.st = 4 → s.upd.staged = true → byteAt inp 1 = inactiveNo s → refuseMask s = 0 →
    areaFmt s (areaOf s s.upd.slot) < imgLowest s (!s.upd.slot) →
    exec (.activateFwCold ld inp) s = .next (settle (reply s ld rcColdReset [])))

/-- R457, R459, R470, R471, R475 to R478: handover, trial, confirmation, fall-back, the owner lock and the status. -/
def Obligations.TrialCommands : Prop :=
  (∀ s, enabled s Pg.upd = true → s.upd.actPending = true → s.upd.st = 4 → refuseMask s = 0 →
    ∃ u, exec (.updActivate 0x55500001#32) s =
        .next (settle (restartPair (wr u Reg.sysBoot (wd (!s.upd.slot).toNat)) 4 (imgEntry u (!s.upd.slot)))) ∧
      u.upd.st = 5 ∧ u.upd.slot = !s.upd.slot ∧ u.upd.actPending = false ∧ (bootEnt u).trial = 2 ∧ u.regs = s.regs) ∧
  (∀ converted recs s t, s.upd.st = 5 → handoverOk s = true →
    t = (if converted = true then writeArea s (1 - s.upd.oldArea) (imgFormat s s.upd.slot) recs else s) →
    ∃ u, exec (.updHoAck 0x48410001#32 converted recs) s = .next (settle (updEnd (endBg (appendBoot u fun e => { e with
        trial := 1
        areaA := if s.upd.slot = true then e.areaA else if converted = true then 1 - s.upd.oldArea else e.areaA
        areaB := if s.upd.slot = true then (if converted = true then 1 - s.upd.oldArea else e.areaB) else e.areaB }) s.upd.actLd rcSuccess []))) ∧
      u = { t with upd := { t.upd with
        st := 6, unconverted := !converted, trialSecs := 0, restarts := 0, result := 0, actLd := none } }) ∧
  (∀ converted recs s, s.upd.st = 5 → handoverOk s = false →
    exec (.updHoAck 0x48410001#32 converted recs) s = .next (settle (handoverFail s))) ∧
  (∀ s, s.upd.st = 5 → ∃ u, exec .handoverTimeout s = .next (settle (updEnd (endBg (report (restartPair
      (wr u Reg.sysBoot (wd (!s.upd.slot).toNat)) 4 (imgEntry u (!s.upd.slot))) Pg.upd 17 0) s.upd.actLd rcFwRolledBack []))) ∧
      u.upd.st = 4 ∧ u.upd.slot = !s.upd.slot ∧ u.upd.result = 0x0C ∧ (bootEnt u).trial = 0) ∧
  (∀ s, s.upd.st = 6 → rb s Reg.updCfg 8 = true → s.upd.unconverted = false →
    exec .trialExpiry s = .next (settle (confirmTrial s))) ∧
  (∀ s, s.upd.st = 6 → rb s Reg.updCfg 8 = false → exec .trialExpiry s = .next (settle (failTrial s))) ∧
  (∀ ld s, isAdmin s ld = true → s.upd.st = 6 → s.upd.unconverted = false →
    exec (.confirmUpdate ld []) s = .next (settle (replyCode (confirmTrial s) ld 0))) ∧
  (∀ ld s, isAdmin s ld = true → s.upd.st = 6 ∨ s.upd.st = 7 →
    exec (.fallBack ld []) s = .next (settle (replyCode (failTrial s) ld 0))) ∧
  (∀ s, s.upd.fallDue = true → fallWaits s = false → exec .fallBackDeferredRun s = .next (settle (runFallBack s))) ∧
  (∀ ld inp s, inp.length = 36 → isAdmin s ld = true → byteAt inp 0 = 1 → s.upd.ownerLock = false →
    ∃ u, exec (.setOwnerLock ld inp) s = .next (settle (replyCode u ld 0)) ∧ u.upd.ownerLock = true ∧
      u.upd.lockCheck = (Config.sha384 (inp.drop 4)).take 32 ∧ (bootEnt u).ownerLock = true) ∧
  (∀ ld inp s, inp.length = 36 → isAdmin s ld = true → byteAt inp 0 = 0 → s.upd.ownerLock = true →
    (Config.sha384 (inp.drop 4)).take 32 = s.upd.lockCheck →
    ∃ u, exec (.setOwnerLock ld inp) s = .next (settle (replyCode u ld 0)) ∧ u.upd.ownerLock = false) ∧
  (∀ ld s, ∃ out, exec (.getUpdateStatus ld []) s = .next (replyOk s ld out) ∧ out.length = 24 ∧
    (out.drop 2).take 2 = leBytes 2 (trialLeft s)) ∧
  (∀ ld s, ∃ out, exec (.getFwInfo ld []) s = .next (replyOk s ld out) ∧ out.take 1 = leBytes 1 2) ∧
  (∀ s, enabled s Pg.upd = true → s.upd.st = 6 → s.upd.unconverted = false →
    exec (.updCmdConfirm 0x55500002#32) s = .next (settle (confirmTrial s))) ∧
  (∀ s, enabled s Pg.upd = true → s.upd.st = 6 → exec (.updCmdFallBack 0x55500004#32) s = .next (settle (failTrial s))) ∧
  (∀ s, enabled s Pg.upd = true → s.upd.st = 6 → exec (.updCmdFail 0x55500008#32) s = .next (settle (failTrial s))) ∧
  (∀ s, enabled s Pg.upd = true → 1 ≤ s.upd.st → s.upd.st ≤ 3 → ∃ v, v = slotInvalid s (!s.upd.slot) ∧
    exec (.updCmdAbort 0x55500010#32) s = .next (settle (updEnd (endBg { v with upd := { v.upd with
      st := 0, staged := false, aborted := s.upd.xferLd.isNone, xferLd := none, received := 0 } } s.upd.xferLd rcAborted [])))) ∧
  (∀ (val : Word) s, bit val s.upd.keySlot = false → exec (.updKeyRetire val) s =
    .next (settle { s with upd := { s.upd with retired := Nat.lor s.upd.retired (fld val 0 4) } }))

/-- R483 to R490, R500, R501: the host's transactions on SB0. -/
def Obligations.HostSidebandCommands : Prop :=
  (∀ s, sb0Ready s = true →
    exec .sb0ReadIdentity s = .next (sb0Ack s (leBytes 2 0x1632 ++ leBytes 1 0xB0 ++ leBytes 1 s.psq.level ++ leBytes 4 (runningVersion s))) ∧
    exec .sb0ReadLevel s = .next (sb0Ack s (leBytes 1 s.psq.level ++ leBytes 1 (mirrorFlags s))) ∧
    exec .sb0ReadTj s = .next (sb0Ack s (leBytes 2 (ofInt 16 s.thm.inUse))) ∧
    exec .sb0ReadEnergy s = .next (sb0Ack s
      (leBytes 4 s.bat.energy ++ leBytes 1 (batSoc s / 10) ++ leBytes 1 (batteryByte s) ++ leBytes 2 s.gen.budget)) ∧
    exec .sb0ReadHem s = .next (sb0Ack s (leBytes 1 s.gen.hem.st ++ leBytes 1 s.gen.hem.trigger ++
      leBytes 1 s.gen.restore.phase ++ leBytes 1 (restorePct s))) ∧
    exec .sb0ReadEventSeq s = .next (sb0Ack s (leBytes 4 (newestSeq s))) ∧
    exec .sb0ReadResult s = .next (sb0Ack s (leBytes 1 s.sb.result)) ∧
    exec .sb0ReadMirror s = .next (wr (sb0Ack s ((List.range 32).map fun i =>
      (mirrorNow s).getD ((rf s Reg.sb0Window 0 12 + i) % 4096) 0#8)) Reg.sb0Window (wd ((rf s Reg.sb0Window 0 12 + 32) % 4096)))) ∧
  (∀ data s, sb0Ready s = true → data % 4 = 0 → data ≤ 0xFE0 →
    exec (.sb0SetWindow data .good) s = .next (settle (wr (sb0Ack s []) Reg.sb0Window (wd data)))) ∧
  (∀ data s, sb0Ready s = true → data % 4 = 0 → data ≤ 0xFE0 → s.memWf = true →
    ∃ u, exec (.sb0SetWindow data .bad) s = .next (settle u) ∧ hasErr u Pg.sb0 16 = true ∧
      rd u Reg.sb0Window = rd s Reg.sb0Window) ∧
  (∀ s, sb0Ready s = true → rb s Reg.sb0Cfg 1 = true → rb s Reg.sb0CmdIn 31 = false →
    ∃ u, exec (.sb0PowerOff 0x5053 .good) s = .next (settle (icu u 400)) ∧ u.sb.result = 1 ∧
      u.regs = (wr (sb0Ack s []) Reg.sb0CmdIn 0x80505320#32).regs) ∧
  (∀ code s, exec (.sb0UnknownCommand code) s = .next { s with sb := { s.sb with ack := false, data := [] } }) ∧
  (∀ (val : Word) s, rb s Reg.sb0CmdIn 31 = true → fld val 0 2 = 0 ∨ fld val 0 2 = 2 →
    exec (.sb0CmdDone val) s = .next (settle (wrB { s with sb := { s.sb with result := fld val 0 2 } } Reg.sb0CmdIn 31 false))) ∧
  (∀ s, sb0Ready s = true → s.memWf = true →
    ∃ u, u = report (addSat { s with sb := { s.sb with ack := false, data := [] } } Reg.sb0Errs 8 8 1) Pg.sb0 17 0 ∧
      exec .sb0ProtocolError s = .next (settle u) ∧ hasErr u Pg.sb0 17 = true) ∧
  (∀ s, sb0Ready s = true → s.memWf = true →
    ∃ u, u = report (addSat { s with sb := { s.sb with ack := false, data := [] } } Reg.sb0Errs 16 8 1) Pg.sb0 18 0 ∧
      exec .sb0Timeout s = .next (settle u) ∧ hasErr u Pg.sb0 18 = true) ∧
  (∀ s, coreUp s = false → s.psq.input = true → s.psq.vao = true → s.psq.softOff = true → s.psq.shutdown = false →
    s.psq.heldInReset = false → s.psq.minOff = true →
    exec .sb0WakeStart s = .next (settle (startPowerUp (icu { s with psq := { s.psq with softOff := false } } 404) false)))

/-- R491 to R497, R364, R375, R377: the transactions of SB1. -/
def Obligations.ControllerSidebandCommands : Prop :=
  (∀ status s, sb1Ready s = true → status ≠ 0 →
    exec (.sb1HoldupStatusPoll .ok status) s = .next (settle (icu s 422))) ∧
  (∀ back s, sb1Ready s = true → hemBusy s = false → s.sb.setCurrent = some back →
    exec (.sb1ChargerCurrentWrite .ok back) s = .next (settle { s with sb := { s.sb with setCurrent := none } })) ∧
  (∀ back s, sb1Ready s = true → hemBusy s = false → s.sb.setVoltage = some back →
    exec (.sb1ChargerVoltageWrite .ok back) s = .next (settle { s with sb := { s.sb with setVoltage := none } })) ∧
  (∀ phase s, sb1Ready s = true → hemBusy s = false → BitVec.toNat phase < 128 → BitVec.toNat phase % 4 ≠ 3 →
    exec (.sb1ChargerPhaseRead .ok phase) s = .next (settle (recomputeBudget (judgeEnergy { s with bat := { s.bat with
      misses := 0, chargerOk := true, chgFault := false, phase := BitVec.toNat phase % 4 } })))) ∧
  (∀ phase s, sb1Ready s = true → hemBusy s = false → s.bat.misses = 2 →
    exec (.sb1ChargerPhaseRead .timeout phase) s = .next (settle (report (chargerGone (icu
      { s with bat := { s.bat with misses := 3 } } 417)) Pg.bat 21 0))) ∧
  (∀ k s, sb1Ready s = true → hemBusy s = false → k < 8 → rb s Reg.sb1Tgt1 (8 + k) = true →
    exec (.sb1PmicPoll k .ok true) s = .next (settle (icu s 421))) ∧
  (∀ s, sb1Ready s = true → hemBusy s = false → exec (.sb1PackIdRead .ok s.bat.knownSerial) s =
    .next (settle { s with bat := { s.bat with serial := s.bat.knownSerial } })) ∧
  (∀ serial s, sb1Ready s = true → hemBusy s = false → serial ≠ s.bat.knownSerial →
    exec (.sb1PackIdRead .ok serial) s = .next (settle (packChanged { s with bat := { s.bat with serial := serial } }))) ∧
  (∀ (val : Word) s, fld val 16 6 ≤ 32 → bit val 31 = true → s.sb.busy = false → isFenced s Pg.sb1 0 = false →
    hemBusy s = false → enabled s Pg.sb1 = true →
    ∃ u, exec (.sb1XferGo val) s = .next (settle (wr u Reg.sb1XferStatus 1#32)) ∧ u.sb.busy = true ∧
      u.regs = (wr s Reg.sb1Xfer (val &&& 0x013FFFFF#32)).regs) ∧
  (∀ done data s, s.sb.busy = true → s.sb.waitFree = false → s.sb.recovering = false → rb s Reg.sb1Xfer 7 = false →
    exec (.sb1XferDone .ok done data) s = .next (settle (xferEnd s 0 (min 32 done)))) ∧
  (∀ done data s, s.sb.busy = true → s.sb.waitFree = false → s.sb.recovering = false →
    s.sb.retries < rf s Reg.sb1Cfg 2 3 → exec (.sb1XferDone .arbLost done data) s =
      .next (settle { s with sb := { s.sb with waitFree := true, retries := s.sb.retries + 1 } })) ∧
  (∀ s, exec .sb1ArbLostRetry s = .next { s with sb := { s.sb with waitFree := false } }) ∧
  (∀ s, sb1Ready s = true → exec .sb1SdaStuck s = .next (settle (icu (addSat
    { s with sb := { s.sb with recovering := true, sda := false } } Reg.sb1Errs 24 8 1) 419))) ∧
  (∀ s, s.sb.recovering = true → s.memWf = true →
    ∃ u, exec (.sb1StuckRecoveryCheck false) s = .next (settle u) ∧ hasErr u Pg.sb1 19 = true) ∧
  (∀ s, s.sb.recovering = true → exec (.sb1StuckRecoveryCheck true) s = .next (settle { s with sb := { s.sb with
    recovering := false, sda := true, waitFree := false, retries := rf s Reg.sb1Cfg 2 3 } }))

/-- R183 to R190, R197, R202, R203: the window and group tables and their mailbox commands. -/
def Obligations.TableCommands : Prop :=
  (∀ off (val : Word) w d e t s, off < 131072 → off % 32 < 20 → w = off / 32 →
    d = (match off % 32 / 4 with
      | 0 => { winEntry s w with ctl := val }
      | 1 => { winEntry s w with ldBase := val.toNat }
      | 2 => { winEntry s w with size := val.toNat }
      | 3 => { winEntry s w with dramBase := val.toNat }
      | _ => { winEntry s w with groupBase := val.toNat }) →
    e = { d with ctl := d.ctl &&& 0xFFFF0003#32 } → winWriteCode s w e true = 0 →
    t = refreshGroup (refreshGroup (storeWin s w e) (winEntry s w).group) e.group →
    exec (.windowEntryWrite off val) s = .next (settle (noteReasons
      (if (e.valid && (!bit (winEntry s w).ctl 0 || (winEntry s w).group != e.group) && grpEnabled t e.group) = true
        then zeroWindow t w else t)))) ∧
  (∀ off (val : Word) w d e c s, off < 131072 → off % 32 < 20 → w = off / 32 →
    d = (match off % 32 / 4 with
      | 0 => { winEntry s w with ctl := val }
      | 1 => { winEntry s w with ldBase := val.toNat }
      | 2 => { winEntry s w with size := val.toNat }
      | 3 => { winEntry s w with dramBase := val.toNat }
      | _ => { winEntry s w with groupBase := val.toNat }) →
    e = { d with ctl := d.ctl &&& 0xFFFF0003#32 } → winWriteCode s w e true = c → c ≠ 0 →
    exec (.windowEntryWrite off val) s = .next (settle (winRefuse s c w false))) ∧
  (∀ off val s, off < 131072 → 20 ≤ off % 32 → exec (.windowEntryWrite off val) s = .next (settle s)) ∧
  (∀ off (val : Word) t s, off < 16384 → off % 64 < 4 → fld val 16 16 ≤ 4096 →
    (bit (grpWord s (off / 64) 0) 0 = true → bit val 0 = true) →
    t = setGrpWord s (off / 64) 0 (val &&& 0xFFFF0001#32) →
    ∃ u, u = { t with hl := { t.hl with parity := t.hl.parity.filter (· != 4096 + off / 64) } } ∧
      exec (.groupEntryWrite off val) s = .next (settle (pace (budgetBelow (noteReasons
        (if (bit val 0 && !bit (grpWord s (off / 64) 0) 0) = true then enableGroup u (off / 64) else u))
        (off / 64) (grpBudget s (off / 64))) (off / 64)))) ∧
  (∀ off (val : Word) s, off < 16384 → off % 64 < 4 → 4096 < fld val 16 16 →
    exec (.groupEntryWrite off val) s = .next (settle (winRefuse s 1 (off / 64) true))) ∧
  (∀ off (val : Word) s, off < 16384 → off % 64 < 4 → fld val 16 16 ≤ 4096 → bit (grpWord s (off / 64) 0) 0 = true →
    bit val 0 = false → exec (.groupEntryWrite off val) s = .next (settle (winRefuse s 10 (off / 64) true))) ∧
  (∀ off (val : Word) s, off < 16384 → 8 ≤ off % 64 → off % 64 < 32 →
    exec (.groupEntryWrite off val) s = .next (settle (setGrpWord s (off / 64) (off % 64 / 4) val))) ∧
  (∀ ld inp s, inp.length = 4 → pay inp 0 2 < 4096 → winValid s (pay inp 0 2) = true → winLd s (pay inp 0 2) = ld →
    exec (.getWindow ld inp) s = .next (replyOk s ld (leBytes 4 0 ++ winBytes s (pay inp 0 2)))) ∧
  (∀ ld inp w e t s, inp.length = 24 → w = pay inp 0 2 → w < 4096 →
    e = { ctl := wd (pay inp 4 4) &&& 0xFFFF0003#32, ldBase := pay inp 8 4, size := pay inp 12 4, dramBase := pay inp 16 4, groupBase := pay inp 20 4 } →
    winWriteCode s w e (isAdmin s ld) = 0 →
    t = refreshGroup (refreshGroup (storeWin s w e) (winEntry s w).group) e.group →
    exec (.setWindow ld inp) s = .next (settle (replyCode (noteReasons
      (if (e.valid && (!bit (winEntry s w).ctl 0 || (winEntry s w).group != e.group) && grpEnabled t e.group) = true
        then zeroWindow t w else t)) ld 0))) ∧
  (∀ ld inp w e c s, inp.length = 24 → w = pay inp 0 2 → w < 4096 →
    e = { ctl := wd (pay inp 4 4) &&& 0xFFFF0003#32, ldBase := pay inp 8 4, size := pay inp 12 4, dramBase := pay inp 16 4, groupBase := pay inp 20 4 } →
    winWriteCode s w e (isAdmin s ld) = c → c ≠ 0 →
    exec (.setWindow ld inp) s = .next (settle (replyCode (winRefuse s c w false) ld c))) ∧
  (∀ ld inp s, inp.length = 4 → ldSees s ld (byteAt inp 0) = true → exec (.getGroupConfig ld inp) s = .next (replyOk s ld
    (leBytes 4 0 ++ (List.range 16).flatMap fun i => leBytes 4 (grpWord s (byteAt inp 0) i).toNat))) ∧
  (∀ ld inp t s, inp.length = 68 → isAdmin s ld = true → fld (wd (pay inp 4 4)) 16 16 ≤ 4096 →
    (bit (grpWord s (byteAt inp 0) 0) 0 = true → bit (wd (pay inp 4 4)) 0 = true) →
    t = setGrpWord (forEach ([2, 3, 4, 5, 6, 7].map fun i => (i, wd (pay inp (4 + 4 * i) 4))) s fun s e =>
      setGrpWord s (byteAt inp 0) e.1 e.2) (byteAt inp 0) 0 (wd (pay inp 4 4) &&& 0xFFFF0001#32) →
    ∃ u, u = { t with hl := { t.hl with parity := t.hl.parity.filter (· != 4096 + byteAt inp 0) } } ∧
      exec (.setGroupConfig ld inp) s = .next (settle (replyCode (pace (budgetBelow (noteReasons
        (if (bit (wd (pay inp 4 4)) 0 && !bit (grpWord s (byteAt inp 0) 0) 0) = true then enableGroup u (byteAt inp 0) else u))
        (byteAt inp 0) (grpBudget s (byteAt inp 0))) (byteAt inp 0)) ld 0))) ∧
  (∀ ld inp s, inp.length = 68 → isAdmin s ld = false →
    exec (.setGroupConfig ld inp) s = .next (settle (replyCode (winRefuse s 8 (byteAt inp 0) true) ld 8))) ∧
  (∀ ld inp s, inp.length = 4 → 0 < pay inp 2 2 → pay inp 2 2 ≤ 127 → pay inp 0 2 < 4096 →
    exec (.getPacing ld inp) s = .next (replyOk s ld (leBytes 2 0 ++ leBytes 2 (min (pay inp 2 2) (4096 - pay inp 0 2)) ++
      ((List.range (min (pay inp 2 2) (4096 - pay inp 0 2))).flatMap fun i => if winValid s (pay inp 0 2 + i) && winLd s (pay inp 0 2 + i) == ld
        then paceEntry s (pay inp 0 2 + i) else zeros 16)))) ∧
  (∀ ld s, exec (.getLinkCounters ld []) s = .next (replyOk s ld (leBytes 4 0 ++ (List.range 4).flatMap (portCounters s))))

/-- R199 to R201: the commands of the CXL opcodes, opcodes that nothing defines, the doorbell and its service. -/
def Obligations.MailboxCommands : Prop :=
  (∀ ld s, ∃ out, exec (.identify ld []) s = .next (replyOk s ld out) ∧ out.length = 18) ∧
  (∀ ld s, ∃ out, exec (.backgroundOperationStatus ld []) s = .next (replyOk s ld out) ∧ out.length = 8 ∧
    out.take 1 = leBytes 1 ((ldOf s ld).bg.isSome.toNat + 2 * min 100 (ldOf s ld).bgPct)) ∧
  (∀ ld inp l s, inp.length = 1 → byteAt inp 0 ≤ 3 → l = ((ldOf s ld).events.filter fun e => e.2.sev == byteAt inp 0) →
    exec (.getEventRecords ld inp) s = .next (replyOk s ld (leBytes 2 (if (l.take 15).length < l.length then 2 else 0) ++ zeros 18 ++
      leBytes 2 (l.take 15).length ++ zeros 10 ++ (l.take 15).flatMap eventBytes))) ∧
  (∀ ld inp s, inp.length = 6 + 2 * byteAt inp 2 → byteAt inp 0 ≤ 3 → byteAt inp 1 % 2 = 1 →
    ∃ u, exec (.clearEventRecords ld inp) s = .next (replyOk u ld []) ∧
      u = setLd s ld { ldOf s ld with events := (ldOf s ld).events.filter fun e => e.2.sev != byteAt inp 0 }) ∧
  (∀ ld s, exec (.getEventInterruptPolicy ld []) s = .next (replyOk s ld (zeros 4))) ∧
  (∀ ld s, exec (.setEventInterruptPolicy ld (zeros 4)) s = .next (replyOk s ld [])) ∧
  (∀ ld s, (ldOf s ld).stamp = none → exec (.getTimestamp ld []) s = .next (replyOk s ld (leBytes 8 0))) ∧
  (∀ ld v t s, (ldOf s ld).stamp = some (v, t) →
    exec (.getTimestamp ld []) s = .next (replyOk s ld (leBytes 8 (v + (now s - t) * 1000000000 / 32768)))) ∧
  (∀ ld inp s, inp.length = 8 → exec (.setTimestamp ld inp) s =
    .next (replyOk (setLd s ld { ldOf s ld with stamp := some (pay inp 0 8, now s) }) ld [])) ∧
  (∀ ld s, ∃ out, exec (.getSupportedLogs ld []) s = .next (replyOk s ld out) ∧ out.length = 28) ∧
  (∀ ld off n s, off + n ≤ 4 * opcodes.length → n ≤ 2048 → exec (.getLog ld (celUuid ++ leBytes 4 off ++ leBytes 4 n)) s =
    .next (replyOk s ld ((celBytes.drop off).take n))) ∧
  (∀ ld s, exec (.identifyMemoryDevice ld []) s = .next (replyOk s ld
    (zeros 16 ++ leBytes 8 (dpaExtent s ld) ++ leBytes 8 0 ++ leBytes 8 (dpaExtent s ld) ++ zeros 29))) ∧
  (∀ ld s, ∃ out u, exec (.getHealthInfo ld []) s = .next (replyOk u ld out) ∧ u.regs = s.regs) ∧
  (∀ ld op s, (ldOf s ld).discard = false → exec (.unsupportedOpcode ld op) s = .next
    (setLd s ld { ldOf s ld with rc := 3, out := [], replies := (ldOf s ld).replies + 1 })) ∧
  (∀ ld op s, (ldOf s ld).discard = true → exec (.unsupportedOpcode ld op) s = .next
    (setLd s ld { ldOf s ld with discard := false })) ∧
  (∀ ld op inp s, (ldOf s ld).doorbell = none → enabled s (Pg.hl0 + ld / 32) = true → exec (.mailboxDoorbell ld op inp) s = .next (settle
    (icu (setLd s ld { ldOf s ld with doorbell := some (op, inp.take 2048) }) (28 + ld / 16 % 4)))) ∧
  (∀ d op inp s, fwAvailable s = true → nextDoorbell s = some d → (ldOf s d).doorbell = some (op, inp) →
    ∃ u, exec .mailboxCommandServe s = .next (settle (serve u d op inp)) ∧ u.hl.next = (d + 1) % 64) ∧
  (∀ s, coreUp s = true → ∃ u, exec .statusMirrorRefresh s = .next u ∧ u.hl.mirrorSeq = (s.hl.mirrorSeq + 1) % 2 ^ 32 ∧
    u.hl.mirror = mirrorBytes s u.hl.mirrorSeq ∧ u.regs = s.regs)

/-- R178, R180, R209, R214 to R216: resets, links, functions, IDE and DOE. -/
def Obligations.LinkCommands : Prop :=
  (∀ port s, portExists s port = true → exec (.conventionalReset port) s = .next (settle (icu (setPort (latchCfg (resetPort s port) port) port
      { portOf (latchCfg (resetPort s port) port) port with equalised := false }) (24 + port))) ∧
    exec (.hotReset port) s = .next (settle (icu (latchCfg (resetPort s port) port) (24 + port)))) ∧
  (∀ port s, (portOf s port).up = true → exec (.linkDown port) s = .next (settle
    (icu (addSat (resetPort s port) (Reg.hlLinkdown (port / 2)) (16 * (port % 2)) 16 1) (20 + port)))) ∧
  (∀ port width rate flit s, portExists s port = true → coreUp s = true → s.hl.linksOff = false →
    linkFenced s (port / 2) = false → (domOf s (80 + port / 2)).st = 2 → 0 < width → 0 < portWidth s port →
    exec (.linkUp port width rate flit) s = .next (settle (noteReasons (icu (setPort s port { portOf s port with
      up := true, width := min width (portWidth s port), rate := max 1 (min rate (portOf s port).maxRate), flit256 := flit,
      equalised := (portOf s port).equalised || decide (3 ≤ rate) })
        (16 + port))))) ∧
  (∀ ld s, exec (.functionLevelReset ld) s =
    .next (setLd s ld { ldOf s ld with discard := foreground s ld, doe := none, cfg := [] })) ∧
  (∀ port width s, (portOf s port).up = true → (portOf s port).l0p = true → 3 ≤ width →
    width ≤ portWidth s port → exec (.l0pRequest port width) s = .next (setPort s port { portOf s port with width := width })) ∧
  (∀ port s, exec (.ideFail port) s =
    .next (settle (setIde (portDown (report s (Pg.hl0 + port / 2) 16 (port % 2)) port) port 3))) ∧
  (∀ link val s, locked s (Pg.hl0 + link) = false → exec (.hlPwrWrite link val) s = .next (settle (hlPwrSet s link val))) ∧
  (∀ ld dec base size ways gran pos skip s, dec < 4 → ways ∈ [1, 2, 4, 8, 16] →
    gran ∈ [256, 512, 1024, 2048, 4096, 8192, 16384] → pos < ways →
    exec (.hdmDecoderCommit ld dec base size ways gran pos skip) s = .next (setLd s ld { ldOf s ld with
      hdm := ((ldOf s ld).hdm.filter fun d => d.dec != dec) ++ [{ dec, base, size, ways, gran, pos, skip }] })) ∧
  (∀ ld proto step s, proto < 4 →
    exec (.doeRequest ld proto step) s = .next (setLd s ld { ldOf s ld with doe := some proto })) ∧
  (∀ ld step s, step ≤ 2 → ∃ u, exec (.doeRequest ld 4 step) s = .next (setIde u (ld / 16) step) ∧
    u = setLd s ld { ldOf s ld with doe := some 4 })

/-- R6, R7, R17, R18, R21, R25, R36, R402: management writes and reads, domains and credits. -/
def Obligations.BusCommands : Prop :=
  (∀ (addr val : Word) s off, regionOf addr.toNat = .sram off → sramOn s off = true →
    exec (.registerWrite addr .word val) s = .next (settle (sramStore s off (leBytes 4 val.toNat)))) ∧
  (∀ (addr val : Word) s p, isPage p = true → addr.toNat = 0x40000000 + errMaskA p → locked s p = false →
    exec (.registerWrite addr .word val) s = .next (settle (wr s (errMaskA p) (val &&& errBits p &&& ~~~4#32)))) ∧
  (∀ (addr val : Word) s, addr.toNat = 0x40000000 + Reg.sysWdt → locked s Pg.sys = false → s.memWf = true →
    1 ≤ fld val 0 14 → fld val 0 14 ≤ 10000 → ∃ u, exec (.registerWrite addr .word val) s = .next (settle u) ∧
      rd u Reg.sysWdt = (rd s Reg.sysWdt &&& ~~~0x13FFF#32) ||| (val &&& 0x13FFF#32)) ∧
  (∀ (addr : Word) s a, regionOf addr.toNat = .page a → a % 4 = 0 → isPage (a / 0x1000) = true →
    ∃ u, exec (.rcRead addr .word 0#32) s = .next (settle (rcClear u a 4 0#32)) ∧ u.mgmtRead = readReg s a ∧
      u.regs = s.regs) ∧
  (∀ (addr : Word) s off, regionOf addr.toNat = .sram off → off % 4 = 0 →
    ∃ u, exec (.rcRead addr .word 0#32) s = .next (settle u) ∧ u.mgmtRead = wd (ofLe (mgmtBytes s (.sram off) 4)) ∧
      u.sram = s.sram) ∧
  (∀ ld off s, exec (.bar0ReservedAccess ld off true) s = .next (hlCount s Reg.hlRsvdWrites (ld / 16)) ∧
    exec (.bar0ReservedAccess ld off false) s = .next { s with hl := { s.hl with barRead := 0 } }) ∧
  (∀ d s, (domOf s d).st = 1 → (domOf s d).latched = none → exec (.domainSwitchDone d) s =
    .next (settle (startWaiting (domainOn (setDom s d { domOf s d with st := 2, latched := none }) d)))) ∧
  (∀ d s, (domOf s d).st = 3 → (domOf s d).latched = none → exec (.domainSwitchDone d) s =
    .next (settle (domainOff (setDom s d { domOf s d with st := 0, latched := none }) d))) ∧
  (∀ d v s, s.doms = [(d, v)] → v.deferred = false → exec .gatingCreditGain s =
    .next (settle (setDom s d { v with credit := min 8 (v.credit + 1) })))

/-- A step with a command at the front of the queue is that command's effect with the rest of the queue; with an empty
queue one tick of the time base passes (log entry 7). The table gives its rows no bits: no word spells a command. -/
def Obligations.StepRunsFrontCommand : Prop :=
  (∀ c rest s, s.pending = c :: rest → step s = exec c { s with pending := rest }) ∧
  (∀ s, s.pending = [] → step s = .next (tick s)) ∧
  (∀ nbits w s, decodeTableWord nbits w = none ∧ State.withFetchWord s nbits w = s)

/-- The state after reset: canonical memories, an empty queue and stack, 8 credits in every domain (R17), no
escalation waiting, CTRL as R30 says. -/
def Obligations.ResetState : Prop :=
  State.reset.memWf = true ∧ State.reset.creditsOk = true ∧ State.reset.stackOk = true ∧ State.reset.calm = true ∧
  State.reset.pending = [] ∧ State.reset.icu.stack = [] ∧ (∀ d, (domOf State.reset d).credit = 8) ∧
  (∀ p ∈ [Pg.sys, Pg.flt, Pg.icu, Pg.cfl, Pg.psq, Pg.bat, Pg.thm, Pg.sb0], rd State.reset (ctrlA p) = 5#32) ∧
  (∀ p ∈ [Pg.evr, Pg.upd, Pg.sb1, Pg.pool, Pg.gen, Pg.genm, Pg.hl0, Pg.hl1, Pg.win, Pg.fst, Pg.key], rd State.reset (ctrlA p) = 0#32) ∧
  (∀ n < 32, rd State.reset (ctrlA (Pg.fch n)) = 0#32) ∧ (∀ n < 16, rd State.reset (ctrlA (Pg.dch n)) = 0#32)

/-- R17: a domain starts with 8 credits; a switch-off spends one; without one it is deferred, the domain stays on and
STATUS.pwr_deferred reads 1, until a credit arrives; every interval gains one up to 8; a switch-on is never deferred. -/
def Obligations.GatingCredits : Prop :=
  (∀ d, (domOf State.reset d).credit = 8) ∧
  (∀ d s, (domOf s d).st = 2 → 0 < (domOf s d).credit → domReq s d false = setDom s d
    { domOf s d with st := 3, credit := (domOf s d).credit - 1, deferred := false, latched := none }) ∧
  (∀ d s, (domOf s d).st = 2 → (domOf s d).credit = 0 →
    (domReq s d false).doms = (setDom s d { domOf s d with deferred := true, latched := none }).doms) ∧
  (∀ d s, (domOf s d).st = 0 → switchingOn s < 8 →
    domReq s d true = setDom s d { domOf s d with st := 1, latched := none, deferred := false }) ∧
  (∀ c s, c < 16 → s.memWf = true → locked s (Pg.dch c) = false → enabled s (Pg.dch c) = false → (domOf s c).st = 2 → 0 < (domOf s c).credit →
    exec (.powerReq (Pg.dch c) 0#32) s = .next (settle (setDom (wr s (ctrlA (Pg.dch c)) 0#32) c
      { domOf s c with st := 3, credit := (domOf s c).credit - 1, deferred := false, latched := none }))) ∧
  (∀ c s, c < 16 → s.memWf = true → Sparse.wf (fun _ => ({} : Dom)) s.doms = true → locked s (Pg.dch c) = false →
    enabled s (Pg.dch c) = false → (domOf s c).st = 2 → (domOf s c).credit = 0 →
    ∃ u, exec (.powerReq (Pg.dch c) 0#32) s = .next (settle u) ∧
      domOf u c = { domOf s c with deferred := true, latched := none } ∧
      bit (readReg u (0x1000 * Pg.dch c + 0x14)) 4 = true) ∧
  (∀ s, Sparse.wf (fun _ => ({} : Dom)) s.doms = true → ∃ u, exec .gatingCreditGain s = .next (settle u) ∧
    (∀ d, (domOf s d).deferred = false → domOf u d = { domOf s d with credit := min 8 ((domOf s d).credit + 1) }) ∧
    (∀ d, (domOf s d).deferred = true → domOf u d = { domOf s d with st := 3, credit := min 8 ((domOf s d).credit + 1) - 1, deferred := false, latched := none })) ∧
  (∀ c s, c < 16 → s.memWf = true → locked s (Pg.dch c) = false → enabled s (Pg.dch c) = false → (domOf s c).st = 0 → switchingOn s < 8 →
    exec (.powerReq (Pg.dch c) 4#32) s = .next (settle (setDom (wr s (ctrlA (Pg.dch c)) 4#32) c
      { domOf s c with st := 1, latched := none, deferred := false })))

/-- R18: a power request that reaches a switching domain is latched, the latest one counts, and it is carried out when
the transition ends; one that matches the state at the end has no effect and spends no credit. -/
def Obligations.LatchedPowerRequests : Prop :=
  (∀ d on s, (domOf s d).st = 1 ∨ (domOf s d).st = 3 →
    domReq s d on = setDom s d { domOf s d with latched := some on }) ∧
  (∀ c (val : Word) s, c < 16 → s.memWf = true → locked s (Pg.dch c) = false → enabled s (Pg.dch c) = false → bit val 0 = false →
    bit val 1 = false → (domOf s c).st = 1 ∨ (domOf s c).st = 3 →
    exec (.powerReq (Pg.dch c) val) s = .next (settle (setDom (wr s (ctrlA (Pg.dch c)) (wd (4 * (bit val 2).toNat))) c
      { domOf s c with latched := some (bit val 2) }))) ∧
  (∀ d s, (domOf s d).st = 1 → (domOf s d).latched = some false → exec (.domainSwitchDone d) s = .next (settle
    (startWaiting (startOff (domainOn (setDom s d { domOf s d with st := 2, latched := none }) d) d)))) ∧
  (∀ d s, (domOf s d).st = 1 → (domOf s d).latched = some true → exec (.domainSwitchDone d) s = .next (settle
    (startWaiting (domainOn (setDom s d { domOf s d with st := 2, latched := none }) d)))) ∧
  (∀ d s, (domOf s d).st = 3 → (domOf s d).latched = some true → exec (.domainSwitchDone d) s = .next (settle
    (startOn (domainOff (setDom s d { domOf s d with st := 0, latched := none }) d) d))) ∧
  (∀ d s, (domOf s d).st = 3 → (domOf s d).latched = some false → exec (.domainSwitchDone d) s = .next (settle
    (domainOff (setDom s d { domOf s d with st := 0, latched := none }) d)))

/-- R36: LOCK bits stay set; under LOCK.cfg a configuration write is discarded and sets ERR_STATUS.access; under
LOCK.inject so is a write of ERR_INJECT. -/
def Obligations.LockedPagesRefuseWrites : Prop :=
  (∀ page val s t b, isPage page = true → s.memWf = true → exec (.lockSet page val) s = .next t →
    rb s (lockA page) b = true → rb t (lockA page) b = true) ∧
  (∀ (addr val : Word) s p, isPage p = true → addr.toNat = 0x40000000 + errMaskA p → locked s p = true → s.memWf = true →
    rd s (errMaskA p) ≠ val &&& errBits p &&& ~~~4#32 → ∃ u, exec (.registerWrite addr .word val) s = .next (settle u) ∧
      rd u (errMaskA p) = rd s (errMaskA p) ∧ hasErr u p 3 = true) ∧
  (∀ (addr val : Word) s, addr.toNat = 0x40000000 + Reg.sysWdt → locked s Pg.sys = true → s.memWf = true →
    1 ≤ fld val 0 14 → fld val 0 14 ≤ 10000 →
    (rd s Reg.sysWdt &&& ~~~0x13FFF#32) ||| (val &&& 0x13FFF#32) ≠ rd s Reg.sysWdt →
    ∃ u, exec (.registerWrite addr .word val) s = .next (settle u) ∧ rd u Reg.sysWdt = rd s Reg.sysWdt ∧
      hasErr u Pg.sys 3 = true) ∧
  (∀ page val s, isPage page = true → injectLocked s page = true → s.memWf = true →
    ∃ u, exec (.errInject page val) s = .next (settle u) ∧ u = accessErr s page ∧ hasErr u page 3 = true)

/-- R34: ERR_FIRST records the next error once ERR_STATUS is all zero and holds it until ERR_STATUS is again all zero,
when it clears; of several errors in one hop it records the lowest bit. -/
def Obligations.FirstErrorIsKept : Prop :=
  (∀ page b unit s, isPage page = true → classOf page b ≠ 0 → coreUp s = true → s.memWf = true → b < 32 →
    rd s (errStatusA page) = 0#32 →
    ∃ u, exec (.errorReport page b unit) s = .next (settle u) ∧ rd u (errFirstA page) = wd (b + 32)) ∧
  (∀ page b unit s, isPage page = true → coreUp s = true → s.memWf = true → b < 32 → rd s (errStatusA page) ≠ 0#32 →
    ∃ u, exec (.errorReport page b unit) s = .next (settle u) ∧ rd u (errFirstA page) = rd s (errFirstA page)) ∧
  (∀ page val s, isPage page = true → s.memWf = true → rd s (errStatusA page) &&& ~~~val = 0#32 →
    ∃ u, exec (.errStatusClear page val 0#32) s = .next (settle u) ∧ rd u (errFirstA page) = 0#32) ∧
  (∀ page val s, isPage page = true → s.memWf = true → rd s (errStatusA page) &&& ~~~val ≠ 0#32 →
    ∃ u, exec (.errStatusClear page val 0#32) s = .next (settle u) ∧ rd u (errFirstA page) = rd s (errFirstA page)) ∧
  (∀ page val b s, isPage page = true → injectLocked s page = false → coreUp s = true → s.memWf = true → b < 32 →
    rd s (errStatusA page) = 0#32 → bit val b = true → classOf page b ≠ 0 →
    (∀ k < b, bit val k = true → classOf page k = 0) →
    ∃ u, exec (.errInject page val) s = .next (settle u) ∧ rd u (errFirstA page) = wd (b + 32))

/-- R412, R429: a message makes an idle source pending; to a source that is pending or active it is lost, and only the
lost counter, which saturates at 255, and the ICU's event_lost bit record it. -/
def Obligations.InterruptMessages : Prop :=
  (∀ src s, src < 500 → coreUp s = true → s.memWf = true → isPending s src = false → isActive s src = false →
    ∃ u, exec (.icuMessage src) s = .next (settle u) ∧ isPending u src = true ∧ lostOf u src = lostOf s src ∧ u.icu = s.icu ∧
      (∀ k < 500, k ≠ src → isPending u k = isPending s k ∧ lostOf u k = lostOf s k)) ∧
  (∀ src s, src < 500 → coreUp s = true → s.memWf = true → isPending s src = true ∨ isActive s src = true →
    ∃ u, exec (.icuMessage src) s = .next (settle u) ∧ isPending u src = isPending s src ∧
      lostOf u src = min 255 (lostOf s src + 1) ∧ u.icu = s.icu ∧ hasErr u Pg.icu 17 = true ∧
      (∀ k < 500, k ≠ src → isPending u k = isPending s k ∧ lostOf u k = lostOf s k))

/-- R414: which pending source is taken. -/
def Obligations.Arbitration : Prop :=
  ∀ (can : State → Nat → Prop), (can = fun s src => src < 512 ∧ isPending s src = true ∧ isEnabled s src = true ∧
      rb s Reg.icuCfg 0 = true ∧ (∀ e rest, s.icu.stack = e :: rest → tier s (prioOf s src) < tier s e.2) ∧
      tier s (prioOf s src) < tier s (rf s Reg.icuAdmit 0 8) ∧ s.icu.stack.length < 16 ∧ prioOf s src ≠ 0xFF) →
    (∀ s, prioOf s 0 = 0 ∧ isEnabled s 0 = true) ∧
    (∀ s p, tier s p = p / 2 ^ rf s Reg.icuCfg 8 3) ∧
    (∀ ctx src s, s.icu.core = .running → can s src →
      (∀ b, can s b → prioOf s src < prioOf s b ∨ prioOf s src = prioOf s b ∧ src ≤ b) → handlerOk (handlerAddr s src) = true →
      ∃ u, exec (.icuEntry ctx) s = .next (settle u) ∧ u.icu.stack = (src, prioOf s src) :: s.icu.stack) ∧
    (∀ ctx s, (∀ src, ¬ can s src) → exec (.icuEntry ctx) s = .next (settle s)) ∧
    (∀ src s, s.icu.core = .deepSleep → coreUp s = true → watched s src = true → isPending s src = true →
      exec (.thimbleWake src) s = .next (settle (deepWakeStart s src)))

/-- R415: with 16 entries on the stack no source is taken and ICU_STATUS.stack_full reads 1; the tier alone decides
whether a source may interrupt what runs. -/
def Obligations.FullStackTakesNothing : Prop :=
  (∀ ctx s, s.icu.stack.length = 16 → (∀ e ∈ s.icu.stack, e.1 < 512) → exec (.icuEntry ctx) s = .next (settle s) ∧
    bit (readReg s Reg.icuStatus) 17 = true) ∧
  (∀ ctx e rest s, s.icu.stack = e :: rest →
    (∀ src < 512, isPending s src = true → tier s e.2 ≤ tier s (prioOf s src)) →
    exec (.icuEntry ctx) s = .next (settle s)) ∧
  (∀ a b s, a < 512 → b < 512 → isPending s a = true → isPending s b = true → takeable s s.icu.stack a = true →
    takeable s s.icu.stack b = true → tier s (prioOf s a) = tier s (prioOf s b) → prioOf s a < prioOf s b →
    ∃ c, bestSource s s.icu.stack = some c ∧ c ≠ b ∧ prioOf s c ≤ prioOf s a)

/-- R418: ICU_DONE pops the source it names if that is on top; else the stack stays, source 0 is raised and ICU_FAULT
records cause 1 or 2 and the number. -/
def Obligations.DoneCompletesTop : Prop :=
  (∀ (val : Word) src p rest s, fld val 0 9 = src → src < 500 → s.icu.stack = (src, p) :: rest →
    ∃ u, exec (.icuDone val) s = .next (settle u) ∧ u.icu.stack = rest ∧ u.regs = s.regs) ∧
  (∀ (val : Word) src e rest s, fld val 0 9 = src → src < 500 → s.icu.stack = e :: rest → e.1 ≠ src → coreUp s = true →
    s.memWf = true → ∃ u, exec (.icuDone val) s = .next (settle u) ∧ u.icu.stack = s.icu.stack ∧
      rd u Reg.icuFault = wd (1 + src * 65536) ∧ (isPending u 0 = true ∨ isActive u 0 = true)) ∧
  (∀ (val : Word) src s, fld val 0 9 = src → src < 500 → s.icu.stack = [] → coreUp s = true → s.memWf = true →
    ∃ u, exec (.icuDone val) s = .next (settle u) ∧ u.icu.stack = [] ∧
      rd u Reg.icuFault = wd (2 + src * 65536) ∧ isPending u 0 = true)

/-- R420: the single-source registers act on one source and leave every other source, and all else, unchanged. -/
def Obligations.SingleSourceFrames : Prop :=
  ∀ (val : Word) src s c, fld val 0 9 = src → 0 < src → src < 500 → s.memWf = true → locked s Pg.icu = false →
    (c = .icuPendclr val ∨ c = .icuEnset val ∨ c = .icuEnclr val ∨ c = .icuPrioSet val) →
    ∃ u, exec c s = .next (settle u) ∧ u = { s with regs := u.regs } ∧
      (∀ k < 500, k ≠ src → isPending u k = isPending s k ∧ isEnabled u k = isEnabled s k ∧ prioOf u k = prioOf s k) ∧
      (∀ a, (∀ k < 500, a ≠ Reg.icuPend (k / 32) ∧ a ≠ Reg.icuEn (k / 32) ∧ a ≠ Reg.icuPrio (k / 4)) → rd u a = rd s a)

/-- R188: an access to a DPA in no valid window of its logical device. -/
def Obligations.UnmappedDpaAccess : Prop :=
  (∀ ld hpa tag dpa s, ld < 64 → takes s ld false = true → s.memWf = true → hdmDpa (ldOf s ld).hdm hpa = some dpa → winFor s ld dpa = none →
    ∃ u, exec (.cxlmemRead ld hpa tag) s = .next (settle u) ∧
      (∃ c, u.hl.sent = s.hl.sent ++ [c] ∧ c.ld = ld ∧ c.tag = tag ∧ c.isRead = true ∧ c.data = zeros 64 ∧ c.poison = true) ∧
      u.hl.offlineWrites = s.hl.offlineWrites ∧ u.hl.winTab = s.hl.winTab ∧ u.dram = s.dram ∧ u.gen = s.gen ∧
      rd u (Reg.hlOfflineAcc (ld / 16 / 2)) = rd s (Reg.hlOfflineAcc (ld / 16 / 2)) ∧
      rf u (Reg.hlUnmapped (ld / 16 / 2)) (16 * (ld / 16 % 2)) 16 =
        min 65535 (rf s (Reg.hlUnmapped (ld / 16 / 2)) (16 * (ld / 16 % 2)) 16 + 1)) ∧
  (∀ ld hpa tag data dpa s, ld < 64 → takes s ld true = true → s.memWf = true → hdmDpa (ldOf s ld).hdm hpa = some dpa → winFor s ld dpa = none →
    ∃ u, exec (.cxlmemWrite ld hpa tag data false) s = .next (settle u) ∧
      (∃ c, u.hl.sent = s.hl.sent ++ [c] ∧ c.ld = ld ∧ c.tag = tag ∧ c.isRead = false ∧ c.poison = false) ∧
      u.hl.offlineWrites = (s.hl.offlineWrites + 1) % 2 ^ 32 ∧ u.hl.winTab = s.hl.winTab ∧ u.dram = s.dram ∧ u.gen = s.gen ∧
      rd u (Reg.hlOfflineAcc (ld / 16 / 2)) = rd s (Reg.hlOfflineAcc (ld / 16 / 2)) ∧
      rf u (Reg.hlUnmapped (ld / 16 / 2)) (16 * (ld / 16 % 2)) 16 =
        min 65535 (rf s (Reg.hlUnmapped (ld / 16 / 2)) (16 * (ld / 16 % 2)) 16 + 1))

/-- R187: an access to an offline window. -/
def Obligations.OfflineWindowAccess : Prop :=
  (∀ ld hpa tag dpa w s, ld < 64 → takes s ld false = true → s.memWf = true → hdmDpa (ldOf s ld).hdm hpa = some dpa → winFor s ld dpa = some w →
    winOnline s w = false → ∃ u, exec (.cxlmemRead ld hpa tag) s = .next (settle u) ∧
      (∃ c, u.hl.sent = s.hl.sent ++ [c] ∧ c.ld = ld ∧ c.tag = tag ∧ c.isRead = true ∧ c.data = zeros 64 ∧ c.poison = true) ∧
      u.hl.offlineWrites = s.hl.offlineWrites ∧ u.dram = s.dram ∧ u.gen = s.gen ∧
      u.hl.winTab = (setWinWord s w 5 (wrapFld (winWord s w 5) 16 16 1)).hl.winTab ∧
      rd u (Reg.hlUnmapped (ld / 16 / 2)) = rd s (Reg.hlUnmapped (ld / 16 / 2)) ∧
      rf u (Reg.hlOfflineAcc (ld / 16 / 2)) (16 * (ld / 16 % 2)) 16 =
        min 65535 (rf s (Reg.hlOfflineAcc (ld / 16 / 2)) (16 * (ld / 16 % 2)) 16 + 1)) ∧
  (∀ ld hpa tag data dpa w s, ld < 64 → takes s ld true = true → s.memWf = true → hdmDpa (ldOf s ld).hdm hpa = some dpa →
    winFor s ld dpa = some w → winOnline s w = false → ∃ u, exec (.cxlmemWrite ld hpa tag data false) s = .next (settle u) ∧
      (∃ c, u.hl.sent = s.hl.sent ++ [c] ∧ c.ld = ld ∧ c.tag = tag ∧ c.isRead = false ∧ c.poison = false) ∧
      u.hl.offlineWrites = (s.hl.offlineWrites + 1) % 2 ^ 32 ∧ u.dram = s.dram ∧ u.gen = s.gen ∧
      u.hl.winTab = (setWinWord s w 5 (wrapFld (winWord s w 5) 16 16 1)).hl.winTab ∧
      rf u (Reg.hlOfflineAcc (ld / 16 / 2)) (16 * (ld / 16 % 2)) 16 =
        min 65535 (rf s (Reg.hlOfflineAcc (ld / 16 / 2)) (16 * (ld / 16 % 2)) 16 + 1))

/-- R42, R98, R106, R182: a full write to an online window that nothing holds back stores its 64 bytes at the line that
the window maps the DPA to, changes no other byte of DRAM and releases one completion; where the swatch is TACKED the
page as it stood goes to a slot of the group first, and the entry becomes BOTH. -/
def Obligations.HostWriteCommits : Prop :=
  (∀ ld hpa tag data dpa w line s, line = winDram s w dpa / 64 * 64 → data.length = 64 → takes s ld true = true →
    queueWaits s line true = false → slotAhead s (line / 4096) = false → heldOf s w = 0 → s.memWf = true →
    hdmDpa (ldOf s ld).hdm hpa = some dpa → winFor s ld dpa = some w → winOnline s w = true →
    (grp s (winGroup s w)).quiesced = false → winEnforced s w = false → lineBit s (line / 4096 / 128) = false →
    (stOf s (winGroup s w) (line / 4096) = .opened ∨ stOf s (winGroup s w) (line / 4096) = .both ∨
      stOf s (winGroup s w) (line / 4096) = .clean) →
    ∃ u, exec (.cxlmemWrite ld hpa tag data false) s = .next (settle u) ∧ lineBytes u line = data ∧
      (∀ a, a < line ∨ line + 64 ≤ a → Sparse.get (fun _ => (0#8 : Byte)) u.dram.mem a = Sparse.get (fun _ => (0#8 : Byte)) s.dram.mem a) ∧
      (∃ c, u.hl.sent = s.hl.sent ++ [c] ∧ c.ld = ld ∧ c.tag = tag ∧ c.isRead = false)) ∧
  (∀ ld hpa tag data dpa w line n s, line = winDram s w dpa / 64 * 64 → data.length = 64 → takes s ld true = true →
    queueWaits s line true = false → slotAhead s (line / 4096) = false → heldOf s w = 0 → s.memWf = true →
    Sparse.wf (fun _ => ({} : Group)) s.gen.groups = true →
    hdmDpa (ldOf s ld).hdm hpa = some dpa → winFor s ld dpa = some w → winOnline s w = true →
    (grp s (winGroup s w)).quiesced = false → winEnforced s w = false → lineBit s (line / 4096 / 128) = false →
    stOf s (winGroup s w) (line / 4096) = .tacked →
    takeSlot s (sliceOf s (line / 4096)) = some n → slotOf s (winGroup s w) (line / 4096) = none →
    ∃ u, exec (.cxlmemWrite ld hpa tag data false) s = .next (settle u) ∧ lineBytes u line = data ∧
      (∀ a, a < line ∨ line + 64 ≤ a → Sparse.get (fun _ => (0#8 : Byte)) u.dram.mem a = Sparse.get (fun _ => (0#8 : Byte)) s.dram.mem a) ∧
      slotOf u (winGroup s w) (line / 4096) = some { n := n, swatch := line / 4096, page := readPage s (line / 4096) })

/-- R183, R184, R189: a new window entry that is stored overlaps no other valid window in DRAM, in its logical device's
DPA or in its group; one that fails a check leaves the table as it was, with its code in WIN_CHECK. -/
def Obligations.WindowChecks : Prop :=
  (∀ s w e v, w < 4096 → winValid s w = false → e.valid = true → (writeWin s w e true).2 = 0 → v < 4096 → v ≠ w →
    winValid s v = true →
    (e.dramBase + e.size ≤ winDramBase s v ∨ winDramBase s v + winSize s v ≤ e.dramBase) ∧
    (winLd s v = fld e.ctl 16 8 → e.ldBase + e.size ≤ winLdBase s v ∨ winLdBase s v + winSize s v ≤ e.ldBase) ∧
    (winGroup s v = fld e.ctl 24 8 → e.groupBase + e.size ≤ winGroupBase s v ∨ winGroupBase s v + winSize s v ≤ e.groupBase) ∧
    0 < e.size ∧ e.dramBase + e.size ≤ hostGib s ∧ fld e.ctl 16 8 < 64) ∧
  (∀ ld inp s c, inp.length = 24 → pay inp 0 2 < 4096 → isAdmin s ld = true → s.memWf = true → c ≠ 0 →
    (writeWin s (pay inp 0 2)
      { ctl := wd (pay inp 4 4), ldBase := pay inp 8 4, size := pay inp 12 4, dramBase := pay inp 16 4, groupBase := pay inp 20 4 } true).2 = c →
    c < 256 →
    ∃ u, exec (.setWindow ld inp) s = .next (settle (replyCode u ld c)) ∧ u.hl.winTab = s.hl.winTab ∧
      rf u Reg.winCheck 0 8 = c ∧ hasErr u Pg.win 16 = true)

/-- R222: interleaving gives each DRAM address one place, and each place that one address. -/
def Obligations.InterleaveIsOneToOne : Prop :=
  ∀ s a ch x, s.dram.layout.Nodup → s.dram.chBytes % 256 = 0 → dramPlace s a = some (ch, x) →
    dramAddr s ch x = some a ∧ ch ∈ s.dram.layout ∧ x < s.dram.chBytes ∧
    (∀ b, dramPlace s b = some (ch, x) → b = a)

/-- R223, R224: no two lines of a channel lie at one subchannel, rank, chip, bank group, bank, row and column. -/
def Obligations.BankHashIsOneToOne : Prop :=
  ∀ r h two x y, x < 2 ^ (19 + r + h + two.toNat) → y < 2 ^ (19 + r + h + two.toNat) →
    decodeLocal r h two x = decodeLocal r h two y → x / 64 = y / 64

/-- Reads leave the block as it is: a mailbox read answers its logical device and changes nothing else; a read on SB0
changes only the bus's own answer, SB0_XACTS and, for the mirror, the window register; a speculative read nothing. -/
def Obligations.ReadsChangeNothingElse : Prop :=
  (∀ c ld inp s t, c ∈ [Instr.getWindow ld inp, .getGroupConfig ld inp, .getPacing ld inp, .getLinkCounters ld inp,
      .identify ld inp, .backgroundOperationStatus ld inp, .getEventRecords ld inp, .getEventInterruptPolicy ld inp,
      .setEventInterruptPolicy ld inp, .getTimestamp ld inp, .getSupportedLogs ld inp, .getLog ld inp,
      .identifyMemoryDevice ld inp, .getLogInfo ld inp, .readLog ld inp, .getSummary ld inp, .getUpdateStatus ld inp,
      .getFwInfo ld inp] → exec c s = .next t → ∃ v, t = setLd s ld v) ∧
  (∀ c s t, c ∈ [Instr.sb0ReadIdentity, .sb0ReadLevel, .sb0ReadTj, .sb0ReadEnergy, .sb0ReadHem, .sb0ReadEventSeq,
      .sb0ReadResult, .sb0ReadMirror] → exec c s = .next t →
    t = { s with sb := t.sb, regs := t.regs } ∧ t.sb = { s.sb with ack := t.sb.ack, data := t.sb.data } ∧
    (∀ a, a ≠ Reg.sb0Xacts → a ≠ Reg.sb0Window → rd t a = rd s a)) ∧
  (∀ ld hpa s, exec (.cxlmemSpecRead ld hpa) s = .next s)

/-- R21, R22: a write of management SRAM stores its bytes at the address given and changes nothing else. -/
def Obligations.SramWriteFrame : Prop :=
  ∀ (addr val : Word) z off s, regionOf addr.toNat = .sram off → sramOn s off = true → s.memWf = true →
    ∃ u, exec (.registerWrite addr z val) s = .next (settle u) ∧
      u = { s with sram := u.sram } ∧ sramBytes u off (accBytes z) = leBytes (accBytes z) val.toNat ∧
      (∀ a, a < off ∨ off + accBytes z ≤ a → Sparse.get (fun _ => (0#8 : Byte)) u.sram a = Sparse.get (fun _ => (0#8 : Byte)) s.sram a)

/-- Every step keeps every byte memory and the register file in canonical form (log entry 2). -/
def Obligations.StepKeepsMemoryForm : Prop := ∀ s t, s.memWf = true → step s = .next t → t.memWf = true

/-- R17: no step takes a gating credit above 8. -/
def Obligations.StepKeepsCredits : Prop := ∀ s t, s.creditsOk = true → step s = .next t → t.creditsOk = true

/-- R415: no step puts a seventeenth entry on the priority stack. -/
def Obligations.StepKeepsStackDepth : Prop := ∀ s t, s.stackOk = true → step s = .next t → t.stackOk = true

/-- Commands are taken first in, first out: a step removes the front command and adds none (log entry 7). -/
def Obligations.StepTakesFrontCommand : Prop := ∀ s t, step s = .next t → t.pending = s.pending.tail

/-- R505: no escalation outlasts the step that calls for it (its bound is log entry 23). Where none is called for, the end of a
step only brings up to date the budget reasons (R126) and the offline reasons of the windows (R219). -/
def Obligations.StepSettlesEscalations : Prop :=
  (∀ s t, s.calm = true → step s = .next t → t.calm = true) ∧
  (∀ s, s.calm = true → settle s = noteReasons (withdrawBudgets s) ∧ (s.quiet = true → settle s = s))
end

