-- ==== Sys2Proof/Laws/Bits.lean ====
section
/-! SUPPORT. Fields and bits of a word after one of its fields is stored. -/

namespace Sys2Proof.Machine

open Bits

/-- Bit `i` of a word whose field was stored. -/
theorem getLsbD_setFld {w : Word} {lsb len v i : Nat} (hi : i < 32) :
    (setFld w lsb len v).getLsbD i =
      if lsb ≤ i ∧ i < lsb + len then v.testBit (i - lsb) else w.getLsbD i := by
  unfold setFld
  simp only [BitVec.getLsbD_or, BitVec.getLsbD_and, BitVec.getLsbD_not, BitVec.getLsbD_ofNat, hi, decide_true,
    Bool.true_and, Nat.testBit_shiftLeft, Nat.testBit_mod_two_pow, Nat.testBit_two_pow_sub_one]
  by_cases h1 : lsb ≤ i <;> by_cases h2 : i < lsb + len <;> simp [h1, h2] <;> (have : i - lsb < len ∨ ¬ i - lsb < len := em _) <;> rcases this with h3 | h3 <;> simp [h3] <;> omega

/-- A field read back after it was stored. -/
theorem fld_setFld_self {w : Word} {lsb len v : Nat} (h : lsb + len ≤ 32) : fld (setFld w lsb len v) lsb len = v % 2 ^ len := by
  apply Nat.eq_of_testBit_eq
  intro i
  unfold fld
  simp only [Nat.testBit_mod_two_pow, Nat.testBit_shiftRight]
  by_cases hi : i < len
  · have := @getLsbD_setFld w lsb len v (lsb + i) (by omega)
    simp only [BitVec.getLsbD] at this
    rw [this]
    simp [hi]
  · simp [hi]

/-- A field that a store does not reach. -/
theorem fld_setFld_ne {w : Word} {lsb len v a n : Nat} (h : a + n ≤ lsb ∨ lsb + len ≤ a) (ha : a + n ≤ 32) :
    fld (setFld w lsb len v) a n = fld w a n := by
  apply Nat.eq_of_testBit_eq
  intro i
  unfold fld
  simp only [Nat.testBit_mod_two_pow, Nat.testBit_shiftRight]
  by_cases hi : i < n
  · have := @getLsbD_setFld w lsb len v (a + i) (by omega)
    simp only [BitVec.getLsbD] at this
    rw [this, if_neg (by omega)]
  · simp [hi]

theorem bit_setFld {w : Word} {lsb len v i : Nat} (hi : i < 32) :
    bit (setFld w lsb len v) i = if lsb ≤ i ∧ i < lsb + len then v.testBit (i - lsb) else bit w i := getLsbD_setFld hi

/-- A saturating count after one more. -/
theorem fld_incFld {w : Word} {lsb len n : Nat} (h : lsb + len ≤ 32) :
    fld (incFld w lsb len n) lsb len = min (fld w lsb len + n) (2 ^ len - 1) := by
  have : 0 < 2 ^ len := Nat.two_pow_pos len
  rw [incFld, fld_setFld_self h, satAdd, Nat.mod_eq_of_lt (by omega)]

theorem fld_incFld_ne {w : Word} {lsb len n a m : Nat} (h : a + m ≤ lsb ∨ lsb + len ≤ a) (ha : a + m ≤ 32) :
    fld (incFld w lsb len n) a m = fld w a m := fld_setFld_ne h ha

/-- A bit that is stored reads back. -/
theorem bit_setBit_self {w : Word} {i : Nat} {b : Bool} (hi : i < 32) : bit (setFld w i 1 b.toNat) i = b := by
  rw [bit_setFld hi]
  cases b <;> simp

theorem bit_setBit_ne {w : Word} {i k : Nat} {b : Bool} (hk : k < 32) (h : k ≠ i) : bit (setFld w i 1 b.toNat) k = bit w k := by
  rw [bit_setFld hk, if_neg (by omega)]

/-- The bytes of a number, read back. -/
theorem leBytes_length {n v : Nat} : (leBytes n v).length = n := by
  induction n generalizing v with
  | zero => rfl
  | succ n ih => simp [leBytes, ih]

theorem ofLe_leBytes {n v : Nat} : ofLe (leBytes n v) = v % 256 ^ n := by
  induction n generalizing v with
  | zero => simp [leBytes, ofLe, Nat.mod_one]
  | succ n ih =>
    simp only [leBytes, ofLe, ih, BitVec.toNat_ofNat]
    rw [show 256 ^ (n + 1) = 256 * 256 ^ n by rw [Nat.pow_succ, Nat.mul_comm], Nat.mod_mul]

end Sys2Proof.Machine
end

