-- ==== Sys2Proof/Laws/Sparse.lean ====
section
/-! SUPPORT. Laws of the sparse maps: reading after writing, and the canonical form that every update keeps. -/

namespace Sys2Proof.Machine

open Bits

/-- A key that no entry of a canonical map reaches reads its default. -/
theorem get_below {α : Type} [DecidableEq α] {d : Nat → α} {m : List (Nat × α)} {b k : Nat} (hk : k < b)
    (h : Sparse.wfFrom d b m = true) : Sparse.get d m k = d k := by
  induction m generalizing b with
  | nil => rfl
  | cons e m ih =>
    obtain ⟨j, w⟩ := e
    simp only [Sparse.wfFrom, Bool.and_eq_true, decide_eq_true_eq] at h
    unfold Sparse.get
    rw [if_neg (by omega)]
    exact ih (b := j + 1) (by omega) h.2

/-- A key reads what was written to it last. -/
theorem get_set_self {α : Type} [DecidableEq α] {d : Nat → α} {m : List (Nat × α)} {k : Nat} {v : α}
    (h : Sparse.wf d m = true) : Sparse.get d (Sparse.set d m k v) k = v := by
  unfold Sparse.wf at h
  generalize 0 = b at h
  induction m generalizing b with
  | nil => unfold Sparse.set; split <;> simp_all [Sparse.get]
  | cons e m ih =>
    obtain ⟨j, w⟩ := e
    have hw := h
    simp only [Sparse.wfFrom, Bool.and_eq_true, decide_eq_true_eq] at h
    unfold Sparse.set
    split
    · split
      · rename_i hj hv
        unfold Sparse.get
        rw [if_neg (by omega), get_below (b := j + 1) (by omega) h.2, hv]
      · simp [Sparse.get]
    · split
      · split
        · rename_i hj hv
          rw [get_below (b := j + 1) (by omega) h.2, hv]
        · simp [Sparse.get]
      · unfold Sparse.get
        rw [if_neg (by omega)]
        exact ih (j + 1) h.2

/-- Writing one key leaves every other key as it was. -/
theorem get_set_ne {α : Type} [DecidableEq α] {d : Nat → α} {m : List (Nat × α)} {k k' : Nat} {v : α}
    (h : k' ≠ k) : Sparse.get d (Sparse.set d m k v) k' = Sparse.get d m k' := by
  induction m with
  | nil =>
    unfold Sparse.set
    split
    · rfl
    · simp [Sparse.get, h.symm]
  | cons e m ih =>
    obtain ⟨j, w⟩ := e
    unfold Sparse.set
    split
    · split
      · rfl
      · rw [Sparse.get, if_neg h.symm]
    · split
      · rename_i hk
        subst hk
        split
        · rw [Sparse.get, if_neg h.symm]
        · rw [Sparse.get, if_neg h.symm, Sparse.get, if_neg h.symm]
      · simp only [Sparse.get, ih]

theorem set_wfFrom {α : Type} [DecidableEq α] (d : Nat → α) (m : List (Nat × α)) (b k : Nat) (v : α) (hk : b ≤ k)
    (h : Sparse.wfFrom d b m = true) : Sparse.wfFrom d b (Sparse.set d m k v) = true := by
  induction m generalizing b with
  | nil => unfold Sparse.set; split <;> simp_all [Sparse.wfFrom]
  | cons e m ih =>
    obtain ⟨j, w⟩ := e
    simp only [Sparse.wfFrom, Bool.and_eq_true, decide_eq_true_eq] at h
    obtain ⟨⟨h1, h2⟩, h3⟩ := h
    unfold Sparse.set
    have mono : ∀ (l : List (Nat × α)) (c c' : Nat), c ≤ c' → Sparse.wfFrom d c' l = true → Sparse.wfFrom d c l = true := by
      intro l c c' hc hl
      cases l with
      | nil => rfl
      | cons e l =>
        simp only [Sparse.wfFrom, Bool.and_eq_true, decide_eq_true_eq] at hl ⊢
        exact ⟨⟨by omega, hl.1.2⟩, hl.2⟩
    split
    · split
      · simp [Sparse.wfFrom, *]
      · simp only [Sparse.wfFrom, Bool.and_eq_true, decide_eq_true_eq]
        exact ⟨⟨hk, ‹_›⟩, ⟨⟨by omega, h2⟩, h3⟩⟩
    · split
      · split
        · exact mono _ _ _ (by omega) h3
        · simp only [Sparse.wfFrom, Bool.and_eq_true, decide_eq_true_eq]
          subst_vars
          exact ⟨⟨h1, ‹_›⟩, h3⟩
      · simp only [Sparse.wfFrom, Bool.and_eq_true, decide_eq_true_eq]
        exact ⟨⟨h1, h2⟩, ih (j + 1) (by omega) h3⟩

theorem set_wf {α : Type} [DecidableEq α] {d : Nat → α} {m : List (Nat × α)} {k : Nat} {v : α}
    (h : Sparse.wf d m = true) : Sparse.wf d (Sparse.set d m k v) = true := set_wfFrom d m 0 k v (Nat.zero_le _) h

theorem setList_wf {α : Type} [DecidableEq α] {d : Nat → α} {vs : List α} {m : List (Nat × α)} {k : Nat}
    (h : Sparse.wf d m = true) : Sparse.wf d (Sparse.setList d m k vs) = true := by
  induction vs generalizing m k with
  | nil => exact h
  | cons v vs ih => exact ih (set_wf h)

theorem filter_wfFrom {α : Type} [DecidableEq α] (d : Nat → α) (p : Nat × α → Bool) (m : List (Nat × α)) (b : Nat)
    (h : Sparse.wfFrom d b m = true) : Sparse.wfFrom d b (m.filter p) = true := by
  induction m generalizing b with
  | nil => exact h
  | cons e m ih =>
    obtain ⟨j, w⟩ := e
    have mono : ∀ (l : List (Nat × α)) (c c' : Nat), c ≤ c' → Sparse.wfFrom d c' l = true → Sparse.wfFrom d c l = true := by
      intro l c c' hc hl
      cases l with
      | nil => rfl
      | cons e l =>
        simp only [Sparse.wfFrom, Bool.and_eq_true, decide_eq_true_eq] at hl ⊢
        exact ⟨⟨by omega, hl.1.2⟩, hl.2⟩
    simp only [Sparse.wfFrom, Bool.and_eq_true, decide_eq_true_eq] at h
    rw [List.filter_cons]
    split
    · simp only [Sparse.wfFrom, Bool.and_eq_true, decide_eq_true_eq]
      exact ⟨h.1, ih _ h.2⟩
    · exact ih b (mono _ _ _ (by omega) h.2)

theorem filter_wf {α : Type} [DecidableEq α] {d : Nat → α} {p : Nat × α → Bool} {m : List (Nat × α)}
    (h : Sparse.wf d m = true) : Sparse.wf d (m.filter p) = true := filter_wfFrom d p m 0 h

theorem set_all {α : Type} [DecidableEq α] {d : Nat → α} {p : Nat × α → Bool} {m : List (Nat × α)} {k : Nat} {v : α}
    (h : m.all p = true) (hv : p (k, v) = true) : (Sparse.set d m k v).all p = true := by
  induction m with
  | nil => unfold Sparse.set; split <;> simp [hv]
  | cons e m ih =>
    simp only [List.all_cons, Bool.and_eq_true] at h
    unfold Sparse.set
    split
    · split <;> simp [h.1, h.2, hv]
    · split
      · split <;> simp [h.2, hv]
      · simp [h.1, ih h.2]

theorem get_all {α : Type} [DecidableEq α] {d : Nat → α} {p : α → Prop} {m : List (Nat × α)}
    (hd : ∀ j, p (d j)) (h : ∀ e ∈ m, p e.2) (k : Nat) : p (Sparse.get d m k) := by
  induction m with
  | nil => exact hd k
  | cons e m ih =>
    unfold Sparse.get; split
    · exact h e (by simp)
    · exact ih fun e he => h e (by simp [he])

theorem foldl_wf {α β : Type} [DecidableEq α] {d : Nat → α} {k : β → Nat} {v : β → α} {l : List β} {m : List (Nat × α)}
    (h : Sparse.wf d m = true) : Sparse.wf d (l.foldl (fun m e => Sparse.set d m (k e) (v e)) m) = true := by
  induction l generalizing m with
  | nil => exact h
  | cons e l ih => exact ih (set_wf h)

/-- What `minBy` picks is in the list. -/
theorem minBy_mem {α : Type} {lt : α → α → Bool} {l : List α} {a : α} (h : minBy lt l = some a) : a ∈ l := by
  induction l generalizing a with
  | nil => simp [minBy] at h
  | cons b l ih =>
    unfold minBy at h
    split at h
    · simp_all
    · rename_i c hc
      have hc := ih hc
      split at h <;> (cases h; simp_all)

/-- Listing values at `k`, `k + 1`, ... leaves every other key as it is. -/
theorem get_setList_out {α : Type} [DecidableEq α] {d : Nat → α} {vs : List α} {m : List (Nat × α)} {k j : Nat}
    (h : j < k ∨ k + vs.length ≤ j) : Sparse.get d (Sparse.setList d m k vs) j = Sparse.get d m j := by
  induction vs generalizing m k with
  | nil => rfl
  | cons v vs ih =>
    simp only [List.length_cons] at h
    rw [Sparse.setList, ih (by omega), get_set_ne (by omega)]

/-- The values just listed are read back. -/
theorem getList_setList {α : Type} [DecidableEq α] {d : Nat → α} {vs : List α} {m : List (Nat × α)} {k : Nat}
    (h : Sparse.wf d m = true) : Sparse.getList d (Sparse.setList d m k vs) k vs.length = vs := by
  induction vs generalizing m k with
  | nil => rfl
  | cons v vs ih =>
    have a := ih (m := Sparse.set d m k v) (k := k + 1) (set_wf h)
    have b : Sparse.get d (Sparse.setList d (Sparse.set d m k v) (k + 1) vs) k = v := by
      rw [get_setList_out (by omega), get_set_self h]
    unfold Sparse.getList at a ⊢
    rw [List.length_cons, List.range_succ_eq_map, List.map_cons, List.map_map, Sparse.setList, show k + 0 = k from rfl, b]
    refine congrArg (v :: ·) ?_
    refine Eq.trans ?_ a
    refine List.map_congr_left fun i _ => ?_
    show Sparse.get d _ (k + (i + 1)) = Sparse.get d _ (k + 1 + i)
    rw [show k + (i + 1) = k + 1 + i by omega]

end Sys2Proof.Machine
end

