-- ==== Sys2Proof/Laws/Keeps.lean ====
section
/-! SUPPORT. What every operation of the block keeps: the queue, the canonical form of the sparse maps, the bound
of the gating credits and the bound of the priority stack. -/

namespace Sys2Proof.Machine

open Bits

/-- `t` keeps the queue of `s` and every invariant that `s` has. -/
structure Keeps (s t : State) : Prop where
  pending : t.pending = s.pending
  mem : s.memWf = true → t.memWf = true
  credits : s.creditsOk = true → t.creditsOk = true
  stack : s.stackOk = true → t.stackOk = true

theorem Keeps.refl (s : State) : Keeps s s := ⟨rfl, id, id, id⟩

theorem Keeps.trans {a b c : State} (h : Keeps a b) (k : Keeps b c) : Keeps a c :=
  ⟨k.1.trans h.1, fun x => k.2 (h.2 x), fun x => k.3 (h.3 x), fun x => k.4 (h.4 x)⟩

theorem Keeps.cut {s0 x : State} {p : Prop} (h : Keeps s0 x) (k : Keeps s0 x → p) : p := k h

variable {s0 s : State}

theorem Keeps.mk' {f rg fw rs mr fl ic cf ev ge hl dr fs po ps ba th up sb} (h : Keeps s0 s)
    (hr : rg = s.regs) (h1 : dr.mem = s.dram.mem) (h2 : cf.mem = s.cfl.mem) (h3 : ic.stack = s.icu.stack) :
    Keeps s0 (State.mk s.pending f rg mr s.sram s.doms fw rs fl ic cf ev ge hl dr fs po ps ba th up sb) := by
  refine h.trans ⟨rfl, ?_, ?_, ?_⟩
  · unfold State.memWf; simp only [hr, h1, h2]; exact id
  · exact id
  · unfold State.stackOk; simp only [h3]; exact id

theorem forEach_keeps {α : Type} {l : List α} {f : State → α → State} (h : Keeps s0 s)
    (k : ∀ s a, Keeps s0 s → Keeps s0 (f s a)) : Keeps s0 (forEach l s f) := by
  unfold forEach
  induction l generalizing s with
  | nil => exact h
  | cons a l ih => exact ih (k _ _ h)

theorem foldl_fst_keeps {α β : Type} {l : List α} {f : State × β → α → State × β} {p : State × β} (h : Keeps s0 p.1)
    (k : ∀ t a, Keeps s0 t.1 → Keeps s0 (f t a).1) : Keeps s0 (List.foldl f p l).1 := by
  induction l generalizing p with
  | nil => exact h
  | cons a l ih => exact ih (k _ _ h)

theorem whenS_keeps {c : Bool} {f : State → State} (h : Keeps s0 s)
    (k : ∀ s, Keeps s0 s → Keeps s0 (f s)) : Keeps s0 (whenS c s f) := by
  unfold whenS; split
  · exact k _ h
  · exact h

theorem dom_le {s : State} (h : s.creditsOk = true) (d : Nat) : (domOf s d).credit ≤ 8 := by
  refine get_all (p := fun v : Dom => v.credit ≤ 8) (fun _ => Nat.le_refl 8) ?_ d
  simpa [State.creditsOk] using h

theorem setDom_keeps {d : Nat} {v : Dom} (h : Keeps s0 s) (hv : s.creditsOk = true → v.credit ≤ 8) : Keeps s0 (setDom s d v) :=
  h.trans ⟨rfl, id, fun hc => set_all hc (by simpa using hv hc), id⟩

theorem wr_keeps {a : Nat} {v : Word} (h : Keeps s0 s) : Keeps s0 (wr s a v) := by
  refine h.trans ⟨rfl, fun hm => ?_, id, id⟩
  simp only [State.memWf, Bool.and_eq_true] at hm ⊢
  exact ⟨⟨⟨set_wf hm.1.1.1, hm.1.1.2⟩, hm.1.2⟩, hm.2⟩

theorem sramStore_keeps {o : Nat} {v : List Byte} (h : Keeps s0 s) : Keeps s0 (sramStore s o v) := by
  refine h.trans ⟨rfl, fun hm => ?_, id, id⟩
  simp only [State.memWf, Bool.and_eq_true] at hm ⊢
  exact ⟨⟨hm.1.1, setList_wf hm.1.2⟩, hm.2⟩

theorem cflProgram_keeps {a : Nat} {v : List Byte} (h : Keeps s0 s) : Keeps s0 (cflProgram s a v) := by
  refine h.trans ⟨rfl, fun hm => ?_, id, id⟩
  simp only [State.memWf, Bool.and_eq_true] at hm ⊢
  exact ⟨hm.1, setList_wf (d := cflBlank) hm.2⟩

theorem cflErase_keeps {a n : Nat} (h : Keeps s0 s) : Keeps s0 (cflErase s a n) := by
  refine h.trans ⟨rfl, fun hm => ?_, id, id⟩
  simp only [State.memWf, Bool.and_eq_true] at hm ⊢
  exact ⟨hm.1, filter_wf (d := cflBlank) hm.2⟩

theorem Keeps.dram {dr : Dram} (h : Keeps s0 s)
    (hm : Sparse.wf (fun _ => (0#8 : Byte)) s.dram.mem = true → Sparse.wf (fun _ => (0#8 : Byte)) dr.mem = true) :
    Keeps s0 { s with dram := dr } := by
  refine h.trans ⟨rfl, fun k => ?_, id, id⟩
  simp only [State.memWf, Bool.and_eq_true] at k ⊢
  exact ⟨⟨⟨k.1.1.1, hm k.1.1.2⟩, k.1.2⟩, k.2⟩

theorem Keeps.regs {rg : List (Nat × Word)} (h : Keeps s0 s)
    (hm : Sparse.wf resetOf s.regs = true → Sparse.wf resetOf rg = true) : Keeps s0 { s with regs := rg } := by
  refine h.trans ⟨rfl, fun k => ?_, id, id⟩
  simp only [State.memWf, Bool.and_eq_true] at k ⊢
  exact ⟨⟨⟨hm k.1.1.1, k.1.1.2⟩, k.1.2⟩, k.2⟩

theorem Keeps.sram {m : List (Nat × Byte)} (h : Keeps s0 s)
    (hm : Sparse.wf (fun _ => (0#8 : Byte)) s.sram = true → Sparse.wf (fun _ => (0#8 : Byte)) m = true) :
    Keeps s0 { s with sram := m } := by
  refine h.trans ⟨rfl, fun k => ?_, id, id⟩
  simp only [State.memWf, Bool.and_eq_true] at k ⊢
  exact ⟨⟨k.1.1, hm k.1.2⟩, k.2⟩

theorem Keeps.stk {ic : Icu} (h : Keeps s0 s)
    (hs : s.icu.stack.length ≤ 16 → ic.stack.length ≤ 16) : Keeps s0 { s with icu := ic } := by
  refine h.trans ⟨rfl, id, id, fun k => ?_⟩
  simp only [State.stackOk, decide_eq_true_eq] at k ⊢
  exact hs k

theorem Keeps.noDoms (h : Keeps s0 s) : Keeps s0 { s with doms := [] } := h.trans ⟨rfl, id, fun _ => rfl, id⟩

/-- The general rule of a record update: each piece that an invariant reads keeps its part. -/
theorem Keeps.whole {f rg mr sr dm fw rs fl ic cf ev ge hl dr fs po ps ba th up sb} (h : Keeps s0 s)
    (h1 : Sparse.wf resetOf s.regs = true → Sparse.wf resetOf rg = true)
    (h2 : Sparse.wf (fun _ => (0#8 : Byte)) s.dram.mem = true → Sparse.wf (fun _ => (0#8 : Byte)) dr.mem = true)
    (h3 : Sparse.wf (fun _ => (0#8 : Byte)) s.sram = true → Sparse.wf (fun _ => (0#8 : Byte)) sr = true)
    (h4 : cf.mem = s.cfl.mem)
    (h5 : (s.doms.all fun e => decide (e.2.credit ≤ 8)) = true → (dm.all fun e => decide (e.2.credit ≤ 8)) = true)
    (h6 : s.icu.stack.length ≤ 16 → ic.stack.length ≤ 16) :
    Keeps s0 (State.mk s.pending f rg mr sr dm fw rs fl ic cf ev ge hl dr fs po ps ba th up sb) := by
  refine h.trans ⟨rfl, fun k => ?_, h5, fun k => ?_⟩
  · simp only [State.memWf, Bool.and_eq_true] at k ⊢
    exact ⟨⟨⟨h1 k.1.1.1, h2 k.1.1.2⟩, h3 k.1.2⟩, h4 ▸ k.2⟩
  · simp only [State.stackOk, decide_eq_true_eq] at k ⊢
    exact h6 k

theorem bestSource_room {l : List (Nat × Nat)} {a : Nat} (h : bestSource s l = some a) : l.length < 16 := by
  have k := minBy_mem h
  rw [List.mem_filter] at k
  simp [takeable] at k
  omega

theorem ite_keeps {c : Prop} [Decidable c] {t : State} {o : Option State} (h : Keeps s0 t)
    (k : ∀ u, o = some u → Keeps s0 u) : ∀ u, (if c then some t else o) = some u → Keeps s0 u := by
  intro u hu
  split at hu
  · cases hu; exact h
  · exact k u hu

theorem iteS_keeps {c : Prop} [Decidable c] {t u : State} (h : Keeps s0 t) (k : Keeps s0 u) :
    Keeps s0 (if c then t else u) := by
  split
  · exact h
  · exact k

theorem Keeps.noStk {ic : Icu} (h : Keeps s0 s) (hs : ic.stack = []) : Keeps s0 { s with icu := ic } :=
  Keeps.stk h fun _ => by simp [hs]

theorem next_keeps {t : State} (h : Keeps s0 t) : Keeps s0 (after (.next t) s) := h

end Sys2Proof.Machine
end

