-- ==== Sys2Proof/Laws/KeepsOps.lean ====
section
/-! SUPPORT. Frame lemmas of the operations of Machine/Ops, Machine/PoolOps, Machine/PowerOps, Machine/BatOps, Machine/GenBase, Machine/DramOps: each keeps the queue and every
invariant of `Keeps`. -/

set_option linter.unusedTactic false
set_option linter.unreachableTactic false

namespace Sys2Proof.Machine

open Bits

variable {s0 s : State}

theorem wrF_keeps {a0 a1 a2 a3} (h : Keeps s0 s) : Keeps s0 (wrF s a0 a1 a2 a3) := by
  delta wrF
  repeat' (first
    | with_reducible assumption
    | (refine fun (_ : Keeps _ _) => ?_)
    | (intro x; first | (refine Keeps.cut (s0 := s0) (x := x) ?_ ?_ <;> (first | (clear_value x; intro hx) | subst x)) | (subst x; try dsimp -zeta only))
    | with_reducible (refine wr_keeps ?_)
    | split
    | lift_lets
    | (fail_if_no_progress with_reducible refine Keeps.mk' ?_ rfl rfl rfl rfl))

theorem wrB_keeps {a0 a1 a2} (h : Keeps s0 s) : Keeps s0 (wrB s a0 a1 a2) := by
  delta wrB
  repeat' (first
    | with_reducible assumption
    | (refine fun (_ : Keeps _ _) => ?_)
    | (intro x; first | (refine Keeps.cut (s0 := s0) (x := x) ?_ ?_ <;> (first | (clear_value x; intro hx) | subst x)) | (subst x; try dsimp -zeta only))
    | with_reducible (refine wrF_keeps ?_)
    | split
    | lift_lets
    | (fail_if_no_progress with_reducible refine Keeps.mk' ?_ rfl rfl rfl rfl))

theorem addSat_keeps {a0 a1 a2 a3} (h : Keeps s0 s) : Keeps s0 (addSat s a0 a1 a2 a3) := by
  delta addSat
  repeat' (first
    | with_reducible assumption
    | (refine fun (_ : Keeps _ _) => ?_)
    | (intro x; first | (refine Keeps.cut (s0 := s0) (x := x) ?_ ?_ <;> (first | (clear_value x; intro hx) | subst x)) | (subst x; try dsimp -zeta only))
    | with_reducible (refine wr_keeps ?_)
    | split
    | lift_lets
    | (fail_if_no_progress with_reducible refine Keeps.mk' ?_ rfl rfl rfl rfl))

theorem addWrap_keeps {a0 a1 a2 a3} (h : Keeps s0 s) : Keeps s0 (addWrap s a0 a1 a2 a3) := by
  delta addWrap
  repeat' (first
    | with_reducible assumption
    | (refine fun (_ : Keeps _ _) => ?_)
    | (intro x; first | (refine Keeps.cut (s0 := s0) (x := x) ?_ ?_ <;> (first | (clear_value x; intro hx) | subst x)) | (subst x; try dsimp -zeta only))
    | with_reducible (refine wr_keeps ?_)
    | split
    | lift_lets
    | (fail_if_no_progress with_reducible refine Keeps.mk' ?_ rfl rfl rfl rfl))

theorem raiseTo_keeps {a0 a1 a2 a3} (h : Keeps s0 s) : Keeps s0 (raiseTo s a0 a1 a2 a3) := by
  delta raiseTo
  repeat' (first
    | with_reducible assumption
    | (refine fun (_ : Keeps _ _) => ?_)
    | (intro x; first | (refine Keeps.cut (s0 := s0) (x := x) ?_ ?_ <;> (first | (clear_value x; intro hx) | subst x)) | (subst x; try dsimp -zeta only))
    | with_reducible (refine wrF_keeps ?_)
    | split
    | lift_lets
    | (fail_if_no_progress with_reducible refine Keeps.mk' ?_ rfl rfl rfl rfl))

theorem addWide_keeps {a0 a1 a2} (h : Keeps s0 s) : Keeps s0 (addWide s a0 a1 a2) := by
  delta addWide
  repeat' (first
    | with_reducible assumption
    | (refine fun (_ : Keeps _ _) => ?_)
    | (intro x; first | (refine Keeps.cut (s0 := s0) (x := x) ?_ ?_ <;> (first | (clear_value x; intro hx) | subst x)) | (subst x; try dsimp -zeta only))
    | with_reducible (refine wr_keeps ?_)
    | split
    | lift_lets
    | (fail_if_no_progress with_reducible refine Keeps.mk' ?_ rfl rfl rfl rfl))

theorem freeVal_keeps (h : Keeps s0 s) : Keeps s0 (freeVal s).2 := by
  delta freeVal
  repeat' (first
    | with_reducible assumption
    | (refine fun (_ : Keeps _ _) => ?_)
    | (intro x; first | (refine Keeps.cut (s0 := s0) (x := x) ?_ ?_ <;> (first | (clear_value x; intro hx) | subst x)) | (subst x; try dsimp -zeta only))
    | split
    | lift_lets
    | (fail_if_no_progress with_reducible refine Keeps.mk' ?_ rfl rfl rfl rfl))

theorem setRail_keeps {a0 a1} (h : Keeps s0 s) : Keeps s0 (setRail s a0 a1) := by
  delta setRail
  repeat' (first
    | with_reducible assumption
    | (refine fun (_ : Keeps _ _) => ?_)
    | (intro x; first | (refine Keeps.cut (s0 := s0) (x := x) ?_ ?_ <;> (first | (clear_value x; intro hx) | subst x)) | (subst x; try dsimp -zeta only))
    | split
    | lift_lets
    | (fail_if_no_progress with_reducible refine Keeps.mk' ?_ rfl rfl rfl rfl))

theorem event_keeps {a0 a1 a2} (h : Keeps s0 s) : Keeps s0 (event s a0 a1 a2) := by
  delta event
  repeat' (first
    | with_reducible assumption
    | (refine fun (_ : Keeps _ _) => ?_)
    | (intro x; first | (refine Keeps.cut (s0 := s0) (x := x) ?_ ?_ <;> (first | (clear_value x; intro hx) | subst x)) | (subst x; try dsimp -zeta only))
    | split
    | lift_lets
    | (fail_if_no_progress with_reducible refine Keeps.mk' ?_ rfl rfl rfl rfl))

theorem setPending_keeps {a0 a1} (h : Keeps s0 s) : Keeps s0 (setPending s a0 a1) := by
  delta setPending
  repeat' (first
    | with_reducible assumption
    | (refine fun (_ : Keeps _ _) => ?_)
    | (intro x; first | (refine Keeps.cut (s0 := s0) (x := x) ?_ ?_ <;> (first | (clear_value x; intro hx) | subst x)) | (subst x; try dsimp -zeta only))
    | with_reducible (refine wrB_keeps ?_)
    | split
    | lift_lets
    | (fail_if_no_progress with_reducible refine Keeps.mk' ?_ rfl rfl rfl rfl))

theorem bumpLost_keeps {a0} (h : Keeps s0 s) : Keeps s0 (bumpLost s a0) := by
  delta bumpLost
  repeat' (first
    | with_reducible assumption
    | (refine fun (_ : Keeps _ _) => ?_)
    | (intro x; first | (refine Keeps.cut (s0 := s0) (x := x) ?_ ?_ <;> (first | (clear_value x; intro hx) | subst x)) | (subst x; try dsimp -zeta only))
    | with_reducible (refine addSat_keeps ?_)
    | split
    | lift_lets
    | (fail_if_no_progress with_reducible refine Keeps.mk' ?_ rfl rfl rfl rfl))

theorem srcEvent_keeps {a0} (h : Keeps s0 s) : Keeps s0 (srcEvent s a0) := by
  delta srcEvent
  repeat' (first
    | with_reducible assumption
    | (refine fun (_ : Keeps _ _) => ?_)
    | (intro x; first | (refine Keeps.cut (s0 := s0) (x := x) ?_ ?_ <;> (first | (clear_value x; intro hx) | subst x)) | (subst x; try dsimp -zeta only))
    | with_reducible (refine event_keeps ?_)
    | split
    | lift_lets
    | (fail_if_no_progress with_reducible refine Keeps.mk' ?_ rfl rfl rfl rfl))

theorem icuSet_keeps {a0} (h : Keeps s0 s) : Keeps s0 (icuSet s a0).1 := by
  delta icuSet
  repeat' (first
    | with_reducible assumption
    | (refine fun (_ : Keeps _ _) => ?_)
    | (intro x; first | (refine Keeps.cut (s0 := s0) (x := x) ?_ ?_ <;> (first | (clear_value x; intro hx) | subst x)) | (subst x; try dsimp -zeta only))
    | with_reducible (refine bumpLost_keeps ?_)
    | with_reducible (refine setPending_keeps ?_)
    | split
    | lift_lets
    | (fail_if_no_progress with_reducible refine Keeps.mk' ?_ rfl rfl rfl rfl))

theorem errSet_keeps {a0 a1} (h : Keeps s0 s) : Keeps s0 (errSet s a0 a1) := by
  delta errSet
  repeat' (first
    | with_reducible assumption
    | (refine fun (_ : Keeps _ _) => ?_)
    | (intro x; first | (refine Keeps.cut (s0 := s0) (x := x) ?_ ?_ <;> (first | (clear_value x; intro hx) | subst x)) | (subst x; try dsimp -zeta only))
    | with_reducible (refine wr_keeps ?_)
    | with_reducible (refine addSat_keeps ?_)
    | with_reducible (refine event_keeps ?_)
    | split
    | lift_lets
    | (fail_if_no_progress with_reducible refine Keeps.mk' ?_ rfl rfl rfl rfl))

theorem lostErr_keeps (h : Keeps s0 s) : Keeps s0 (lostErr s) := by
  delta lostErr
  repeat' (first
    | with_reducible assumption
    | (refine fun (_ : Keeps _ _) => ?_)
    | (intro x; first | (refine Keeps.cut (s0 := s0) (x := x) ?_ ?_ <;> (first | (clear_value x; intro hx) | subst x)) | (subst x; try dsimp -zeta only))
    | with_reducible (refine errSet_keeps ?_)
    | with_reducible (refine addSat_keeps ?_)
    | split
    | lift_lets
    | (fail_if_no_progress with_reducible refine Keeps.mk' ?_ rfl rfl rfl rfl))

theorem icuMsg_keeps {a0} (h : Keeps s0 s) : Keeps s0 (icuMsg s a0) := by
  delta icuMsg
  repeat' (first
    | with_reducible assumption
    | (refine fun (_ : Keeps _ _) => ?_)
    | (intro x; first | (refine Keeps.cut (s0 := s0) (x := x) ?_ ?_ <;> (first | (clear_value x; intro hx) | subst x)) | (subst x; try dsimp -zeta only))
    | with_reducible (refine icuSet_keeps ?_)
    | with_reducible (refine lostErr_keeps ?_)
    | split
    | lift_lets
    | (fail_if_no_progress with_reducible refine Keeps.mk' ?_ rfl rfl rfl rfl))

theorem logged_keeps {a0} (h : Keeps s0 s) : Keeps s0 (logged s a0) := by
  delta logged
  repeat' (first
    | with_reducible assumption
    | (refine fun (_ : Keeps _ _) => ?_)
    | (intro x; first | (refine Keeps.cut (s0 := s0) (x := x) ?_ ?_ <;> (first | (clear_value x; intro hx) | subst x)) | (subst x; try dsimp -zeta only))
    | split
    | lift_lets
    | (fail_if_no_progress with_reducible refine Keeps.mk' ?_ rfl rfl rfl rfl))

theorem icu_keeps {a0} (h : Keeps s0 s) : Keeps s0 (icu s a0) := by
  delta icu
  repeat' (first
    | with_reducible assumption
    | (refine fun (_ : Keeps _ _) => ?_)
    | (intro x; first | (refine Keeps.cut (s0 := s0) (x := x) ?_ ?_ <;> (first | (clear_value x; intro hx) | subst x)) | (subst x; try dsimp -zeta only))
    | with_reducible (refine icuMsg_keeps ?_)
    | with_reducible (refine srcEvent_keeps ?_)
    | split
    | lift_lets
    | (fail_if_no_progress with_reducible refine Keeps.mk' ?_ rfl rfl rfl rfl))

theorem escalate_keeps {a0 a1 a2} (h : Keeps s0 s) : Keeps s0 (escalate s a0 a1 a2) := by
  delta escalate
  repeat' (first
    | with_reducible assumption
    | (refine fun (_ : Keeps _ _) => ?_)
    | (intro x; first | (refine Keeps.cut (s0 := s0) (x := x) ?_ ?_ <;> (first | (clear_value x; intro hx) | subst x)) | (subst x; try dsimp -zeta only))
    | split
    | lift_lets
    | (fail_if_no_progress with_reducible refine Keeps.mk' ?_ rfl rfl rfl rfl))

theorem fltReport_keeps {a0 a1 a2} (h : Keeps s0 s) : Keeps s0 (fltReport s a0 a1 a2) := by
  delta fltReport
  repeat' (first
    | with_reducible assumption
    | (refine fun (_ : Keeps _ _) => ?_)
    | (intro x; first | (refine Keeps.cut (s0 := s0) (x := x) ?_ ?_ <;> (first | (clear_value x; intro hx) | subst x)) | (subst x; try dsimp -zeta only))
    | with_reducible (refine addSat_keeps ?_)
    | with_reducible (refine icu_keeps ?_)
    | with_reducible (refine escalate_keeps ?_)
    | split
    | lift_lets
    | (fail_if_no_progress with_reducible refine Keeps.mk' ?_ rfl rfl rfl rfl))

theorem attributeTo_keeps {a0 a1} (h : Keeps s0 s) : Keeps s0 (attributeTo s a0 a1) := by
  delta attributeTo
  repeat' (first
    | with_reducible assumption
    | (refine fun (_ : Keeps _ _) => ?_)
    | (intro x; first | (refine Keeps.cut (s0 := s0) (x := x) ?_ ?_ <;> (first | (clear_value x; intro hx) | subst x)) | (subst x; try dsimp -zeta only))
    | with_reducible (refine wr_keeps ?_)
    | with_reducible (refine wrF_keeps ?_)
    | split
    | lift_lets
    | (fail_if_no_progress with_reducible refine Keeps.mk' ?_ rfl rfl rfl rfl))

theorem report_keeps {a0 a1 a2} (h : Keeps s0 s) : Keeps s0 (report s a0 a1 a2) := by
  delta report
  repeat' (first
    | with_reducible assumption
    | (refine fun (_ : Keeps _ _) => ?_)
    | (intro x; first | (refine Keeps.cut (s0 := s0) (x := x) ?_ ?_ <;> (first | (clear_value x; intro hx) | subst x)) | (subst x; try dsimp -zeta only))
    | with_reducible (refine attributeTo_keeps ?_)
    | with_reducible (refine errSet_keeps ?_)
    | with_reducible (refine fltReport_keeps ?_)
    | with_reducible (refine icu_keeps ?_)
    | split
    | lift_lets
    | (fail_if_no_progress with_reducible refine Keeps.mk' ?_ rfl rfl rfl rfl))

theorem handled_keeps {a0 a1} (h : Keeps s0 s) : Keeps s0 (handled s a0 a1) := by
  delta handled
  repeat' (first
    | with_reducible assumption
    | (refine fun (_ : Keeps _ _) => ?_)
    | (intro x; first | (refine Keeps.cut (s0 := s0) (x := x) ?_ ?_ <;> (first | (clear_value x; intro hx) | subst x)) | (subst x; try dsimp -zeta only))
    | split
    | lift_lets
    | (fail_if_no_progress with_reducible refine Keeps.mk' ?_ rfl rfl rfl rfl))

theorem errDrop_keeps {a0 a1} (h : Keeps s0 s) : Keeps s0 (errDrop s a0 a1) := by
  delta errDrop
  repeat' (first
    | with_reducible assumption
    | (refine fun (_ : Keeps _ _) => ?_)
    | (intro x; first | (refine Keeps.cut (s0 := s0) (x := x) ?_ ?_ <;> (first | (clear_value x; intro hx) | subst x)) | (subst x; try dsimp -zeta only))
    | with_reducible (refine wr_keeps ?_)
    | with_reducible (refine handled_keeps ?_)
    | split
    | lift_lets
    | (fail_if_no_progress with_reducible refine Keeps.mk' ?_ rfl rfl rfl rfl))

theorem accessErr_keeps {a0} (h : Keeps s0 s) : Keeps s0 (accessErr s a0) := by
  delta accessErr
  repeat' (first
    | with_reducible assumption
    | (refine fun (_ : Keeps _ _) => ?_)
    | (intro x; first | (refine Keeps.cut (s0 := s0) (x := x) ?_ ?_ <;> (first | (clear_value x; intro hx) | subst x)) | (subst x; try dsimp -zeta only))
    | with_reducible (refine report_keeps ?_)
    | split
    | lift_lets
    | (fail_if_no_progress with_reducible refine Keeps.mk' ?_ rfl rfl rfl rfl))

theorem traceFreezeNow_keeps (h : Keeps s0 s) : Keeps s0 (traceFreezeNow s) := by
  delta traceFreezeNow
  repeat' (first
    | with_reducible assumption
    | (refine fun (_ : Keeps _ _) => ?_)
    | (intro x; first | (refine Keeps.cut (s0 := s0) (x := x) ?_ ?_ <;> (first | (clear_value x; intro hx) | subst x)) | (subst x; try dsimp -zeta only))
    | with_reducible (refine icu_keeps ?_)
    | split
    | lift_lets
    | (fail_if_no_progress with_reducible refine Keeps.mk' ?_ rfl rfl rfl rfl))

theorem trace_keeps {a0 a1 a2} (h : Keeps s0 s) : Keeps s0 (trace s a0 a1 a2) := by
  delta trace
  repeat' (first
    | with_reducible assumption
    | (refine fun (_ : Keeps _ _) => ?_)
    | (intro x; first | (refine Keeps.cut (s0 := s0) (x := x) ?_ ?_ <;> (first | (clear_value x; intro hx) | subst x)) | (subst x; try dsimp -zeta only))
    | with_reducible (refine traceFreezeNow_keeps ?_)
    | split
    | lift_lets
    | (fail_if_no_progress with_reducible refine Keeps.mk' ?_ rfl rfl rfl rfl))

theorem traceTrigger_keeps (h : Keeps s0 s) : Keeps s0 (traceTrigger s) := by
  delta traceTrigger
  repeat' (first
    | with_reducible assumption
    | (refine fun (_ : Keeps _ _) => ?_)
    | (intro x; first | (refine Keeps.cut (s0 := s0) (x := x) ?_ ?_ <;> (first | (clear_value x; intro hx) | subst x)) | (subst x; try dsimp -zeta only))
    | with_reducible (refine traceFreezeNow_keeps ?_)
    | split
    | lift_lets
    | (fail_if_no_progress with_reducible refine Keeps.mk' ?_ rfl rfl rfl rfl))

theorem startOn_keeps {a0} (h : Keeps s0 s) : Keeps s0 (startOn s a0) := by
  unfold startOn
  dsimp only
  split
  · exact setDom_keeps h fun hc => dom_le hc a0
  · exact setDom_keeps h fun hc => dom_le hc a0

theorem startOff_keeps {a0} (h : Keeps s0 s) : Keeps s0 (startOff s a0) := by
  unfold startOff
  dsimp only
  split
  · exact setDom_keeps h fun hc => Nat.le_trans (Nat.sub_le _ 1) (dom_le hc a0)
  · have k : Keeps s0 (setDom s a0 { domOf s a0 with deferred := true, latched := none }) :=
      setDom_keeps h fun hc => dom_le hc a0
    split
    · exact k
    · exact icu_keeps (trace_keeps (addSat_keeps k))

theorem domReq_keeps {a0 a1} (h : Keeps s0 s) : Keeps s0 (domReq s a0 a1) := by
  unfold domReq
  dsimp only
  split
  · exact startOn_keeps h
  · exact setDom_keeps h fun hc => dom_le hc a0
  · exact setDom_keeps h fun hc => dom_le hc a0
  · exact startOff_keeps h
  · exact setDom_keeps h fun hc => dom_le hc a0

theorem applyPower_keeps {a0} (h : Keeps s0 s) : Keeps s0 (applyPower s a0) := by
  delta applyPower
  repeat' (first
    | with_reducible assumption
    | (refine fun (_ : Keeps _ _) => ?_)
    | (intro x; first | (refine Keeps.cut (s0 := s0) (x := x) ?_ ?_ <;> (first | (clear_value x; intro hx) | subst x)) | (subst x; try dsimp -zeta only))
    | with_reducible (refine domReq_keeps ?_)
    | with_reducible (refine forEach_keeps ?_ fun s a hs => ?_)
    | split
    | lift_lets
    | (fail_if_no_progress with_reducible refine Keeps.mk' ?_ rfl rfl rfl rfl))

theorem startWaiting_keeps (h : Keeps s0 s) : Keeps s0 (startWaiting s) := by
  delta startWaiting
  repeat' (first
    | with_reducible assumption
    | (refine fun (_ : Keeps _ _) => ?_)
    | (intro x; first | (refine Keeps.cut (s0 := s0) (x := x) ?_ ?_ <;> (first | (clear_value x; intro hx) | subst x)) | (subst x; try dsimp -zeta only))
    | with_reducible (refine startOn_keeps ?_)
    | split
    | lift_lets
    | (fail_if_no_progress with_reducible refine Keeps.mk' ?_ rfl rfl rfl rfl))

theorem histAdd_keeps {a0 a1} (h : Keeps s0 s) : Keeps s0 (histAdd s a0 a1) := by
  delta histAdd
  repeat' (first
    | with_reducible assumption
    | (refine fun (_ : Keeps _ _) => ?_)
    | (intro x; first | (refine Keeps.cut (s0 := s0) (x := x) ?_ ?_ <;> (first | (clear_value x; intro hx) | subst x)) | (subst x; try dsimp -zeta only))
    | split
    | lift_lets
    | (fail_if_no_progress with_reducible refine Keeps.mk' ?_ rfl rfl rfl rfl))

theorem extreme_keeps {a0 a1 a2} (h : Keeps s0 s) : Keeps s0 (extreme s a0 a1 a2) := by
  delta extreme
  repeat' (first
    | with_reducible assumption
    | (refine fun (_ : Keeps _ _) => ?_)
    | (intro x; first | (refine Keeps.cut (s0 := s0) (x := x) ?_ ?_ <;> (first | (clear_value x; intro hx) | subst x)) | (subst x; try dsimp -zeta only))
    | split
    | lift_lets
    | (fail_if_no_progress with_reducible refine Keeps.mk' ?_ rfl rfl rfl rfl))

theorem setClient_keeps {a0 a1} (h : Keeps s0 s) : Keeps s0 (setClient s a0 a1) := by
  delta setClient
  repeat' (first
    | with_reducible assumption
    | (refine fun (_ : Keeps _ _) => ?_)
    | (intro x; first | (refine Keeps.cut (s0 := s0) (x := x) ?_ ?_ <;> (first | (clear_value x; intro hx) | subst x)) | (subst x; try dsimp -zeta only))
    | split
    | lift_lets
    | (fail_if_no_progress with_reducible refine Keeps.mk' ?_ rfl rfl rfl rfl))

theorem updateScale_keeps (h : Keeps s0 s) : Keeps s0 (updateScale s) := by
  delta updateScale
  repeat' (first
    | with_reducible assumption
    | (refine fun (_ : Keeps _ _) => ?_)
    | (intro x; first | (refine Keeps.cut (s0 := s0) (x := x) ?_ ?_ <;> (first | (clear_value x; intro hx) | subst x)) | (subst x; try dsimp -zeta only))
    | with_reducible (refine icu_keeps ?_)
    | with_reducible (refine wr_keeps ?_)
    | with_reducible (refine report_keeps ?_)
    | split
    | lift_lets
    | (fail_if_no_progress with_reducible refine Keeps.mk' ?_ rfl rfl rfl rfl))

theorem noteFree_keeps (h : Keeps s0 s) : Keeps s0 (noteFree s) := by
  delta noteFree
  repeat' (first
    | with_reducible assumption
    | (refine fun (_ : Keeps _ _) => ?_)
    | (intro x; first | (refine Keeps.cut (s0 := s0) (x := x) ?_ ?_ <;> (first | (clear_value x; intro hx) | subst x)) | (subst x; try dsimp -zeta only))
    | with_reducible (refine extreme_keeps ?_)
    | with_reducible (refine icu_keeps ?_)
    | split
    | lift_lets
    | (fail_if_no_progress with_reducible refine Keeps.mk' ?_ rfl rfl rfl rfl))

theorem takeBuffers_keeps {a0 a1} (h : Keeps s0 s) : Keeps s0 (takeBuffers s a0 a1) := by
  delta takeBuffers
  repeat' (first
    | with_reducible assumption
    | (refine fun (_ : Keeps _ _) => ?_)
    | (intro x; first | (refine Keeps.cut (s0 := s0) (x := x) ?_ ?_ <;> (first | (clear_value x; intro hx) | subst x)) | (subst x; try dsimp -zeta only))
    | with_reducible (refine setClient_keeps ?_)
    | with_reducible (refine noteFree_keeps ?_)
    | split
    | lift_lets
    | (fail_if_no_progress with_reducible refine Keeps.mk' ?_ rfl rfl rfl rfl))

theorem waitAtMax_keeps {a0} (h : Keeps s0 s) : Keeps s0 (waitAtMax s a0) := by
  delta waitAtMax
  repeat' (first
    | with_reducible assumption
    | (refine fun (_ : Keeps _ _) => ?_)
    | (intro x; first | (refine Keeps.cut (s0 := s0) (x := x) ?_ ?_ <;> (first | (clear_value x; intro hx) | subst x)) | (subst x; try dsimp -zeta only))
    | with_reducible (refine setClient_keeps ?_)
    | with_reducible (refine icu_keeps ?_)
    | split
    | lift_lets
    | (fail_if_no_progress with_reducible refine Keeps.mk' ?_ rfl rfl rfl rfl))

theorem releaseBuffers_keeps {a0 a1} (h : Keeps s0 s) : Keeps s0 (releaseBuffers s a0 a1) := by
  delta releaseBuffers
  repeat' (first
    | with_reducible assumption
    | (refine fun (_ : Keeps _ _) => ?_)
    | (intro x; first | (refine Keeps.cut (s0 := s0) (x := x) ?_ ?_ <;> (first | (clear_value x; intro hx) | subst x)) | (subst x; try dsimp -zeta only))
    | with_reducible (refine setClient_keeps ?_)
    | split
    | lift_lets
    | (fail_if_no_progress with_reducible refine Keeps.mk' ?_ rfl rfl rfl rfl))

theorem poolHem_keeps (h : Keeps s0 s) : Keeps s0 (poolHem s) := by
  delta poolHem
  repeat' (first
    | with_reducible assumption
    | (refine fun (_ : Keeps _ _) => ?_)
    | (intro x; first | (refine Keeps.cut (s0 := s0) (x := x) ?_ ?_ <;> (first | (clear_value x; intro hx) | subst x)) | (subst x; try dsimp -zeta only))
    | with_reducible (refine setClient_keeps ?_)
    | with_reducible (refine forEach_keeps ?_ fun s a hs => ?_)
    | split
    | lift_lets
    | (fail_if_no_progress with_reducible refine Keeps.mk' ?_ rfl rfl rfl rfl))

theorem poolNormal_keeps (h : Keeps s0 s) : Keeps s0 (poolNormal s) := by
  delta poolNormal
  repeat' (first
    | with_reducible assumption
    | (refine fun (_ : Keeps _ _) => ?_)
    | (intro x; first | (refine Keeps.cut (s0 := s0) (x := x) ?_ ?_ <;> (first | (clear_value x; intro hx) | subst x)) | (subst x; try dsimp -zeta only))
    | with_reducible (refine setClient_keeps ?_)
    | with_reducible (refine forEach_keeps ?_ fun s a hs => ?_)
    | split
    | lift_lets
    | (fail_if_no_progress with_reducible refine Keeps.mk' ?_ rfl rfl rfl rfl))

theorem poolLost_keeps (h : Keeps s0 s) : Keeps s0 (poolLost s) := by
  delta poolLost
  repeat' (first
    | with_reducible assumption
    | (refine fun (_ : Keeps _ _) => ?_)
    | (intro x; first | (refine Keeps.cut (s0 := s0) (x := x) ?_ ?_ <;> (first | (clear_value x; intro hx) | subst x)) | (subst x; try dsimp -zeta only))
    | split
    | lift_lets
    | (fail_if_no_progress with_reducible refine Keeps.mk' ?_ rfl rfl rfl rfl))

theorem railEnable_keeps {a0} (h : Keeps s0 s) : Keeps s0 (railEnable s a0) := by
  delta railEnable
  repeat' (first
    | with_reducible assumption
    | (refine fun (_ : Keeps _ _) => ?_)
    | (intro x; first | (refine Keeps.cut (s0 := s0) (x := x) ?_ ?_ <;> (first | (clear_value x; intro hx) | subst x)) | (subst x; try dsimp -zeta only))
    | with_reducible (refine trace_keeps ?_)
    | with_reducible (refine setRail_keeps ?_)
    | split
    | lift_lets
    | (fail_if_no_progress with_reducible refine Keeps.mk' ?_ rfl rfl rfl rfl))

theorem setRst_keeps {a0 a1} (h : Keeps s0 s) : Keeps s0 (setRst s a0 a1) := by
  delta setRst
  repeat' (first
    | with_reducible assumption
    | (refine fun (_ : Keeps _ _) => ?_)
    | (intro x; first | (refine Keeps.cut (s0 := s0) (x := x) ?_ ?_ <;> (first | (clear_value x; intro hx) | subst x)) | (subst x; try dsimp -zeta only))
    | with_reducible (refine trace_keeps ?_)
    | split
    | lift_lets
    | (fail_if_no_progress with_reducible refine Keeps.mk' ?_ rfl rfl rfl rfl))

theorem railRelease_keeps {a0} (h : Keeps s0 s) : Keeps s0 (railRelease s a0) := by
  delta railRelease
  repeat' (first
    | with_reducible assumption
    | (refine fun (_ : Keeps _ _) => ?_)
    | (intro x; first | (refine Keeps.cut (s0 := s0) (x := x) ?_ ?_ <;> (first | (clear_value x; intro hx) | subst x)) | (subst x; try dsimp -zeta only))
    | with_reducible (refine setRst_keeps ?_)
    | with_reducible (refine trace_keeps ?_)
    | with_reducible (refine setRail_keeps ?_)
    | split
    | lift_lets
    | (fail_if_no_progress with_reducible refine Keeps.mk' ?_ rfl rfl rfl rfl))

theorem railPg_keeps {a0 a1} (h : Keeps s0 s) : Keeps s0 (railPg s a0 a1) := by
  delta railPg
  repeat' (first
    | with_reducible assumption
    | (refine fun (_ : Keeps _ _) => ?_)
    | (intro x; first | (refine Keeps.cut (s0 := s0) (x := x) ?_ ?_ <;> (first | (clear_value x; intro hx) | subst x)) | (subst x; try dsimp -zeta only))
    | with_reducible (refine trace_keeps ?_)
    | with_reducible (refine setRail_keeps ?_)
    | split
    | lift_lets
    | (fail_if_no_progress with_reducible refine Keeps.mk' ?_ rfl rfl rfl rfl))

theorem updateHold_keeps (h : Keeps s0 s) : Keeps s0 (updateHold s) := by
  delta updateHold
  repeat' (first
    | with_reducible assumption
    | (refine fun (_ : Keeps _ _) => ?_)
    | (intro x; first | (refine Keeps.cut (s0 := s0) (x := x) ?_ ?_ <;> (first | (clear_value x; intro hx) | subst x)) | (subst x; try dsimp -zeta only))
    | with_reducible (refine setRail_keeps ?_)
    | with_reducible (refine trace_keeps ?_)
    | split
    | lift_lets
    | (fail_if_no_progress with_reducible refine Keeps.mk' ?_ rfl rfl rfl rfl))

theorem driveFault_keeps {a0} (h : Keeps s0 s) : Keeps s0 (driveFault s a0) := by
  delta driveFault
  repeat' (first
    | with_reducible assumption
    | (refine fun (_ : Keeps _ _) => ?_)
    | (intro x; first | (refine Keeps.cut (s0 := s0) (x := x) ?_ ?_ <;> (first | (clear_value x; intro hx) | subst x)) | (subst x; try dsimp -zeta only))
    | with_reducible (refine icu_keeps ?_)
    | with_reducible (refine trace_keeps ?_)
    | split
    | lift_lets
    | (fail_if_no_progress with_reducible refine Keeps.mk' ?_ rfl rfl rfl rfl))

theorem traceReq_keeps {a0 a1} (h : Keeps s0 s) : Keeps s0 (traceReq s a0 a1) := by
  delta traceReq
  repeat' (first
    | with_reducible assumption
    | (refine fun (_ : Keeps _ _) => ?_)
    | (intro x; first | (refine Keeps.cut (s0 := s0) (x := x) ?_ ?_ <;> (first | (clear_value x; intro hx) | subst x)) | (subst x; try dsimp -zeta only))
    | with_reducible (refine trace_keeps ?_)
    | split
    | lift_lets
    | (fail_if_no_progress with_reducible refine Keeps.mk' ?_ rfl rfl rfl rfl))

theorem recomputeLevel_keeps (h : Keeps s0 s) : Keeps s0 (recomputeLevel s) := by
  delta recomputeLevel
  repeat' (first
    | with_reducible assumption
    | (refine fun (_ : Keeps _ _) => ?_)
    | (intro x; first | (refine Keeps.cut (s0 := s0) (x := x) ?_ ?_ <;> (first | (clear_value x; intro hx) | subst x)) | (subst x; try dsimp -zeta only))
    | with_reducible (refine icu_keeps ?_)
    | split
    | lift_lets
    | (fail_if_no_progress with_reducible refine Keeps.mk' ?_ rfl rfl rfl rfl))

theorem integrate_keeps {a0} (h : Keeps s0 s) : Keeps s0 (integrate s a0) := by
  delta integrate
  repeat' (first
    | with_reducible assumption
    | (refine fun (_ : Keeps _ _) => ?_)
    | (intro x; first | (refine Keeps.cut (s0 := s0) (x := x) ?_ ?_ <;> (first | (clear_value x; intro hx) | subst x)) | (subst x; try dsimp -zeta only))
    | split
    | lift_lets
    | (fail_if_no_progress with_reducible refine Keeps.mk' ?_ rfl rfl rfl rfl))

theorem judgeEnergy_keeps (h : Keeps s0 s) : Keeps s0 (judgeEnergy s) := by
  delta judgeEnergy
  repeat' (first
    | with_reducible assumption
    | (refine fun (_ : Keeps _ _) => ?_)
    | (intro x; first | (refine Keeps.cut (s0 := s0) (x := x) ?_ ?_ <;> (first | (clear_value x; intro hx) | subst x)) | (subst x; try dsimp -zeta only))
    | with_reducible (refine extreme_keeps ?_)
    | with_reducible (refine recomputeLevel_keeps ?_)
    | with_reducible (refine icu_keeps ?_)
    | split
    | lift_lets
    | (fail_if_no_progress with_reducible refine Keeps.mk' ?_ rfl rfl rfl rfl))

theorem recomputeEnergy_keeps (h : Keeps s0 s) : Keeps s0 (recomputeEnergy s) := by
  delta recomputeEnergy
  repeat' (first
    | with_reducible assumption
    | (refine fun (_ : Keeps _ _) => ?_)
    | (intro x; first | (refine Keeps.cut (s0 := s0) (x := x) ?_ ?_ <;> (first | (clear_value x; intro hx) | subst x)) | (subst x; try dsimp -zeta only))
    | with_reducible (refine judgeEnergy_keeps ?_)
    | split
    | lift_lets
    | (fail_if_no_progress with_reducible refine Keeps.mk' ?_ rfl rfl rfl rfl))

theorem batScanFault_keeps {a0} (h : Keeps s0 s) : Keeps s0 (batScanFault s a0) := by
  delta batScanFault
  repeat' (first
    | with_reducible assumption
    | (refine fun (_ : Keeps _ _) => ?_)
    | (intro x; first | (refine Keeps.cut (s0 := s0) (x := x) ?_ ?_ <;> (first | (clear_value x; intro hx) | subst x)) | (subst x; try dsimp -zeta only))
    | with_reducible (refine judgeEnergy_keeps ?_)
    | with_reducible (refine report_keeps ?_)
    | split
    | lift_lets
    | (fail_if_no_progress with_reducible refine Keeps.mk' ?_ rfl rfl rfl rfl))

theorem tapCheck_keeps (h : Keeps s0 s) : Keeps s0 (tapCheck s) := by
  delta tapCheck
  repeat' (first
    | with_reducible assumption
    | (refine fun (_ : Keeps _ _) => ?_)
    | (intro x; first | (refine Keeps.cut (s0 := s0) (x := x) ?_ ?_ <;> (first | (clear_value x; intro hx) | subst x)) | (subst x; try dsimp -zeta only))
    | with_reducible (refine batScanFault_keeps ?_)
    | split
    | lift_lets
    | (fail_if_no_progress with_reducible refine Keeps.mk' ?_ rfl rfl rfl rfl))

theorem thermistorCheck_keeps (h : Keeps s0 s) : Keeps s0 (thermistorCheck s) := by
  delta thermistorCheck
  repeat' (first
    | with_reducible assumption
    | (refine fun (_ : Keeps _ _) => ?_)
    | (intro x; first | (refine Keeps.cut (s0 := s0) (x := x) ?_ ?_ <;> (first | (clear_value x; intro hx) | subst x)) | (subst x; try dsimp -zeta only))
    | with_reducible (refine extreme_keeps ?_)
    | with_reducible (refine batScanFault_keeps ?_)
    | split
    | lift_lets
    | (fail_if_no_progress with_reducible refine Keeps.mk' ?_ rfl rfl rfl rfl))

theorem setChgEn_keeps {a0} (h : Keeps s0 s) : Keeps s0 (setChgEn s a0) := by
  delta setChgEn
  repeat' (first
    | with_reducible assumption
    | (refine fun (_ : Keeps _ _) => ?_)
    | (intro x; first | (refine Keeps.cut (s0 := s0) (x := x) ?_ ?_ <;> (first | (clear_value x; intro hx) | subst x)) | (subst x; try dsimp -zeta only))
    | with_reducible (refine trace_keeps ?_)
    | with_reducible (refine setRail_keeps ?_)
    | with_reducible (refine icu_keeps ?_)
    | split
    | lift_lets
    | (fail_if_no_progress with_reducible refine Keeps.mk' ?_ rfl rfl rfl rfl))

theorem chargeControl_keeps (h : Keeps s0 s) : Keeps s0 (chargeControl s) := by
  delta chargeControl
  repeat' (first
    | with_reducible assumption
    | (refine fun (_ : Keeps _ _) => ?_)
    | (intro x; first | (refine Keeps.cut (s0 := s0) (x := x) ?_ ?_ <;> (first | (clear_value x; intro hx) | subst x)) | (subst x; try dsimp -zeta only))
    | with_reducible (refine setChgEn_keeps ?_)
    | split
    | lift_lets
    | (fail_if_no_progress with_reducible refine Keeps.mk' ?_ rfl rfl rfl rfl))

theorem endPause_keeps (h : Keeps s0 s) : Keeps s0 (endPause s) := by
  delta endPause
  repeat' (first
    | with_reducible assumption
    | (refine fun (_ : Keeps _ _) => ?_)
    | (intro x; first | (refine Keeps.cut (s0 := s0) (x := x) ?_ ?_ <;> (first | (clear_value x; intro hx) | subst x)) | (subst x; try dsimp -zeta only))
    | with_reducible (refine icu_keeps ?_)
    | split
    | lift_lets
    | (fail_if_no_progress with_reducible refine Keeps.mk' ?_ rfl rfl rfl rfl))

theorem breakRest_keeps (h : Keeps s0 s) : Keeps s0 (breakRest s) := by
  delta breakRest
  repeat' (first
    | with_reducible assumption
    | (refine fun (_ : Keeps _ _) => ?_)
    | (intro x; first | (refine Keeps.cut (s0 := s0) (x := x) ?_ ?_ <;> (first | (clear_value x; intro hx) | subst x)) | (subst x; try dsimp -zeta only))
    | split
    | lift_lets
    | (fail_if_no_progress with_reducible refine Keeps.mk' ?_ rfl rfl rfl rfl))

theorem batHold_keeps (h : Keeps s0 s) : Keeps s0 (batHold s) := by
  delta batHold
  repeat' (first
    | with_reducible assumption
    | (refine fun (_ : Keeps _ _) => ?_)
    | (intro x; first | (refine Keeps.cut (s0 := s0) (x := x) ?_ ?_ <;> (first | (clear_value x; intro hx) | subst x)) | (subst x; try dsimp -zeta only))
    | with_reducible (refine breakRest_keeps ?_)
    | with_reducible (refine endPause_keeps ?_)
    | split
    | lift_lets
    | (fail_if_no_progress with_reducible refine Keeps.mk' ?_ rfl rfl rfl rfl))

theorem batInputLoss_keeps (h : Keeps s0 s) : Keeps s0 (batInputLoss s) := by
  delta batInputLoss
  repeat' (first
    | with_reducible assumption
    | (refine fun (_ : Keeps _ _) => ?_)
    | (intro x; first | (refine Keeps.cut (s0 := s0) (x := x) ?_ ?_ <;> (first | (clear_value x; intro hx) | subst x)) | (subst x; try dsimp -zeta only))
    | with_reducible (refine batHold_keeps ?_)
    | with_reducible (refine setChgEn_keeps ?_)
    | split
    | lift_lets
    | (fail_if_no_progress with_reducible refine Keeps.mk' ?_ rfl rfl rfl rfl))

theorem setWinWord_keeps {a0 a1 a2} (h : Keeps s0 s) : Keeps s0 (setWinWord s a0 a1 a2) := by
  delta setWinWord
  repeat' (first
    | with_reducible assumption
    | (refine fun (_ : Keeps _ _) => ?_)
    | (intro x; first | (refine Keeps.cut (s0 := s0) (x := x) ?_ ?_ <;> (first | (clear_value x; intro hx) | subst x)) | (subst x; try dsimp -zeta only))
    | split
    | lift_lets
    | (fail_if_no_progress with_reducible refine Keeps.mk' ?_ rfl rfl rfl rfl))

theorem setGrpWord_keeps {a0 a1 a2} (h : Keeps s0 s) : Keeps s0 (setGrpWord s a0 a1 a2) := by
  delta setGrpWord
  repeat' (first
    | with_reducible assumption
    | (refine fun (_ : Keeps _ _) => ?_)
    | (intro x; first | (refine Keeps.cut (s0 := s0) (x := x) ?_ ?_ <;> (first | (clear_value x; intro hx) | subst x)) | (subst x; try dsimp -zeta only))
    | split
    | lift_lets
    | (fail_if_no_progress with_reducible refine Keeps.mk' ?_ rfl rfl rfl rfl))

theorem setGrp_keeps {a0 a1} (h : Keeps s0 s) : Keeps s0 (setGrp s a0 a1) := by
  delta setGrp
  repeat' (first
    | with_reducible assumption
    | (refine fun (_ : Keeps _ _) => ?_)
    | (intro x; first | (refine Keeps.cut (s0 := s0) (x := x) ?_ ?_ <;> (first | (clear_value x; intro hx) | subst x)) | (subst x; try dsimp -zeta only))
    | split
    | lift_lets
    | (fail_if_no_progress with_reducible refine Keeps.mk' ?_ rfl rfl rfl rfl))

theorem setLd_keeps {a0 a1} (h : Keeps s0 s) : Keeps s0 (setLd s a0 a1) := by
  delta setLd
  repeat' (first
    | with_reducible assumption
    | (refine fun (_ : Keeps _ _) => ?_)
    | (intro x; first | (refine Keeps.cut (s0 := s0) (x := x) ?_ ?_ <;> (first | (clear_value x; intro hx) | subst x)) | (subst x; try dsimp -zeta only))
    | split
    | lift_lets
    | (fail_if_no_progress with_reducible refine Keeps.mk' ?_ rfl rfl rfl rfl))

theorem setPort_keeps {a0 a1} (h : Keeps s0 s) : Keeps s0 (setPort s a0 a1) := by
  delta setPort
  repeat' (first
    | with_reducible assumption
    | (refine fun (_ : Keeps _ _) => ?_)
    | (intro x; first | (refine Keeps.cut (s0 := s0) (x := x) ?_ ?_ <;> (first | (clear_value x; intro hx) | subst x)) | (subst x; try dsimp -zeta only))
    | split
    | lift_lets
    | (fail_if_no_progress with_reducible refine Keeps.mk' ?_ rfl rfl rfl rfl))

theorem setWin_keeps {a0 a1} (h : Keeps s0 s) : Keeps s0 (setWin s a0 a1) := by
  delta setWin
  repeat' (first
    | with_reducible assumption
    | (refine fun (_ : Keeps _ _) => ?_)
    | (intro x; first | (refine Keeps.cut (s0 := s0) (x := x) ?_ ?_ <;> (first | (clear_value x; intro hx) | subst x)) | (subst x; try dsimp -zeta only))
    | split
    | lift_lets
    | (fail_if_no_progress with_reducible refine Keeps.mk' ?_ rfl rfl rfl rfl))

theorem hlCount_keeps {a0 a1} (h : Keeps s0 s) : Keeps s0 (hlCount s a0 a1) := by
  delta hlCount
  repeat' (first
    | with_reducible assumption
    | (refine fun (_ : Keeps _ _) => ?_)
    | (intro x; first | (refine Keeps.cut (s0 := s0) (x := x) ?_ ?_ <;> (first | (clear_value x; intro hx) | subst x)) | (subst x; try dsimp -zeta only))
    | with_reducible (refine addSat_keeps ?_)
    | split
    | lift_lets
    | (fail_if_no_progress with_reducible refine Keeps.mk' ?_ rfl rfl rfl rfl))

theorem noteReasons_keeps (h : Keeps s0 s) : Keeps s0 (noteReasons s) := by
  delta noteReasons
  repeat' (first
    | with_reducible assumption
    | (refine fun (_ : Keeps _ _) => ?_)
    | (intro x; first | (refine Keeps.cut (s0 := s0) (x := x) ?_ ?_ <;> (first | (clear_value x; intro hx) | subst x)) | (subst x; try dsimp -zeta only))
    | with_reducible (refine icu_keeps ?_)
    | with_reducible (refine setWin_keeps ?_)
    | with_reducible (refine forEach_keeps ?_ fun s a hs => ?_)
    | split
    | lift_lets
    | (fail_if_no_progress with_reducible refine Keeps.mk' ?_ rfl rfl rfl rfl))

theorem postPace_keeps {a0 a1 a2} (h : Keeps s0 s) : Keeps s0 (postPace s a0 a1 a2) := by
  delta postPace
  repeat' (first
    | with_reducible assumption
    | (refine fun (_ : Keeps _ _) => ?_)
    | (intro x; first | (refine Keeps.cut (s0 := s0) (x := x) ?_ ?_ <;> (first | (clear_value x; intro hx) | subst x)) | (subst x; try dsimp -zeta only))
    | with_reducible (refine icu_keeps ?_)
    | with_reducible (refine setGrp_keeps ?_)
    | split
    | lift_lets
    | (fail_if_no_progress with_reducible refine Keeps.mk' ?_ rfl rfl rfl rfl))

theorem clearPace_keeps {a0 a1} (h : Keeps s0 s) : Keeps s0 (clearPace s a0 a1) := by
  delta clearPace
  repeat' (first
    | with_reducible assumption
    | (refine fun (_ : Keeps _ _) => ?_)
    | (intro x; first | (refine Keeps.cut (s0 := s0) (x := x) ?_ ?_ <;> (first | (clear_value x; intro hx) | subst x)) | (subst x; try dsimp -zeta only))
    | with_reducible (refine setGrp_keeps ?_)
    | split
    | lift_lets
    | (fail_if_no_progress with_reducible refine Keeps.mk' ?_ rfl rfl rfl rfl))

theorem retarget_keeps {a0} (h : Keeps s0 s) : Keeps s0 (retarget s a0) := by
  delta retarget
  repeat' (first
    | with_reducible assumption
    | (refine fun (_ : Keeps _ _) => ?_)
    | (intro x; first | (refine Keeps.cut (s0 := s0) (x := x) ?_ ?_ <;> (first | (clear_value x; intro hx) | subst x)) | (subst x; try dsimp -zeta only))
    | with_reducible (refine setGrp_keeps ?_)
    | split
    | lift_lets
    | (fail_if_no_progress with_reducible refine Keeps.mk' ?_ rfl rfl rfl rfl))

theorem updateRates_keeps {a0} (h : Keeps s0 s) : Keeps s0 (updateRates s a0) := by
  delta updateRates
  repeat' (first
    | with_reducible assumption
    | (refine fun (_ : Keeps _ _) => ?_)
    | (intro x; first | (refine Keeps.cut (s0 := s0) (x := x) ?_ ?_ <;> (first | (clear_value x; intro hx) | subst x)) | (subst x; try dsimp -zeta only))
    | with_reducible (refine retarget_keeps ?_)
    | with_reducible (refine setGrp_keeps ?_)
    | with_reducible (refine setWin_keeps ?_)
    | with_reducible (refine forEach_keeps ?_ fun s a hs => ?_)
    | split
    | lift_lets
    | (fail_if_no_progress with_reducible refine Keeps.mk' ?_ rfl rfl rfl rfl))

theorem enforce_keeps {a0 a1} (h : Keeps s0 s) : Keeps s0 (enforce s a0 a1) := by
  delta enforce
  repeat' (first
    | with_reducible assumption
    | (refine fun (_ : Keeps _ _) => ?_)
    | (intro x; first | (refine Keeps.cut (s0 := s0) (x := x) ?_ ?_ <;> (first | (clear_value x; intro hx) | subst x)) | (subst x; try dsimp -zeta only))
    | with_reducible (refine icu_keeps ?_)
    | with_reducible (refine updateRates_keeps ?_)
    | with_reducible (refine setGrp_keeps ?_)
    | split
    | lift_lets
    | (fail_if_no_progress with_reducible refine Keeps.mk' ?_ rfl rfl rfl rfl))

theorem thermalAsk_keeps {a0} (h : Keeps s0 s) : Keeps s0 (thermalAsk s a0) := by
  delta thermalAsk
  repeat' (first
    | with_reducible assumption
    | (refine fun (_ : Keeps _ _) => ?_)
    | (intro x; first | (refine Keeps.cut (s0 := s0) (x := x) ?_ ?_ <;> (first | (clear_value x; intro hx) | subst x)) | (subst x; try dsimp -zeta only))
    | with_reducible (refine postPace_keeps ?_)
    | with_reducible (refine enforce_keeps ?_)
    | split
    | lift_lets
    | (fail_if_no_progress with_reducible refine Keeps.mk' ?_ rfl rfl rfl rfl))

theorem thermalJoin_keeps {a0} (h : Keeps s0 s) : Keeps s0 (thermalJoin s a0) := by
  delta thermalJoin
  repeat' (first
    | with_reducible assumption
    | (refine fun (_ : Keeps _ _) => ?_)
    | (intro x; first | (refine Keeps.cut (s0 := s0) (x := x) ?_ ?_ <;> (first | (clear_value x; intro hx) | subst x)) | (subst x; try dsimp -zeta only))
    | with_reducible (refine thermalAsk_keeps ?_)
    | split
    | lift_lets
    | (fail_if_no_progress with_reducible refine Keeps.mk' ?_ rfl rfl rfl rfl))

theorem thermalClear_keeps (h : Keeps s0 s) : Keeps s0 (thermalClear s) := by
  delta thermalClear
  repeat' (first
    | with_reducible assumption
    | (refine fun (_ : Keeps _ _) => ?_)
    | (intro x; first | (refine Keeps.cut (s0 := s0) (x := x) ?_ ?_ <;> (first | (clear_value x; intro hx) | subst x)) | (subst x; try dsimp -zeta only))
    | with_reducible (refine updateRates_keeps ?_)
    | with_reducible (refine clearPace_keeps ?_)
    | with_reducible (refine forEach_keeps ?_ fun s a hs => ?_)
    | split
    | lift_lets
    | (fail_if_no_progress with_reducible refine Keeps.mk' ?_ rfl rfl rfl rfl))

theorem paceGroup_keeps {a0} (h : Keeps s0 s) : Keeps s0 (paceGroup s a0) := by
  delta paceGroup
  repeat' (first
    | with_reducible assumption
    | (refine fun (_ : Keeps _ _) => ?_)
    | (intro x; first | (refine Keeps.cut (s0 := s0) (x := x) ?_ ?_ <;> (first | (clear_value x; intro hx) | subst x)) | (subst x; try dsimp -zeta only))
    | with_reducible (refine updateRates_keeps ?_)
    | with_reducible (refine clearPace_keeps ?_)
    | with_reducible (refine postPace_keeps ?_)
    | with_reducible (refine enforce_keeps ?_)
    | with_reducible (refine forEach_keeps ?_ fun s a hs => ?_)
    | split
    | lift_lets
    | (fail_if_no_progress with_reducible refine Keeps.mk' ?_ rfl rfl rfl rfl))

theorem enforceGlobal_keeps (h : Keeps s0 s) : Keeps s0 (enforceGlobal s) := by
  delta enforceGlobal
  repeat' (first
    | with_reducible assumption
    | (refine fun (_ : Keeps _ _) => ?_)
    | (intro x; first | (refine Keeps.cut (s0 := s0) (x := x) ?_ ?_ <;> (first | (clear_value x; intro hx) | subst x)) | (subst x; try dsimp -zeta only))
    | with_reducible (refine enforce_keeps ?_)
    | with_reducible (refine forEach_keeps ?_ fun s a hs => ?_)
    | split
    | lift_lets
    | (fail_if_no_progress with_reducible refine Keeps.mk' ?_ rfl rfl rfl rfl))

theorem pace_keeps {a0} (h : Keeps s0 s) : Keeps s0 (pace s a0) := by
  delta pace
  repeat' (first
    | with_reducible assumption
    | (refine fun (_ : Keeps _ _) => ?_)
    | (intro x; first | (refine Keeps.cut (s0 := s0) (x := x) ?_ ?_ <;> (first | (clear_value x; intro hx) | subst x)) | (subst x; try dsimp -zeta only))
    | with_reducible (refine enforceGlobal_keeps ?_)
    | with_reducible (refine paceGroup_keeps ?_)
    | with_reducible (refine retarget_keeps ?_)
    | split
    | lift_lets
    | (fail_if_no_progress with_reducible refine Keeps.mk' ?_ rfl rfl rfl rfl))

theorem paceAll_keeps (h : Keeps s0 s) : Keeps s0 (paceAll s) := by
  delta paceAll
  repeat' (first
    | with_reducible assumption
    | (refine fun (_ : Keeps _ _) => ?_)
    | (intro x; first | (refine Keeps.cut (s0 := s0) (x := x) ?_ ?_ <;> (first | (clear_value x; intro hx) | subst x)) | (subst x; try dsimp -zeta only))
    | with_reducible (refine pace_keeps ?_)
    | with_reducible (refine forEach_keeps ?_ fun s a hs => ?_)
    | split
    | lift_lets
    | (fail_if_no_progress with_reducible refine Keeps.mk' ?_ rfl rfl rfl rfl))

theorem withdrawBudgets_keeps (h : Keeps s0 s) : Keeps s0 (withdrawBudgets s) := by
  delta withdrawBudgets
  repeat' (first
    | with_reducible assumption
    | (refine fun (_ : Keeps _ _) => ?_)
    | (intro x; first | (refine Keeps.cut (s0 := s0) (x := x) ?_ ?_ <;> (first | (clear_value x; intro hx) | subst x)) | (subst x; try dsimp -zeta only))
    | with_reducible (refine paceAll_keeps ?_)
    | split
    | lift_lets
    | (fail_if_no_progress with_reducible refine Keeps.mk' ?_ rfl rfl rfl rfl))

theorem budgetBelow_keeps {a0 a1} (h : Keeps s0 s) : Keeps s0 (budgetBelow s a0 a1) := by
  delta budgetBelow
  repeat' (first
    | with_reducible assumption
    | (refine fun (_ : Keeps _ _) => ?_)
    | (intro x; first | (refine Keeps.cut (s0 := s0) (x := x) ?_ ?_ <;> (first | (clear_value x; intro hx) | subst x)) | (subst x; try dsimp -zeta only))
    | with_reducible (refine icu_keeps ?_)
    | with_reducible (refine logged_keeps ?_)
    | with_reducible (refine enforce_keeps ?_)
    | with_reducible (refine postPace_keeps ?_)
    | split
    | lift_lets
    | (fail_if_no_progress with_reducible refine Keeps.mk' ?_ rfl rfl rfl rfl))

theorem recomputeBudget_keeps (h : Keeps s0 s) : Keeps s0 (recomputeBudget s) := by
  delta recomputeBudget
  repeat' (first
    | with_reducible assumption
    | (refine fun (_ : Keeps _ _) => ?_)
    | (intro x; first | (refine Keeps.cut (s0 := s0) (x := x) ?_ ?_ <;> (first | (clear_value x; intro hx) | subst x)) | (subst x; try dsimp -zeta only))
    | with_reducible (refine wr_keeps ?_)
    | with_reducible (refine extreme_keeps ?_)
    | with_reducible (refine icu_keeps ?_)
    | with_reducible (refine logged_keeps ?_)
    | with_reducible (refine enforce_keeps ?_)
    | with_reducible (refine postPace_keeps ?_)
    | with_reducible (refine paceAll_keeps ?_)
    | with_reducible (refine budgetBelow_keeps ?_)
    | with_reducible (refine forEach_keeps ?_ fun s a hs => ?_)
    | split
    | lift_lets
    | (fail_if_no_progress with_reducible refine Keeps.mk' ?_ rfl rfl rfl rfl))

theorem creditStop_keeps {a0} (h : Keeps s0 s) : Keeps s0 (creditStop s a0) := by
  delta creditStop
  repeat' (first
    | with_reducible assumption
    | (refine fun (_ : Keeps _ _) => ?_)
    | (intro x; first | (refine Keeps.cut (s0 := s0) (x := x) ?_ ?_ <;> (first | (clear_value x; intro hx) | subst x)) | (subst x; try dsimp -zeta only))
    | with_reducible (refine setPort_keeps ?_)
    | with_reducible (refine addWrap_keeps ?_)
    | with_reducible (refine icu_keeps ?_)
    | split
    | lift_lets
    | (fail_if_no_progress with_reducible refine Keeps.mk' ?_ rfl rfl rfl rfl))

theorem creditResume_keeps {a0} (h : Keeps s0 s) : Keeps s0 (creditResume s a0) := by
  delta creditResume
  repeat' (first
    | with_reducible assumption
    | (refine fun (_ : Keeps _ _) => ?_)
    | (intro x; first | (refine Keeps.cut (s0 := s0) (x := x) ?_ ?_ <;> (first | (clear_value x; intro hx) | subst x)) | (subst x; try dsimp -zeta only))
    | with_reducible (refine setPort_keeps ?_)
    | split
    | lift_lets
    | (fail_if_no_progress with_reducible refine Keeps.mk' ?_ rfl rfl rfl rfl))

theorem respond_keeps {a0 a1 a2 a3 a4} (h : Keeps s0 s) : Keeps s0 (respond s a0 a1 a2 a3 a4) := by
  delta respond
  repeat' (first
    | with_reducible assumption
    | (refine fun (_ : Keeps _ _) => ?_)
    | (intro x; first | (refine Keeps.cut (s0 := s0) (x := x) ?_ ?_ <;> (first | (clear_value x; intro hx) | subst x)) | (subst x; try dsimp -zeta only))
    | split
    | lift_lets
    | (fail_if_no_progress with_reducible refine Keeps.mk' ?_ rfl rfl rfl rfl))

theorem writeLine_keeps {a0 a1 a2} (h : Keeps s0 s) : Keeps s0 (writeLine s a0 a1 a2) :=
  Keeps.dram h fun hm => setList_wf (d := zeroByte) hm

theorem zeroRange_keeps {a0 a1} (h : Keeps s0 s) : Keeps s0 (zeroRange s a0 a1) :=
  Keeps.dram h fun hm => filter_wf (d := zeroByte) hm

theorem writePage_keeps {a0 a1} (h : Keeps s0 s) : Keeps s0 (writePage s a0 a1) := by
  have k : Keeps s0 (zeroRange s (4096 * a0) 4096) := zeroRange_keeps h
  exact Keeps.dram k fun hm => foldl_wf (d := zeroByte) hm

theorem freeBytes_keeps {a0} (h : Keeps s0 s) : Keeps s0 (freeBytes s a0).2 := by
  delta freeBytes
  repeat' (first
    | with_reducible assumption
    | (refine fun (_ : Keeps _ _) => ?_)
    | (intro x; first | (refine Keeps.cut (s0 := s0) (x := x) ?_ ?_ <;> (first | (clear_value x; intro hx) | subst x)) | (subst x; try dsimp -zeta only))
    | split
    | lift_lets
    | (fail_if_no_progress with_reducible refine Keeps.mk' ?_ rfl rfl rfl rfl))

theorem setDch_keeps {a0 a1} (h : Keeps s0 s) : Keeps s0 (setDch s a0 a1) := by
  delta setDch
  repeat' (first
    | with_reducible assumption
    | (refine fun (_ : Keeps _ _) => ?_)
    | (intro x; first | (refine Keeps.cut (s0 := s0) (x := x) ?_ ?_ <;> (first | (clear_value x; intro hx) | subst x)) | (subst x; try dsimp -zeta only))
    | split
    | lift_lets
    | (fail_if_no_progress with_reducible refine Keeps.mk' ?_ rfl rfl rfl rfl))

theorem offend_keeps {a0} (h : Keeps s0 s) : Keeps s0 (offend s a0) := by
  delta offend
  repeat' (first
    | with_reducible assumption
    | (refine fun (_ : Keeps _ _) => ?_)
    | (intro x; first | (refine Keeps.cut (s0 := s0) (x := x) ?_ ?_ <;> (first | (clear_value x; intro hx) | subst x)) | (subst x; try dsimp -zeta only))
    | with_reducible (refine icu_keeps ?_)
    | with_reducible (refine setWin_keeps ?_)
    | split
    | lift_lets
    | (fail_if_no_progress with_reducible refine Keeps.mk' ?_ rfl rfl rfl rfl))

theorem activate_keeps {a0 a1 a2} (h : Keeps s0 s) : Keeps s0 (activate s a0 a1 a2) := by
  delta activate
  repeat' (first
    | with_reducible assumption
    | (refine fun (_ : Keeps _ _) => ?_)
    | (intro x; first | (refine Keeps.cut (s0 := s0) (x := x) ?_ ?_ <;> (first | (clear_value x; intro hx) | subst x)) | (subst x; try dsimp -zeta only))
    | with_reducible (refine setDch_keeps ?_)
    | with_reducible (refine offend_keeps ?_)
    | split
    | lift_lets
    | (fail_if_no_progress with_reducible refine Keeps.mk' ?_ rfl rfl rfl rfl))

theorem activatePage_keeps {a0} (h : Keeps s0 s) : Keeps s0 (activatePage s a0) := by
  delta activatePage
  repeat' (first
    | with_reducible assumption
    | (refine fun (_ : Keeps _ _) => ?_)
    | (intro x; first | (refine Keeps.cut (s0 := s0) (x := x) ?_ ?_ <;> (first | (clear_value x; intro hx) | subst x)) | (subst x; try dsimp -zeta only))
    | with_reducible (refine activate_keeps ?_)
    | with_reducible (refine forEach_keeps ?_ fun s a hs => ?_)
    | split
    | lift_lets
    | (fail_if_no_progress with_reducible refine Keeps.mk' ?_ rfl rfl rfl rfl))

theorem enqueue_keeps {a0 a1 a2} (h : Keeps s0 s) : Keeps s0 (enqueue s a0 a1 a2) := by
  delta enqueue
  repeat' (first
    | with_reducible assumption
    | (refine fun (_ : Keeps _ _) => ?_)
    | (intro x; first | (refine Keeps.cut (s0 := s0) (x := x) ?_ ?_ <;> (first | (clear_value x; intro hx) | subst x)) | (subst x; try dsimp -zeta only))
    | with_reducible (refine takeBuffers_keeps ?_)
    | with_reducible (refine activate_keeps ?_)
    | with_reducible (refine setDch_keeps ?_)
    | split
    | lift_lets
    | (fail_if_no_progress with_reducible refine Keeps.mk' ?_ rfl rfl rfl rfl))

theorem hostRead_keeps {a0 a1 a2 a3} (h : Keeps s0 s) : Keeps s0 (hostRead s a0 a1 a2 a3) := by
  delta hostRead
  repeat' (first
    | with_reducible assumption
    | (refine fun (_ : Keeps _ _) => ?_)
    | (intro x; first | (refine Keeps.cut (s0 := s0) (x := x) ?_ ?_ <;> (first | (clear_value x; intro hx) | subst x)) | (subst x; try dsimp -zeta only))
    | with_reducible (refine respond_keeps ?_)
    | with_reducible (refine enqueue_keeps ?_)
    | split
    | lift_lets
    | (fail_if_no_progress with_reducible refine Keeps.mk' ?_ rfl rfl rfl rfl))

theorem hostWrite_keeps {a0 a1 a2 a3 a4 a5} (h : Keeps s0 s) : Keeps s0 (hostWrite s a0 a1 a2 a3 a4 a5) := by
  have k : Keeps s0 (writeLine s a2 a3 a4) := writeLine_keeps h
  unfold hostWrite
  generalize writeLine s a2 a3 a4 = t at k ⊢
  dsimp only
  cases dramPlace t a2 with
  | none => exact k
  | some e =>
    dsimp only
    split
    · exact setDch_keeps (releaseBuffers_keeps (takeBuffers_keeps k))
    · exact enqueue_keeps k

theorem retryPush_keeps {a0 a1 a2 a3} (h : Keeps s0 s) : Keeps s0 (retryPush s a0 a1 a2 a3) := by
  delta retryPush
  repeat' (first
    | with_reducible assumption
    | (refine fun (_ : Keeps _ _) => ?_)
    | (intro x; first | (refine Keeps.cut (s0 := s0) (x := x) ?_ ?_ <;> (first | (clear_value x; intro hx) | subst x)) | (subst x; try dsimp -zeta only))
    | with_reducible (refine setDch_keeps ?_)
    | with_reducible (refine releaseBuffers_keeps ?_)
    | split
    | lift_lets
    | (fail_if_no_progress with_reducible refine Keeps.mk' ?_ rfl rfl rfl rfl))

theorem dropAccess_keeps {a0 a1 a2} (h : Keeps s0 s) : Keeps s0 (dropAccess s a0 a1 a2) := by
  delta dropAccess
  repeat' (first
    | with_reducible assumption
    | (refine fun (_ : Keeps _ _) => ?_)
    | (intro x; first | (refine Keeps.cut (s0 := s0) (x := x) ?_ ?_ <;> (first | (clear_value x; intro hx) | subst x)) | (subst x; try dsimp -zeta only))
    | with_reducible (refine retryPush_keeps ?_)
    | with_reducible (refine setDch_keeps ?_)
    | split
    | lift_lets
    | (fail_if_no_progress with_reducible refine Keeps.mk' ?_ rfl rfl rfl rfl))

theorem clearQueues_keeps {a0} (h : Keeps s0 s) : Keeps s0 (clearQueues s a0) := by
  delta clearQueues
  repeat' (first
    | with_reducible assumption
    | (refine fun (_ : Keeps _ _) => ?_)
    | (intro x; first | (refine Keeps.cut (s0 := s0) (x := x) ?_ ?_ <;> (first | (clear_value x; intro hx) | subst x)) | (subst x; try dsimp -zeta only))
    | with_reducible (refine releaseBuffers_keeps ?_)
    | with_reducible (refine setDch_keeps ?_)
    | with_reducible (refine forEach_keeps ?_ fun s a hs => ?_)
    | split
    | lift_lets
    | (fail_if_no_progress with_reducible refine Keeps.mk' ?_ rfl rfl rfl rfl))

theorem mediaEvent_keeps {a0 a1} (h : Keeps s0 s) : Keeps s0 (mediaEvent s a0 a1) := by
  delta mediaEvent
  repeat' (first
    | with_reducible assumption
    | (refine fun (_ : Keeps _ _) => ?_)
    | (intro x; first | (refine Keeps.cut (s0 := s0) (x := x) ?_ ?_ <;> (first | (clear_value x; intro hx) | subst x)) | (subst x; try dsimp -zeta only))
    | with_reducible (refine setLd_keeps ?_)
    | split
    | lift_lets
    | (fail_if_no_progress with_reducible refine Keeps.mk' ?_ rfl rfl rfl rfl))

theorem corrected_keeps {a0 a1 a2} (h : Keeps s0 s) : Keeps s0 (corrected s a0 a1 a2) := by
  delta corrected
  repeat' (first
    | with_reducible assumption
    | (refine fun (_ : Keeps _ _) => ?_)
    | (intro x; first | (refine Keeps.cut (s0 := s0) (x := x) ?_ ?_ <;> (first | (clear_value x; intro hx) | subst x)) | (subst x; try dsimp -zeta only))
    | with_reducible (refine report_keeps ?_)
    | with_reducible (refine setDch_keeps ?_)
    | with_reducible (refine logged_keeps ?_)
    | with_reducible (refine wrF_keeps ?_)
    | split
    | lift_lets
    | (fail_if_no_progress with_reducible refine Keeps.mk' ?_ rfl rfl rfl rfl))

theorem uncorrectable_keeps {a0 a1} (h : Keeps s0 s) : Keeps s0 (uncorrectable s a0 a1) := by
  delta uncorrectable
  repeat' (first
    | with_reducible assumption
    | (refine fun (_ : Keeps _ _) => ?_)
    | (intro x; first | (refine Keeps.cut (s0 := s0) (x := x) ?_ ?_ <;> (first | (clear_value x; intro hx) | subst x)) | (subst x; try dsimp -zeta only))
    | with_reducible (refine wr_keeps ?_)
    | with_reducible (refine report_keeps ?_)
    | with_reducible (refine setDch_keeps ?_)
    | split
    | lift_lets
    | (fail_if_no_progress with_reducible refine Keeps.mk' ?_ rfl rfl rfl rfl))

theorem setDebt_keeps {a0 a1 a2} (h : Keeps s0 s) : Keeps s0 (setDebt s a0 a1 a2) := by
  delta setDebt
  repeat' (first
    | with_reducible assumption
    | (refine fun (_ : Keeps _ _) => ?_)
    | (intro x; first | (refine Keeps.cut (s0 := s0) (x := x) ?_ ?_ <;> (first | (clear_value x; intro hx) | subst x)) | (subst x; try dsimp -zeta only))
    | with_reducible (refine wrF_keeps ?_)
    | split
    | lift_lets
    | (fail_if_no_progress with_reducible refine Keeps.mk' ?_ rfl rfl rfl rfl))

theorem refreshRaa_keeps {a0 a1} (h : Keeps s0 s) : Keeps s0 (refreshRaa s a0 a1) := by
  delta refreshRaa
  repeat' (first
    | with_reducible assumption
    | (refine fun (_ : Keeps _ _) => ?_)
    | (intro x; first | (refine Keeps.cut (s0 := s0) (x := x) ?_ ?_ <;> (first | (clear_value x; intro hx) | subst x)) | (subst x; try dsimp -zeta only))
    | with_reducible (refine setDch_keeps ?_)
    | split
    | lift_lets
    | (fail_if_no_progress with_reducible refine Keeps.mk' ?_ rfl rfl rfl rfl))

theorem updateRegime_keeps {a0} (h : Keeps s0 s) : Keeps s0 (updateRegime s a0) := by
  delta updateRegime
  repeat' (first
    | with_reducible assumption
    | (refine fun (_ : Keeps _ _) => ?_)
    | (intro x; first | (refine Keeps.cut (s0 := s0) (x := x) ?_ ?_ <;> (first | (clear_value x; intro hx) | subst x)) | (subst x; try dsimp -zeta only))
    | with_reducible (refine setDebt_keeps ?_)
    | with_reducible (refine icu_keeps ?_)
    | with_reducible (refine wrB_keeps ?_)
    | split
    | lift_lets
    | (fail_if_no_progress with_reducible refine Keeps.mk' ?_ rfl rfl rfl rfl))

theorem updateTset_keeps {a0} (h : Keeps s0 s) : Keeps s0 (updateTset s a0) := by
  delta updateTset
  repeat' (first
    | with_reducible assumption
    | (refine fun (_ : Keeps _ _) => ?_)
    | (intro x; first | (refine Keeps.cut (s0 := s0) (x := x) ?_ ?_ <;> (first | (clear_value x; intro hx) | subst x)) | (subst x; try dsimp -zeta only))
    | with_reducible (refine wrB_keeps ?_)
    | with_reducible (refine setDebt_keeps ?_)
    | with_reducible (refine setDch_keeps ?_)
    | split
    | lift_lets
    | (fail_if_no_progress with_reducible refine Keeps.mk' ?_ rfl rfl rfl rfl))

theorem tsetDone_keeps {a0 a1} (h : Keeps s0 s) : Keeps s0 (tsetDone s a0 a1) := by
  delta tsetDone
  repeat' (first
    | with_reducible assumption
    | (refine fun (_ : Keeps _ _) => ?_)
    | (intro x; first | (refine Keeps.cut (s0 := s0) (x := x) ?_ ?_ <;> (first | (clear_value x; intro hx) | subst x)) | (subst x; try dsimp -zeta only))
    | with_reducible (refine setDch_keeps ?_)
    | with_reducible (refine wrB_keeps ?_)
    | with_reducible (refine addWrap_keeps ?_)
    | with_reducible (refine wr_keeps ?_)
    | with_reducible (refine updateTset_keeps ?_)
    | with_reducible (refine icu_keeps ?_)
    | split
    | lift_lets
    | (fail_if_no_progress with_reducible refine Keeps.mk' ?_ rfl rfl rfl rfl))

theorem hemTset_keeps {a0 a1} (h : Keeps s0 s) : Keeps s0 (hemTset s a0 a1) := by
  delta hemTset
  repeat' (first
    | with_reducible assumption
    | (refine fun (_ : Keeps _ _) => ?_)
    | (intro x; first | (refine Keeps.cut (s0 := s0) (x := x) ?_ ?_ <;> (first | (clear_value x; intro hx) | subst x)) | (subst x; try dsimp -zeta only))
    | with_reducible (refine updateTset_keeps ?_)
    | with_reducible (refine setDch_keeps ?_)
    | split
    | lift_lets
    | (fail_if_no_progress with_reducible refine Keeps.mk' ?_ rfl rfl rfl rfl))

theorem fixLining_keeps (h : Keeps s0 s) : Keeps s0 (fixLining s) := by
  delta fixLining
  repeat' (first
    | with_reducible assumption
    | (refine fun (_ : Keeps _ _) => ?_)
    | (intro x; first | (refine Keeps.cut (s0 := s0) (x := x) ?_ ?_ <;> (first | (clear_value x; intro hx) | subst x)) | (subst x; try dsimp -zeta only))
    | split
    | lift_lets
    | (fail_if_no_progress with_reducible refine Keeps.mk' ?_ rfl rfl rfl rfl))

theorem fixLayout_keeps (h : Keeps s0 s) : Keeps s0 (fixLayout s) := by
  delta fixLayout
  repeat' (first
    | with_reducible assumption
    | (refine fun (_ : Keeps _ _) => ?_)
    | (intro x; first | (refine Keeps.cut (s0 := s0) (x := x) ?_ ?_ <;> (first | (clear_value x; intro hx) | subst x)) | (subst x; try dsimp -zeta only))
    | with_reducible (refine logged_keeps ?_)
    | with_reducible (refine wr_keeps ?_)
    | split
    | lift_lets
    | (fail_if_no_progress with_reducible refine Keeps.mk' ?_ rfl rfl rfl rfl))

theorem startSweep_keeps {a0} (h : Keeps s0 s) : Keeps s0 (startSweep s a0) := by
  delta startSweep
  repeat' (first
    | with_reducible assumption
    | (refine fun (_ : Keeps _ _) => ?_)
    | (intro x; first | (refine Keeps.cut (s0 := s0) (x := x) ?_ ?_ <;> (first | (clear_value x; intro hx) | subst x)) | (subst x; try dsimp -zeta only))
    | with_reducible (refine wr_keeps ?_)
    | with_reducible (refine setDch_keeps ?_)
    | split
    | lift_lets
    | (fail_if_no_progress with_reducible refine Keeps.mk' ?_ rfl rfl rfl rfl))

end Sys2Proof.Machine
end

