-- ==== Sys2Proof/Laws/State.lean ====
section
/-! SUPPORT. One lemma for each field and each small update of State: what the update leaves alone. -/

namespace Sys2Proof.Machine

open Bits

variable {s : State}

@[simp] theorem wr_pending {a : Nat} {v : Word} : (wr s a v).pending = s.pending := rfl
@[simp] theorem wr_free {a : Nat} {v : Word} : (wr s a v).free = s.free := rfl
@[simp] theorem wr_mgmtRead {a : Nat} {v : Word} : (wr s a v).mgmtRead = s.mgmtRead := rfl
@[simp] theorem wr_sram {a : Nat} {v : Word} : (wr s a v).sram = s.sram := rfl
@[simp] theorem wr_doms {a : Nat} {v : Word} : (wr s a v).doms = s.doms := rfl
@[simp] theorem wr_fwLog {a : Nat} {v : Word} : (wr s a v).fwLog = s.fwLog := rfl
@[simp] theorem wr_resets {a : Nat} {v : Word} : (wr s a v).resets = s.resets := rfl
@[simp] theorem wr_flt {a : Nat} {v : Word} : (wr s a v).flt = s.flt := rfl
@[simp] theorem wr_icu {a : Nat} {v : Word} : (wr s a v).icu = s.icu := rfl
@[simp] theorem wr_cfl {a : Nat} {v : Word} : (wr s a v).cfl = s.cfl := rfl
@[simp] theorem wr_evr {a : Nat} {v : Word} : (wr s a v).evr = s.evr := rfl
@[simp] theorem wr_gen {a : Nat} {v : Word} : (wr s a v).gen = s.gen := rfl
@[simp] theorem wr_hl {a : Nat} {v : Word} : (wr s a v).hl = s.hl := rfl
@[simp] theorem wr_dram {a : Nat} {v : Word} : (wr s a v).dram = s.dram := rfl
@[simp] theorem wr_fst {a : Nat} {v : Word} : (wr s a v).fst = s.fst := rfl
@[simp] theorem wr_pool {a : Nat} {v : Word} : (wr s a v).pool = s.pool := rfl
@[simp] theorem wr_psq {a : Nat} {v : Word} : (wr s a v).psq = s.psq := rfl
@[simp] theorem wr_bat {a : Nat} {v : Word} : (wr s a v).bat = s.bat := rfl
@[simp] theorem wr_thm {a : Nat} {v : Word} : (wr s a v).thm = s.thm := rfl
@[simp] theorem wr_upd {a : Nat} {v : Word} : (wr s a v).upd = s.upd := rfl
@[simp] theorem wr_sb {a : Nat} {v : Word} : (wr s a v).sb = s.sb := rfl

@[simp] theorem wrF_pending {a l n v : Nat} : (wrF s a l n v).pending = s.pending := rfl
@[simp] theorem wrF_free {a l n v : Nat} : (wrF s a l n v).free = s.free := rfl
@[simp] theorem wrF_mgmtRead {a l n v : Nat} : (wrF s a l n v).mgmtRead = s.mgmtRead := rfl
@[simp] theorem wrF_sram {a l n v : Nat} : (wrF s a l n v).sram = s.sram := rfl
@[simp] theorem wrF_doms {a l n v : Nat} : (wrF s a l n v).doms = s.doms := rfl
@[simp] theorem wrF_fwLog {a l n v : Nat} : (wrF s a l n v).fwLog = s.fwLog := rfl
@[simp] theorem wrF_resets {a l n v : Nat} : (wrF s a l n v).resets = s.resets := rfl
@[simp] theorem wrF_flt {a l n v : Nat} : (wrF s a l n v).flt = s.flt := rfl
@[simp] theorem wrF_icu {a l n v : Nat} : (wrF s a l n v).icu = s.icu := rfl
@[simp] theorem wrF_cfl {a l n v : Nat} : (wrF s a l n v).cfl = s.cfl := rfl
@[simp] theorem wrF_evr {a l n v : Nat} : (wrF s a l n v).evr = s.evr := rfl
@[simp] theorem wrF_gen {a l n v : Nat} : (wrF s a l n v).gen = s.gen := rfl
@[simp] theorem wrF_hl {a l n v : Nat} : (wrF s a l n v).hl = s.hl := rfl
@[simp] theorem wrF_dram {a l n v : Nat} : (wrF s a l n v).dram = s.dram := rfl
@[simp] theorem wrF_fst {a l n v : Nat} : (wrF s a l n v).fst = s.fst := rfl
@[simp] theorem wrF_pool {a l n v : Nat} : (wrF s a l n v).pool = s.pool := rfl
@[simp] theorem wrF_psq {a l n v : Nat} : (wrF s a l n v).psq = s.psq := rfl
@[simp] theorem wrF_bat {a l n v : Nat} : (wrF s a l n v).bat = s.bat := rfl
@[simp] theorem wrF_thm {a l n v : Nat} : (wrF s a l n v).thm = s.thm := rfl
@[simp] theorem wrF_upd {a l n v : Nat} : (wrF s a l n v).upd = s.upd := rfl
@[simp] theorem wrF_sb {a l n v : Nat} : (wrF s a l n v).sb = s.sb := rfl

@[simp] theorem wrB_pending {a n : Nat} {b : Bool} : (wrB s a n b).pending = s.pending := rfl
@[simp] theorem wrB_free {a n : Nat} {b : Bool} : (wrB s a n b).free = s.free := rfl
@[simp] theorem wrB_mgmtRead {a n : Nat} {b : Bool} : (wrB s a n b).mgmtRead = s.mgmtRead := rfl
@[simp] theorem wrB_sram {a n : Nat} {b : Bool} : (wrB s a n b).sram = s.sram := rfl
@[simp] theorem wrB_doms {a n : Nat} {b : Bool} : (wrB s a n b).doms = s.doms := rfl
@[simp] theorem wrB_fwLog {a n : Nat} {b : Bool} : (wrB s a n b).fwLog = s.fwLog := rfl
@[simp] theorem wrB_resets {a n : Nat} {b : Bool} : (wrB s a n b).resets = s.resets := rfl
@[simp] theorem wrB_flt {a n : Nat} {b : Bool} : (wrB s a n b).flt = s.flt := rfl
@[simp] theorem wrB_icu {a n : Nat} {b : Bool} : (wrB s a n b).icu = s.icu := rfl
@[simp] theorem wrB_cfl {a n : Nat} {b : Bool} : (wrB s a n b).cfl = s.cfl := rfl
@[simp] theorem wrB_evr {a n : Nat} {b : Bool} : (wrB s a n b).evr = s.evr := rfl
@[simp] theorem wrB_gen {a n : Nat} {b : Bool} : (wrB s a n b).gen = s.gen := rfl
@[simp] theorem wrB_hl {a n : Nat} {b : Bool} : (wrB s a n b).hl = s.hl := rfl
@[simp] theorem wrB_dram {a n : Nat} {b : Bool} : (wrB s a n b).dram = s.dram := rfl
@[simp] theorem wrB_fst {a n : Nat} {b : Bool} : (wrB s a n b).fst = s.fst := rfl
@[simp] theorem wrB_pool {a n : Nat} {b : Bool} : (wrB s a n b).pool = s.pool := rfl
@[simp] theorem wrB_psq {a n : Nat} {b : Bool} : (wrB s a n b).psq = s.psq := rfl
@[simp] theorem wrB_bat {a n : Nat} {b : Bool} : (wrB s a n b).bat = s.bat := rfl
@[simp] theorem wrB_thm {a n : Nat} {b : Bool} : (wrB s a n b).thm = s.thm := rfl
@[simp] theorem wrB_upd {a n : Nat} {b : Bool} : (wrB s a n b).upd = s.upd := rfl
@[simp] theorem wrB_sb {a n : Nat} {b : Bool} : (wrB s a n b).sb = s.sb := rfl

@[simp] theorem addSat_pending {a l n k : Nat} : (addSat s a l n k).pending = s.pending := rfl
@[simp] theorem addSat_free {a l n k : Nat} : (addSat s a l n k).free = s.free := rfl
@[simp] theorem addSat_mgmtRead {a l n k : Nat} : (addSat s a l n k).mgmtRead = s.mgmtRead := rfl
@[simp] theorem addSat_sram {a l n k : Nat} : (addSat s a l n k).sram = s.sram := rfl
@[simp] theorem addSat_doms {a l n k : Nat} : (addSat s a l n k).doms = s.doms := rfl
@[simp] theorem addSat_fwLog {a l n k : Nat} : (addSat s a l n k).fwLog = s.fwLog := rfl
@[simp] theorem addSat_resets {a l n k : Nat} : (addSat s a l n k).resets = s.resets := rfl
@[simp] theorem addSat_flt {a l n k : Nat} : (addSat s a l n k).flt = s.flt := rfl
@[simp] theorem addSat_icu {a l n k : Nat} : (addSat s a l n k).icu = s.icu := rfl
@[simp] theorem addSat_cfl {a l n k : Nat} : (addSat s a l n k).cfl = s.cfl := rfl
@[simp] theorem addSat_evr {a l n k : Nat} : (addSat s a l n k).evr = s.evr := rfl
@[simp] theorem addSat_gen {a l n k : Nat} : (addSat s a l n k).gen = s.gen := rfl
@[simp] theorem addSat_hl {a l n k : Nat} : (addSat s a l n k).hl = s.hl := rfl
@[simp] theorem addSat_dram {a l n k : Nat} : (addSat s a l n k).dram = s.dram := rfl
@[simp] theorem addSat_fst {a l n k : Nat} : (addSat s a l n k).fst = s.fst := rfl
@[simp] theorem addSat_pool {a l n k : Nat} : (addSat s a l n k).pool = s.pool := rfl
@[simp] theorem addSat_psq {a l n k : Nat} : (addSat s a l n k).psq = s.psq := rfl
@[simp] theorem addSat_bat {a l n k : Nat} : (addSat s a l n k).bat = s.bat := rfl
@[simp] theorem addSat_thm {a l n k : Nat} : (addSat s a l n k).thm = s.thm := rfl
@[simp] theorem addSat_upd {a l n k : Nat} : (addSat s a l n k).upd = s.upd := rfl
@[simp] theorem addSat_sb {a l n k : Nat} : (addSat s a l n k).sb = s.sb := rfl

@[simp] theorem addWrap_pending {a l n k : Nat} : (addWrap s a l n k).pending = s.pending := rfl
@[simp] theorem addWrap_free {a l n k : Nat} : (addWrap s a l n k).free = s.free := rfl
@[simp] theorem addWrap_mgmtRead {a l n k : Nat} : (addWrap s a l n k).mgmtRead = s.mgmtRead := rfl
@[simp] theorem addWrap_sram {a l n k : Nat} : (addWrap s a l n k).sram = s.sram := rfl
@[simp] theorem addWrap_doms {a l n k : Nat} : (addWrap s a l n k).doms = s.doms := rfl
@[simp] theorem addWrap_fwLog {a l n k : Nat} : (addWrap s a l n k).fwLog = s.fwLog := rfl
@[simp] theorem addWrap_resets {a l n k : Nat} : (addWrap s a l n k).resets = s.resets := rfl
@[simp] theorem addWrap_flt {a l n k : Nat} : (addWrap s a l n k).flt = s.flt := rfl
@[simp] theorem addWrap_icu {a l n k : Nat} : (addWrap s a l n k).icu = s.icu := rfl
@[simp] theorem addWrap_cfl {a l n k : Nat} : (addWrap s a l n k).cfl = s.cfl := rfl
@[simp] theorem addWrap_evr {a l n k : Nat} : (addWrap s a l n k).evr = s.evr := rfl
@[simp] theorem addWrap_gen {a l n k : Nat} : (addWrap s a l n k).gen = s.gen := rfl
@[simp] theorem addWrap_hl {a l n k : Nat} : (addWrap s a l n k).hl = s.hl := rfl
@[simp] theorem addWrap_dram {a l n k : Nat} : (addWrap s a l n k).dram = s.dram := rfl
@[simp] theorem addWrap_fst {a l n k : Nat} : (addWrap s a l n k).fst = s.fst := rfl
@[simp] theorem addWrap_pool {a l n k : Nat} : (addWrap s a l n k).pool = s.pool := rfl
@[simp] theorem addWrap_psq {a l n k : Nat} : (addWrap s a l n k).psq = s.psq := rfl
@[simp] theorem addWrap_bat {a l n k : Nat} : (addWrap s a l n k).bat = s.bat := rfl
@[simp] theorem addWrap_thm {a l n k : Nat} : (addWrap s a l n k).thm = s.thm := rfl
@[simp] theorem addWrap_upd {a l n k : Nat} : (addWrap s a l n k).upd = s.upd := rfl
@[simp] theorem addWrap_sb {a l n k : Nat} : (addWrap s a l n k).sb = s.sb := rfl

@[simp] theorem setPending_pending {a : Nat} {b : Bool} : (setPending s a b).pending = s.pending := rfl
@[simp] theorem setPending_free {a : Nat} {b : Bool} : (setPending s a b).free = s.free := rfl
@[simp] theorem setPending_mgmtRead {a : Nat} {b : Bool} : (setPending s a b).mgmtRead = s.mgmtRead := rfl
@[simp] theorem setPending_sram {a : Nat} {b : Bool} : (setPending s a b).sram = s.sram := rfl
@[simp] theorem setPending_doms {a : Nat} {b : Bool} : (setPending s a b).doms = s.doms := rfl
@[simp] theorem setPending_fwLog {a : Nat} {b : Bool} : (setPending s a b).fwLog = s.fwLog := rfl
@[simp] theorem setPending_resets {a : Nat} {b : Bool} : (setPending s a b).resets = s.resets := rfl
@[simp] theorem setPending_flt {a : Nat} {b : Bool} : (setPending s a b).flt = s.flt := rfl
@[simp] theorem setPending_icu {a : Nat} {b : Bool} : (setPending s a b).icu = s.icu := rfl
@[simp] theorem setPending_cfl {a : Nat} {b : Bool} : (setPending s a b).cfl = s.cfl := rfl
@[simp] theorem setPending_evr {a : Nat} {b : Bool} : (setPending s a b).evr = s.evr := rfl
@[simp] theorem setPending_gen {a : Nat} {b : Bool} : (setPending s a b).gen = s.gen := rfl
@[simp] theorem setPending_hl {a : Nat} {b : Bool} : (setPending s a b).hl = s.hl := rfl
@[simp] theorem setPending_dram {a : Nat} {b : Bool} : (setPending s a b).dram = s.dram := rfl
@[simp] theorem setPending_fst {a : Nat} {b : Bool} : (setPending s a b).fst = s.fst := rfl
@[simp] theorem setPending_pool {a : Nat} {b : Bool} : (setPending s a b).pool = s.pool := rfl
@[simp] theorem setPending_psq {a : Nat} {b : Bool} : (setPending s a b).psq = s.psq := rfl
@[simp] theorem setPending_bat {a : Nat} {b : Bool} : (setPending s a b).bat = s.bat := rfl
@[simp] theorem setPending_thm {a : Nat} {b : Bool} : (setPending s a b).thm = s.thm := rfl
@[simp] theorem setPending_upd {a : Nat} {b : Bool} : (setPending s a b).upd = s.upd := rfl
@[simp] theorem setPending_sb {a : Nat} {b : Bool} : (setPending s a b).sb = s.sb := rfl

@[simp] theorem bumpLost_pending {a : Nat} : (bumpLost s a).pending = s.pending := rfl
@[simp] theorem bumpLost_free {a : Nat} : (bumpLost s a).free = s.free := rfl
@[simp] theorem bumpLost_mgmtRead {a : Nat} : (bumpLost s a).mgmtRead = s.mgmtRead := rfl
@[simp] theorem bumpLost_sram {a : Nat} : (bumpLost s a).sram = s.sram := rfl
@[simp] theorem bumpLost_doms {a : Nat} : (bumpLost s a).doms = s.doms := rfl
@[simp] theorem bumpLost_fwLog {a : Nat} : (bumpLost s a).fwLog = s.fwLog := rfl
@[simp] theorem bumpLost_resets {a : Nat} : (bumpLost s a).resets = s.resets := rfl
@[simp] theorem bumpLost_flt {a : Nat} : (bumpLost s a).flt = s.flt := rfl
@[simp] theorem bumpLost_icu {a : Nat} : (bumpLost s a).icu = s.icu := rfl
@[simp] theorem bumpLost_cfl {a : Nat} : (bumpLost s a).cfl = s.cfl := rfl
@[simp] theorem bumpLost_evr {a : Nat} : (bumpLost s a).evr = s.evr := rfl
@[simp] theorem bumpLost_gen {a : Nat} : (bumpLost s a).gen = s.gen := rfl
@[simp] theorem bumpLost_hl {a : Nat} : (bumpLost s a).hl = s.hl := rfl
@[simp] theorem bumpLost_dram {a : Nat} : (bumpLost s a).dram = s.dram := rfl
@[simp] theorem bumpLost_fst {a : Nat} : (bumpLost s a).fst = s.fst := rfl
@[simp] theorem bumpLost_pool {a : Nat} : (bumpLost s a).pool = s.pool := rfl
@[simp] theorem bumpLost_psq {a : Nat} : (bumpLost s a).psq = s.psq := rfl
@[simp] theorem bumpLost_bat {a : Nat} : (bumpLost s a).bat = s.bat := rfl
@[simp] theorem bumpLost_thm {a : Nat} : (bumpLost s a).thm = s.thm := rfl
@[simp] theorem bumpLost_upd {a : Nat} : (bumpLost s a).upd = s.upd := rfl
@[simp] theorem bumpLost_sb {a : Nat} : (bumpLost s a).sb = s.sb := rfl

@[simp] theorem setRail_regs {k : Nat} {r : Rail} : (setRail s k r).regs = s.regs := rfl
@[simp] theorem setRail_pending {k : Nat} {r : Rail} : (setRail s k r).pending = s.pending := rfl
@[simp] theorem setRail_free {k : Nat} {r : Rail} : (setRail s k r).free = s.free := rfl
@[simp] theorem setRail_mgmtRead {k : Nat} {r : Rail} : (setRail s k r).mgmtRead = s.mgmtRead := rfl
@[simp] theorem setRail_sram {k : Nat} {r : Rail} : (setRail s k r).sram = s.sram := rfl
@[simp] theorem setRail_doms {k : Nat} {r : Rail} : (setRail s k r).doms = s.doms := rfl
@[simp] theorem setRail_fwLog {k : Nat} {r : Rail} : (setRail s k r).fwLog = s.fwLog := rfl
@[simp] theorem setRail_resets {k : Nat} {r : Rail} : (setRail s k r).resets = s.resets := rfl
@[simp] theorem setRail_flt {k : Nat} {r : Rail} : (setRail s k r).flt = s.flt := rfl
@[simp] theorem setRail_icu {k : Nat} {r : Rail} : (setRail s k r).icu = s.icu := rfl
@[simp] theorem setRail_cfl {k : Nat} {r : Rail} : (setRail s k r).cfl = s.cfl := rfl
@[simp] theorem setRail_evr {k : Nat} {r : Rail} : (setRail s k r).evr = s.evr := rfl
@[simp] theorem setRail_gen {k : Nat} {r : Rail} : (setRail s k r).gen = s.gen := rfl
@[simp] theorem setRail_hl {k : Nat} {r : Rail} : (setRail s k r).hl = s.hl := rfl
@[simp] theorem setRail_dram {k : Nat} {r : Rail} : (setRail s k r).dram = s.dram := rfl
@[simp] theorem setRail_fst {k : Nat} {r : Rail} : (setRail s k r).fst = s.fst := rfl
@[simp] theorem setRail_pool {k : Nat} {r : Rail} : (setRail s k r).pool = s.pool := rfl
@[simp] theorem setRail_bat {k : Nat} {r : Rail} : (setRail s k r).bat = s.bat := rfl
@[simp] theorem setRail_thm {k : Nat} {r : Rail} : (setRail s k r).thm = s.thm := rfl
@[simp] theorem setRail_upd {k : Nat} {r : Rail} : (setRail s k r).upd = s.upd := rfl
@[simp] theorem setRail_sb {k : Nat} {r : Rail} : (setRail s k r).sb = s.sb := rfl

@[simp] theorem setDom_regs {d : Nat} {v : Dom} : (setDom s d v).regs = s.regs := rfl
@[simp] theorem setDom_pending {d : Nat} {v : Dom} : (setDom s d v).pending = s.pending := rfl
@[simp] theorem setDom_free {d : Nat} {v : Dom} : (setDom s d v).free = s.free := rfl
@[simp] theorem setDom_mgmtRead {d : Nat} {v : Dom} : (setDom s d v).mgmtRead = s.mgmtRead := rfl
@[simp] theorem setDom_sram {d : Nat} {v : Dom} : (setDom s d v).sram = s.sram := rfl
@[simp] theorem setDom_fwLog {d : Nat} {v : Dom} : (setDom s d v).fwLog = s.fwLog := rfl
@[simp] theorem setDom_resets {d : Nat} {v : Dom} : (setDom s d v).resets = s.resets := rfl
@[simp] theorem setDom_flt {d : Nat} {v : Dom} : (setDom s d v).flt = s.flt := rfl
@[simp] theorem setDom_icu {d : Nat} {v : Dom} : (setDom s d v).icu = s.icu := rfl
@[simp] theorem setDom_cfl {d : Nat} {v : Dom} : (setDom s d v).cfl = s.cfl := rfl
@[simp] theorem setDom_evr {d : Nat} {v : Dom} : (setDom s d v).evr = s.evr := rfl
@[simp] theorem setDom_gen {d : Nat} {v : Dom} : (setDom s d v).gen = s.gen := rfl
@[simp] theorem setDom_hl {d : Nat} {v : Dom} : (setDom s d v).hl = s.hl := rfl
@[simp] theorem setDom_dram {d : Nat} {v : Dom} : (setDom s d v).dram = s.dram := rfl
@[simp] theorem setDom_fst {d : Nat} {v : Dom} : (setDom s d v).fst = s.fst := rfl
@[simp] theorem setDom_pool {d : Nat} {v : Dom} : (setDom s d v).pool = s.pool := rfl
@[simp] theorem setDom_psq {d : Nat} {v : Dom} : (setDom s d v).psq = s.psq := rfl
@[simp] theorem setDom_bat {d : Nat} {v : Dom} : (setDom s d v).bat = s.bat := rfl
@[simp] theorem setDom_thm {d : Nat} {v : Dom} : (setDom s d v).thm = s.thm := rfl
@[simp] theorem setDom_upd {d : Nat} {v : Dom} : (setDom s d v).upd = s.upd := rfl
@[simp] theorem setDom_sb {d : Nat} {v : Dom} : (setDom s d v).sb = s.sb := rfl

@[simp] theorem setGrp_regs {g : Nat} {v : Group} : (setGrp s g v).regs = s.regs := rfl
@[simp] theorem setGrp_pending {g : Nat} {v : Group} : (setGrp s g v).pending = s.pending := rfl
@[simp] theorem setGrp_free {g : Nat} {v : Group} : (setGrp s g v).free = s.free := rfl
@[simp] theorem setGrp_mgmtRead {g : Nat} {v : Group} : (setGrp s g v).mgmtRead = s.mgmtRead := rfl
@[simp] theorem setGrp_sram {g : Nat} {v : Group} : (setGrp s g v).sram = s.sram := rfl
@[simp] theorem setGrp_doms {g : Nat} {v : Group} : (setGrp s g v).doms = s.doms := rfl
@[simp] theorem setGrp_fwLog {g : Nat} {v : Group} : (setGrp s g v).fwLog = s.fwLog := rfl
@[simp] theorem setGrp_resets {g : Nat} {v : Group} : (setGrp s g v).resets = s.resets := rfl
@[simp] theorem setGrp_flt {g : Nat} {v : Group} : (setGrp s g v).flt = s.flt := rfl
@[simp] theorem setGrp_icu {g : Nat} {v : Group} : (setGrp s g v).icu = s.icu := rfl
@[simp] theorem setGrp_cfl {g : Nat} {v : Group} : (setGrp s g v).cfl = s.cfl := rfl
@[simp] theorem setGrp_evr {g : Nat} {v : Group} : (setGrp s g v).evr = s.evr := rfl
@[simp] theorem setGrp_hl {g : Nat} {v : Group} : (setGrp s g v).hl = s.hl := rfl
@[simp] theorem setGrp_dram {g : Nat} {v : Group} : (setGrp s g v).dram = s.dram := rfl
@[simp] theorem setGrp_fst {g : Nat} {v : Group} : (setGrp s g v).fst = s.fst := rfl
@[simp] theorem setGrp_pool {g : Nat} {v : Group} : (setGrp s g v).pool = s.pool := rfl
@[simp] theorem setGrp_psq {g : Nat} {v : Group} : (setGrp s g v).psq = s.psq := rfl
@[simp] theorem setGrp_bat {g : Nat} {v : Group} : (setGrp s g v).bat = s.bat := rfl
@[simp] theorem setGrp_thm {g : Nat} {v : Group} : (setGrp s g v).thm = s.thm := rfl
@[simp] theorem setGrp_upd {g : Nat} {v : Group} : (setGrp s g v).upd = s.upd := rfl
@[simp] theorem setGrp_sb {g : Nat} {v : Group} : (setGrp s g v).sb = s.sb := rfl

@[simp] theorem setLd_regs {d : Nat} {v : Ld} : (setLd s d v).regs = s.regs := rfl
@[simp] theorem setLd_pending {d : Nat} {v : Ld} : (setLd s d v).pending = s.pending := rfl
@[simp] theorem setLd_free {d : Nat} {v : Ld} : (setLd s d v).free = s.free := rfl
@[simp] theorem setLd_mgmtRead {d : Nat} {v : Ld} : (setLd s d v).mgmtRead = s.mgmtRead := rfl
@[simp] theorem setLd_sram {d : Nat} {v : Ld} : (setLd s d v).sram = s.sram := rfl
@[simp] theorem setLd_doms {d : Nat} {v : Ld} : (setLd s d v).doms = s.doms := rfl
@[simp] theorem setLd_fwLog {d : Nat} {v : Ld} : (setLd s d v).fwLog = s.fwLog := rfl
@[simp] theorem setLd_resets {d : Nat} {v : Ld} : (setLd s d v).resets = s.resets := rfl
@[simp] theorem setLd_flt {d : Nat} {v : Ld} : (setLd s d v).flt = s.flt := rfl
@[simp] theorem setLd_icu {d : Nat} {v : Ld} : (setLd s d v).icu = s.icu := rfl
@[simp] theorem setLd_cfl {d : Nat} {v : Ld} : (setLd s d v).cfl = s.cfl := rfl
@[simp] theorem setLd_evr {d : Nat} {v : Ld} : (setLd s d v).evr = s.evr := rfl
@[simp] theorem setLd_gen {d : Nat} {v : Ld} : (setLd s d v).gen = s.gen := rfl
@[simp] theorem setLd_dram {d : Nat} {v : Ld} : (setLd s d v).dram = s.dram := rfl
@[simp] theorem setLd_fst {d : Nat} {v : Ld} : (setLd s d v).fst = s.fst := rfl
@[simp] theorem setLd_pool {d : Nat} {v : Ld} : (setLd s d v).pool = s.pool := rfl
@[simp] theorem setLd_psq {d : Nat} {v : Ld} : (setLd s d v).psq = s.psq := rfl
@[simp] theorem setLd_bat {d : Nat} {v : Ld} : (setLd s d v).bat = s.bat := rfl
@[simp] theorem setLd_thm {d : Nat} {v : Ld} : (setLd s d v).thm = s.thm := rfl
@[simp] theorem setLd_upd {d : Nat} {v : Ld} : (setLd s d v).upd = s.upd := rfl
@[simp] theorem setLd_sb {d : Nat} {v : Ld} : (setLd s d v).sb = s.sb := rfl

@[simp] theorem setPort_regs {d : Nat} {v : Port} : (setPort s d v).regs = s.regs := rfl
@[simp] theorem setPort_pending {d : Nat} {v : Port} : (setPort s d v).pending = s.pending := rfl
@[simp] theorem setPort_free {d : Nat} {v : Port} : (setPort s d v).free = s.free := rfl
@[simp] theorem setPort_mgmtRead {d : Nat} {v : Port} : (setPort s d v).mgmtRead = s.mgmtRead := rfl
@[simp] theorem setPort_sram {d : Nat} {v : Port} : (setPort s d v).sram = s.sram := rfl
@[simp] theorem setPort_doms {d : Nat} {v : Port} : (setPort s d v).doms = s.doms := rfl
@[simp] theorem setPort_fwLog {d : Nat} {v : Port} : (setPort s d v).fwLog = s.fwLog := rfl
@[simp] theorem setPort_resets {d : Nat} {v : Port} : (setPort s d v).resets = s.resets := rfl
@[simp] theorem setPort_flt {d : Nat} {v : Port} : (setPort s d v).flt = s.flt := rfl
@[simp] theorem setPort_icu {d : Nat} {v : Port} : (setPort s d v).icu = s.icu := rfl
@[simp] theorem setPort_cfl {d : Nat} {v : Port} : (setPort s d v).cfl = s.cfl := rfl
@[simp] theorem setPort_evr {d : Nat} {v : Port} : (setPort s d v).evr = s.evr := rfl
@[simp] theorem setPort_gen {d : Nat} {v : Port} : (setPort s d v).gen = s.gen := rfl
@[simp] theorem setPort_dram {d : Nat} {v : Port} : (setPort s d v).dram = s.dram := rfl
@[simp] theorem setPort_fst {d : Nat} {v : Port} : (setPort s d v).fst = s.fst := rfl
@[simp] theorem setPort_pool {d : Nat} {v : Port} : (setPort s d v).pool = s.pool := rfl
@[simp] theorem setPort_psq {d : Nat} {v : Port} : (setPort s d v).psq = s.psq := rfl
@[simp] theorem setPort_bat {d : Nat} {v : Port} : (setPort s d v).bat = s.bat := rfl
@[simp] theorem setPort_thm {d : Nat} {v : Port} : (setPort s d v).thm = s.thm := rfl
@[simp] theorem setPort_upd {d : Nat} {v : Port} : (setPort s d v).upd = s.upd := rfl
@[simp] theorem setPort_sb {d : Nat} {v : Port} : (setPort s d v).sb = s.sb := rfl

@[simp] theorem setWin_regs {d : Nat} {v : Win} : (setWin s d v).regs = s.regs := rfl
@[simp] theorem setWin_pending {d : Nat} {v : Win} : (setWin s d v).pending = s.pending := rfl
@[simp] theorem setWin_free {d : Nat} {v : Win} : (setWin s d v).free = s.free := rfl
@[simp] theorem setWin_mgmtRead {d : Nat} {v : Win} : (setWin s d v).mgmtRead = s.mgmtRead := rfl
@[simp] theorem setWin_sram {d : Nat} {v : Win} : (setWin s d v).sram = s.sram := rfl
@[simp] theorem setWin_doms {d : Nat} {v : Win} : (setWin s d v).doms = s.doms := rfl
@[simp] theorem setWin_fwLog {d : Nat} {v : Win} : (setWin s d v).fwLog = s.fwLog := rfl
@[simp] theorem setWin_resets {d : Nat} {v : Win} : (setWin s d v).resets = s.resets := rfl
@[simp] theorem setWin_flt {d : Nat} {v : Win} : (setWin s d v).flt = s.flt := rfl
@[simp] theorem setWin_icu {d : Nat} {v : Win} : (setWin s d v).icu = s.icu := rfl
@[simp] theorem setWin_cfl {d : Nat} {v : Win} : (setWin s d v).cfl = s.cfl := rfl
@[simp] theorem setWin_evr {d : Nat} {v : Win} : (setWin s d v).evr = s.evr := rfl
@[simp] theorem setWin_gen {d : Nat} {v : Win} : (setWin s d v).gen = s.gen := rfl
@[simp] theorem setWin_dram {d : Nat} {v : Win} : (setWin s d v).dram = s.dram := rfl
@[simp] theorem setWin_fst {d : Nat} {v : Win} : (setWin s d v).fst = s.fst := rfl
@[simp] theorem setWin_pool {d : Nat} {v : Win} : (setWin s d v).pool = s.pool := rfl
@[simp] theorem setWin_psq {d : Nat} {v : Win} : (setWin s d v).psq = s.psq := rfl
@[simp] theorem setWin_bat {d : Nat} {v : Win} : (setWin s d v).bat = s.bat := rfl
@[simp] theorem setWin_thm {d : Nat} {v : Win} : (setWin s d v).thm = s.thm := rfl
@[simp] theorem setWin_upd {d : Nat} {v : Win} : (setWin s d v).upd = s.upd := rfl
@[simp] theorem setWin_sb {d : Nat} {v : Win} : (setWin s d v).sb = s.sb := rfl

@[simp] theorem setDch_regs {c : Nat} {v : DCh} : (setDch s c v).regs = s.regs := rfl
@[simp] theorem setDch_pending {c : Nat} {v : DCh} : (setDch s c v).pending = s.pending := rfl
@[simp] theorem setDch_free {c : Nat} {v : DCh} : (setDch s c v).free = s.free := rfl
@[simp] theorem setDch_mgmtRead {c : Nat} {v : DCh} : (setDch s c v).mgmtRead = s.mgmtRead := rfl
@[simp] theorem setDch_sram {c : Nat} {v : DCh} : (setDch s c v).sram = s.sram := rfl
@[simp] theorem setDch_doms {c : Nat} {v : DCh} : (setDch s c v).doms = s.doms := rfl
@[simp] theorem setDch_fwLog {c : Nat} {v : DCh} : (setDch s c v).fwLog = s.fwLog := rfl
@[simp] theorem setDch_resets {c : Nat} {v : DCh} : (setDch s c v).resets = s.resets := rfl
@[simp] theorem setDch_flt {c : Nat} {v : DCh} : (setDch s c v).flt = s.flt := rfl
@[simp] theorem setDch_icu {c : Nat} {v : DCh} : (setDch s c v).icu = s.icu := rfl
@[simp] theorem setDch_cfl {c : Nat} {v : DCh} : (setDch s c v).cfl = s.cfl := rfl
@[simp] theorem setDch_evr {c : Nat} {v : DCh} : (setDch s c v).evr = s.evr := rfl
@[simp] theorem setDch_gen {c : Nat} {v : DCh} : (setDch s c v).gen = s.gen := rfl
@[simp] theorem setDch_hl {c : Nat} {v : DCh} : (setDch s c v).hl = s.hl := rfl
@[simp] theorem setDch_fst {c : Nat} {v : DCh} : (setDch s c v).fst = s.fst := rfl
@[simp] theorem setDch_pool {c : Nat} {v : DCh} : (setDch s c v).pool = s.pool := rfl
@[simp] theorem setDch_psq {c : Nat} {v : DCh} : (setDch s c v).psq = s.psq := rfl
@[simp] theorem setDch_bat {c : Nat} {v : DCh} : (setDch s c v).bat = s.bat := rfl
@[simp] theorem setDch_thm {c : Nat} {v : DCh} : (setDch s c v).thm = s.thm := rfl
@[simp] theorem setDch_upd {c : Nat} {v : DCh} : (setDch s c v).upd = s.upd := rfl
@[simp] theorem setDch_sb {c : Nat} {v : DCh} : (setDch s c v).sb = s.sb := rfl

@[simp] theorem setFch_regs {c : Nat} {v : FCh} : (setFch s c v).regs = s.regs := rfl
@[simp] theorem setFch_pending {c : Nat} {v : FCh} : (setFch s c v).pending = s.pending := rfl
@[simp] theorem setFch_free {c : Nat} {v : FCh} : (setFch s c v).free = s.free := rfl
@[simp] theorem setFch_mgmtRead {c : Nat} {v : FCh} : (setFch s c v).mgmtRead = s.mgmtRead := rfl
@[simp] theorem setFch_sram {c : Nat} {v : FCh} : (setFch s c v).sram = s.sram := rfl
@[simp] theorem setFch_doms {c : Nat} {v : FCh} : (setFch s c v).doms = s.doms := rfl
@[simp] theorem setFch_fwLog {c : Nat} {v : FCh} : (setFch s c v).fwLog = s.fwLog := rfl
@[simp] theorem setFch_resets {c : Nat} {v : FCh} : (setFch s c v).resets = s.resets := rfl
@[simp] theorem setFch_flt {c : Nat} {v : FCh} : (setFch s c v).flt = s.flt := rfl
@[simp] theorem setFch_icu {c : Nat} {v : FCh} : (setFch s c v).icu = s.icu := rfl
@[simp] theorem setFch_cfl {c : Nat} {v : FCh} : (setFch s c v).cfl = s.cfl := rfl
@[simp] theorem setFch_evr {c : Nat} {v : FCh} : (setFch s c v).evr = s.evr := rfl
@[simp] theorem setFch_gen {c : Nat} {v : FCh} : (setFch s c v).gen = s.gen := rfl
@[simp] theorem setFch_hl {c : Nat} {v : FCh} : (setFch s c v).hl = s.hl := rfl
@[simp] theorem setFch_dram {c : Nat} {v : FCh} : (setFch s c v).dram = s.dram := rfl
@[simp] theorem setFch_pool {c : Nat} {v : FCh} : (setFch s c v).pool = s.pool := rfl
@[simp] theorem setFch_psq {c : Nat} {v : FCh} : (setFch s c v).psq = s.psq := rfl
@[simp] theorem setFch_bat {c : Nat} {v : FCh} : (setFch s c v).bat = s.bat := rfl
@[simp] theorem setFch_thm {c : Nat} {v : FCh} : (setFch s c v).thm = s.thm := rfl
@[simp] theorem setFch_upd {c : Nat} {v : FCh} : (setFch s c v).upd = s.upd := rfl
@[simp] theorem setFch_sb {c : Nat} {v : FCh} : (setFch s c v).sb = s.sb := rfl

@[simp] theorem setLun_regs {k : Nat} {v : Lun} : (setLun s k v).regs = s.regs := rfl
@[simp] theorem setLun_pending {k : Nat} {v : Lun} : (setLun s k v).pending = s.pending := rfl
@[simp] theorem setLun_free {k : Nat} {v : Lun} : (setLun s k v).free = s.free := rfl
@[simp] theorem setLun_mgmtRead {k : Nat} {v : Lun} : (setLun s k v).mgmtRead = s.mgmtRead := rfl
@[simp] theorem setLun_sram {k : Nat} {v : Lun} : (setLun s k v).sram = s.sram := rfl
@[simp] theorem setLun_doms {k : Nat} {v : Lun} : (setLun s k v).doms = s.doms := rfl
@[simp] theorem setLun_fwLog {k : Nat} {v : Lun} : (setLun s k v).fwLog = s.fwLog := rfl
@[simp] theorem setLun_resets {k : Nat} {v : Lun} : (setLun s k v).resets = s.resets := rfl
@[simp] theorem setLun_flt {k : Nat} {v : Lun} : (setLun s k v).flt = s.flt := rfl
@[simp] theorem setLun_icu {k : Nat} {v : Lun} : (setLun s k v).icu = s.icu := rfl
@[simp] theorem setLun_cfl {k : Nat} {v : Lun} : (setLun s k v).cfl = s.cfl := rfl
@[simp] theorem setLun_evr {k : Nat} {v : Lun} : (setLun s k v).evr = s.evr := rfl
@[simp] theorem setLun_gen {k : Nat} {v : Lun} : (setLun s k v).gen = s.gen := rfl
@[simp] theorem setLun_hl {k : Nat} {v : Lun} : (setLun s k v).hl = s.hl := rfl
@[simp] theorem setLun_dram {k : Nat} {v : Lun} : (setLun s k v).dram = s.dram := rfl
@[simp] theorem setLun_pool {k : Nat} {v : Lun} : (setLun s k v).pool = s.pool := rfl
@[simp] theorem setLun_psq {k : Nat} {v : Lun} : (setLun s k v).psq = s.psq := rfl
@[simp] theorem setLun_bat {k : Nat} {v : Lun} : (setLun s k v).bat = s.bat := rfl
@[simp] theorem setLun_thm {k : Nat} {v : Lun} : (setLun s k v).thm = s.thm := rfl
@[simp] theorem setLun_upd {k : Nat} {v : Lun} : (setLun s k v).upd = s.upd := rfl
@[simp] theorem setLun_sb {k : Nat} {v : Lun} : (setLun s k v).sb = s.sb := rfl

@[simp] theorem setBlk_regs {b : Nat} {v : Block} : (setBlk s b v).regs = s.regs := rfl
@[simp] theorem setBlk_pending {b : Nat} {v : Block} : (setBlk s b v).pending = s.pending := rfl
@[simp] theorem setBlk_free {b : Nat} {v : Block} : (setBlk s b v).free = s.free := rfl
@[simp] theorem setBlk_mgmtRead {b : Nat} {v : Block} : (setBlk s b v).mgmtRead = s.mgmtRead := rfl
@[simp] theorem setBlk_sram {b : Nat} {v : Block} : (setBlk s b v).sram = s.sram := rfl
@[simp] theorem setBlk_doms {b : Nat} {v : Block} : (setBlk s b v).doms = s.doms := rfl
@[simp] theorem setBlk_fwLog {b : Nat} {v : Block} : (setBlk s b v).fwLog = s.fwLog := rfl
@[simp] theorem setBlk_resets {b : Nat} {v : Block} : (setBlk s b v).resets = s.resets := rfl
@[simp] theorem setBlk_flt {b : Nat} {v : Block} : (setBlk s b v).flt = s.flt := rfl
@[simp] theorem setBlk_icu {b : Nat} {v : Block} : (setBlk s b v).icu = s.icu := rfl
@[simp] theorem setBlk_cfl {b : Nat} {v : Block} : (setBlk s b v).cfl = s.cfl := rfl
@[simp] theorem setBlk_evr {b : Nat} {v : Block} : (setBlk s b v).evr = s.evr := rfl
@[simp] theorem setBlk_gen {b : Nat} {v : Block} : (setBlk s b v).gen = s.gen := rfl
@[simp] theorem setBlk_hl {b : Nat} {v : Block} : (setBlk s b v).hl = s.hl := rfl
@[simp] theorem setBlk_dram {b : Nat} {v : Block} : (setBlk s b v).dram = s.dram := rfl
@[simp] theorem setBlk_pool {b : Nat} {v : Block} : (setBlk s b v).pool = s.pool := rfl
@[simp] theorem setBlk_psq {b : Nat} {v : Block} : (setBlk s b v).psq = s.psq := rfl
@[simp] theorem setBlk_bat {b : Nat} {v : Block} : (setBlk s b v).bat = s.bat := rfl
@[simp] theorem setBlk_thm {b : Nat} {v : Block} : (setBlk s b v).thm = s.thm := rfl
@[simp] theorem setBlk_upd {b : Nat} {v : Block} : (setBlk s b v).upd = s.upd := rfl
@[simp] theorem setBlk_sb {b : Nat} {v : Block} : (setBlk s b v).sb = s.sb := rfl

@[simp] theorem setHem_regs {v : Hem} : (setHem s v).regs = s.regs := rfl
@[simp] theorem setHem_pending {v : Hem} : (setHem s v).pending = s.pending := rfl
@[simp] theorem setHem_free {v : Hem} : (setHem s v).free = s.free := rfl
@[simp] theorem setHem_mgmtRead {v : Hem} : (setHem s v).mgmtRead = s.mgmtRead := rfl
@[simp] theorem setHem_sram {v : Hem} : (setHem s v).sram = s.sram := rfl
@[simp] theorem setHem_doms {v : Hem} : (setHem s v).doms = s.doms := rfl
@[simp] theorem setHem_fwLog {v : Hem} : (setHem s v).fwLog = s.fwLog := rfl
@[simp] theorem setHem_resets {v : Hem} : (setHem s v).resets = s.resets := rfl
@[simp] theorem setHem_flt {v : Hem} : (setHem s v).flt = s.flt := rfl
@[simp] theorem setHem_icu {v : Hem} : (setHem s v).icu = s.icu := rfl
@[simp] theorem setHem_cfl {v : Hem} : (setHem s v).cfl = s.cfl := rfl
@[simp] theorem setHem_evr {v : Hem} : (setHem s v).evr = s.evr := rfl
@[simp] theorem setHem_hl {v : Hem} : (setHem s v).hl = s.hl := rfl
@[simp] theorem setHem_dram {v : Hem} : (setHem s v).dram = s.dram := rfl
@[simp] theorem setHem_fst {v : Hem} : (setHem s v).fst = s.fst := rfl
@[simp] theorem setHem_pool {v : Hem} : (setHem s v).pool = s.pool := rfl
@[simp] theorem setHem_psq {v : Hem} : (setHem s v).psq = s.psq := rfl
@[simp] theorem setHem_bat {v : Hem} : (setHem s v).bat = s.bat := rfl
@[simp] theorem setHem_thm {v : Hem} : (setHem s v).thm = s.thm := rfl
@[simp] theorem setHem_upd {v : Hem} : (setHem s v).upd = s.upd := rfl
@[simp] theorem setHem_sb {v : Hem} : (setHem s v).sb = s.sb := rfl

@[simp] theorem setFlt_regs {n : Nat} : (setFlt s n).regs = s.regs := rfl
@[simp] theorem setFlt_pending {n : Nat} : (setFlt s n).pending = s.pending := rfl
@[simp] theorem setFlt_free {n : Nat} : (setFlt s n).free = s.free := rfl
@[simp] theorem setFlt_mgmtRead {n : Nat} : (setFlt s n).mgmtRead = s.mgmtRead := rfl
@[simp] theorem setFlt_sram {n : Nat} : (setFlt s n).sram = s.sram := rfl
@[simp] theorem setFlt_doms {n : Nat} : (setFlt s n).doms = s.doms := rfl
@[simp] theorem setFlt_fwLog {n : Nat} : (setFlt s n).fwLog = s.fwLog := rfl
@[simp] theorem setFlt_resets {n : Nat} : (setFlt s n).resets = s.resets := rfl
@[simp] theorem setFlt_icu {n : Nat} : (setFlt s n).icu = s.icu := rfl
@[simp] theorem setFlt_cfl {n : Nat} : (setFlt s n).cfl = s.cfl := rfl
@[simp] theorem setFlt_evr {n : Nat} : (setFlt s n).evr = s.evr := rfl
@[simp] theorem setFlt_gen {n : Nat} : (setFlt s n).gen = s.gen := rfl
@[simp] theorem setFlt_hl {n : Nat} : (setFlt s n).hl = s.hl := rfl
@[simp] theorem setFlt_dram {n : Nat} : (setFlt s n).dram = s.dram := rfl
@[simp] theorem setFlt_fst {n : Nat} : (setFlt s n).fst = s.fst := rfl
@[simp] theorem setFlt_pool {n : Nat} : (setFlt s n).pool = s.pool := rfl
@[simp] theorem setFlt_psq {n : Nat} : (setFlt s n).psq = s.psq := rfl
@[simp] theorem setFlt_bat {n : Nat} : (setFlt s n).bat = s.bat := rfl
@[simp] theorem setFlt_thm {n : Nat} : (setFlt s n).thm = s.thm := rfl
@[simp] theorem setFlt_upd {n : Nat} : (setFlt s n).upd = s.upd := rfl
@[simp] theorem setFlt_sb {n : Nat} : (setFlt s n).sb = s.sb := rfl

@[simp] theorem setClient_regs {k : Nat} {v : Client} : (setClient s k v).regs = s.regs := rfl
@[simp] theorem setClient_pending {k : Nat} {v : Client} : (setClient s k v).pending = s.pending := rfl
@[simp] theorem setClient_free {k : Nat} {v : Client} : (setClient s k v).free = s.free := rfl
@[simp] theorem setClient_mgmtRead {k : Nat} {v : Client} : (setClient s k v).mgmtRead = s.mgmtRead := rfl
@[simp] theorem setClient_sram {k : Nat} {v : Client} : (setClient s k v).sram = s.sram := rfl
@[simp] theorem setClient_doms {k : Nat} {v : Client} : (setClient s k v).doms = s.doms := rfl
@[simp] theorem setClient_fwLog {k : Nat} {v : Client} : (setClient s k v).fwLog = s.fwLog := rfl
@[simp] theorem setClient_resets {k : Nat} {v : Client} : (setClient s k v).resets = s.resets := rfl
@[simp] theorem setClient_flt {k : Nat} {v : Client} : (setClient s k v).flt = s.flt := rfl
@[simp] theorem setClient_icu {k : Nat} {v : Client} : (setClient s k v).icu = s.icu := rfl
@[simp] theorem setClient_cfl {k : Nat} {v : Client} : (setClient s k v).cfl = s.cfl := rfl
@[simp] theorem setClient_evr {k : Nat} {v : Client} : (setClient s k v).evr = s.evr := rfl
@[simp] theorem setClient_gen {k : Nat} {v : Client} : (setClient s k v).gen = s.gen := rfl
@[simp] theorem setClient_hl {k : Nat} {v : Client} : (setClient s k v).hl = s.hl := rfl
@[simp] theorem setClient_dram {k : Nat} {v : Client} : (setClient s k v).dram = s.dram := rfl
@[simp] theorem setClient_fst {k : Nat} {v : Client} : (setClient s k v).fst = s.fst := rfl
@[simp] theorem setClient_psq {k : Nat} {v : Client} : (setClient s k v).psq = s.psq := rfl
@[simp] theorem setClient_bat {k : Nat} {v : Client} : (setClient s k v).bat = s.bat := rfl
@[simp] theorem setClient_thm {k : Nat} {v : Client} : (setClient s k v).thm = s.thm := rfl
@[simp] theorem setClient_upd {k : Nat} {v : Client} : (setClient s k v).upd = s.upd := rfl
@[simp] theorem setClient_sb {k : Nat} {v : Client} : (setClient s k v).sb = s.sb := rfl

@[simp] theorem setCflOp_regs {b : Nat} {o : Option CflOp} : (setCflOp s b o).regs = s.regs := rfl
@[simp] theorem setCflOp_pending {b : Nat} {o : Option CflOp} : (setCflOp s b o).pending = s.pending := rfl
@[simp] theorem setCflOp_free {b : Nat} {o : Option CflOp} : (setCflOp s b o).free = s.free := rfl
@[simp] theorem setCflOp_mgmtRead {b : Nat} {o : Option CflOp} : (setCflOp s b o).mgmtRead = s.mgmtRead := rfl
@[simp] theorem setCflOp_sram {b : Nat} {o : Option CflOp} : (setCflOp s b o).sram = s.sram := rfl
@[simp] theorem setCflOp_doms {b : Nat} {o : Option CflOp} : (setCflOp s b o).doms = s.doms := rfl
@[simp] theorem setCflOp_fwLog {b : Nat} {o : Option CflOp} : (setCflOp s b o).fwLog = s.fwLog := rfl
@[simp] theorem setCflOp_resets {b : Nat} {o : Option CflOp} : (setCflOp s b o).resets = s.resets := rfl
@[simp] theorem setCflOp_flt {b : Nat} {o : Option CflOp} : (setCflOp s b o).flt = s.flt := rfl
@[simp] theorem setCflOp_icu {b : Nat} {o : Option CflOp} : (setCflOp s b o).icu = s.icu := rfl
@[simp] theorem setCflOp_evr {b : Nat} {o : Option CflOp} : (setCflOp s b o).evr = s.evr := rfl
@[simp] theorem setCflOp_gen {b : Nat} {o : Option CflOp} : (setCflOp s b o).gen = s.gen := rfl
@[simp] theorem setCflOp_hl {b : Nat} {o : Option CflOp} : (setCflOp s b o).hl = s.hl := rfl
@[simp] theorem setCflOp_dram {b : Nat} {o : Option CflOp} : (setCflOp s b o).dram = s.dram := rfl
@[simp] theorem setCflOp_fst {b : Nat} {o : Option CflOp} : (setCflOp s b o).fst = s.fst := rfl
@[simp] theorem setCflOp_pool {b : Nat} {o : Option CflOp} : (setCflOp s b o).pool = s.pool := rfl
@[simp] theorem setCflOp_psq {b : Nat} {o : Option CflOp} : (setCflOp s b o).psq = s.psq := rfl
@[simp] theorem setCflOp_bat {b : Nat} {o : Option CflOp} : (setCflOp s b o).bat = s.bat := rfl
@[simp] theorem setCflOp_thm {b : Nat} {o : Option CflOp} : (setCflOp s b o).thm = s.thm := rfl
@[simp] theorem setCflOp_upd {b : Nat} {o : Option CflOp} : (setCflOp s b o).upd = s.upd := rfl
@[simp] theorem setCflOp_sb {b : Nat} {o : Option CflOp} : (setCflOp s b o).sb = s.sb := rfl

@[simp] theorem sramStore_regs {o : Nat} {v : List Byte} : (sramStore s o v).regs = s.regs := rfl
@[simp] theorem sramStore_pending {o : Nat} {v : List Byte} : (sramStore s o v).pending = s.pending := rfl
@[simp] theorem sramStore_free {o : Nat} {v : List Byte} : (sramStore s o v).free = s.free := rfl
@[simp] theorem sramStore_mgmtRead {o : Nat} {v : List Byte} : (sramStore s o v).mgmtRead = s.mgmtRead := rfl
@[simp] theorem sramStore_doms {o : Nat} {v : List Byte} : (sramStore s o v).doms = s.doms := rfl
@[simp] theorem sramStore_fwLog {o : Nat} {v : List Byte} : (sramStore s o v).fwLog = s.fwLog := rfl
@[simp] theorem sramStore_resets {o : Nat} {v : List Byte} : (sramStore s o v).resets = s.resets := rfl
@[simp] theorem sramStore_flt {o : Nat} {v : List Byte} : (sramStore s o v).flt = s.flt := rfl
@[simp] theorem sramStore_icu {o : Nat} {v : List Byte} : (sramStore s o v).icu = s.icu := rfl
@[simp] theorem sramStore_cfl {o : Nat} {v : List Byte} : (sramStore s o v).cfl = s.cfl := rfl
@[simp] theorem sramStore_evr {o : Nat} {v : List Byte} : (sramStore s o v).evr = s.evr := rfl
@[simp] theorem sramStore_gen {o : Nat} {v : List Byte} : (sramStore s o v).gen = s.gen := rfl
@[simp] theorem sramStore_hl {o : Nat} {v : List Byte} : (sramStore s o v).hl = s.hl := rfl
@[simp] theorem sramStore_dram {o : Nat} {v : List Byte} : (sramStore s o v).dram = s.dram := rfl
@[simp] theorem sramStore_fst {o : Nat} {v : List Byte} : (sramStore s o v).fst = s.fst := rfl
@[simp] theorem sramStore_pool {o : Nat} {v : List Byte} : (sramStore s o v).pool = s.pool := rfl
@[simp] theorem sramStore_psq {o : Nat} {v : List Byte} : (sramStore s o v).psq = s.psq := rfl
@[simp] theorem sramStore_bat {o : Nat} {v : List Byte} : (sramStore s o v).bat = s.bat := rfl
@[simp] theorem sramStore_thm {o : Nat} {v : List Byte} : (sramStore s o v).thm = s.thm := rfl
@[simp] theorem sramStore_upd {o : Nat} {v : List Byte} : (sramStore s o v).upd = s.upd := rfl
@[simp] theorem sramStore_sb {o : Nat} {v : List Byte} : (sramStore s o v).sb = s.sb := rfl

@[simp] theorem setBand_regs {b : Nat} {v : Band} : (setBand s b v).regs = s.regs := rfl
@[simp] theorem setBand_pending {b : Nat} {v : Band} : (setBand s b v).pending = s.pending := rfl
@[simp] theorem setBand_free {b : Nat} {v : Band} : (setBand s b v).free = s.free := rfl
@[simp] theorem setBand_mgmtRead {b : Nat} {v : Band} : (setBand s b v).mgmtRead = s.mgmtRead := rfl
@[simp] theorem setBand_sram {b : Nat} {v : Band} : (setBand s b v).sram = s.sram := rfl
@[simp] theorem setBand_doms {b : Nat} {v : Band} : (setBand s b v).doms = s.doms := rfl
@[simp] theorem setBand_fwLog {b : Nat} {v : Band} : (setBand s b v).fwLog = s.fwLog := rfl
@[simp] theorem setBand_resets {b : Nat} {v : Band} : (setBand s b v).resets = s.resets := rfl
@[simp] theorem setBand_flt {b : Nat} {v : Band} : (setBand s b v).flt = s.flt := rfl
@[simp] theorem setBand_icu {b : Nat} {v : Band} : (setBand s b v).icu = s.icu := rfl
@[simp] theorem setBand_cfl {b : Nat} {v : Band} : (setBand s b v).cfl = s.cfl := rfl
@[simp] theorem setBand_evr {b : Nat} {v : Band} : (setBand s b v).evr = s.evr := rfl
@[simp] theorem setBand_gen {b : Nat} {v : Band} : (setBand s b v).gen = s.gen := rfl
@[simp] theorem setBand_hl {b : Nat} {v : Band} : (setBand s b v).hl = s.hl := rfl
@[simp] theorem setBand_dram {b : Nat} {v : Band} : (setBand s b v).dram = s.dram := rfl
@[simp] theorem setBand_pool {b : Nat} {v : Band} : (setBand s b v).pool = s.pool := rfl
@[simp] theorem setBand_psq {b : Nat} {v : Band} : (setBand s b v).psq = s.psq := rfl
@[simp] theorem setBand_bat {b : Nat} {v : Band} : (setBand s b v).bat = s.bat := rfl
@[simp] theorem setBand_thm {b : Nat} {v : Band} : (setBand s b v).thm = s.thm := rfl
@[simp] theorem setBand_upd {b : Nat} {v : Band} : (setBand s b v).upd = s.upd := rfl
@[simp] theorem setBand_sb {b : Nat} {v : Band} : (setBand s b v).sb = s.sb := rfl

@[simp] theorem logged_regs {e : LogEnt} : (logged s e).regs = s.regs := rfl
@[simp] theorem logged_pending {e : LogEnt} : (logged s e).pending = s.pending := rfl
@[simp] theorem logged_free {e : LogEnt} : (logged s e).free = s.free := rfl
@[simp] theorem logged_mgmtRead {e : LogEnt} : (logged s e).mgmtRead = s.mgmtRead := rfl
@[simp] theorem logged_sram {e : LogEnt} : (logged s e).sram = s.sram := rfl
@[simp] theorem logged_doms {e : LogEnt} : (logged s e).doms = s.doms := rfl
@[simp] theorem logged_resets {e : LogEnt} : (logged s e).resets = s.resets := rfl
@[simp] theorem logged_flt {e : LogEnt} : (logged s e).flt = s.flt := rfl
@[simp] theorem logged_icu {e : LogEnt} : (logged s e).icu = s.icu := rfl
@[simp] theorem logged_cfl {e : LogEnt} : (logged s e).cfl = s.cfl := rfl
@[simp] theorem logged_evr {e : LogEnt} : (logged s e).evr = s.evr := rfl
@[simp] theorem logged_gen {e : LogEnt} : (logged s e).gen = s.gen := rfl
@[simp] theorem logged_hl {e : LogEnt} : (logged s e).hl = s.hl := rfl
@[simp] theorem logged_dram {e : LogEnt} : (logged s e).dram = s.dram := rfl
@[simp] theorem logged_fst {e : LogEnt} : (logged s e).fst = s.fst := rfl
@[simp] theorem logged_pool {e : LogEnt} : (logged s e).pool = s.pool := rfl
@[simp] theorem logged_psq {e : LogEnt} : (logged s e).psq = s.psq := rfl
@[simp] theorem logged_bat {e : LogEnt} : (logged s e).bat = s.bat := rfl
@[simp] theorem logged_thm {e : LogEnt} : (logged s e).thm = s.thm := rfl
@[simp] theorem logged_upd {e : LogEnt} : (logged s e).upd = s.upd := rfl
@[simp] theorem logged_sb {e : LogEnt} : (logged s e).sb = s.sb := rfl

end Sys2Proof.Machine
end

