-- ==== Sys2Proof/Laws/Ops.lean ====
section
/-! SUPPORT. What the operations every chapter shares leave alone, and what they set: register reads after writes,
interrupt messages, events, errors and escalations. -/

namespace Sys2Proof.Machine

open Bits

variable {s : State}

/-- A register reads what was written to it last. -/
theorem rd_wr_self {a : Nat} {v : Word} (h : s.memWf = true) : rd (wr s a v) a = v := by
  simp only [State.memWf, Bool.and_eq_true] at h
  exact get_set_self h.1.1.1

/-- Writing one register leaves every other as it was. -/
theorem rd_wr_ne {a b : Nat} {v : Word} (h : b ≠ a) : rd (wr s a v) b = rd s b := get_set_ne h

-- what an event, a message and a report leave alone

@[simp] theorem event_pending {c v : Nat} {p : List Byte} : (event s c v p).pending = s.pending := by
  unfold event; dsimp only; repeat' split
  all_goals rfl

@[simp] theorem event_free {c v : Nat} {p : List Byte} : (event s c v p).free = s.free := by
  unfold event; dsimp only; repeat' split
  all_goals rfl

@[simp] theorem event_mgmtRead {c v : Nat} {p : List Byte} : (event s c v p).mgmtRead = s.mgmtRead := by
  unfold event; dsimp only; repeat' split
  all_goals rfl

@[simp] theorem event_sram {c v : Nat} {p : List Byte} : (event s c v p).sram = s.sram := by
  unfold event; dsimp only; repeat' split
  all_goals rfl

@[simp] theorem event_doms {c v : Nat} {p : List Byte} : (event s c v p).doms = s.doms := by
  unfold event; dsimp only; repeat' split
  all_goals rfl

@[simp] theorem event_fwLog {c v : Nat} {p : List Byte} : (event s c v p).fwLog = s.fwLog := by
  unfold event; dsimp only; repeat' split
  all_goals rfl

@[simp] theorem event_resets {c v : Nat} {p : List Byte} : (event s c v p).resets = s.resets := by
  unfold event; dsimp only; repeat' split
  all_goals rfl

@[simp] theorem event_cfl {c v : Nat} {p : List Byte} : (event s c v p).cfl = s.cfl := by
  unfold event; dsimp only; repeat' split
  all_goals rfl

@[simp] theorem event_gen {c v : Nat} {p : List Byte} : (event s c v p).gen = s.gen := by
  unfold event; dsimp only; repeat' split
  all_goals rfl

@[simp] theorem event_hl {c v : Nat} {p : List Byte} : (event s c v p).hl = s.hl := by
  unfold event; dsimp only; repeat' split
  all_goals rfl

@[simp] theorem event_dram {c v : Nat} {p : List Byte} : (event s c v p).dram = s.dram := by
  unfold event; dsimp only; repeat' split
  all_goals rfl

@[simp] theorem event_fst {c v : Nat} {p : List Byte} : (event s c v p).fst = s.fst := by
  unfold event; dsimp only; repeat' split
  all_goals rfl

@[simp] theorem event_pool {c v : Nat} {p : List Byte} : (event s c v p).pool = s.pool := by
  unfold event; dsimp only; repeat' split
  all_goals rfl

@[simp] theorem event_bat {c v : Nat} {p : List Byte} : (event s c v p).bat = s.bat := by
  unfold event; dsimp only; repeat' split
  all_goals rfl

@[simp] theorem event_thm {c v : Nat} {p : List Byte} : (event s c v p).thm = s.thm := by
  unfold event; dsimp only; repeat' split
  all_goals rfl

@[simp] theorem event_upd {c v : Nat} {p : List Byte} : (event s c v p).upd = s.upd := by
  unfold event; dsimp only; repeat' split
  all_goals rfl

@[simp] theorem event_sb {c v : Nat} {p : List Byte} : (event s c v p).sb = s.sb := by
  unfold event; dsimp only; repeat' split
  all_goals rfl

@[simp] theorem event_regs {c v : Nat} {p : List Byte} : (event s c v p).regs = s.regs := by
  unfold event; dsimp only; repeat' split
  all_goals rfl

@[simp] theorem event_flt {c v : Nat} {p : List Byte} : (event s c v p).flt = s.flt := by
  unfold event; dsimp only; repeat' split
  all_goals rfl

@[simp] theorem event_icu {c v : Nat} {p : List Byte} : (event s c v p).icu = s.icu := by
  unfold event; dsimp only; repeat' split
  all_goals rfl

@[simp] theorem event_psq {c v : Nat} {p : List Byte} : (event s c v p).psq = s.psq := by
  unfold event; dsimp only; repeat' split
  all_goals rfl

@[simp] theorem srcEvent_pending {n : Nat} : (srcEvent s n).pending = s.pending := by
  unfold srcEvent; split
  · exact event_pending
  · rfl

@[simp] theorem srcEvent_free {n : Nat} : (srcEvent s n).free = s.free := by
  unfold srcEvent; split
  · exact event_free
  · rfl

@[simp] theorem srcEvent_mgmtRead {n : Nat} : (srcEvent s n).mgmtRead = s.mgmtRead := by
  unfold srcEvent; split
  · exact event_mgmtRead
  · rfl

@[simp] theorem srcEvent_sram {n : Nat} : (srcEvent s n).sram = s.sram := by
  unfold srcEvent; split
  · exact event_sram
  · rfl

@[simp] theorem srcEvent_doms {n : Nat} : (srcEvent s n).doms = s.doms := by
  unfold srcEvent; split
  · exact event_doms
  · rfl

@[simp] theorem srcEvent_fwLog {n : Nat} : (srcEvent s n).fwLog = s.fwLog := by
  unfold srcEvent; split
  · exact event_fwLog
  · rfl

@[simp] theorem srcEvent_resets {n : Nat} : (srcEvent s n).resets = s.resets := by
  unfold srcEvent; split
  · exact event_resets
  · rfl

@[simp] theorem srcEvent_cfl {n : Nat} : (srcEvent s n).cfl = s.cfl := by
  unfold srcEvent; split
  · exact event_cfl
  · rfl

@[simp] theorem srcEvent_gen {n : Nat} : (srcEvent s n).gen = s.gen := by
  unfold srcEvent; split
  · exact event_gen
  · rfl

@[simp] theorem srcEvent_hl {n : Nat} : (srcEvent s n).hl = s.hl := by
  unfold srcEvent; split
  · exact event_hl
  · rfl

@[simp] theorem srcEvent_dram {n : Nat} : (srcEvent s n).dram = s.dram := by
  unfold srcEvent; split
  · exact event_dram
  · rfl

@[simp] theorem srcEvent_fst {n : Nat} : (srcEvent s n).fst = s.fst := by
  unfold srcEvent; split
  · exact event_fst
  · rfl

@[simp] theorem srcEvent_pool {n : Nat} : (srcEvent s n).pool = s.pool := by
  unfold srcEvent; split
  · exact event_pool
  · rfl

@[simp] theorem srcEvent_bat {n : Nat} : (srcEvent s n).bat = s.bat := by
  unfold srcEvent; split
  · exact event_bat
  · rfl

@[simp] theorem srcEvent_thm {n : Nat} : (srcEvent s n).thm = s.thm := by
  unfold srcEvent; split
  · exact event_thm
  · rfl

@[simp] theorem srcEvent_upd {n : Nat} : (srcEvent s n).upd = s.upd := by
  unfold srcEvent; split
  · exact event_upd
  · rfl

@[simp] theorem srcEvent_sb {n : Nat} : (srcEvent s n).sb = s.sb := by
  unfold srcEvent; split
  · exact event_sb
  · rfl

@[simp] theorem srcEvent_regs {n : Nat} : (srcEvent s n).regs = s.regs := by
  unfold srcEvent; split
  · exact event_regs
  · rfl

@[simp] theorem srcEvent_flt {n : Nat} : (srcEvent s n).flt = s.flt := by
  unfold srcEvent; split
  · exact event_flt
  · rfl

@[simp] theorem srcEvent_icu {n : Nat} : (srcEvent s n).icu = s.icu := by
  unfold srcEvent; split
  · exact event_icu
  · rfl

@[simp] theorem srcEvent_psq {n : Nat} : (srcEvent s n).psq = s.psq := by
  unfold srcEvent; split
  · exact event_psq
  · rfl

@[simp] theorem icuSet_pending {n : Nat} : ((icuSet s n).1).pending = s.pending := by
  unfold icuSet; split <;> rfl

@[simp] theorem icuSet_free {n : Nat} : ((icuSet s n).1).free = s.free := by
  unfold icuSet; split <;> rfl

@[simp] theorem icuSet_mgmtRead {n : Nat} : ((icuSet s n).1).mgmtRead = s.mgmtRead := by
  unfold icuSet; split <;> rfl

@[simp] theorem icuSet_sram {n : Nat} : ((icuSet s n).1).sram = s.sram := by
  unfold icuSet; split <;> rfl

@[simp] theorem icuSet_doms {n : Nat} : ((icuSet s n).1).doms = s.doms := by
  unfold icuSet; split <;> rfl

@[simp] theorem icuSet_fwLog {n : Nat} : ((icuSet s n).1).fwLog = s.fwLog := by
  unfold icuSet; split <;> rfl

@[simp] theorem icuSet_resets {n : Nat} : ((icuSet s n).1).resets = s.resets := by
  unfold icuSet; split <;> rfl

@[simp] theorem icuSet_cfl {n : Nat} : ((icuSet s n).1).cfl = s.cfl := by
  unfold icuSet; split <;> rfl

@[simp] theorem icuSet_gen {n : Nat} : ((icuSet s n).1).gen = s.gen := by
  unfold icuSet; split <;> rfl

@[simp] theorem icuSet_hl {n : Nat} : ((icuSet s n).1).hl = s.hl := by
  unfold icuSet; split <;> rfl

@[simp] theorem icuSet_dram {n : Nat} : ((icuSet s n).1).dram = s.dram := by
  unfold icuSet; split <;> rfl

@[simp] theorem icuSet_fst {n : Nat} : ((icuSet s n).1).fst = s.fst := by
  unfold icuSet; split <;> rfl

@[simp] theorem icuSet_pool {n : Nat} : ((icuSet s n).1).pool = s.pool := by
  unfold icuSet; split <;> rfl

@[simp] theorem icuSet_bat {n : Nat} : ((icuSet s n).1).bat = s.bat := by
  unfold icuSet; split <;> rfl

@[simp] theorem icuSet_thm {n : Nat} : ((icuSet s n).1).thm = s.thm := by
  unfold icuSet; split <;> rfl

@[simp] theorem icuSet_upd {n : Nat} : ((icuSet s n).1).upd = s.upd := by
  unfold icuSet; split <;> rfl

@[simp] theorem icuSet_sb {n : Nat} : ((icuSet s n).1).sb = s.sb := by
  unfold icuSet; split <;> rfl

@[simp] theorem icuSet_flt {n : Nat} : ((icuSet s n).1).flt = s.flt := by
  unfold icuSet; split <;> rfl

@[simp] theorem icuSet_icu {n : Nat} : ((icuSet s n).1).icu = s.icu := by
  unfold icuSet; split <;> rfl

@[simp] theorem icuSet_psq {n : Nat} : ((icuSet s n).1).psq = s.psq := by
  unfold icuSet; split <;> rfl

@[simp] theorem icuSet_evr {n : Nat} : ((icuSet s n).1).evr = s.evr := by
  unfold icuSet; split <;> rfl

@[simp] theorem errSet_pending {p b : Nat} : (errSet s p b).pending = s.pending := by
  unfold errSet; dsimp only; repeat' split
  all_goals simp

@[simp] theorem errSet_free {p b : Nat} : (errSet s p b).free = s.free := by
  unfold errSet; dsimp only; repeat' split
  all_goals simp

@[simp] theorem errSet_mgmtRead {p b : Nat} : (errSet s p b).mgmtRead = s.mgmtRead := by
  unfold errSet; dsimp only; repeat' split
  all_goals simp

@[simp] theorem errSet_sram {p b : Nat} : (errSet s p b).sram = s.sram := by
  unfold errSet; dsimp only; repeat' split
  all_goals simp

@[simp] theorem errSet_doms {p b : Nat} : (errSet s p b).doms = s.doms := by
  unfold errSet; dsimp only; repeat' split
  all_goals simp

@[simp] theorem errSet_fwLog {p b : Nat} : (errSet s p b).fwLog = s.fwLog := by
  unfold errSet; dsimp only; repeat' split
  all_goals simp

@[simp] theorem errSet_resets {p b : Nat} : (errSet s p b).resets = s.resets := by
  unfold errSet; dsimp only; repeat' split
  all_goals simp

@[simp] theorem errSet_cfl {p b : Nat} : (errSet s p b).cfl = s.cfl := by
  unfold errSet; dsimp only; repeat' split
  all_goals simp

@[simp] theorem errSet_gen {p b : Nat} : (errSet s p b).gen = s.gen := by
  unfold errSet; dsimp only; repeat' split
  all_goals simp

@[simp] theorem errSet_hl {p b : Nat} : (errSet s p b).hl = s.hl := by
  unfold errSet; dsimp only; repeat' split
  all_goals simp

@[simp] theorem errSet_dram {p b : Nat} : (errSet s p b).dram = s.dram := by
  unfold errSet; dsimp only; repeat' split
  all_goals simp

@[simp] theorem errSet_fst {p b : Nat} : (errSet s p b).fst = s.fst := by
  unfold errSet; dsimp only; repeat' split
  all_goals simp

@[simp] theorem errSet_pool {p b : Nat} : (errSet s p b).pool = s.pool := by
  unfold errSet; dsimp only; repeat' split
  all_goals simp

@[simp] theorem errSet_bat {p b : Nat} : (errSet s p b).bat = s.bat := by
  unfold errSet; dsimp only; repeat' split
  all_goals simp

@[simp] theorem errSet_thm {p b : Nat} : (errSet s p b).thm = s.thm := by
  unfold errSet; dsimp only; repeat' split
  all_goals simp

@[simp] theorem errSet_upd {p b : Nat} : (errSet s p b).upd = s.upd := by
  unfold errSet; dsimp only; repeat' split
  all_goals simp

@[simp] theorem errSet_sb {p b : Nat} : (errSet s p b).sb = s.sb := by
  unfold errSet; dsimp only; repeat' split
  all_goals simp

@[simp] theorem errSet_flt {p b : Nat} : (errSet s p b).flt = s.flt := by
  unfold errSet; dsimp only; repeat' split
  all_goals simp

@[simp] theorem errSet_icu {p b : Nat} : (errSet s p b).icu = s.icu := by
  unfold errSet; dsimp only; repeat' split
  all_goals simp

@[simp] theorem errSet_psq {p b : Nat} : (errSet s p b).psq = s.psq := by
  unfold errSet; dsimp only; repeat' split
  all_goals simp

@[simp] theorem lostErr_pending : (lostErr s).pending = s.pending := by
  unfold lostErr; dsimp only; split <;> simp

@[simp] theorem lostErr_free : (lostErr s).free = s.free := by
  unfold lostErr; dsimp only; split <;> simp

@[simp] theorem lostErr_mgmtRead : (lostErr s).mgmtRead = s.mgmtRead := by
  unfold lostErr; dsimp only; split <;> simp

@[simp] theorem lostErr_sram : (lostErr s).sram = s.sram := by
  unfold lostErr; dsimp only; split <;> simp

@[simp] theorem lostErr_doms : (lostErr s).doms = s.doms := by
  unfold lostErr; dsimp only; split <;> simp

@[simp] theorem lostErr_fwLog : (lostErr s).fwLog = s.fwLog := by
  unfold lostErr; dsimp only; split <;> simp

@[simp] theorem lostErr_resets : (lostErr s).resets = s.resets := by
  unfold lostErr; dsimp only; split <;> simp

@[simp] theorem lostErr_cfl : (lostErr s).cfl = s.cfl := by
  unfold lostErr; dsimp only; split <;> simp

@[simp] theorem lostErr_gen : (lostErr s).gen = s.gen := by
  unfold lostErr; dsimp only; split <;> simp

@[simp] theorem lostErr_hl : (lostErr s).hl = s.hl := by
  unfold lostErr; dsimp only; split <;> simp

@[simp] theorem lostErr_dram : (lostErr s).dram = s.dram := by
  unfold lostErr; dsimp only; split <;> simp

@[simp] theorem lostErr_fst : (lostErr s).fst = s.fst := by
  unfold lostErr; dsimp only; split <;> simp

@[simp] theorem lostErr_pool : (lostErr s).pool = s.pool := by
  unfold lostErr; dsimp only; split <;> simp

@[simp] theorem lostErr_bat : (lostErr s).bat = s.bat := by
  unfold lostErr; dsimp only; split <;> simp

@[simp] theorem lostErr_thm : (lostErr s).thm = s.thm := by
  unfold lostErr; dsimp only; split <;> simp

@[simp] theorem lostErr_upd : (lostErr s).upd = s.upd := by
  unfold lostErr; dsimp only; split <;> simp

@[simp] theorem lostErr_sb : (lostErr s).sb = s.sb := by
  unfold lostErr; dsimp only; split <;> simp

@[simp] theorem lostErr_flt : (lostErr s).flt = s.flt := by
  unfold lostErr; dsimp only; split <;> simp

@[simp] theorem lostErr_icu : (lostErr s).icu = s.icu := by
  unfold lostErr; dsimp only; split <;> simp

@[simp] theorem lostErr_psq : (lostErr s).psq = s.psq := by
  unfold lostErr; dsimp only; split <;> simp

@[simp] theorem icuMsg_pending {n : Nat} : (icuMsg s n).pending = s.pending := by
  unfold icuMsg; dsimp only; split <;> simp

@[simp] theorem icuMsg_free {n : Nat} : (icuMsg s n).free = s.free := by
  unfold icuMsg; dsimp only; split <;> simp

@[simp] theorem icuMsg_mgmtRead {n : Nat} : (icuMsg s n).mgmtRead = s.mgmtRead := by
  unfold icuMsg; dsimp only; split <;> simp

@[simp] theorem icuMsg_sram {n : Nat} : (icuMsg s n).sram = s.sram := by
  unfold icuMsg; dsimp only; split <;> simp

@[simp] theorem icuMsg_doms {n : Nat} : (icuMsg s n).doms = s.doms := by
  unfold icuMsg; dsimp only; split <;> simp

@[simp] theorem icuMsg_fwLog {n : Nat} : (icuMsg s n).fwLog = s.fwLog := by
  unfold icuMsg; dsimp only; split <;> simp

@[simp] theorem icuMsg_resets {n : Nat} : (icuMsg s n).resets = s.resets := by
  unfold icuMsg; dsimp only; split <;> simp

@[simp] theorem icuMsg_cfl {n : Nat} : (icuMsg s n).cfl = s.cfl := by
  unfold icuMsg; dsimp only; split <;> simp

@[simp] theorem icuMsg_gen {n : Nat} : (icuMsg s n).gen = s.gen := by
  unfold icuMsg; dsimp only; split <;> simp

@[simp] theorem icuMsg_hl {n : Nat} : (icuMsg s n).hl = s.hl := by
  unfold icuMsg; dsimp only; split <;> simp

@[simp] theorem icuMsg_dram {n : Nat} : (icuMsg s n).dram = s.dram := by
  unfold icuMsg; dsimp only; split <;> simp

@[simp] theorem icuMsg_fst {n : Nat} : (icuMsg s n).fst = s.fst := by
  unfold icuMsg; dsimp only; split <;> simp

@[simp] theorem icuMsg_pool {n : Nat} : (icuMsg s n).pool = s.pool := by
  unfold icuMsg; dsimp only; split <;> simp

@[simp] theorem icuMsg_bat {n : Nat} : (icuMsg s n).bat = s.bat := by
  unfold icuMsg; dsimp only; split <;> simp

@[simp] theorem icuMsg_thm {n : Nat} : (icuMsg s n).thm = s.thm := by
  unfold icuMsg; dsimp only; split <;> simp

@[simp] theorem icuMsg_upd {n : Nat} : (icuMsg s n).upd = s.upd := by
  unfold icuMsg; dsimp only; split <;> simp

@[simp] theorem icuMsg_sb {n : Nat} : (icuMsg s n).sb = s.sb := by
  unfold icuMsg; dsimp only; split <;> simp

@[simp] theorem icuMsg_flt {n : Nat} : (icuMsg s n).flt = s.flt := by
  unfold icuMsg; dsimp only; split <;> simp

@[simp] theorem icuMsg_icu {n : Nat} : (icuMsg s n).icu = s.icu := by
  unfold icuMsg; dsimp only; split <;> simp

@[simp] theorem icuMsg_psq {n : Nat} : (icuMsg s n).psq = s.psq := by
  unfold icuMsg; dsimp only; split <;> simp

@[simp] theorem icu_pending {n : Nat} : (icu s n).pending = s.pending := by
  unfold icu; dsimp only; repeat' split
  all_goals simp

@[simp] theorem icu_free {n : Nat} : (icu s n).free = s.free := by
  unfold icu; dsimp only; repeat' split
  all_goals simp

@[simp] theorem icu_mgmtRead {n : Nat} : (icu s n).mgmtRead = s.mgmtRead := by
  unfold icu; dsimp only; repeat' split
  all_goals simp

@[simp] theorem icu_sram {n : Nat} : (icu s n).sram = s.sram := by
  unfold icu; dsimp only; repeat' split
  all_goals simp

@[simp] theorem icu_doms {n : Nat} : (icu s n).doms = s.doms := by
  unfold icu; dsimp only; repeat' split
  all_goals simp

@[simp] theorem icu_fwLog {n : Nat} : (icu s n).fwLog = s.fwLog := by
  unfold icu; dsimp only; repeat' split
  all_goals simp

@[simp] theorem icu_resets {n : Nat} : (icu s n).resets = s.resets := by
  unfold icu; dsimp only; repeat' split
  all_goals simp

@[simp] theorem icu_cfl {n : Nat} : (icu s n).cfl = s.cfl := by
  unfold icu; dsimp only; repeat' split
  all_goals simp

@[simp] theorem icu_gen {n : Nat} : (icu s n).gen = s.gen := by
  unfold icu; dsimp only; repeat' split
  all_goals simp

@[simp] theorem icu_hl {n : Nat} : (icu s n).hl = s.hl := by
  unfold icu; dsimp only; repeat' split
  all_goals simp

@[simp] theorem icu_dram {n : Nat} : (icu s n).dram = s.dram := by
  unfold icu; dsimp only; repeat' split
  all_goals simp

@[simp] theorem icu_fst {n : Nat} : (icu s n).fst = s.fst := by
  unfold icu; dsimp only; repeat' split
  all_goals simp

@[simp] theorem icu_pool {n : Nat} : (icu s n).pool = s.pool := by
  unfold icu; dsimp only; repeat' split
  all_goals simp

@[simp] theorem icu_bat {n : Nat} : (icu s n).bat = s.bat := by
  unfold icu; dsimp only; repeat' split
  all_goals simp

@[simp] theorem icu_thm {n : Nat} : (icu s n).thm = s.thm := by
  unfold icu; dsimp only; repeat' split
  all_goals simp

@[simp] theorem icu_upd {n : Nat} : (icu s n).upd = s.upd := by
  unfold icu; dsimp only; repeat' split
  all_goals simp

@[simp] theorem icu_sb {n : Nat} : (icu s n).sb = s.sb := by
  unfold icu; dsimp only; repeat' split
  all_goals simp

@[simp] theorem icu_flt {n : Nat} : (icu s n).flt = s.flt := by
  unfold icu; dsimp only; repeat' split
  all_goals simp

@[simp] theorem attributeTo_pending {p u : Nat} : (attributeTo s p u).pending = s.pending := by
  unfold attributeTo; repeat' split
  all_goals rfl

@[simp] theorem attributeTo_free {p u : Nat} : (attributeTo s p u).free = s.free := by
  unfold attributeTo; repeat' split
  all_goals rfl

@[simp] theorem attributeTo_mgmtRead {p u : Nat} : (attributeTo s p u).mgmtRead = s.mgmtRead := by
  unfold attributeTo; repeat' split
  all_goals rfl

@[simp] theorem attributeTo_sram {p u : Nat} : (attributeTo s p u).sram = s.sram := by
  unfold attributeTo; repeat' split
  all_goals rfl

@[simp] theorem attributeTo_doms {p u : Nat} : (attributeTo s p u).doms = s.doms := by
  unfold attributeTo; repeat' split
  all_goals rfl

@[simp] theorem attributeTo_fwLog {p u : Nat} : (attributeTo s p u).fwLog = s.fwLog := by
  unfold attributeTo; repeat' split
  all_goals rfl

@[simp] theorem attributeTo_resets {p u : Nat} : (attributeTo s p u).resets = s.resets := by
  unfold attributeTo; repeat' split
  all_goals rfl

@[simp] theorem attributeTo_cfl {p u : Nat} : (attributeTo s p u).cfl = s.cfl := by
  unfold attributeTo; repeat' split
  all_goals rfl

@[simp] theorem attributeTo_gen {p u : Nat} : (attributeTo s p u).gen = s.gen := by
  unfold attributeTo; repeat' split
  all_goals rfl

@[simp] theorem attributeTo_hl {p u : Nat} : (attributeTo s p u).hl = s.hl := by
  unfold attributeTo; repeat' split
  all_goals rfl

@[simp] theorem attributeTo_dram {p u : Nat} : (attributeTo s p u).dram = s.dram := by
  unfold attributeTo; repeat' split
  all_goals rfl

@[simp] theorem attributeTo_fst {p u : Nat} : (attributeTo s p u).fst = s.fst := by
  unfold attributeTo; repeat' split
  all_goals rfl

@[simp] theorem attributeTo_pool {p u : Nat} : (attributeTo s p u).pool = s.pool := by
  unfold attributeTo; repeat' split
  all_goals rfl

@[simp] theorem attributeTo_bat {p u : Nat} : (attributeTo s p u).bat = s.bat := by
  unfold attributeTo; repeat' split
  all_goals rfl

@[simp] theorem attributeTo_thm {p u : Nat} : (attributeTo s p u).thm = s.thm := by
  unfold attributeTo; repeat' split
  all_goals rfl

@[simp] theorem attributeTo_upd {p u : Nat} : (attributeTo s p u).upd = s.upd := by
  unfold attributeTo; repeat' split
  all_goals rfl

@[simp] theorem attributeTo_sb {p u : Nat} : (attributeTo s p u).sb = s.sb := by
  unfold attributeTo; repeat' split
  all_goals rfl

@[simp] theorem attributeTo_flt {p u : Nat} : (attributeTo s p u).flt = s.flt := by
  unfold attributeTo; repeat' split
  all_goals rfl

@[simp] theorem attributeTo_icu {p u : Nat} : (attributeTo s p u).icu = s.icu := by
  unfold attributeTo; repeat' split
  all_goals rfl

@[simp] theorem attributeTo_psq {p u : Nat} : (attributeTo s p u).psq = s.psq := by
  unfold attributeTo; repeat' split
  all_goals rfl

@[simp] theorem attributeTo_evr {p u : Nat} : (attributeTo s p u).evr = s.evr := by
  unfold attributeTo; repeat' split
  all_goals rfl

@[simp] theorem escalate_pending {p u b : Nat} : (escalate s p u b).pending = s.pending := by
  unfold escalate; dsimp only; repeat' split
  all_goals rfl

@[simp] theorem escalate_free {p u b : Nat} : (escalate s p u b).free = s.free := by
  unfold escalate; dsimp only; repeat' split
  all_goals rfl

@[simp] theorem escalate_mgmtRead {p u b : Nat} : (escalate s p u b).mgmtRead = s.mgmtRead := by
  unfold escalate; dsimp only; repeat' split
  all_goals rfl

@[simp] theorem escalate_sram {p u b : Nat} : (escalate s p u b).sram = s.sram := by
  unfold escalate; dsimp only; repeat' split
  all_goals rfl

@[simp] theorem escalate_doms {p u b : Nat} : (escalate s p u b).doms = s.doms := by
  unfold escalate; dsimp only; repeat' split
  all_goals rfl

@[simp] theorem escalate_fwLog {p u b : Nat} : (escalate s p u b).fwLog = s.fwLog := by
  unfold escalate; dsimp only; repeat' split
  all_goals rfl

@[simp] theorem escalate_resets {p u b : Nat} : (escalate s p u b).resets = s.resets := by
  unfold escalate; dsimp only; repeat' split
  all_goals rfl

@[simp] theorem escalate_cfl {p u b : Nat} : (escalate s p u b).cfl = s.cfl := by
  unfold escalate; dsimp only; repeat' split
  all_goals rfl

@[simp] theorem escalate_gen {p u b : Nat} : (escalate s p u b).gen = s.gen := by
  unfold escalate; dsimp only; repeat' split
  all_goals rfl

@[simp] theorem escalate_hl {p u b : Nat} : (escalate s p u b).hl = s.hl := by
  unfold escalate; dsimp only; repeat' split
  all_goals rfl

@[simp] theorem escalate_dram {p u b : Nat} : (escalate s p u b).dram = s.dram := by
  unfold escalate; dsimp only; repeat' split
  all_goals rfl

@[simp] theorem escalate_fst {p u b : Nat} : (escalate s p u b).fst = s.fst := by
  unfold escalate; dsimp only; repeat' split
  all_goals rfl

@[simp] theorem escalate_pool {p u b : Nat} : (escalate s p u b).pool = s.pool := by
  unfold escalate; dsimp only; repeat' split
  all_goals rfl

@[simp] theorem escalate_bat {p u b : Nat} : (escalate s p u b).bat = s.bat := by
  unfold escalate; dsimp only; repeat' split
  all_goals rfl

@[simp] theorem escalate_thm {p u b : Nat} : (escalate s p u b).thm = s.thm := by
  unfold escalate; dsimp only; repeat' split
  all_goals rfl

@[simp] theorem escalate_upd {p u b : Nat} : (escalate s p u b).upd = s.upd := by
  unfold escalate; dsimp only; repeat' split
  all_goals rfl

@[simp] theorem escalate_sb {p u b : Nat} : (escalate s p u b).sb = s.sb := by
  unfold escalate; dsimp only; repeat' split
  all_goals rfl

@[simp] theorem escalate_regs {p u b : Nat} : (escalate s p u b).regs = s.regs := by
  unfold escalate; dsimp only; repeat' split
  all_goals rfl

@[simp] theorem escalate_icu {p u b : Nat} : (escalate s p u b).icu = s.icu := by
  unfold escalate; dsimp only; repeat' split
  all_goals rfl

@[simp] theorem escalate_psq {p u b : Nat} : (escalate s p u b).psq = s.psq := by
  unfold escalate; dsimp only; repeat' split
  all_goals rfl

@[simp] theorem escalate_evr {p u b : Nat} : (escalate s p u b).evr = s.evr := by
  unfold escalate; dsimp only; repeat' split
  all_goals rfl

@[simp] theorem fltReport_pending {p b u : Nat} : (fltReport s p b u).pending = s.pending := by
  unfold fltReport; dsimp only; repeat' split
  all_goals simp

@[simp] theorem fltReport_free {p b u : Nat} : (fltReport s p b u).free = s.free := by
  unfold fltReport; dsimp only; repeat' split
  all_goals simp

@[simp] theorem fltReport_mgmtRead {p b u : Nat} : (fltReport s p b u).mgmtRead = s.mgmtRead := by
  unfold fltReport; dsimp only; repeat' split
  all_goals simp

@[simp] theorem fltReport_sram {p b u : Nat} : (fltReport s p b u).sram = s.sram := by
  unfold fltReport; dsimp only; repeat' split
  all_goals simp

@[simp] theorem fltReport_doms {p b u : Nat} : (fltReport s p b u).doms = s.doms := by
  unfold fltReport; dsimp only; repeat' split
  all_goals simp

@[simp] theorem fltReport_fwLog {p b u : Nat} : (fltReport s p b u).fwLog = s.fwLog := by
  unfold fltReport; dsimp only; repeat' split
  all_goals simp

@[simp] theorem fltReport_resets {p b u : Nat} : (fltReport s p b u).resets = s.resets := by
  unfold fltReport; dsimp only; repeat' split
  all_goals simp

@[simp] theorem fltReport_cfl {p b u : Nat} : (fltReport s p b u).cfl = s.cfl := by
  unfold fltReport; dsimp only; repeat' split
  all_goals simp

@[simp] theorem fltReport_gen {p b u : Nat} : (fltReport s p b u).gen = s.gen := by
  unfold fltReport; dsimp only; repeat' split
  all_goals simp

@[simp] theorem fltReport_hl {p b u : Nat} : (fltReport s p b u).hl = s.hl := by
  unfold fltReport; dsimp only; repeat' split
  all_goals simp

@[simp] theorem fltReport_dram {p b u : Nat} : (fltReport s p b u).dram = s.dram := by
  unfold fltReport; dsimp only; repeat' split
  all_goals simp

@[simp] theorem fltReport_fst {p b u : Nat} : (fltReport s p b u).fst = s.fst := by
  unfold fltReport; dsimp only; repeat' split
  all_goals simp

@[simp] theorem fltReport_pool {p b u : Nat} : (fltReport s p b u).pool = s.pool := by
  unfold fltReport; dsimp only; repeat' split
  all_goals simp

@[simp] theorem fltReport_bat {p b u : Nat} : (fltReport s p b u).bat = s.bat := by
  unfold fltReport; dsimp only; repeat' split
  all_goals simp

@[simp] theorem fltReport_thm {p b u : Nat} : (fltReport s p b u).thm = s.thm := by
  unfold fltReport; dsimp only; repeat' split
  all_goals simp

@[simp] theorem fltReport_upd {p b u : Nat} : (fltReport s p b u).upd = s.upd := by
  unfold fltReport; dsimp only; repeat' split
  all_goals simp

@[simp] theorem fltReport_sb {p b u : Nat} : (fltReport s p b u).sb = s.sb := by
  unfold fltReport; dsimp only; repeat' split
  all_goals simp

@[simp] theorem report_pending {p b u : Nat} : (report s p b u).pending = s.pending := by
  unfold report; dsimp only; repeat' split
  all_goals simp

@[simp] theorem report_free {p b u : Nat} : (report s p b u).free = s.free := by
  unfold report; dsimp only; repeat' split
  all_goals simp

@[simp] theorem report_mgmtRead {p b u : Nat} : (report s p b u).mgmtRead = s.mgmtRead := by
  unfold report; dsimp only; repeat' split
  all_goals simp

@[simp] theorem report_sram {p b u : Nat} : (report s p b u).sram = s.sram := by
  unfold report; dsimp only; repeat' split
  all_goals simp

@[simp] theorem report_doms {p b u : Nat} : (report s p b u).doms = s.doms := by
  unfold report; dsimp only; repeat' split
  all_goals simp

@[simp] theorem report_fwLog {p b u : Nat} : (report s p b u).fwLog = s.fwLog := by
  unfold report; dsimp only; repeat' split
  all_goals simp

@[simp] theorem report_resets {p b u : Nat} : (report s p b u).resets = s.resets := by
  unfold report; dsimp only; repeat' split
  all_goals simp

@[simp] theorem report_cfl {p b u : Nat} : (report s p b u).cfl = s.cfl := by
  unfold report; dsimp only; repeat' split
  all_goals simp

@[simp] theorem report_gen {p b u : Nat} : (report s p b u).gen = s.gen := by
  unfold report; dsimp only; repeat' split
  all_goals simp

@[simp] theorem report_hl {p b u : Nat} : (report s p b u).hl = s.hl := by
  unfold report; dsimp only; repeat' split
  all_goals simp

@[simp] theorem report_dram {p b u : Nat} : (report s p b u).dram = s.dram := by
  unfold report; dsimp only; repeat' split
  all_goals simp

@[simp] theorem report_fst {p b u : Nat} : (report s p b u).fst = s.fst := by
  unfold report; dsimp only; repeat' split
  all_goals simp

@[simp] theorem report_pool {p b u : Nat} : (report s p b u).pool = s.pool := by
  unfold report; dsimp only; repeat' split
  all_goals simp

@[simp] theorem report_bat {p b u : Nat} : (report s p b u).bat = s.bat := by
  unfold report; dsimp only; repeat' split
  all_goals simp

@[simp] theorem report_thm {p b u : Nat} : (report s p b u).thm = s.thm := by
  unfold report; dsimp only; repeat' split
  all_goals simp

@[simp] theorem report_upd {p b u : Nat} : (report s p b u).upd = s.upd := by
  unfold report; dsimp only; repeat' split
  all_goals simp

@[simp] theorem report_sb {p b u : Nat} : (report s p b u).sb = s.sb := by
  unfold report; dsimp only; repeat' split
  all_goals simp

@[simp] theorem accessErr_pending {p : Nat} : (accessErr s p).pending = s.pending := by
  unfold accessErr; simp

@[simp] theorem accessErr_free {p : Nat} : (accessErr s p).free = s.free := by
  unfold accessErr; simp

@[simp] theorem accessErr_mgmtRead {p : Nat} : (accessErr s p).mgmtRead = s.mgmtRead := by
  unfold accessErr; simp

@[simp] theorem accessErr_sram {p : Nat} : (accessErr s p).sram = s.sram := by
  unfold accessErr; simp

@[simp] theorem accessErr_doms {p : Nat} : (accessErr s p).doms = s.doms := by
  unfold accessErr; simp

@[simp] theorem accessErr_fwLog {p : Nat} : (accessErr s p).fwLog = s.fwLog := by
  unfold accessErr; simp

@[simp] theorem accessErr_resets {p : Nat} : (accessErr s p).resets = s.resets := by
  unfold accessErr; simp

@[simp] theorem accessErr_cfl {p : Nat} : (accessErr s p).cfl = s.cfl := by
  unfold accessErr; simp

@[simp] theorem accessErr_gen {p : Nat} : (accessErr s p).gen = s.gen := by
  unfold accessErr; simp

@[simp] theorem accessErr_hl {p : Nat} : (accessErr s p).hl = s.hl := by
  unfold accessErr; simp

@[simp] theorem accessErr_dram {p : Nat} : (accessErr s p).dram = s.dram := by
  unfold accessErr; simp

@[simp] theorem accessErr_fst {p : Nat} : (accessErr s p).fst = s.fst := by
  unfold accessErr; simp

@[simp] theorem accessErr_pool {p : Nat} : (accessErr s p).pool = s.pool := by
  unfold accessErr; simp

@[simp] theorem accessErr_bat {p : Nat} : (accessErr s p).bat = s.bat := by
  unfold accessErr; simp

@[simp] theorem accessErr_thm {p : Nat} : (accessErr s p).thm = s.thm := by
  unfold accessErr; simp

@[simp] theorem accessErr_upd {p : Nat} : (accessErr s p).upd = s.upd := by
  unfold accessErr; simp

@[simp] theorem accessErr_sb {p : Nat} : (accessErr s p).sb = s.sb := by
  unfold accessErr; simp

@[simp] theorem traceFreezeNow_pending : (traceFreezeNow s).pending = s.pending := by
  unfold traceFreezeNow; simp

@[simp] theorem traceFreezeNow_free : (traceFreezeNow s).free = s.free := by
  unfold traceFreezeNow; simp

@[simp] theorem traceFreezeNow_mgmtRead : (traceFreezeNow s).mgmtRead = s.mgmtRead := by
  unfold traceFreezeNow; simp

@[simp] theorem traceFreezeNow_sram : (traceFreezeNow s).sram = s.sram := by
  unfold traceFreezeNow; simp

@[simp] theorem traceFreezeNow_doms : (traceFreezeNow s).doms = s.doms := by
  unfold traceFreezeNow; simp

@[simp] theorem traceFreezeNow_fwLog : (traceFreezeNow s).fwLog = s.fwLog := by
  unfold traceFreezeNow; simp

@[simp] theorem traceFreezeNow_resets : (traceFreezeNow s).resets = s.resets := by
  unfold traceFreezeNow; simp

@[simp] theorem traceFreezeNow_cfl : (traceFreezeNow s).cfl = s.cfl := by
  unfold traceFreezeNow; simp

@[simp] theorem traceFreezeNow_gen : (traceFreezeNow s).gen = s.gen := by
  unfold traceFreezeNow; simp

@[simp] theorem traceFreezeNow_hl : (traceFreezeNow s).hl = s.hl := by
  unfold traceFreezeNow; simp

@[simp] theorem traceFreezeNow_dram : (traceFreezeNow s).dram = s.dram := by
  unfold traceFreezeNow; simp

@[simp] theorem traceFreezeNow_fst : (traceFreezeNow s).fst = s.fst := by
  unfold traceFreezeNow; simp

@[simp] theorem traceFreezeNow_pool : (traceFreezeNow s).pool = s.pool := by
  unfold traceFreezeNow; simp

@[simp] theorem traceFreezeNow_bat : (traceFreezeNow s).bat = s.bat := by
  unfold traceFreezeNow; simp

@[simp] theorem traceFreezeNow_thm : (traceFreezeNow s).thm = s.thm := by
  unfold traceFreezeNow; simp

@[simp] theorem traceFreezeNow_upd : (traceFreezeNow s).upd = s.upd := by
  unfold traceFreezeNow; simp

@[simp] theorem traceFreezeNow_sb : (traceFreezeNow s).sb = s.sb := by
  unfold traceFreezeNow; simp

@[simp] theorem traceFreezeNow_flt : (traceFreezeNow s).flt = s.flt := by
  unfold traceFreezeNow; simp

@[simp] theorem trace_pending {c i d : Nat} : (trace s c i d).pending = s.pending := by
  unfold trace; dsimp only; repeat' split
  all_goals simp

@[simp] theorem trace_free {c i d : Nat} : (trace s c i d).free = s.free := by
  unfold trace; dsimp only; repeat' split
  all_goals simp

@[simp] theorem trace_mgmtRead {c i d : Nat} : (trace s c i d).mgmtRead = s.mgmtRead := by
  unfold trace; dsimp only; repeat' split
  all_goals simp

@[simp] theorem trace_sram {c i d : Nat} : (trace s c i d).sram = s.sram := by
  unfold trace; dsimp only; repeat' split
  all_goals simp

@[simp] theorem trace_doms {c i d : Nat} : (trace s c i d).doms = s.doms := by
  unfold trace; dsimp only; repeat' split
  all_goals simp

@[simp] theorem trace_fwLog {c i d : Nat} : (trace s c i d).fwLog = s.fwLog := by
  unfold trace; dsimp only; repeat' split
  all_goals simp

@[simp] theorem trace_resets {c i d : Nat} : (trace s c i d).resets = s.resets := by
  unfold trace; dsimp only; repeat' split
  all_goals simp

@[simp] theorem trace_cfl {c i d : Nat} : (trace s c i d).cfl = s.cfl := by
  unfold trace; dsimp only; repeat' split
  all_goals simp

@[simp] theorem trace_gen {c i d : Nat} : (trace s c i d).gen = s.gen := by
  unfold trace; dsimp only; repeat' split
  all_goals simp

@[simp] theorem trace_hl {c i d : Nat} : (trace s c i d).hl = s.hl := by
  unfold trace; dsimp only; repeat' split
  all_goals simp

@[simp] theorem trace_dram {c i d : Nat} : (trace s c i d).dram = s.dram := by
  unfold trace; dsimp only; repeat' split
  all_goals simp

@[simp] theorem trace_fst {c i d : Nat} : (trace s c i d).fst = s.fst := by
  unfold trace; dsimp only; repeat' split
  all_goals simp

@[simp] theorem trace_pool {c i d : Nat} : (trace s c i d).pool = s.pool := by
  unfold trace; dsimp only; repeat' split
  all_goals simp

@[simp] theorem trace_bat {c i d : Nat} : (trace s c i d).bat = s.bat := by
  unfold trace; dsimp only; repeat' split
  all_goals simp

@[simp] theorem trace_thm {c i d : Nat} : (trace s c i d).thm = s.thm := by
  unfold trace; dsimp only; repeat' split
  all_goals simp

@[simp] theorem trace_upd {c i d : Nat} : (trace s c i d).upd = s.upd := by
  unfold trace; dsimp only; repeat' split
  all_goals simp

@[simp] theorem trace_sb {c i d : Nat} : (trace s c i d).sb = s.sb := by
  unfold trace; dsimp only; repeat' split
  all_goals simp

@[simp] theorem trace_flt {c i d : Nat} : (trace s c i d).flt = s.flt := by
  unfold trace; dsimp only; repeat' split
  all_goals simp

@[simp] theorem handled_regs {p b : Nat} : (handled s p b).regs = s.regs := by
  rfl

@[simp] theorem handled_pending {p b : Nat} : (handled s p b).pending = s.pending := by
  rfl

@[simp] theorem handled_free {p b : Nat} : (handled s p b).free = s.free := by
  rfl

@[simp] theorem handled_mgmtRead {p b : Nat} : (handled s p b).mgmtRead = s.mgmtRead := by
  rfl

@[simp] theorem handled_sram {p b : Nat} : (handled s p b).sram = s.sram := by
  rfl

@[simp] theorem handled_doms {p b : Nat} : (handled s p b).doms = s.doms := by
  rfl

@[simp] theorem handled_fwLog {p b : Nat} : (handled s p b).fwLog = s.fwLog := by
  rfl

@[simp] theorem handled_resets {p b : Nat} : (handled s p b).resets = s.resets := by
  rfl

@[simp] theorem handled_cfl {p b : Nat} : (handled s p b).cfl = s.cfl := by
  rfl

@[simp] theorem handled_gen {p b : Nat} : (handled s p b).gen = s.gen := by
  rfl

@[simp] theorem handled_hl {p b : Nat} : (handled s p b).hl = s.hl := by
  rfl

@[simp] theorem handled_dram {p b : Nat} : (handled s p b).dram = s.dram := by
  rfl

@[simp] theorem handled_fst {p b : Nat} : (handled s p b).fst = s.fst := by
  rfl

@[simp] theorem handled_pool {p b : Nat} : (handled s p b).pool = s.pool := by
  rfl

@[simp] theorem handled_bat {p b : Nat} : (handled s p b).bat = s.bat := by
  rfl

@[simp] theorem handled_thm {p b : Nat} : (handled s p b).thm = s.thm := by
  rfl

@[simp] theorem handled_upd {p b : Nat} : (handled s p b).upd = s.upd := by
  rfl

@[simp] theorem handled_sb {p b : Nat} : (handled s p b).sb = s.sb := by
  rfl

@[simp] theorem handled_icu {p b : Nat} : (handled s p b).icu = s.icu := by
  rfl

@[simp] theorem handled_psq {p b : Nat} : (handled s p b).psq = s.psq := by
  rfl

@[simp] theorem handled_evr {p b : Nat} : (handled s p b).evr = s.evr := by
  rfl

-- what they do to registers

theorem rd_of_regs {t : State} (h : t.regs = s.regs) (a : Nat) : rd t a = rd s a := by unfold rd; rw [h]

theorem rd_event {c v a : Nat} {p : List Byte} : rd (event s c v p) a = rd s a := rd_of_regs event_regs a

theorem rd_srcEvent {n a : Nat} : rd (srcEvent s n) a = rd s a := rd_of_regs srcEvent_regs a

theorem rd_setPending {n a : Nat} {b : Bool} (hn : n < 512) (ha : a / 0x1000 ≠ Pg.icu) :
    rd (setPending s n b) a = rd s a := by
  refine rd_wr_ne ?_
  unfold Reg.icuPend Pg.icu at *
  omega

theorem rd_bumpLost {n a : Nat} (hn : n < 512) (ha : a / 0x1000 ≠ Pg.icu) : rd (bumpLost s n) a = rd s a := by
  refine rd_wr_ne ?_
  unfold Reg.icuLost Pg.icu at *
  omega

theorem rd_icuSet {n a : Nat} (hn : n < 512) (ha : a / 0x1000 ≠ Pg.icu) : rd (icuSet s n).1 a = rd s a := by
  unfold icuSet
  split
  · exact rd_bumpLost hn ha
  · exact rd_setPending hn ha

/-- Recording an error writes the common registers of its page alone. -/
theorem rd_errSet {p b a : Nat} (ha : a / 0x1000 ≠ p ∨ 0x100 ≤ a % 0x1000) : rd (errSet s p b) a = rd s a := by
  have h1 : a ≠ errFirstA p := by unfold errFirstA; omega
  have h2 : a ≠ errStatusA p := by unfold errStatusA; omega
  have h3 : a ≠ errCountA p := by unfold errCountA; omega
  unfold errSet
  dsimp only
  repeat' split
  all_goals simp [rd_event, addSat, rd_wr_ne h1, rd_wr_ne h2, rd_wr_ne h3]

theorem rd_lostErr {a : Nat} (ha : a / 0x1000 ≠ Pg.icu) (hb : a ≠ Reg.fltCorrCount) : rd (lostErr s) a = rd s a := by
  unfold lostErr
  dsimp only
  split
  · exact rd_errSet (.inl ha)
  · exact (rd_wr_ne hb).trans (rd_errSet (.inl ha))

/-- A message writes registers of the ICU alone, and FLT_CORR_COUNT. -/
theorem rd_icu {n a : Nat} (hn : n < 512) (ha : a / 0x1000 ≠ Pg.icu) (hb : a ≠ Reg.fltCorrCount) : rd (icu s n) a = rd s a := by
  unfold icu
  dsimp only
  split
  · unfold icuMsg
    dsimp only
    split
    · rw [rd_lostErr ha hb, rd_icuSet hn ha, rd_srcEvent]
    · rw [rd_icuSet hn ha, rd_srcEvent]
  · repeat' split
    all_goals exact rd_srcEvent

theorem errSource_lt {p b u n : Nat} (h : errSource p b u = some n) : n < 512 := by
  unfold errSource at h
  repeat' split at h
  all_goals first
    | (cases h; done)
    | (injection h with h; omega)

theorem rd_fltReport {p b u a : Nat} (ha : a / 0x1000 ≠ Pg.icu) (hb : a / 0x1000 ≠ Pg.flt) :
    rd (fltReport s p b u) a = rd s a := by
  have h1 : a ≠ Reg.fltCorrCount := by intro h; subst h; exact hb rfl
  have h2 : a ≠ Reg.fltClassCount := by intro h; subst h; exact hb rfl
  have k : ∀ t : State, ∀ n, n < 512 → rd (icu t n) a = rd t a := fun t n hn => rd_icu hn ha h1
  have e : ∀ t : State, rd (escalate t p u b) a = rd t a := fun t => rd_of_regs escalate_regs a
  have c1 : rd (addSat s Reg.fltCorrCount 0 32 1) a = rd s a := rd_wr_ne h1
  have c2 : ∀ l, rd (addSat s Reg.fltClassCount l 16 1) a = rd s a := fun l => rd_wr_ne h2
  have f : ∀ (t : State) (x : Flt), rd { t with flt := x } a = rd t a := fun _ _ => rfl
  unfold fltReport
  dsimp only
  split
  · split
    · exact ((k _ _ (by omega)).trans (f _ _)).trans c1
    · exact c1
  · have c := c2 (if classOf p b = 3 then 16 else 0)
    generalize addSat s Reg.fltClassCount _ 16 1 = t at c ⊢
    split
    · exact (f _ _).trans c
    · have m : rd (if msSince t t.flt.last465 = true then icu { t with flt := { t.flt with last465 := some (now t) } } 465
          else t) a = rd s a := by
        split
        · exact ((k _ _ (by omega)).trans (f _ _)).trans c
        · exact c
      generalize (if msSince t t.flt.last465 = true then icu { t with flt := { t.flt with last465 := some (now t) } } 465
          else t) = r at m ⊢
      split
      · exact (e _).trans m
      · split
        · exact (e _).trans m
        · split
          · exact m
          · exact (f _ _).trans m

/-- A report leaves every register alone but the common ones of its page, those of the ICU and of FLT, and those that
name the unit (R541). -/
theorem rd_report {p b u a : Nat} (ha : a / 0x1000 ≠ Pg.icu) (hb : a / 0x1000 ≠ Pg.flt)
    (hp : a / 0x1000 ≠ p ∨ (0x100 ≤ a % 0x1000 ∧ a ≠ Reg.poolErrBank ∧ a ≠ Reg.genSliceStatus)) :
    rd (report s p b u) a = rd s a := by
  have h1 : a ≠ Reg.fltCorrCount := by intro h; subst h; exact hb rfl
  have h2 : rd (errSet s p b) a = rd s a := rd_errSet (hp.imp id And.left)
  have h3 : ∀ t : State, rd (attributeTo t p u) a = rd t a := by
    intro t
    unfold attributeTo
    split
    · refine rd_wr_ne ?_
      rintro rfl
      rcases hp with hp | hp
      · exact hp (by simp_all [Reg.poolErrBank])
      · exact hp.2.1 rfl
    · split
      · refine rd_wr_ne ?_
        rintro rfl
        rcases hp with hp | hp
        · exact hp (by simp_all [Reg.genSliceStatus])
        · exact hp.2.2 rfl
      · rfl
  unfold report
  dsimp only
  split
  · rw [h3, h2]
  · split
    · rename_i n hn
      rw [rd_icu (errSource_lt hn) ha h1, rd_fltReport ha hb, h3, h2]
    · rw [rd_fltReport ha hb, h3, h2]

-- an error that is recorded stays recorded (R33)

theorem bit_or {x y : Word} {n : Nat} (h : bit x n = true) : bit (x ||| y) n = true := by
  unfold bit at *
  simp [h]

theorem bit_or_one {x : Word} {n : Nat} (h : n < 32) : bit (x ||| one n) n = true := by
  unfold bit one
  rw [BitVec.getLsbD_or, BitVec.getLsbD_ofNat, Nat.testBit_two_pow_self]
  simp [h]

/-- Recording an error sets its bit. -/
theorem hasErr_errSet_self {p b : Nat} (hw : s.memWf = true) (hb : b < 32) : hasErr (errSet s p b) p b = true := by
  have n1 : errStatusA p ≠ errCountA p := by unfold errStatusA errCountA; omega
  have key : ∀ t : State, t.memWf = true → bit (rd (wr t (errStatusA p) (rd s (errStatusA p) ||| one b)) (errStatusA p)) b = true := by
    intro t ht
    rw [rd_wr_self ht]
    exact bit_or_one hb
  have w1 : ∀ v, (wr s (errFirstA p) v).memWf = true := fun v => (wr_keeps (Keeps.refl s)).mem hw
  unfold hasErr errSet
  dsimp only
  repeat' split
  all_goals
    rw [rd_event]
    refine (congrArg (bit · b) (rd_wr_ne n1)).trans ?_
    first
    | exact key _ (w1 _)
    | exact key _ hw

/-- An error bit once set stays set when another error is recorded. -/
theorem hasErr_errSet {p b q c : Nat} (hw : s.memWf = true) (h : hasErr s p b = true) : hasErr (errSet s q c) p b = true := by
  by_cases hq : p = q
  · subst hq
    have n1 : errStatusA p ≠ errCountA p := by unfold errStatusA errCountA; omega
    have w1 : ∀ v, (wr s (errFirstA p) v).memWf = true := fun v => (wr_keeps (Keeps.refl s)).mem hw
    have key : ∀ t : State, t.memWf = true →
        bit (rd (wr t (errStatusA p) (rd s (errStatusA p) ||| one c)) (errStatusA p)) b = true := by
      intro t ht
      rw [rd_wr_self ht]
      exact bit_or h
    unfold hasErr errSet
    dsimp only
    repeat' split
    all_goals
      rw [rd_event]
      refine (congrArg (bit · b) (rd_wr_ne n1)).trans ?_
      first
      | exact key _ (w1 _)
      | exact key _ hw
  · unfold hasErr at *
    rwa [rd_errSet (.inl (by unfold errStatusA; omega))]

theorem hasErr_regs {p b : Nat} {t : State} (h : t.regs = s.regs) (k : hasErr s p b = true) : hasErr t p b = true := by
  unfold hasErr at *
  rwa [rd_of_regs h]

theorem hasErr_wr {p b a : Nat} {v : Word} (ha : 0x100 ≤ a % 0x1000 ∨ a % 0x1000 = 0x28) (k : hasErr s p b = true) : hasErr (wr s a v) p b = true := by
  unfold hasErr at *
  rwa [rd_wr_ne]
  unfold errStatusA
  omega

theorem hasErr_icuSet {p b n : Nat} (hn : n < 512) (k : hasErr s p b = true) : hasErr (icuSet s n).1 p b = true := by
  unfold icuSet
  split
  · exact hasErr_wr (by unfold Reg.icuLost; omega) k
  · exact hasErr_wr (by unfold Reg.icuPend; omega) k

theorem hasErr_icu {p b n : Nat} (hn : n < 512) (hw : s.memWf = true) (k : hasErr s p b = true) :
    hasErr (icu s n) p b = true := by
  have k2 : hasErr (srcEvent s n) p b = true := hasErr_regs srcEvent_regs k
  have w2 : (icuSet (srcEvent s n) n).1.memWf = true := icuSet_keeps (srcEvent_keeps (Keeps.refl s)) |>.mem hw
  unfold icu
  dsimp only
  repeat' split
  · unfold icuMsg
    dsimp only
    have k3 := hasErr_icuSet hn k2
    split
    · unfold lostErr
      dsimp only
      have k4 := hasErr_errSet (q := Pg.icu) (c := 17) w2 k3
      split
      · exact k4
      · exact hasErr_wr (by decide) k4
    · exact k3
  all_goals exact hasErr_regs (by simp) k

theorem hasErr_fltReport {p b q c u : Nat} (hw : s.memWf = true) (k : hasErr s p b = true) :
    hasErr (fltReport s q c u) p b = true := by
  have f : ∀ (t : State) (x : Flt), t.memWf = true → hasErr t p b = true → hasErr (icu { t with flt := x } 464) p b = true :=
    fun t x ht hk => hasErr_icu (by omega) ht hk
  have g : ∀ (t : State) (x : Flt), t.memWf = true → hasErr t p b = true → hasErr (icu { t with flt := x } 465) p b = true :=
    fun t x ht hk => hasErr_icu (by omega) ht hk
  have w : ∀ a l n k, (addSat s a l n k).memWf = true := fun a l n k => (addSat_keeps (Keeps.refl s)).mem hw
  have c1 : hasErr (addSat s Reg.fltCorrCount 0 32 1) p b = true := hasErr_wr (by decide) k
  have c2 : ∀ l, hasErr (addSat s Reg.fltClassCount l 16 1) p b = true := fun l => hasErr_wr (by decide) k
  have e : ∀ t : State, hasErr t p b = true → hasErr (escalate t q u c) p b = true := fun t h => hasErr_regs escalate_regs h
  unfold fltReport
  dsimp only
  split
  · split
    · exact f _ _ (w _ _ _ _) c1
    · exact c1
  · have c3 := c2 (if classOf q c = 3 then 16 else 0)
    have w3 := w Reg.fltClassCount (if classOf q c = 3 then 16 else 0) 16 1
    generalize addSat s Reg.fltClassCount _ 16 1 = t at c3 w3 ⊢
    split
    · exact c3
    · have m : hasErr (if msSince t t.flt.last465 = true then
          icu { t with flt := { t.flt with last465 := some (now t) } } 465 else t) p b = true := by
        split
        · exact g _ _ w3 c3
        · exact c3
      generalize (if msSince t t.flt.last465 = true then icu { t with flt := { t.flt with last465 := some (now t) } } 465
          else t) = r at m ⊢
      split
      · exact e _ m
      · split
        · exact e _ m
        · split
          · exact m
          · exact m

/-- A reported error is recorded in ERR_STATUS of its page (R33), masked or not. -/
theorem hasErr_report {p b u : Nat} (hw : s.memWf = true) (hb : b < 32) : hasErr (report s p b u) p b = true := by
  have k1 := hasErr_errSet_self (s := s) (p := p) hw hb
  have k2 : hasErr (attributeTo (errSet s p b) p u) p b = true := by
    unfold attributeTo
    repeat' split
    · exact hasErr_wr (by decide) k1
    · exact hasErr_wr (by decide) k1
    · exact k1
  have w2 : (attributeTo (errSet s p b) p u).memWf = true := (attributeTo_keeps (errSet_keeps (Keeps.refl s))).mem hw
  unfold report
  dsimp only
  split
  · exact k2
  · have k3 := hasErr_fltReport (q := p) (c := b) (u := u) w2 k2
    have w3 := (fltReport_keeps (a0 := p) (a1 := b) (a2 := u) (Keeps.refl (attributeTo (errSet s p b) p u))).mem w2
    split
    · rename_i n hn
      exact hasErr_icu (errSource_lt hn) w3 k3
    · exact k3

/-- An error once recorded stays recorded through any report. -/
theorem hasErr_report_other {p b q c u : Nat} (hw : s.memWf = true) (k : hasErr s p b = true) :
    hasErr (report s q c u) p b = true := by
  have k1 := hasErr_errSet (q := q) (c := c) hw k
  have k2 : hasErr (attributeTo (errSet s q c) q u) p b = true := by
    unfold attributeTo
    repeat' split
    · exact hasErr_wr (by decide) k1
    · exact hasErr_wr (by decide) k1
    · exact k1
  have w2 : (attributeTo (errSet s q c) q u).memWf = true := (attributeTo_keeps (errSet_keeps (Keeps.refl s))).mem hw
  unfold report
  dsimp only
  split
  · exact k2
  · have k3 := hasErr_fltReport (q := q) (c := c) (u := u) w2 k2
    have w3 := (fltReport_keeps (a0 := q) (a1 := c) (a2 := u) (Keeps.refl (attributeTo (errSet s q c) q u))).mem w2
    split
    · rename_i n hn
      exact hasErr_icu (errSource_lt hn) w3 k3
    · exact k3

-- escalation

/-- The operations of pacing and of the offline reasons call for no escalation. -/
theorem forEach_flt {α : Type} {l : List α} {f : State → α → State} (k : ∀ t a, (f t a).flt = t.flt) :
    (forEach l s f).flt = s.flt := by
  unfold forEach
  induction l generalizing s with
  | nil => rfl
  | cons a l ih => exact (ih (s := f s a)).trans (k s a)

@[simp] theorem noteReasons_flt : (noteReasons s).flt = s.flt := by
  unfold noteReasons
  dsimp only
  split
  · refine icu_flt.trans (forEach_flt ?_)
    intro _ _; rfl
  · rfl

@[simp] theorem retarget_flt {g : Nat} : (retarget s g).flt = s.flt := by
  unfold retarget; dsimp only; split <;> rfl

@[simp] theorem updateRates_flt {g : Nat} : (updateRates s g).flt = s.flt := by
  unfold updateRates
  dsimp only
  refine (forEach_flt ?_).trans ?_
  · intro _ _; rfl
  · exact retarget_flt (s := s) (g := g)

@[simp] theorem enforce_flt {g r : Nat} : (enforce s g r).flt = s.flt := by
  unfold enforce
  dsimp only
  split
  · rw [icu_flt, updateRates_flt]; rfl
  · rfl

@[simp] theorem postPace_flt {g r n : Nat} : (postPace s g r n).flt = s.flt := by
  unfold postPace
  dsimp only
  split
  · rfl
  · rw [icu_flt]; rfl

@[simp] theorem paceGroup_flt {g : Nat} : (paceGroup s g).flt = s.flt := by
  unfold paceGroup
  refine forEach_flt fun t r => ?_
  dsimp only
  have k {u : State} (h : u.flt = t.flt) : (if ((grp u g).pacing.any fun q => q.reason == r) && overBudget u g r
      then enforce u g r else u).flt = t.flt := by
    split
    · exact enforce_flt.trans h
    · exact h
  refine k ?_
  split
  · rw [updateRates_flt]; rfl
  · split
    · exact postPace_flt
    · rfl

@[simp] theorem pace_flt {g : Nat} : (pace s g).flt = s.flt := by
  unfold pace enforceGlobal
  split
  · rw [forEach_flt fun _ _ => enforce_flt, paceGroup_flt, retarget_flt]
  · rw [paceGroup_flt, retarget_flt]

@[simp] theorem withdrawBudgets_flt : (withdrawBudgets s).flt = s.flt := by
  unfold withdrawBudgets paceAll
  split
  · exact forEach_flt fun _ _ => pace_flt
  · rfl

/-- Where nothing was called for, only the offline reasons and the budget reasons are brought up to date. -/
theorem settle_calm (h : s.flt.esc = []) : settle s = noteReasons (withdrawBudgets s) := by
  unfold settle settleN
  simp [h]

/-- Nothing is added where those are up to date. -/
theorem settle_quiet (h : s.flt.esc = []) (q : s.quiet = true) : settle s = s := by
  rw [settle_calm h]
  simp only [State.quiet, Bool.and_eq_true, Bool.or_eq_true, Bool.not_eq_true'] at q
  have w : withdrawBudgets s = s := by
    unfold withdrawBudgets
    rw [if_neg]
    rcases q.2 with k | k <;> simp [k]
  rw [w]
  unfold noteReasons
  dsimp only
  rw [if_neg]
  rcases q.1 with k | k <;> simp [k]

theorem settleN_esc {n : Nat} : (settleN n s).flt.esc = [] := by
  induction n generalizing s with
  | zero => rfl
  | succ n ih =>
    unfold settleN
    split
    · assumption
    · exact ih

/-- No escalation waits longer than the step that calls for it. -/
theorem settle_esc : (settle s).flt.esc = [] := by
  unfold settle
  rw [noteReasons_flt, withdrawBudgets_flt, settleN_esc]

end Sys2Proof.Machine
end

