-- ==== Sys2Proof/Laws/Domains.lean ====
section
/-! SUPPORT. Power requests of the domains (R17, R18), with a DRAM channel's page as the plain case. -/

namespace Sys2Proof.Machine

open Bits

/-- The page of a DRAM channel has the channel's domain. -/
theorem domsOf_dch {c : Nat} (h : c < 16) : domsOfPage (Pg.dch c) = [c] := by
  interval_cases c <;> decide

/-- Every DRAM channel has a page. -/
theorem isPage_dch {c : Nat} (h : c < 16) : isPage (Pg.dch c) = true := by
  interval_cases c <;> decide

/-- What a power request does, by the state of the domain (R17, R18). -/
theorem domReq_st {s : State} {d : Nat} {on : Bool} : domReq s d on = (match (domOf s d).st, on with
  | 0, true => startOn s d
  | 0, false => setDom s d { domOf s d with latched := none }
  | 2, true => setDom s d { domOf s d with deferred := false }
  | 2, false => startOff s d
  | _, b => setDom s d { domOf s d with latched := some b }) := rfl

/-- CTRL of an unlocked DRAM channel that is not enabled: power_req is stored and reaches the domain. -/
theorem setCtrl_dch {s : State} {c : Nat} {pw : Bool} (hc : c < 16) (hw : s.memWf = true) (h : locked s (Pg.dch c) = false)
    (h2 : enabled s (Pg.dch c) = false) : setCtrl s (Pg.dch c) false pw =
      domReq (wr s (ctrlA (Pg.dch c)) (wd (4 * pw.toNat))) c pw := by
  have n1 : (Pg.dch c == Pg.psq || Pg.dch c == Pg.thm) = false := by interval_cases c <;> decide
  have e : ∀ v, rd (wr s (ctrlA (Pg.dch c)) v) (ctrlA (Pg.dch c)) = v := fun v => rd_wr_self hw
  have so : ∀ t : State, subOn t c = true := by
    intro t; interval_cases c <;> rfl
  unfold setCtrl
  simp only [h, h2, n1, Bool.and_false, Bool.or_false, Bool.false_and, Bool.false_eq_true, if_false, bne_self_eq_false, Bool.toNat_false, Nat.zero_add, Bool.or_self]
  unfold applyPower
  rw [domsOf_dch hc]
  simp only [forEach, List.foldl_cons, List.foldl_nil, rb, e, so, Bool.and_true]
  cases pw <;> rfl

end Sys2Proof.Machine
end

