-- ==== Sys2Proof/Laws/KeepsFstOps.lean ====
section
/-! SUPPORT. Frame lemmas of the operations of Machine/FstOps, Machine/MapOps, Machine/GenOps, Machine/IcuOps, Machine/CflOps: each keeps the queue and every
invariant of `Keeps`. -/

set_option linter.unusedTactic false
set_option linter.unreachableTactic false

namespace Sys2Proof.Machine

open Bits

variable {s0 s : State}

theorem setFch_keeps {a0 a1} (h : Keeps s0 s) : Keeps s0 (setFch s a0 a1) := by
  delta setFch
  repeat' (first
    | with_reducible assumption
    | (refine fun (_ : Keeps _ _) => ?_)
    | (intro x; first | (refine Keeps.cut (s0 := s0) (x := x) ?_ ?_ <;> (first | (clear_value x; intro hx) | subst x)) | (subst x; try dsimp -zeta only))
    | split
    | lift_lets
    | (fail_if_no_progress with_reducible refine Keeps.mk' ?_ rfl rfl rfl rfl))

theorem setLun_keeps {a0 a1} (h : Keeps s0 s) : Keeps s0 (setLun s a0 a1) := by
  delta setLun
  repeat' (first
    | with_reducible assumption
    | (refine fun (_ : Keeps _ _) => ?_)
    | (intro x; first | (refine Keeps.cut (s0 := s0) (x := x) ?_ ?_ <;> (first | (clear_value x; intro hx) | subst x)) | (subst x; try dsimp -zeta only))
    | split
    | lift_lets
    | (fail_if_no_progress with_reducible refine Keeps.mk' ?_ rfl rfl rfl rfl))

theorem setBlk_keeps {a0 a1} (h : Keeps s0 s) : Keeps s0 (setBlk s a0 a1) := by
  delta setBlk
  repeat' (first
    | with_reducible assumption
    | (refine fun (_ : Keeps _ _) => ?_)
    | (intro x; first | (refine Keeps.cut (s0 := s0) (x := x) ?_ ?_ <;> (first | (clear_value x; intro hx) | subst x)) | (subst x; try dsimp -zeta only))
    | split
    | lift_lets
    | (fail_if_no_progress with_reducible refine Keeps.mk' ?_ rfl rfl rfl rfl))

theorem storeEvent_keeps {a0} (h : Keeps s0 s) : Keeps s0 (storeEvent s a0) := by
  delta storeEvent
  repeat' (first
    | with_reducible assumption
    | (refine fun (_ : Keeps _ _) => ?_)
    | (intro x; first | (refine Keeps.cut (s0 := s0) (x := x) ?_ ?_ <;> (first | (clear_value x; intro hx) | subst x)) | (subst x; try dsimp -zeta only))
    | with_reducible (refine wrB_keeps ?_)
    | with_reducible (refine icu_keeps ?_)
    | split
    | lift_lets
    | (fail_if_no_progress with_reducible refine Keeps.mk' ?_ rfl rfl rfl rfl))

theorem intentPage_keeps {a0 a1} (h : Keeps s0 s) : Keeps s0 (intentPage s a0 a1) := by
  delta intentPage
  repeat' (first
    | with_reducible assumption
    | (refine fun (_ : Keeps _ _) => ?_)
    | (intro x; first | (refine Keeps.cut (s0 := s0) (x := x) ?_ ?_ <;> (first | (clear_value x; intro hx) | subst x)) | (subst x; try dsimp -zeta only))
    | with_reducible (refine setFch_keeps ?_)
    | split
    | lift_lets
    | (fail_if_no_progress with_reducible refine Keeps.mk' ?_ rfl rfl rfl rfl))

theorem intentNow_keeps {a0 a1} (h : Keeps s0 s) : Keeps s0 (intentNow s a0 a1) := by
  delta intentNow
  repeat' (first
    | with_reducible assumption
    | (refine fun (_ : Keeps _ _) => ?_)
    | (intro x; first | (refine Keeps.cut (s0 := s0) (x := x) ?_ ?_ <;> (first | (clear_value x; intro hx) | subst x)) | (subst x; try dsimp -zeta only))
    | with_reducible (refine intentPage_keeps ?_)
    | split
    | lift_lets
    | (fail_if_no_progress with_reducible refine Keeps.mk' ?_ rfl rfl rfl rfl))

theorem intentLater_keeps {a0 a1} (h : Keeps s0 s) : Keeps s0 (intentLater s a0 a1) := by
  delta intentLater
  repeat' (first
    | with_reducible assumption
    | (refine fun (_ : Keeps _ _) => ?_)
    | (intro x; first | (refine Keeps.cut (s0 := s0) (x := x) ?_ ?_ <;> (first | (clear_value x; intro hx) | subst x)) | (subst x; try dsimp -zeta only))
    | with_reducible (refine setFch_keeps ?_)
    | split
    | lift_lets
    | (fail_if_no_progress with_reducible refine Keeps.mk' ?_ rfl rfl rfl rfl))

theorem intentFlush_keeps {a0} (h : Keeps s0 s) : Keeps s0 (intentFlush s a0) := by
  delta intentFlush
  repeat' (first
    | with_reducible assumption
    | (refine fun (_ : Keeps _ _) => ?_)
    | (intro x; first | (refine Keeps.cut (s0 := s0) (x := x) ?_ ?_ <;> (first | (clear_value x; intro hx) | subst x)) | (subst x; try dsimp -zeta only))
    | with_reducible (refine intentPage_keeps ?_)
    | with_reducible (refine setFch_keeps ?_)
    | split
    | lift_lets
    | (fail_if_no_progress with_reducible refine Keeps.mk' ?_ rfl rfl rfl rfl))

theorem intentFlushAll_keeps (h : Keeps s0 s) : Keeps s0 (intentFlushAll s) := by
  delta intentFlushAll
  repeat' (first
    | with_reducible assumption
    | (refine fun (_ : Keeps _ _) => ?_)
    | (intro x; first | (refine Keeps.cut (s0 := s0) (x := x) ?_ ?_ <;> (first | (clear_value x; intro hx) | subst x)) | (subst x; try dsimp -zeta only))
    | with_reducible (refine intentFlush_keeps ?_)
    | with_reducible (refine forEach_keeps ?_ fun s a hs => ?_)
    | split
    | lift_lets
    | (fail_if_no_progress with_reducible refine Keeps.mk' ?_ rfl rfl rfl rfl))

theorem classAll_keeps {a0 a1} (h : Keeps s0 s) : Keeps s0 (classAll s a0 a1) := by
  delta classAll
  repeat' (first
    | with_reducible assumption
    | (refine fun (_ : Keeps _ _) => ?_)
    | (intro x; first | (refine Keeps.cut (s0 := s0) (x := x) ?_ ?_ <;> (first | (clear_value x; intro hx) | subst x)) | (subst x; try dsimp -zeta only))
    | with_reducible (refine setBlk_keeps ?_)
    | with_reducible (refine setFch_keeps ?_)
    | with_reducible (refine forEach_keeps ?_ fun s a hs => ?_)
    | split
    | lift_lets
    | (fail_if_no_progress with_reducible refine Keeps.mk' ?_ rfl rfl rfl rfl))

theorem setBand_keeps {a0 a1} (h : Keeps s0 s) : Keeps s0 (setBand s a0 a1) := by
  delta setBand
  repeat' (first
    | with_reducible assumption
    | (refine fun (_ : Keeps _ _) => ?_)
    | (intro x; first | (refine Keeps.cut (s0 := s0) (x := x) ?_ ?_ <;> (first | (clear_value x; intro hx) | subst x)) | (subst x; try dsimp -zeta only))
    | split
    | lift_lets
    | (fail_if_no_progress with_reducible refine Keeps.mk' ?_ rfl rfl rfl rfl))

theorem freeLevels_keeps (h : Keeps s0 s) : Keeps s0 (freeLevels s) := by
  delta freeLevels
  repeat' (first
    | with_reducible assumption
    | (refine fun (_ : Keeps _ _) => ?_)
    | (intro x; first | (refine Keeps.cut (s0 := s0) (x := x) ?_ ?_ <;> (first | (clear_value x; intro hx) | subst x)) | (subst x; try dsimp -zeta only))
    | with_reducible (refine storeEvent_keeps ?_)
    | with_reducible (refine report_keeps ?_)
    | split
    | lift_lets
    | (fail_if_no_progress with_reducible refine Keeps.mk' ?_ rfl rfl rfl rfl))

theorem openBand_keeps {a0 a1 a2} (h : Keeps s0 s) : Keeps s0 (openBand s a0 a1 a2) := by
  delta openBand
  repeat' (first
    | with_reducible assumption
    | (refine fun (_ : Keeps _ _) => ?_)
    | (intro x; first | (refine Keeps.cut (s0 := s0) (x := x) ?_ ?_ <;> (first | (clear_value x; intro hx) | subst x)) | (subst x; try dsimp -zeta only))
    | with_reducible (refine setBand_keeps ?_)
    | with_reducible (refine addSat_keeps ?_)
    | with_reducible (refine intentNow_keeps ?_)
    | with_reducible (refine setBlk_keeps ?_)
    | with_reducible (refine freeLevels_keeps ?_)
    | with_reducible (refine forEach_keeps ?_ fun s a hs => ?_)
    | split
    | lift_lets
    | (fail_if_no_progress with_reducible refine Keeps.mk' ?_ rfl rfl rfl rfl))

theorem programAt_keeps {a0 a1} (h : Keeps s0 s) : Keeps s0 (programAt s a0 a1) := by
  delta programAt
  repeat' (first
    | with_reducible assumption
    | (refine fun (_ : Keeps _ _) => ?_)
    | (intro x; first | (refine Keeps.cut (s0 := s0) (x := x) ?_ ?_ <;> (first | (clear_value x; intro hx) | subst x)) | (subst x; try dsimp -zeta only))
    | with_reducible (refine openBand_keeps ?_)
    | with_reducible (refine setBlk_keeps ?_)
    | with_reducible (refine intentNow_keeps ?_)
    | with_reducible (refine intentLater_keeps ?_)
    | with_reducible (refine addWrap_keeps ?_)
    | split
    | lift_lets
    | (fail_if_no_progress with_reducible refine Keeps.mk' ?_ rfl rfl rfl rfl))

theorem programPart_keeps {a0 a1} (h : Keeps s0 s) : Keeps s0 (programPart s a0 a1) := by
  delta programPart
  repeat' (first
    | with_reducible assumption
    | (refine fun (_ : Keeps _ _) => ?_)
    | (intro x; first | (refine Keeps.cut (s0 := s0) (x := x) ?_ ?_ <;> (first | (clear_value x; intro hx) | subst x)) | (subst x; try dsimp -zeta only))
    | with_reducible (refine programAt_keeps ?_)
    | split
    | lift_lets
    | (fail_if_no_progress with_reducible refine Keeps.mk' ?_ rfl rfl rfl rfl))

theorem closeBlk_keeps {a0} (h : Keeps s0 s) : Keeps s0 (closeBlk s a0) := by
  delta closeBlk
  repeat' (first
    | with_reducible assumption
    | (refine fun (_ : Keeps _ _) => ?_)
    | (intro x; first | (refine Keeps.cut (s0 := s0) (x := x) ?_ ?_ <;> (first | (clear_value x; intro hx) | subst x)) | (subst x; try dsimp -zeta only))
    | with_reducible (refine intentLater_keeps ?_)
    | with_reducible (refine setBlk_keeps ?_)
    | split
    | lift_lets
    | (fail_if_no_progress with_reducible refine Keeps.mk' ?_ rfl rfl rfl rfl))

theorem checkSpare_keeps {a0} (h : Keeps s0 s) : Keeps s0 (checkSpare s a0) := by
  delta checkSpare
  repeat' (first
    | with_reducible assumption
    | (refine fun (_ : Keeps _ _) => ?_)
    | (intro x; first | (refine Keeps.cut (s0 := s0) (x := x) ?_ ?_ <;> (first | (clear_value x; intro hx) | subst x)) | (subst x; try dsimp -zeta only))
    | with_reducible (refine setLun_keeps ?_)
    | with_reducible (refine wrF_keeps ?_)
    | with_reducible (refine report_keeps ?_)
    | split
    | lift_lets
    | (fail_if_no_progress with_reducible refine Keeps.mk' ?_ rfl rfl rfl rfl))

theorem retireBlk_keeps {a0} (h : Keeps s0 s) : Keeps s0 (retireBlk s a0) := by
  delta retireBlk
  repeat' (first
    | with_reducible assumption
    | (refine fun (_ : Keeps _ _) => ?_)
    | (intro x; first | (refine Keeps.cut (s0 := s0) (x := x) ?_ ?_ <;> (first | (clear_value x; intro hx) | subst x)) | (subst x; try dsimp -zeta only))
    | with_reducible (refine intentLater_keeps ?_)
    | with_reducible (refine setBlk_keeps ?_)
    | with_reducible (refine addSat_keeps ?_)
    | with_reducible (refine setLun_keeps ?_)
    | with_reducible (refine checkSpare_keeps ?_)
    | with_reducible (refine icu_keeps ?_)
    | split
    | lift_lets
    | (fail_if_no_progress with_reducible refine Keeps.mk' ?_ rfl rfl rfl rfl))

theorem addCand_keeps {a0 a1} (h : Keeps s0 s) : Keeps s0 (addCand s a0 a1) := by
  delta addCand
  repeat' (first
    | with_reducible assumption
    | (refine fun (_ : Keeps _ _) => ?_)
    | (intro x; first | (refine Keeps.cut (s0 := s0) (x := x) ?_ ?_ <;> (first | (clear_value x; intro hx) | subst x)) | (subst x; try dsimp -zeta only))
    | split
    | lift_lets
    | (fail_if_no_progress with_reducible refine Keeps.mk' ?_ rfl rfl rfl rfl))

theorem programFailed_keeps {a0} (h : Keeps s0 s) : Keeps s0 (programFailed s a0) := by
  delta programFailed
  repeat' (first
    | with_reducible assumption
    | (refine fun (_ : Keeps _ _) => ?_)
    | (intro x; first | (refine Keeps.cut (s0 := s0) (x := x) ?_ ?_ <;> (first | (clear_value x; intro hx) | subst x)) | (subst x; try dsimp -zeta only))
    | with_reducible (refine report_keeps ?_)
    | with_reducible (refine setBlk_keeps ?_)
    | with_reducible (refine addCand_keeps ?_)
    | with_reducible (refine closeBlk_keeps ?_)
    | split
    | lift_lets
    | (fail_if_no_progress with_reducible refine Keeps.mk' ?_ rfl rfl rfl rfl))

theorem startErase_keeps {a0} (h : Keeps s0 s) : Keeps s0 (startErase s a0) := by
  delta startErase
  repeat' (first
    | with_reducible assumption
    | (refine fun (_ : Keeps _ _) => ?_)
    | (intro x; first | (refine Keeps.cut (s0 := s0) (x := x) ?_ ?_ <;> (first | (clear_value x; intro hx) | subst x)) | (subst x; try dsimp -zeta only))
    | with_reducible (refine intentNow_keeps ?_)
    | with_reducible (refine setBlk_keeps ?_)
    | with_reducible (refine setLun_keeps ?_)
    | split
    | lift_lets
    | (fail_if_no_progress with_reducible refine Keeps.mk' ?_ rfl rfl rfl rfl))

theorem eraseBlk_keeps {a0} (h : Keeps s0 s) : Keeps s0 (eraseBlk s a0) := by
  delta eraseBlk
  repeat' (first
    | with_reducible assumption
    | (refine fun (_ : Keeps _ _) => ?_)
    | (intro x; first | (refine Keeps.cut (s0 := s0) (x := x) ?_ ?_ <;> (first | (clear_value x; intro hx) | subst x)) | (subst x; try dsimp -zeta only))
    | with_reducible (refine startErase_keeps ?_)
    | with_reducible (refine retireBlk_keeps ?_)
    | split
    | lift_lets
    | (fail_if_no_progress with_reducible refine Keeps.mk' ?_ rfl rfl rfl rfl))

theorem eraseBand_keeps {a0} (h : Keeps s0 s) : Keeps s0 (eraseBand s a0) := by
  delta eraseBand
  repeat' (first
    | with_reducible assumption
    | (refine fun (_ : Keeps _ _) => ?_)
    | (intro x; first | (refine Keeps.cut (s0 := s0) (x := x) ?_ ?_ <;> (first | (clear_value x; intro hx) | subst x)) | (subst x; try dsimp -zeta only))
    | with_reducible (refine eraseBlk_keeps ?_)
    | with_reducible (refine forEach_keeps ?_ fun s a hs => ?_)
    | split
    | lift_lets
    | (fail_if_no_progress with_reducible refine Keeps.mk' ?_ rfl rfl rfl rfl))

theorem runErases_keeps (h : Keeps s0 s) : Keeps s0 (runErases s) := by
  delta runErases
  repeat' (first
    | with_reducible assumption
    | (refine fun (_ : Keeps _ _) => ?_)
    | (intro x; first | (refine Keeps.cut (s0 := s0) (x := x) ?_ ?_ <;> (first | (clear_value x; intro hx) | subst x)) | (subst x; try dsimp -zeta only))
    | with_reducible (refine eraseBlk_keeps ?_)
    | with_reducible (refine forEach_keeps ?_ fun s a hs => ?_)
    | split
    | lift_lets
    | (fail_if_no_progress with_reducible refine Keeps.mk' ?_ rfl rfl rfl rfl))

theorem suspendErase_keeps {a0 a1} (h : Keeps s0 s) : Keeps s0 (suspendErase s a0 a1) := by
  delta suspendErase
  repeat' (first
    | with_reducible assumption
    | (refine fun (_ : Keeps _ _) => ?_)
    | (intro x; first | (refine Keeps.cut (s0 := s0) (x := x) ?_ ?_ <;> (first | (clear_value x; intro hx) | subst x)) | (subst x; try dsimp -zeta only))
    | with_reducible (refine setLun_keeps ?_)
    | with_reducible (refine addSat_keeps ?_)
    | with_reducible (refine icu_keeps ?_)
    | split
    | lift_lets
    | (fail_if_no_progress with_reducible refine Keeps.mk' ?_ rfl rfl rfl rfl))

theorem updatePe_keeps {a0} (h : Keeps s0 s) : Keeps s0 (updatePe s a0) := by
  delta updatePe
  repeat' (first
    | with_reducible assumption
    | (refine fun (_ : Keeps _ _) => ?_)
    | (intro x; first | (refine Keeps.cut (s0 := s0) (x := x) ?_ ?_ <;> (first | (clear_value x; intro hx) | subst x)) | (subst x; try dsimp -zeta only))
    | with_reducible (refine wr_keeps ?_)
    | split
    | lift_lets
    | (fail_if_no_progress with_reducible refine Keeps.mk' ?_ rfl rfl rfl rfl))

theorem updateWear_keeps (h : Keeps s0 s) : Keeps s0 (updateWear s) := by
  delta updateWear
  repeat' (first
    | with_reducible assumption
    | (refine fun (_ : Keeps _ _) => ?_)
    | (intro x; first | (refine Keeps.cut (s0 := s0) (x := x) ?_ ?_ <;> (first | (clear_value x; intro hx) | subst x)) | (subst x; try dsimp -zeta only))
    | with_reducible (refine wr_keeps ?_)
    | with_reducible (refine storeEvent_keeps ?_)
    | with_reducible (refine report_keeps ?_)
    | split
    | lift_lets
    | (fail_if_no_progress with_reducible refine Keeps.mk' ?_ rfl rfl rfl rfl))

theorem countNative_keeps {a0} (h : Keeps s0 s) : Keeps s0 (countNative s a0) := by
  delta countNative
  repeat' (first
    | with_reducible assumption
    | (refine fun (_ : Keeps _ _) => ?_)
    | (intro x; first | (refine Keeps.cut (s0 := s0) (x := x) ?_ ?_ <;> (first | (clear_value x; intro hx) | subst x)) | (subst x; try dsimp -zeta only))
    | with_reducible (refine updateWear_keeps ?_)
    | split
    | lift_lets
    | (fail_if_no_progress with_reducible refine Keeps.mk' ?_ rfl rfl rfl rfl))

theorem ladder_keeps {a0 a1} (h : Keeps s0 s) : Keeps s0 (ladder s a0 a1) := by
  delta ladder
  repeat' (first
    | with_reducible assumption
    | (refine fun (_ : Keeps _ _) => ?_)
    | (intro x; first | (refine Keeps.cut (s0 := s0) (x := x) ?_ ?_ <;> (first | (clear_value x; intro hx) | subst x)) | (subst x; try dsimp -zeta only))
    | with_reducible (refine addWrap_keeps ?_)
    | with_reducible (refine setBlk_keeps ?_)
    | with_reducible (refine addCand_keeps ?_)
    | with_reducible (refine report_keeps ?_)
    | with_reducible (refine addSat_keeps ?_)
    | with_reducible (refine icu_keeps ?_)
    | split
    | lift_lets
    | (fail_if_no_progress with_reducible refine Keeps.mk' ?_ rfl rfl rfl rfl))

theorem setEntry_keeps {a0 a1} (h : Keeps s0 s) : Keeps s0 (setEntry s a0 a1) := by
  delta setEntry
  repeat' (first
    | with_reducible assumption
    | (refine fun (_ : Keeps _ _) => ?_)
    | (intro x; first | (refine Keeps.cut (s0 := s0) (x := x) ?_ ?_ <;> (first | (clear_value x; intro hx) | subst x)) | (subst x; try dsimp -zeta only))
    | split
    | lift_lets
    | (fail_if_no_progress with_reducible refine Keeps.mk' ?_ rfl rfl rfl rfl))

theorem setSt_keeps {a0 a1 a2} (h : Keeps s0 s) : Keeps s0 (setSt s a0 a1 a2) := by
  delta setSt
  repeat' (first
    | with_reducible assumption
    | (refine fun (_ : Keeps _ _) => ?_)
    | (intro x; first | (refine Keeps.cut (s0 := s0) (x := x) ?_ ?_ <;> (first | (clear_value x; intro hx) | subst x)) | (subst x; try dsimp -zeta only))
    | with_reducible (refine setEntry_keeps ?_)
    | split
    | lift_lets
    | (fail_if_no_progress with_reducible refine Keeps.mk' ?_ rfl rfl rfl rfl))

theorem touchLine_keeps {a0} (h : Keeps s0 s) : Keeps s0 (touchLine s a0) := by
  delta touchLine
  repeat' (first
    | with_reducible assumption
    | (refine fun (_ : Keeps _ _) => ?_)
    | (intro x; first | (refine Keeps.cut (s0 := s0) (x := x) ?_ ?_ <;> (first | (clear_value x; intro hx) | subst x)) | (subst x; try dsimp -zeta only))
    | split
    | lift_lets
    | (fail_if_no_progress with_reducible refine Keeps.mk' ?_ rfl rfl rfl rfl))

theorem markAbsent_keeps {a0} (h : Keeps s0 s) : Keeps s0 (markAbsent s a0) := by
  delta markAbsent
  repeat' (first
    | with_reducible assumption
    | (refine fun (_ : Keeps _ _) => ?_)
    | (intro x; first | (refine Keeps.cut (s0 := s0) (x := x) ?_ ?_ <;> (first | (clear_value x; intro hx) | subst x)) | (subst x; try dsimp -zeta only))
    | with_reducible (refine forEach_keeps ?_ fun s a hs => ?_)
    | split
    | lift_lets
    | (fail_if_no_progress with_reducible refine Keeps.mk' ?_ rfl rfl rfl rfl))

theorem markClean_keeps {a0} (h : Keeps s0 s) : Keeps s0 (markClean s a0) := by
  delta markClean
  repeat' (first
    | with_reducible assumption
    | (refine fun (_ : Keeps _ _) => ?_)
    | (intro x; first | (refine Keeps.cut (s0 := s0) (x := x) ?_ ?_ <;> (first | (clear_value x; intro hx) | subst x)) | (subst x; try dsimp -zeta only))
    | split
    | lift_lets
    | (fail_if_no_progress with_reducible refine Keeps.mk' ?_ rfl rfl rfl rfl))

theorem mapAccess_keeps (h : Keeps s0 s) : Keeps s0 (mapAccess s) := by
  delta mapAccess
  repeat' (first
    | with_reducible assumption
    | (refine fun (_ : Keeps _ _) => ?_)
    | (intro x; first | (refine Keeps.cut (s0 := s0) (x := x) ?_ ?_ <;> (first | (clear_value x; intro hx) | subst x)) | (subst x; try dsimp -zeta only))
    | with_reducible (refine addWrap_keeps ?_)
    | with_reducible (refine freeVal_keeps ?_)
    | split
    | lift_lets
    | (fail_if_no_progress with_reducible refine Keeps.mk' ?_ rfl rfl rfl rfl))

theorem slotTaken_keeps {a0} (h : Keeps s0 s) : Keeps s0 (slotTaken s a0) := by
  delta slotTaken
  repeat' (first
    | with_reducible assumption
    | (refine fun (_ : Keeps _ _) => ?_)
    | (intro x; first | (refine Keeps.cut (s0 := s0) (x := x) ?_ ?_ <;> (first | (clear_value x; intro hx) | subst x)) | (subst x; try dsimp -zeta only))
    | with_reducible (refine wr_keeps ?_)
    | with_reducible (refine icu_keeps ?_)
    | split
    | lift_lets
    | (fail_if_no_progress with_reducible refine Keeps.mk' ?_ rfl rfl rfl rfl))

theorem freeSlot_keeps {a0 a1} (h : Keeps s0 s) : Keeps s0 (freeSlot s a0 a1) := by
  delta freeSlot
  repeat' (first
    | with_reducible assumption
    | (refine fun (_ : Keeps _ _) => ?_)
    | (intro x; first | (refine Keeps.cut (s0 := s0) (x := x) ?_ ?_ <;> (first | (clear_value x; intro hx) | subst x)) | (subst x; try dsimp -zeta only))
    | with_reducible (refine setGrp_keeps ?_)
    | split
    | lift_lets
    | (fail_if_no_progress with_reducible refine Keeps.mk' ?_ rfl rfl rfl rfl))

theorem openSwatch_keeps {a0} (h : Keeps s0 s) : Keeps s0 (openSwatch s a0) := by
  delta openSwatch
  repeat' (first
    | with_reducible assumption
    | (refine fun (_ : Keeps _ _) => ?_)
    | (intro x; first | (refine Keeps.cut (s0 := s0) (x := x) ?_ ?_ <;> (first | (clear_value x; intro hx) | subst x)) | (subst x; try dsimp -zeta only))
    | with_reducible (refine setGrp_keeps ?_)
    | with_reducible (refine thermalJoin_keeps ?_)
    | with_reducible (refine extreme_keeps ?_)
    | split
    | lift_lets
    | (fail_if_no_progress with_reducible refine Keeps.mk' ?_ rfl rfl rfl rfl))

theorem wait_keeps {a0 a1} (h : Keeps s0 s) : Keeps s0 (wait s a0 a1) := by
  delta wait
  repeat' (first
    | with_reducible assumption
    | (refine fun (_ : Keeps _ _) => ?_)
    | (intro x; first | (refine Keeps.cut (s0 := s0) (x := x) ?_ ?_ <;> (first | (clear_value x; intro hx) | subst x)) | (subst x; try dsimp -zeta only))
    | with_reducible (refine takeBuffers_keeps ?_)
    | split
    | lift_lets
    | (fail_if_no_progress with_reducible refine Keeps.mk' ?_ rfl rfl rfl rfl))

theorem freeWaits_keeps {a0} (h : Keeps s0 s) : Keeps s0 (freeWaits s a0) := by
  delta freeWaits
  repeat' (first
    | with_reducible assumption
    | (refine fun (_ : Keeps _ _) => ?_)
    | (intro x; first | (refine Keeps.cut (s0 := s0) (x := x) ?_ ?_ <;> (first | (clear_value x; intro hx) | subst x)) | (subst x; try dsimp -zeta only))
    | with_reducible (refine creditResume_keeps ?_)
    | with_reducible (refine releaseBuffers_keeps ?_)
    | with_reducible (refine forEach_keeps ?_ fun s a hs => ?_)
    | split
    | lift_lets
    | (fail_if_no_progress with_reducible refine Keeps.mk' ?_ rfl rfl rfl rfl))

theorem startFetch_keeps {a0 a1} (h : Keeps s0 s) : Keeps s0 (startFetch s a0 a1) := by
  delta startFetch
  repeat' (first
    | with_reducible assumption
    | (refine fun (_ : Keeps _ _) => ?_)
    | (intro x; first | (refine Keeps.cut (s0 := s0) (x := x) ?_ ?_ <;> (first | (clear_value x; intro hx) | subst x)) | (subst x; try dsimp -zeta only))
    | with_reducible (refine suspendErase_keeps ?_)
    | split
    | lift_lets
    | (fail_if_no_progress with_reducible refine Keeps.mk' ?_ rfl rfl rfl rfl))

theorem commit_keeps {a0} (h : Keeps s0 s) : Keeps s0 (commit s a0) := by
  delta commit
  repeat' (first
    | with_reducible assumption
    | (refine fun (_ : Keeps _ _) => ?_)
    | (intro x; first | (refine Keeps.cut (s0 := s0) (x := x) ?_ ?_ <;> (first | (clear_value x; intro hx) | subst x)) | (subst x; try dsimp -zeta only))
    | with_reducible (refine hostWrite_keeps ?_)
    | with_reducible (refine setGrp_keeps ?_)
    | with_reducible (refine setWin_keeps ?_)
    | with_reducible (refine setPort_keeps ?_)
    | with_reducible (refine respond_keeps ?_)
    | split
    | lift_lets
    | (fail_if_no_progress with_reducible refine Keeps.mk' ?_ rfl rfl rfl rfl))

theorem copyOnWrite_keeps {a0 a1 a2} (h : Keeps s0 s) : Keeps s0 (copyOnWrite s a0 a1 a2) := by
  delta copyOnWrite
  repeat' (first
    | with_reducible assumption
    | (refine fun (_ : Keeps _ _) => ?_)
    | (intro x; first | (refine Keeps.cut (s0 := s0) (x := x) ?_ ?_ <;> (first | (clear_value x; intro hx) | subst x)) | (subst x; try dsimp -zeta only))
    | with_reducible (refine setGrp_keeps ?_)
    | with_reducible (refine slotTaken_keeps ?_)
    | with_reducible (refine activatePage_keeps ?_)
    | with_reducible (refine setSt_keeps ?_)
    | split
    | lift_lets
    | (fail_if_no_progress with_reducible refine Keeps.mk' ?_ rfl rfl rfl rfl))

theorem mapFault_keeps {a0} (h : Keeps s0 s) : Keeps s0 (mapFault s a0) := by
  delta mapFault
  repeat' (first
    | with_reducible assumption
    | (refine fun (_ : Keeps _ _) => ?_)
    | (intro x; first | (refine Keeps.cut (s0 := s0) (x := x) ?_ ?_ <;> (first | (clear_value x; intro hx) | subst x)) | (subst x; try dsimp -zeta only))
    | with_reducible (refine setGrp_keeps ?_)
    | with_reducible (refine report_keeps ?_)
    | split
    | lift_lets
    | (fail_if_no_progress with_reducible refine Keeps.mk' ?_ rfl rfl rfl rfl))

theorem absentWait_keeps {a0} (h : Keeps s0 s) : Keeps s0 (absentWait s a0) := by
  delta absentWait
  repeat' (first
    | with_reducible assumption
    | (refine fun (_ : Keeps _ _) => ?_)
    | (intro x; first | (refine Keeps.cut (s0 := s0) (x := x) ?_ ?_ <;> (first | (clear_value x; intro hx) | subst x)) | (subst x; try dsimp -zeta only))
    | with_reducible (refine wait_keeps ?_)
    | with_reducible (refine startFetch_keeps ?_)
    | split
    | lift_lets
    | (fail_if_no_progress with_reducible refine Keeps.mk' ?_ rfl rfl rfl rfl))

theorem slotStall_keeps {a0 a1} (h : Keeps s0 s) : Keeps s0 (slotStall s a0 a1) := by
  delta slotStall
  repeat' (first
    | with_reducible assumption
    | (refine fun (_ : Keeps _ _) => ?_)
    | (intro x; first | (refine Keeps.cut (s0 := s0) (x := x) ?_ ?_ <;> (first | (clear_value x; intro hx) | subst x)) | (subst x; try dsimp -zeta only))
    | with_reducible (refine wait_keeps ?_)
    | with_reducible (refine pace_keeps ?_)
    | with_reducible (refine report_keeps ?_)
    | with_reducible (refine addSat_keeps ?_)
    | split
    | lift_lets
    | (fail_if_no_progress with_reducible refine Keeps.mk' ?_ rfl rfl rfl rfl))

theorem writeEntry_keeps {a0 a1} (h : Keeps s0 s) : Keeps s0 (writeEntry s a0 a1) := by
  delta writeEntry
  repeat' (first
    | with_reducible assumption
    | (refine fun (_ : Keeps _ _) => ?_)
    | (intro x; first | (refine Keeps.cut (s0 := s0) (x := x) ?_ ?_ <;> (first | (clear_value x; intro hx) | subst x)) | (subst x; try dsimp -zeta only))
    | with_reducible (refine wait_keeps ?_)
    | with_reducible (refine mapAccess_keeps ?_)
    | with_reducible (refine touchLine_keeps ?_)
    | with_reducible (refine slotStall_keeps ?_)
    | with_reducible (refine absentWait_keeps ?_)
    | with_reducible (refine pace_keeps ?_)
    | with_reducible (refine commit_keeps ?_)
    | with_reducible (refine openSwatch_keeps ?_)
    | with_reducible (refine copyOnWrite_keeps ?_)
    | with_reducible (refine setSt_keeps ?_)
    | with_reducible (refine mapFault_keeps ?_)
    | split
    | lift_lets
    | (fail_if_no_progress with_reducible refine Keeps.mk' ?_ rfl rfl rfl rfl))

theorem fillBucket_keeps {a0} (h : Keeps s0 s) : Keeps s0 (fillBucket s a0) := by
  delta fillBucket
  repeat' (first
    | with_reducible assumption
    | (refine fun (_ : Keeps _ _) => ?_)
    | (intro x; first | (refine Keeps.cut (s0 := s0) (x := x) ?_ ?_ <;> (first | (clear_value x; intro hx) | subst x)) | (subst x; try dsimp -zeta only))
    | with_reducible (refine setWin_keeps ?_)
    | split
    | lift_lets
    | (fail_if_no_progress with_reducible refine Keeps.mk' ?_ rfl rfl rfl rfl))

theorem serveWrite_keeps {a0} (h : Keeps s0 s) : Keeps s0 (serveWrite s a0) := by
  delta serveWrite
  repeat' (first
    | with_reducible assumption
    | (refine fun (_ : Keeps _ _) => ?_)
    | (intro x; first | (refine Keeps.cut (s0 := s0) (x := x) ?_ ?_ <;> (first | (clear_value x; intro hx) | subst x)) | (subst x; try dsimp -zeta only))
    | with_reducible (refine creditStop_keeps ?_)
    | with_reducible (refine wait_keeps ?_)
    | with_reducible (refine fillBucket_keeps ?_)
    | with_reducible (refine setWin_keeps ?_)
    | with_reducible (refine writeEntry_keeps ?_)
    | split
    | lift_lets
    | (fail_if_no_progress with_reducible refine Keeps.mk' ?_ rfl rfl rfl rfl))

theorem readEntry_keeps {a0} (h : Keeps s0 s) : Keeps s0 (readEntry s a0) := by
  delta readEntry
  repeat' (first
    | with_reducible assumption
    | (refine fun (_ : Keeps _ _) => ?_)
    | (intro x; first | (refine Keeps.cut (s0 := s0) (x := x) ?_ ?_ <;> (first | (clear_value x; intro hx) | subst x)) | (subst x; try dsimp -zeta only))
    | with_reducible (refine wait_keeps ?_)
    | with_reducible (refine mapAccess_keeps ?_)
    | with_reducible (refine touchLine_keeps ?_)
    | with_reducible (refine absentWait_keeps ?_)
    | with_reducible (refine hostRead_keeps ?_)
    | with_reducible (refine mapFault_keeps ?_)
    | split
    | lift_lets
    | (fail_if_no_progress with_reducible refine Keeps.mk' ?_ rfl rfl rfl rfl))

theorem retryWaits_keeps {a0} (h : Keeps s0 s) : Keeps s0 (retryWaits s a0) := by
  delta retryWaits
  repeat' (first
    | with_reducible assumption
    | (refine fun (_ : Keeps _ _) => ?_)
    | (intro x; first | (refine Keeps.cut (s0 := s0) (x := x) ?_ ?_ <;> (first | (clear_value x; intro hx) | subst x)) | (subst x; try dsimp -zeta only))
    | with_reducible (refine creditResume_keeps ?_)
    | with_reducible (refine writeEntry_keeps ?_)
    | with_reducible (refine releaseBuffers_keeps ?_)
    | with_reducible (refine readEntry_keeps ?_)
    | with_reducible (refine forEach_keeps ?_ fun s a hs => ?_)
    | split
    | lift_lets
    | (fail_if_no_progress with_reducible refine Keeps.mk' ?_ rfl rfl rfl rfl))

theorem retrySlots_keeps (h : Keeps s0 s) : Keeps s0 (retrySlots s) := by
  delta retrySlots
  repeat' (first
    | with_reducible assumption
    | (refine fun (_ : Keeps _ _) => ?_)
    | (intro x; first | (refine Keeps.cut (s0 := s0) (x := x) ?_ ?_ <;> (first | (clear_value x; intro hx) | subst x)) | (subst x; try dsimp -zeta only))
    | with_reducible (refine retryWaits_keeps ?_)
    | split
    | lift_lets
    | (fail_if_no_progress with_reducible refine Keeps.mk' ?_ rfl rfl rfl rfl))

theorem raise40_keeps {a0} (h : Keeps s0 s) : Keeps s0 (raise40 s a0) := by
  delta raise40
  repeat' (first
    | with_reducible assumption
    | (refine fun (_ : Keeps _ _) => ?_)
    | (intro x; first | (refine Keeps.cut (s0 := s0) (x := x) ?_ ?_ <;> (first | (clear_value x; intro hx) | subst x)) | (subst x; try dsimp -zeta only))
    | with_reducible (refine icu_keeps ?_)
    | with_reducible (refine setPort_keeps ?_)
    | split
    | lift_lets
    | (fail_if_no_progress with_reducible refine Keeps.mk' ?_ rfl rfl rfl rfl))

theorem answerOffline_keeps {a0 a1 a2} (h : Keeps s0 s) : Keeps s0 (answerOffline s a0 a1 a2) := by
  delta answerOffline
  repeat' (first
    | with_reducible assumption
    | (refine fun (_ : Keeps _ _) => ?_)
    | (intro x; first | (refine Keeps.cut (s0 := s0) (x := x) ?_ ?_ <;> (first | (clear_value x; intro hx) | subst x)) | (subst x; try dsimp -zeta only))
    | with_reducible (refine respond_keeps ?_)
    | split
    | lift_lets
    | (fail_if_no_progress with_reducible refine Keeps.mk' ?_ rfl rfl rfl rfl))

theorem unmapped_keeps {a0 a1 a2} (h : Keeps s0 s) : Keeps s0 (unmapped s a0 a1 a2) := by
  delta unmapped
  repeat' (first
    | with_reducible assumption
    | (refine fun (_ : Keeps _ _) => ?_)
    | (intro x; first | (refine Keeps.cut (s0 := s0) (x := x) ?_ ?_ <;> (first | (clear_value x; intro hx) | subst x)) | (subst x; try dsimp -zeta only))
    | with_reducible (refine raise40_keeps ?_)
    | with_reducible (refine answerOffline_keeps ?_)
    | with_reducible (refine hlCount_keeps ?_)
    | split
    | lift_lets
    | (fail_if_no_progress with_reducible refine Keeps.mk' ?_ rfl rfl rfl rfl))

theorem offlineAccess_keeps {a0 a1 a2 a3} (h : Keeps s0 s) : Keeps s0 (offlineAccess s a0 a1 a2 a3) := by
  delta offlineAccess
  repeat' (first
    | with_reducible assumption
    | (refine fun (_ : Keeps _ _) => ?_)
    | (intro x; first | (refine Keeps.cut (s0 := s0) (x := x) ?_ ?_ <;> (first | (clear_value x; intro hx) | subst x)) | (subst x; try dsimp -zeta only))
    | with_reducible (refine setWinWord_keeps ?_)
    | with_reducible (refine raise40_keeps ?_)
    | with_reducible (refine answerOffline_keeps ?_)
    | with_reducible (refine hlCount_keeps ?_)
    | split
    | lift_lets
    | (fail_if_no_progress with_reducible refine Keeps.mk' ?_ rfl rfl rfl rfl))

theorem route_keeps {ld hpa tag : Nat} {write : Bool} {k : Nat → Nat → State} (h : Keeps s0 s)
    (hk : ∀ w d, Keeps s0 (k w d)) : Keeps s0 (route s ld hpa tag write k) := by
  unfold route
  repeat' split
  all_goals first
    | with_reducible exact unmapped_keeps h
    | with_reducible exact offlineAccess_keeps h
    | with_reducible exact hk _ _

theorem reply_keeps {a0 a1 a2} (h : Keeps s0 s) : Keeps s0 (reply s a0 a1 a2) := by
  delta reply
  repeat' (first
    | with_reducible assumption
    | (refine fun (_ : Keeps _ _) => ?_)
    | (intro x; first | (refine Keeps.cut (s0 := s0) (x := x) ?_ ?_ <;> (first | (clear_value x; intro hx) | subst x)) | (subst x; try dsimp -zeta only))
    | with_reducible (refine setLd_keeps ?_)
    | split
    | lift_lets
    | (fail_if_no_progress with_reducible refine Keeps.mk' ?_ rfl rfl rfl rfl))

theorem replyOk_keeps {a0 a1} (h : Keeps s0 s) : Keeps s0 (replyOk s a0 a1) := by
  delta replyOk
  repeat' (first
    | with_reducible assumption
    | (refine fun (_ : Keeps _ _) => ?_)
    | (intro x; first | (refine Keeps.cut (s0 := s0) (x := x) ?_ ?_ <;> (first | (clear_value x; intro hx) | subst x)) | (subst x; try dsimp -zeta only))
    | with_reducible (refine reply_keeps ?_)
    | split
    | lift_lets
    | (fail_if_no_progress with_reducible refine Keeps.mk' ?_ rfl rfl rfl rfl))

theorem replyBad_keeps {a0} (h : Keeps s0 s) : Keeps s0 (replyBad s a0) := by
  delta replyBad
  repeat' (first
    | with_reducible assumption
    | (refine fun (_ : Keeps _ _) => ?_)
    | (intro x; first | (refine Keeps.cut (s0 := s0) (x := x) ?_ ?_ <;> (first | (clear_value x; intro hx) | subst x)) | (subst x; try dsimp -zeta only))
    | with_reducible (refine reply_keeps ?_)
    | split
    | lift_lets
    | (fail_if_no_progress with_reducible refine Keeps.mk' ?_ rfl rfl rfl rfl))

theorem replyCode_keeps {a0 a1} (h : Keeps s0 s) : Keeps s0 (replyCode s a0 a1) := by
  delta replyCode
  repeat' (first
    | with_reducible assumption
    | (refine fun (_ : Keeps _ _) => ?_)
    | (intro x; first | (refine Keeps.cut (s0 := s0) (x := x) ?_ ?_ <;> (first | (clear_value x; intro hx) | subst x)) | (subst x; try dsimp -zeta only))
    | with_reducible (refine replyOk_keeps ?_)
    | split
    | lift_lets
    | (fail_if_no_progress with_reducible refine Keeps.mk' ?_ rfl rfl rfl rfl))

theorem startBg_keeps {ld op : Nat} {f : State → State} (h : Keeps s0 s)
    (hf : ∀ t, Keeps s0 t → Keeps s0 (f t)) : Keeps s0 (startBg s ld op f) := by
  unfold startBg
  dsimp only
  split
  · exact reply_keeps h
  · exact hf _ (reply_keeps (setLd_keeps h))

theorem endBg_keeps {a0 a1 a2} (h : Keeps s0 s) : Keeps s0 (endBg s a0 a1 a2) := by
  delta endBg
  repeat' (first
    | with_reducible assumption
    | (refine fun (_ : Keeps _ _) => ?_)
    | (intro x; first | (refine Keeps.cut (s0 := s0) (x := x) ?_ ?_ <;> (first | (clear_value x; intro hx) | subst x)) | (subst x; try dsimp -zeta only))
    | with_reducible (refine setLd_keeps ?_)
    | split
    | lift_lets
    | (fail_if_no_progress with_reducible refine Keeps.mk' ?_ rfl rfl rfl rfl))

theorem modGen_keeps {a0 a1 a2} (h : Keeps s0 s) : Keeps s0 (modGen s a0 a1 a2) := by
  delta modGen
  repeat' (first
    | with_reducible assumption
    | (refine fun (_ : Keeps _ _) => ?_)
    | (intro x; first | (refine Keeps.cut (s0 := s0) (x := x) ?_ ?_ <;> (first | (clear_value x; intro hx) | subst x)) | (subst x; try dsimp -zeta only))
    | with_reducible (refine setGrp_keeps ?_)
    | split
    | lift_lets
    | (fail_if_no_progress with_reducible refine Keeps.mk' ?_ rfl rfl rfl rfl))

theorem postOutcome_keeps {a0 a1 a2} (h : Keeps s0 s) : Keeps s0 (postOutcome s a0 a1 a2) := by
  delta postOutcome
  repeat' (first
    | with_reducible assumption
    | (refine fun (_ : Keeps _ _) => ?_)
    | (intro x; first | (refine Keeps.cut (s0 := s0) (x := x) ?_ ?_ <;> (first | (clear_value x; intro hx) | subst x)) | (subst x; try dsimp -zeta only))
    | with_reducible (refine setGrp_keeps ?_)
    | split
    | lift_lets
    | (fail_if_no_progress with_reducible refine Keeps.mk' ?_ rfl rfl rfl rfl))

theorem postResult_keeps {a0 a1 a2} (h : Keeps s0 s) : Keeps s0 (postResult s a0 a1 a2) := by
  delta postResult
  repeat' (first
    | with_reducible assumption
    | (refine fun (_ : Keeps _ _) => ?_)
    | (intro x; first | (refine Keeps.cut (s0 := s0) (x := x) ?_ ?_ <;> (first | (clear_value x; intro hx) | subst x)) | (subst x; try dsimp -zeta only))
    | with_reducible (refine wr_keeps ?_)
    | split
    | lift_lets
    | (fail_if_no_progress with_reducible refine Keeps.mk' ?_ rfl rfl rfl rfl))

theorem resolve_keeps {a0 a1 a2} (h : Keeps s0 s) : Keeps s0 (resolve s a0 a1 a2) := by
  delta resolve
  repeat' (first
    | with_reducible assumption
    | (refine fun (_ : Keeps _ _) => ?_)
    | (intro x; first | (refine Keeps.cut (s0 := s0) (x := x) ?_ ?_ <;> (first | (clear_value x; intro hx) | subst x)) | (subst x; try dsimp -zeta only))
    | with_reducible (refine postOutcome_keeps ?_)
    | with_reducible (refine postResult_keeps ?_)
    | with_reducible (refine icu_keeps ?_)
    | split
    | lift_lets
    | (fail_if_no_progress with_reducible refine Keeps.mk' ?_ rfl rfl rfl rfl))

theorem orderingPoint_keeps {a0 a1} (h : Keeps s0 s) : Keeps s0 (orderingPoint s a0 a1) := by
  delta orderingPoint
  repeat' (first
    | with_reducible assumption
    | (refine fun (_ : Keeps _ _) => ?_)
    | (intro x; first | (refine Keeps.cut (s0 := s0) (x := x) ?_ ?_ <;> (first | (clear_value x; intro hx) | subst x)) | (subst x; try dsimp -zeta only))
    | with_reducible (refine setGrp_keeps ?_)
    | with_reducible (refine addWide_keeps ?_)
    | with_reducible (refine resolve_keeps ?_)
    | with_reducible (refine pace_keeps ?_)
    | with_reducible (refine icu_keeps ?_)
    | split
    | lift_lets
    | (fail_if_no_progress with_reducible refine Keeps.mk' ?_ rfl rfl rfl rfl))

theorem tack_keeps {a0 a1} (h : Keeps s0 s) : Keeps s0 (tack s a0 a1) := by
  delta tack
  repeat' (first
    | with_reducible assumption
    | (refine fun (_ : Keeps _ _) => ?_)
    | (intro x; first | (refine Keeps.cut (s0 := s0) (x := x) ?_ ?_ <;> (first | (clear_value x; intro hx) | subst x)) | (subst x; try dsimp -zeta only))
    | with_reducible (refine orderingPoint_keeps ?_)
    | with_reducible (refine resolve_keeps ?_)
    | with_reducible (refine setGrp_keeps ?_)
    | split
    | lift_lets
    | (fail_if_no_progress with_reducible refine Keeps.mk' ?_ rfl rfl rfl rfl))

theorem runQueued_keeps {a0} (h : Keeps s0 s) : Keeps s0 (runQueued s a0) := by
  delta runQueued
  repeat' (first
    | with_reducible assumption
    | (refine fun (_ : Keeps _ _) => ?_)
    | (intro x; first | (refine Keeps.cut (s0 := s0) (x := x) ?_ ?_ <;> (first | (clear_value x; intro hx) | subst x)) | (subst x; try dsimp -zeta only))
    | with_reducible (refine orderingPoint_keeps ?_)
    | split
    | lift_lets
    | (fail_if_no_progress with_reducible refine Keeps.mk' ?_ rfl rfl rfl rfl))

theorem freeUnused_keeps (h : Keeps s0 s) : Keeps s0 (freeUnused s) := by
  delta freeUnused
  repeat' (first
    | with_reducible assumption
    | (refine fun (_ : Keeps _ _) => ?_)
    | (intro x; first | (refine Keeps.cut (s0 := s0) (x := x) ?_ ?_ <;> (first | (clear_value x; intro hx) | subst x)) | (subst x; try dsimp -zeta only))
    | with_reducible (refine eraseBand_keeps ?_)
    | with_reducible (refine forEach_keeps ?_ fun s a hs => ?_)
    | split
    | lift_lets
    | (fail_if_no_progress with_reducible refine Keeps.mk' ?_ rfl rfl rfl rfl))

theorem reclaim_keeps {a0 a1} (h : Keeps s0 s) : Keeps s0 (reclaim s a0 a1) := by
  delta reclaim
  repeat' (first
    | with_reducible assumption
    | (refine fun (_ : Keeps _ _) => ?_)
    | (intro x; first | (refine Keeps.cut (s0 := s0) (x := x) ?_ ?_ <;> (first | (clear_value x; intro hx) | subst x)) | (subst x; try dsimp -zeta only))
    | with_reducible (refine setGrp_keeps ?_)
    | with_reducible (refine forEach_keeps ?_ fun s a hs => ?_)
    | split
    | lift_lets
    | (fail_if_no_progress with_reducible refine Keeps.mk' ?_ rfl rfl rfl rfl))

theorem setRingBlocked_keeps {a0 a1} (h : Keeps s0 s) : Keeps s0 (setRingBlocked s a0 a1) := by
  delta setRingBlocked
  repeat' (first
    | with_reducible assumption
    | (refine fun (_ : Keeps _ _) => ?_)
    | (intro x; first | (refine Keeps.cut (s0 := s0) (x := x) ?_ ?_ <;> (first | (clear_value x; intro hx) | subst x)) | (subst x; try dsimp -zeta only))
    | with_reducible (refine setGrp_keeps ?_)
    | with_reducible (refine report_keeps ?_)
    | split
    | lift_lets
    | (fail_if_no_progress with_reducible refine Keeps.mk' ?_ rfl rfl rfl rfl))

theorem trimRing_keeps {a0} (h : Keeps s0 s) : Keeps s0 (trimRing s a0) := by
  delta trimRing
  repeat' (first
    | with_reducible assumption
    | (refine fun (_ : Keeps _ _) => ?_)
    | (intro x; first | (refine Keeps.cut (s0 := s0) (x := x) ?_ ?_ <;> (first | (clear_value x; intro hx) | subst x)) | (subst x; try dsimp -zeta only))
    | with_reducible (refine reclaim_keeps ?_)
    | with_reducible (refine setRingBlocked_keeps ?_)
    | with_reducible (refine freeUnused_keeps ?_)
    | with_reducible (refine forEach_keeps ?_ fun s a hs => ?_)
    | split
    | lift_lets
    | (fail_if_no_progress with_reducible refine Keeps.mk' ?_ rfl rfl rfl rfl))

theorem blockWaiting_keeps (h : Keeps s0 s) : Keeps s0 (blockWaiting s) := by
  delta blockWaiting
  repeat' (first
    | with_reducible assumption
    | (refine fun (_ : Keeps _ _) => ?_)
    | (intro x; first | (refine Keeps.cut (s0 := s0) (x := x) ?_ ?_ <;> (first | (clear_value x; intro hx) | subst x)) | (subst x; try dsimp -zeta only))
    | with_reducible (refine setRingBlocked_keeps ?_)
    | with_reducible (refine forEach_keeps ?_ fun s a hs => ?_)
    | split
    | lift_lets
    | (fail_if_no_progress with_reducible refine Keeps.mk' ?_ rfl rfl rfl rfl))

theorem reclaimStore_keeps (h : Keeps s0 s) : Keeps s0 (reclaimStore s) := by
  delta reclaimStore
  repeat' (first
    | with_reducible assumption
    | (refine fun (_ : Keeps _ _) => ?_)
    | (intro x; first | (refine Keeps.cut (s0 := s0) (x := x) ?_ ?_ <;> (first | (clear_value x; intro hx) | subst x)) | (subst x; try dsimp -zeta only))
    | with_reducible (refine freeUnused_keeps ?_)
    | with_reducible (refine reclaim_keeps ?_)
    | with_reducible (refine blockWaiting_keeps ?_)
    | split
    | lift_lets
    | (fail_if_no_progress with_reducible refine Keeps.mk' ?_ rfl rfl rfl rfl))

theorem trySeal_keeps {a0 a1} (h : Keeps s0 s) : Keeps s0 (trySeal s a0 a1) := by
  delta trySeal
  repeat' (first
    | with_reducible assumption
    | (refine fun (_ : Keeps _ _) => ?_)
    | (intro x; first | (refine Keeps.cut (s0 := s0) (x := x) ?_ ?_ <;> (first | (clear_value x; intro hx) | subst x)) | (subst x; try dsimp -zeta only))
    | with_reducible (refine modGen_keeps ?_)
    | split
    | lift_lets
    | (fail_if_no_progress with_reducible refine Keeps.mk' ?_ rfl rfl rfl rfl))

theorem trySealing_keeps {a0} (h : Keeps s0 s) : Keeps s0 (trySealing s a0) := by
  delta trySealing
  repeat' (first
    | with_reducible assumption
    | (refine fun (_ : Keeps _ _) => ?_)
    | (intro x; first | (refine Keeps.cut (s0 := s0) (x := x) ?_ ?_ <;> (first | (clear_value x; intro hx) | subst x)) | (subst x; try dsimp -zeta only))
    | with_reducible (refine modGen_keeps ?_)
    | with_reducible (refine trySeal_keeps ?_)
    | with_reducible (refine intentFlushAll_keeps ?_)
    | split
    | lift_lets
    | (fail_if_no_progress with_reducible refine Keeps.mk' ?_ rfl rfl rfl rfl))

theorem mismatch_keeps {a0} (h : Keeps s0 s) : Keeps s0 (mismatch s a0) := by
  delta mismatch
  repeat' (first
    | with_reducible assumption
    | (refine fun (_ : Keeps _ _) => ?_)
    | (intro x; first | (refine Keeps.cut (s0 := s0) (x := x) ?_ ?_ <;> (first | (clear_value x; intro hx) | subst x)) | (subst x; try dsimp -zeta only))
    | with_reducible (refine programFailed_keeps ?_)
    | with_reducible (refine report_keeps ?_)
    | split
    | lift_lets
    | (fail_if_no_progress with_reducible refine Keeps.mk' ?_ rfl rfl rfl rfl))

theorem countMismatch_keeps {a0 a1} (h : Keeps s0 s) : Keeps s0 (countMismatch s a0 a1) := by
  delta countMismatch
  repeat' (first
    | with_reducible assumption
    | (refine fun (_ : Keeps _ _) => ?_)
    | (intro x; first | (refine Keeps.cut (s0 := s0) (x := x) ?_ ?_ <;> (first | (clear_value x; intro hx) | subst x)) | (subst x; try dsimp -zeta only))
    | with_reducible (refine modGen_keeps ?_)
    | with_reducible (refine addSat_keeps ?_)
    | with_reducible (refine report_keeps ?_)
    | with_reducible (refine setGrp_keeps ?_)
    | split
    | lift_lets
    | (fail_if_no_progress with_reducible refine Keeps.mk' ?_ rfl rfl rfl rfl))

theorem clearExhausted_keeps {a0} (h : Keeps s0 s) : Keeps s0 (clearExhausted s a0) := by
  delta clearExhausted
  repeat' (first
    | with_reducible assumption
    | (refine fun (_ : Keeps _ _) => ?_)
    | (intro x; first | (refine Keeps.cut (s0 := s0) (x := x) ?_ ?_ <;> (first | (clear_value x; intro hx) | subst x)) | (subst x; try dsimp -zeta only))
    | with_reducible (refine icu_keeps ?_)
    | with_reducible (refine setGrp_keeps ?_)
    | with_reducible (refine errDrop_keeps ?_)
    | split
    | lift_lets
    | (fail_if_no_progress with_reducible refine Keeps.mk' ?_ rfl rfl rfl rfl))

theorem sewn_keeps {a0 a1} (h : Keeps s0 s) : Keeps s0 (sewn s a0 a1) := by
  delta sewn
  repeat' (first
    | with_reducible assumption
    | (refine fun (_ : Keeps _ _) => ?_)
    | (intro x; first | (refine Keeps.cut (s0 := s0) (x := x) ?_ ?_ <;> (first | (clear_value x; intro hx) | subst x)) | (subst x; try dsimp -zeta only))
    | with_reducible (refine clearExhausted_keeps ?_)
    | with_reducible (refine icu_keeps ?_)
    | with_reducible (refine setGrp_keeps ?_)
    | with_reducible (refine pace_keeps ?_)
    | with_reducible (refine runQueued_keeps ?_)
    | with_reducible (refine trimRing_keeps ?_)
    | split
    | lift_lets
    | (fail_if_no_progress with_reducible refine Keeps.mk' ?_ rfl rfl rfl rfl))

theorem addRec_keeps {a0 a1} (h : Keeps s0 s) : Keeps s0 (addRec s a0 a1) := by
  delta addRec
  repeat' (first
    | with_reducible assumption
    | (refine fun (_ : Keeps _ _) => ?_)
    | (intro x; first | (refine Keeps.cut (s0 := s0) (x := x) ?_ ?_ <;> (first | (clear_value x; intro hx) | subst x)) | (subst x; try dsimp -zeta only))
    | with_reducible (refine setGrp_keeps ?_)
    | split
    | lift_lets
    | (fail_if_no_progress with_reducible refine Keeps.mk' ?_ rfl rfl rfl rfl))

theorem endDamage_keeps (h : Keeps s0 s) : Keeps s0 (endDamage s) := by
  delta endDamage
  repeat' (first
    | with_reducible assumption
    | (refine fun (_ : Keeps _ _) => ?_)
    | (intro x; first | (refine Keeps.cut (s0 := s0) (x := x) ?_ ?_ <;> (first | (clear_value x; intro hx) | subst x)) | (subst x; try dsimp -zeta only))
    | split
    | lift_lets
    | (fail_if_no_progress with_reducible refine Keeps.mk' ?_ rfl rfl rfl rfl))

theorem verifyFail_keeps {a0 a1 a2} (h : Keeps s0 s) : Keeps s0 (verifyFail s a0 a1 a2) := by
  delta verifyFail
  repeat' (first
    | with_reducible assumption
    | (refine fun (_ : Keeps _ _) => ?_)
    | (intro x; first | (refine Keeps.cut (s0 := s0) (x := x) ?_ ?_ <;> (first | (clear_value x; intro hx) | subst x)) | (subst x; try dsimp -zeta only))
    | with_reducible (refine report_keeps ?_)
    | with_reducible (refine endDamage_keeps ?_)
    | with_reducible (refine addRec_keeps ?_)
    | with_reducible (refine forEach_keeps ?_ fun s a hs => ?_)
    | split
    | lift_lets
    | (fail_if_no_progress with_reducible refine Keeps.mk' ?_ rfl rfl rfl rfl))

theorem addProg_keeps {a0} (h : Keeps s0 s) : Keeps s0 (addProg s a0) := by
  delta addProg
  repeat' (first
    | with_reducible assumption
    | (refine fun (_ : Keeps _ _) => ?_)
    | (intro x; first | (refine Keeps.cut (s0 := s0) (x := x) ?_ ?_ <;> (first | (clear_value x; intro hx) | subst x)) | (subst x; try dsimp -zeta only))
    | with_reducible (refine takeBuffers_keeps ?_)
    | split
    | lift_lets
    | (fail_if_no_progress with_reducible refine Keeps.mk' ?_ rfl rfl rfl rfl))

theorem addDelta_keeps {a0 a1 a2} (h : Keeps s0 s) : Keeps s0 (addDelta s a0 a1 a2) := by
  delta addDelta
  repeat' (first
    | with_reducible assumption
    | (refine fun (_ : Keeps _ _) => ?_)
    | (intro x; first | (refine Keeps.cut (s0 := s0) (x := x) ?_ ?_ <;> (first | (clear_value x; intro hx) | subst x)) | (subst x; try dsimp -zeta only))
    | with_reducible (refine modGen_keeps ?_)
    | split
    | lift_lets
    | (fail_if_no_progress with_reducible refine Keeps.mk' ?_ rfl rfl rfl rfl))

theorem storePage_keeps {a0 a1} (h : Keeps s0 s) : Keeps s0 (storePage s a0 a1) := by
  delta storePage
  repeat' (first
    | with_reducible assumption
    | (refine fun (_ : Keeps _ _) => ?_)
    | (intro x; first | (refine Keeps.cut (s0 := s0) (x := x) ?_ ?_ <;> (first | (clear_value x; intro hx) | subst x)) | (subst x; try dsimp -zeta only))
    | split
    | lift_lets
    | (fail_if_no_progress with_reducible refine Keeps.mk' ?_ rfl rfl rfl rfl))

theorem rebuildLoc_keeps {a0} (h : Keeps s0 s) : Keeps s0 (rebuildLoc s a0) := by
  delta rebuildLoc
  repeat' (first
    | with_reducible assumption
    | (refine fun (_ : Keeps _ _) => ?_)
    | (intro x; first | (refine Keeps.cut (s0 := s0) (x := x) ?_ ?_ <;> (first | (clear_value x; intro hx) | subst x)) | (subst x; try dsimp -zeta only))
    | with_reducible (refine forEach_keeps ?_ fun s a hs => ?_)
    | split
    | lift_lets
    | (fail_if_no_progress with_reducible refine Keeps.mk' ?_ rfl rfl rfl rfl))

theorem dropUnsewn_keeps {a0} (h : Keeps s0 s) : Keeps s0 (dropUnsewn s a0) := by
  delta dropUnsewn
  repeat' (first
    | with_reducible assumption
    | (refine fun (_ : Keeps _ _) => ?_)
    | (intro x; first | (refine Keeps.cut (s0 := s0) (x := x) ?_ ?_ <;> (first | (clear_value x; intro hx) | subst x)) | (subst x; try dsimp -zeta only))
    | with_reducible (refine setGrp_keeps ?_)
    | with_reducible (refine releaseBuffers_keeps ?_)
    | split
    | lift_lets
    | (fail_if_no_progress with_reducible refine Keeps.mk' ?_ rfl rfl rfl rfl))

theorem disarm_keeps {a0} (h : Keeps s0 s) : Keeps s0 (disarm s a0) := by
  delta disarm
  repeat' (first
    | with_reducible assumption
    | (refine fun (_ : Keeps _ _) => ?_)
    | (intro x; first | (refine Keeps.cut (s0 := s0) (x := x) ?_ ?_ <;> (first | (clear_value x; intro hx) | subst x)) | (subst x; try dsimp -zeta only))
    | with_reducible (refine setGrp_keeps ?_)
    | with_reducible (refine postOutcome_keeps ?_)
    | with_reducible (refine wrB_keeps ?_)
    | with_reducible (refine forEach_keeps ?_ fun s a hs => ?_)
    | split
    | lift_lets
    | (fail_if_no_progress with_reducible refine Keeps.mk' ?_ rfl rfl rfl rfl))

theorem finish_keeps {a0 a1 a2 a3} (h : Keeps s0 s) : Keeps s0 (finish s a0 a1 a2 a3) := by
  delta finish
  repeat' (first
    | with_reducible assumption
    | (refine fun (_ : Keeps _ _) => ?_)
    | (intro x; first | (refine Keeps.cut (s0 := s0) (x := x) ?_ ?_ <;> (first | (clear_value x; intro hx) | subst x)) | (subst x; try dsimp -zeta only))
    | with_reducible (refine replyOk_keeps ?_)
    | with_reducible (refine wr_keeps ?_)
    | split
    | lift_lets
    | (fail_if_no_progress with_reducible refine Keeps.mk' ?_ rfl rfl rfl rfl))

theorem finishCode_keeps {a0 a1} (h : Keeps s0 s) : Keeps s0 (finishCode s a0 a1) := by
  delta finishCode
  repeat' (first
    | with_reducible assumption
    | (refine fun (_ : Keeps _ _) => ?_)
    | (intro x; first | (refine Keeps.cut (s0 := s0) (x := x) ?_ ?_ <;> (first | (clear_value x; intro hx) | subst x)) | (subst x; try dsimp -zeta only))
    | with_reducible (refine finish_keeps ?_)
    | split
    | lift_lets
    | (fail_if_no_progress with_reducible refine Keeps.mk' ?_ rfl rfl rfl rfl))

theorem endQuiesce_keeps {a0} (h : Keeps s0 s) : Keeps s0 (endQuiesce s a0) := by
  delta endQuiesce
  repeat' (first
    | with_reducible assumption
    | (refine fun (_ : Keeps _ _) => ?_)
    | (intro x; first | (refine Keeps.cut (s0 := s0) (x := x) ?_ ?_ <;> (first | (clear_value x; intro hx) | subst x)) | (subst x; try dsimp -zeta only))
    | with_reducible (refine setGrp_keeps ?_)
    | with_reducible (refine retryWaits_keeps ?_)
    | with_reducible (refine updateRates_keeps ?_)
    | split
    | lift_lets
    | (fail_if_no_progress with_reducible refine Keeps.mk' ?_ rfl rfl rfl rfl))

theorem beginQuiesce_keeps {a0 a1} (h : Keeps s0 s) : Keeps s0 (beginQuiesce s a0 a1) := by
  delta beginQuiesce
  repeat' (first
    | with_reducible assumption
    | (refine fun (_ : Keeps _ _) => ?_)
    | (intro x; first | (refine Keeps.cut (s0 := s0) (x := x) ?_ ?_ <;> (first | (clear_value x; intro hx) | subst x)) | (subst x; try dsimp -zeta only))
    | with_reducible (refine setGrp_keeps ?_)
    | with_reducible (refine icu_keeps ?_)
    | with_reducible (refine updateRates_keeps ?_)
    | split
    | lift_lets
    | (fail_if_no_progress with_reducible refine Keeps.mk' ?_ rfl rfl rfl rfl))

theorem unpickDiscard_keeps {a0 a1} (h : Keeps s0 s) : Keeps s0 (unpickDiscard s a0 a1) := by
  delta unpickDiscard
  repeat' (first
    | with_reducible assumption
    | (refine fun (_ : Keeps _ _) => ?_)
    | (intro x; first | (refine Keeps.cut (s0 := s0) (x := x) ?_ ?_ <;> (first | (clear_value x; intro hx) | subst x)) | (subst x; try dsimp -zeta only))
    | with_reducible (refine clearExhausted_keeps ?_)
    | with_reducible (refine dropUnsewn_keeps ?_)
    | with_reducible (refine setGrp_keeps ?_)
    | split
    | lift_lets
    | (fail_if_no_progress with_reducible refine Keeps.mk' ?_ rfl rfl rfl rfl))

theorem drawKey_keeps {a0} (h : Keeps s0 s) : Keeps s0 (drawKey s a0) := by
  delta drawKey
  repeat' (first
    | with_reducible assumption
    | (refine fun (_ : Keeps _ _) => ?_)
    | (intro x; first | (refine Keeps.cut (s0 := s0) (x := x) ?_ ?_ <;> (first | (clear_value x; intro hx) | subst x)) | (subst x; try dsimp -zeta only))
    | with_reducible (refine setGrp_keeps ?_)
    | split
    | lift_lets
    | (fail_if_no_progress with_reducible refine Keeps.mk' ?_ rfl rfl rfl rfl))

theorem badSecret_keeps {a0} (h : Keeps s0 s) : Keeps s0 (badSecret s a0).1 := by
  delta badSecret
  repeat' (first
    | with_reducible assumption
    | (refine fun (_ : Keeps _ _) => ?_)
    | (intro x; first | (refine Keeps.cut (s0 := s0) (x := x) ?_ ?_ <;> (first | (clear_value x; intro hx) | subst x)) | (subst x; try dsimp -zeta only))
    | with_reducible (refine icu_keeps ?_)
    | with_reducible (refine setGrp_keeps ?_)
    | split
    | lift_lets
    | (fail_if_no_progress with_reducible refine Keeps.mk' ?_ rfl rfl rfl rfl))

theorem zeroGroup_keeps {a0} (h : Keeps s0 s) : Keeps s0 (zeroGroup s a0) := by
  delta zeroGroup
  repeat' (first
    | with_reducible assumption
    | (refine fun (_ : Keeps _ _) => ?_)
    | (intro x; first | (refine Keeps.cut (s0 := s0) (x := x) ?_ ?_ <;> (first | (clear_value x; intro hx) | subst x)) | (subst x; try dsimp -zeta only))
    | with_reducible (refine zeroRange_keeps ?_)
    | with_reducible (refine markClean_keeps ?_)
    | with_reducible (refine forEach_keeps ?_ fun s a hs => ?_)
    | split
    | lift_lets
    | (fail_if_no_progress with_reducible refine Keeps.mk' ?_ rfl rfl rfl rfl))

theorem enableGroup_keeps {a0} (h : Keeps s0 s) : Keeps s0 (enableGroup s a0) := by
  delta enableGroup
  repeat' (first
    | with_reducible assumption
    | (refine fun (_ : Keeps _ _) => ?_)
    | (intro x; first | (refine Keeps.cut (s0 := s0) (x := x) ?_ ?_ <;> (first | (clear_value x; intro hx) | subst x)) | (subst x; try dsimp -zeta only))
    | with_reducible (refine zeroGroup_keeps ?_)
    | with_reducible (refine setGrp_keeps ?_)
    | with_reducible (refine noteReasons_keeps ?_)
    | with_reducible (refine icu_keeps ?_)
    | with_reducible (refine drawKey_keeps ?_)
    | split
    | lift_lets
    | (fail_if_no_progress with_reducible refine Keeps.mk' ?_ rfl rfl rfl rfl))

theorem eraseGroup_keeps {a0} (h : Keeps s0 s) : Keeps s0 (eraseGroup s a0) := by
  delta eraseGroup
  repeat' (first
    | with_reducible assumption
    | (refine fun (_ : Keeps _ _) => ?_)
    | (intro x; first | (refine Keeps.cut (s0 := s0) (x := x) ?_ ?_ <;> (first | (clear_value x; intro hx) | subst x)) | (subst x; try dsimp -zeta only))
    | with_reducible (refine clearExhausted_keeps ?_)
    | with_reducible (refine zeroGroup_keeps ?_)
    | with_reducible (refine dropUnsewn_keeps ?_)
    | with_reducible (refine setGrp_keeps ?_)
    | with_reducible (refine freeUnused_keeps ?_)
    | with_reducible (refine drawKey_keeps ?_)
    | split
    | lift_lets
    | (fail_if_no_progress with_reducible refine Keeps.mk' ?_ rfl rfl rfl rfl))

theorem stackFault_keeps {a0 a1} (h : Keeps s0 s) : Keeps s0 (stackFault s a0 a1) := by
  delta stackFault
  repeat' (first
    | with_reducible assumption
    | (refine fun (_ : Keeps _ _) => ?_)
    | (intro x; first | (refine Keeps.cut (s0 := s0) (x := x) ?_ ?_ <;> (first | (clear_value x; intro hx) | subst x)) | (subst x; try dsimp -zeta only))
    | with_reducible (refine icu_keeps ?_)
    | with_reducible (refine wr_keeps ?_)
    | split
    | lift_lets
    | (fail_if_no_progress with_reducible refine Keeps.mk' ?_ rfl rfl rfl rfl))

theorem abandonEntry_keeps {a0} (h : Keeps s0 s) : Keeps s0 (abandonEntry s a0) := by
  delta abandonEntry
  repeat' (first
    | with_reducible assumption
    | (refine fun (_ : Keeps _ _) => ?_)
    | (intro x; first | (refine Keeps.cut (s0 := s0) (x := x) ?_ ?_ <;> (first | (clear_value x; intro hx) | subst x)) | (subst x; try dsimp -zeta only))
    | with_reducible (refine report_keeps ?_)
    | with_reducible (refine stackFault_keeps ?_)
    | with_reducible (refine lostErr_keeps ?_)
    | with_reducible (refine bumpLost_keeps ?_)
    | with_reducible (refine setPending_keeps ?_)
    | split
    | lift_lets
    | (fail_if_no_progress with_reducible refine Keeps.mk' ?_ rfl rfl rfl rfl))

theorem enterSource_keeps {a0 a1} (h : Keeps s0 s) (hl : s.icu.stack.length < 16) : Keeps s0 (enterSource s a0 a1) := by
  unfold enterSource
  exact Keeps.stk (setPending_keeps h) fun _ => Nat.succ_le_of_lt (by simpa [setPending, wr, wrF, wrB] using hl)

theorem completeTop_keeps {a0} (h : Keeps s0 s) : Keeps s0 (completeTop s a0) :=
  Keeps.stk h fun hs => by simpa using Nat.le_trans (Nat.sub_le _ 1) hs

theorem wakeCause_keeps {a0 a1} (h : Keeps s0 s) : Keeps s0 (wakeCause s a0 a1) := by
  delta wakeCause
  repeat' (first
    | with_reducible assumption
    | (refine fun (_ : Keeps _ _) => ?_)
    | (intro x; first | (refine Keeps.cut (s0 := s0) (x := x) ?_ ?_ <;> (first | (clear_value x; intro hx) | subst x)) | (subst x; try dsimp -zeta only))
    | with_reducible (refine wr_keeps ?_)
    | split
    | lift_lets
    | (fail_if_no_progress with_reducible refine Keeps.mk' ?_ rfl rfl rfl rfl))

theorem clearStack_keeps (h : Keeps s0 s) : Keeps s0 (clearStack s) := by
  unfold clearStack
  exact forEach_keeps (Keeps.stk h fun _ => Nat.zero_le 16) fun s a hs => lostErr_keeps (bumpLost_keeps hs)

theorem cflReadUse_keeps {a0} (h : Keeps s0 s) : Keeps s0 (cflReadUse s a0) := by
  delta cflReadUse
  repeat' (first
    | with_reducible assumption
    | (refine fun (_ : Keeps _ _) => ?_)
    | (intro x; first | (refine Keeps.cut (s0 := s0) (x := x) ?_ ?_ <;> (first | (clear_value x; intro hx) | subst x)) | (subst x; try dsimp -zeta only))
    | split
    | lift_lets
    | (fail_if_no_progress with_reducible refine Keeps.mk' ?_ rfl rfl rfl rfl))

theorem cflSpoil_keeps {a0 a1} (h : Keeps s0 s) : Keeps s0 (cflSpoil s a0 a1) := by
  delta cflSpoil
  repeat' (first
    | with_reducible assumption
    | (refine fun (_ : Keeps _ _) => ?_)
    | (intro x; first | (refine Keeps.cut (s0 := s0) (x := x) ?_ ?_ <;> (first | (clear_value x; intro hx) | subst x)) | (subst x; try dsimp -zeta only))
    | split
    | lift_lets
    | (fail_if_no_progress with_reducible refine Keeps.mk' ?_ rfl rfl rfl rfl))

theorem setCflOp_keeps {a0 a1} (h : Keeps s0 s) : Keeps s0 (setCflOp s a0 a1) := by
  delta setCflOp
  repeat' (first
    | with_reducible assumption
    | (refine fun (_ : Keeps _ _) => ?_)
    | (intro x; first | (refine Keeps.cut (s0 := s0) (x := x) ?_ ?_ <;> (first | (clear_value x; intro hx) | subst x)) | (subst x; try dsimp -zeta only))
    | split
    | lift_lets
    | (fail_if_no_progress with_reducible refine Keeps.mk' ?_ rfl rfl rfl rfl))

theorem cflResult_keeps {a0 a1} (h : Keeps s0 s) : Keeps s0 (cflResult s a0 a1) := by
  delta cflResult
  repeat' (first
    | with_reducible assumption
    | (refine fun (_ : Keeps _ _) => ?_)
    | (intro x; first | (refine Keeps.cut (s0 := s0) (x := x) ?_ ?_ <;> (first | (clear_value x; intro hx) | subst x)) | (subst x; try dsimp -zeta only))
    | with_reducible (refine wrF_keeps ?_)
    | split
    | lift_lets
    | (fail_if_no_progress with_reducible refine Keeps.mk' ?_ rfl rfl rfl rfl))

theorem cflAbort_keeps {a0} (h : Keeps s0 s) : Keeps s0 (cflAbort s a0) := by
  delta cflAbort
  repeat' (first
    | with_reducible assumption
    | (refine fun (_ : Keeps _ _) => ?_)
    | (intro x; first | (refine Keeps.cut (s0 := s0) (x := x) ?_ ?_ <;> (first | (clear_value x; intro hx) | subst x)) | (subst x; try dsimp -zeta only))
    | with_reducible (refine setCflOp_keeps ?_)
    | with_reducible (refine cflSpoil_keeps ?_)
    | with_reducible (refine cflResult_keeps ?_)
    | split
    | lift_lets
    | (fail_if_no_progress with_reducible refine Keeps.mk' ?_ rfl rfl rfl rfl))

theorem cflAbortAll_keeps (h : Keeps s0 s) : Keeps s0 (cflAbortAll s) := by
  delta cflAbortAll
  repeat' (first
    | with_reducible assumption
    | (refine fun (_ : Keeps _ _) => ?_)
    | (intro x; first | (refine Keeps.cut (s0 := s0) (x := x) ?_ ?_ <;> (first | (clear_value x; intro hx) | subst x)) | (subst x; try dsimp -zeta only))
    | with_reducible (refine cflAbort_keeps ?_)
    | with_reducible (refine forEach_keeps ?_ fun s a hs => ?_)
    | split
    | lift_lets
    | (fail_if_no_progress with_reducible refine Keeps.mk' ?_ rfl rfl rfl rfl))

end Sys2Proof.Machine
end

