-- ==== Sys2Proof/Laws/KeepsEvrOps.lean ====
section
/-! SUPPORT. Frame lemmas of the operations of Machine/EvrOps, Machine/HlOps, Machine/UpdOps, Machine/HemOps, Machine/ThmOps: each keeps the queue and every
invariant of `Keeps`. -/

set_option linter.unusedTactic false
set_option linter.unreachableTactic false

namespace Sys2Proof.Machine

open Bits

variable {s0 s : State}

theorem setSector_keeps {a0 a1} (h : Keeps s0 s) : Keeps s0 (setSector s a0 a1) := by
  delta setSector
  repeat' (first
    | with_reducible assumption
    | (refine fun (_ : Keeps _ _) => ?_)
    | (intro x; first | (refine Keeps.cut (s0 := s0) (x := x) ?_ ?_ <;> (first | (clear_value x; intro hx) | subst x)) | (subst x; try dsimp -zeta only))
    | split
    | lift_lets
    | (fail_if_no_progress with_reducible refine Keeps.mk' ?_ rfl rfl rfl rfl))

theorem dropSector_keeps {a0} (h : Keeps s0 s) : Keeps s0 (dropSector s a0) := by
  delta dropSector
  repeat' (first
    | with_reducible assumption
    | (refine fun (_ : Keeps _ _) => ?_)
    | (intro x; first | (refine Keeps.cut (s0 := s0) (x := x) ?_ ?_ <;> (first | (clear_value x; intro hx) | subst x)) | (subst x; try dsimp -zeta only))
    | split
    | lift_lets
    | (fail_if_no_progress with_reducible refine Keeps.mk' ?_ rfl rfl rfl rfl))

theorem countErase_keeps {a0} (h : Keeps s0 s) : Keeps s0 (countErase s a0) := by
  delta countErase
  repeat' (first
    | with_reducible assumption
    | (refine fun (_ : Keeps _ _) => ?_)
    | (intro x; first | (refine Keeps.cut (s0 := s0) (x := x) ?_ ?_ <;> (first | (clear_value x; intro hx) | subst x)) | (subst x; try dsimp -zeta only))
    | with_reducible (refine icu_keeps ?_)
    | with_reducible (refine addSat_keeps ?_)
    | split
    | lift_lets
    | (fail_if_no_progress with_reducible refine Keeps.mk' ?_ rfl rfl rfl rfl))

theorem topUp_keeps (h : Keeps s0 s) : Keeps s0 (topUp s) := by
  delta topUp
  repeat' (first
    | with_reducible assumption
    | (refine fun (_ : Keeps _ _) => ?_)
    | (intro x; first | (refine Keeps.cut (s0 := s0) (x := x) ?_ ?_ <;> (first | (clear_value x; intro hx) | subst x)) | (subst x; try dsimp -zeta only))
    | split
    | lift_lets
    | (fail_if_no_progress with_reducible refine Keeps.mk' ?_ rfl rfl rfl rfl))

theorem topUpAll_keeps (h : Keeps s0 s) : Keeps s0 (topUpAll s) := by
  delta topUpAll
  repeat' (first
    | with_reducible assumption
    | (refine fun (_ : Keeps _ _) => ?_)
    | (intro x; first | (refine Keeps.cut (s0 := s0) (x := x) ?_ ?_ <;> (first | (clear_value x; intro hx) | subst x)) | (subst x; try dsimp -zeta only))
    | with_reducible (refine topUp_keeps ?_)
    | split
    | lift_lets
    | (fail_if_no_progress with_reducible refine Keeps.mk' ?_ rfl rfl rfl rfl))

theorem openSector_keeps {a0 a1 a2} (h : Keeps s0 s) : Keeps s0 (openSector s a0 a1 a2) := by
  delta openSector
  repeat' (first
    | with_reducible assumption
    | (refine fun (_ : Keeps _ _) => ?_)
    | (intro x; first | (refine Keeps.cut (s0 := s0) (x := x) ?_ ?_ <;> (first | (clear_value x; intro hx) | subst x)) | (subst x; try dsimp -zeta only))
    | with_reducible (refine setSector_keeps ?_)
    | split
    | lift_lets
    | (fail_if_no_progress with_reducible refine Keeps.mk' ?_ rfl rfl rfl rfl))

theorem sectorFor_keeps {a0} (h : Keeps s0 s) : Keeps s0 (sectorFor s a0).2 := by
  delta sectorFor
  repeat' (first
    | with_reducible assumption
    | (refine fun (_ : Keeps _ _) => ?_)
    | (intro x; first | (refine Keeps.cut (s0 := s0) (x := x) ?_ ?_ <;> (first | (clear_value x; intro hx) | subst x)) | (subst x; try dsimp -zeta only))
    | with_reducible (refine openSector_keeps ?_)
    | with_reducible (refine topUpAll_keeps ?_)
    | split
    | lift_lets
    | (fail_if_no_progress with_reducible refine Keeps.mk' ?_ rfl rfl rfl rfl))

theorem eraseNext_keeps (h : Keeps s0 s) : Keeps s0 (eraseNext s) := by
  delta eraseNext
  repeat' (first
    | with_reducible assumption
    | (refine fun (_ : Keeps _ _) => ?_)
    | (intro x; first | (refine Keeps.cut (s0 := s0) (x := x) ?_ ?_ <;> (first | (clear_value x; intro hx) | subst x)) | (subst x; try dsimp -zeta only))
    | with_reducible (refine topUpAll_keeps ?_)
    | with_reducible (refine countErase_keeps ?_)
    | with_reducible (refine dropSector_keeps ?_)
    | with_reducible (refine setCflOp_keeps ?_)
    | split
    | lift_lets
    | (fail_if_no_progress with_reducible refine Keeps.mk' ?_ rfl rfl rfl rfl))

theorem evrPump_keeps (h : Keeps s0 s) : Keeps s0 (evrPump s) := by
  unfold evrPump
  split
  · split
    · refine eraseNext_keeps ?_
      split
      · exact icu_keeps (Keeps.mk' h rfl rfl rfl rfl)
      · exact h
    · rename_i b _ _
      split
      · have k : Keeps s0 (sectorFor s b.2).2 := sectorFor_keeps h
        rcases e : sectorFor s b.2 with ⟨_ | n, t⟩ <;> rw [e] at k
        · exact eraseNext_keeps k
        · exact setCflOp_keeps k
      · exact h
  · exact h

theorem closeBuf_keeps (h : Keeps s0 s) : Keeps s0 (closeBuf s) := by
  delta closeBuf
  repeat' (first
    | with_reducible assumption
    | (refine fun (_ : Keeps _ _) => ?_)
    | (intro x; first | (refine Keeps.cut (s0 := s0) (x := x) ?_ ?_ <;> (first | (clear_value x; intro hx) | subst x)) | (subst x; try dsimp -zeta only))
    | split
    | lift_lets
    | (fail_if_no_progress with_reducible refine Keeps.mk' ?_ rfl rfl rfl rfl))

theorem evrFlush_keeps (h : Keeps s0 s) : Keeps s0 (evrFlush s) := by
  delta evrFlush
  repeat' (first
    | with_reducible assumption
    | (refine fun (_ : Keeps _ _) => ?_)
    | (intro x; first | (refine Keeps.cut (s0 := s0) (x := x) ?_ ?_ <;> (first | (clear_value x; intro hx) | subst x)) | (subst x; try dsimp -zeta only))
    | with_reducible (refine evrPump_keeps ?_)
    | with_reducible (refine closeBuf_keeps ?_)
    | split
    | lift_lets
    | (fail_if_no_progress with_reducible refine Keeps.mk' ?_ rfl rfl rfl rfl))

theorem placeRec_keeps {a0} (h : Keeps s0 s) : Keeps s0 (placeRec s a0) := by
  delta placeRec
  repeat' (first
    | with_reducible assumption
    | (refine fun (_ : Keeps _ _) => ?_)
    | (intro x; first | (refine Keeps.cut (s0 := s0) (x := x) ?_ ?_ <;> (first | (clear_value x; intro hx) | subst x)) | (subst x; try dsimp -zeta only))
    | with_reducible (refine evrPump_keeps ?_)
    | with_reducible (refine closeBuf_keeps ?_)
    | split
    | lift_lets
    | (fail_if_no_progress with_reducible refine Keeps.mk' ?_ rfl rfl rfl rfl))

theorem countEvent_keeps {a0 a1} (h : Keeps s0 s) : Keeps s0 (countEvent s a0 a1) := by
  delta countEvent
  repeat' (first
    | with_reducible assumption
    | (refine fun (_ : Keeps _ _) => ?_)
    | (intro x; first | (refine Keeps.cut (s0 := s0) (x := x) ?_ ?_ <;> (first | (clear_value x; intro hx) | subst x)) | (subst x; try dsimp -zeta only))
    | split
    | lift_lets
    | (fail_if_no_progress with_reducible refine Keeps.mk' ?_ rfl rfl rfl rfl))

theorem admitRec_keeps {a0 a1 a2} (h : Keeps s0 s) : Keeps s0 (admitRec s a0 a1 a2) := by
  delta admitRec
  repeat' (first
    | with_reducible assumption
    | (refine fun (_ : Keeps _ _) => ?_)
    | (intro x; first | (refine Keeps.cut (s0 := s0) (x := x) ?_ ?_ <;> (first | (clear_value x; intro hx) | subst x)) | (subst x; try dsimp -zeta only))
    | with_reducible (refine placeRec_keeps ?_)
    | with_reducible (refine countEvent_keeps ?_)
    | with_reducible (refine wr_keeps ?_)
    | with_reducible (refine icu_keeps ?_)
    | split
    | lift_lets
    | (fail_if_no_progress with_reducible refine Keeps.mk' ?_ rfl rfl rfl rfl))

theorem ownRec_keeps {a0 a1 a2} (h : Keeps s0 s) : Keeps s0 (ownRec s a0 a1 a2) := by
  delta ownRec
  repeat' (first
    | with_reducible assumption
    | (refine fun (_ : Keeps _ _) => ?_)
    | (intro x; first | (refine Keeps.cut (s0 := s0) (x := x) ?_ ?_ <;> (first | (clear_value x; intro hx) | subst x)) | (subst x; try dsimp -zeta only))
    | with_reducible (refine admitRec_keeps ?_)
    | split
    | lift_lets
    | (fail_if_no_progress with_reducible refine Keeps.mk' ?_ rfl rfl rfl rfl))

theorem storeBucket_keeps {a0 a1 a2} (h : Keeps s0 s) : Keeps s0 (storeBucket s a0 a1 a2) := by
  delta storeBucket
  repeat' (first
    | with_reducible assumption
    | (refine fun (_ : Keeps _ _) => ?_)
    | (intro x; first | (refine Keeps.cut (s0 := s0) (x := x) ?_ ?_ <;> (first | (clear_value x; intro hx) | subst x)) | (subst x; try dsimp -zeta only))
    | split
    | lift_lets
    | (fail_if_no_progress with_reducible refine Keeps.mk' ?_ rfl rfl rfl rfl))

theorem fwDone_keeps {a0 a1} (h : Keeps s0 s) : Keeps s0 (fwDone s a0 a1) := by
  delta fwDone
  repeat' (first
    | with_reducible assumption
    | (refine fun (_ : Keeps _ _) => ?_)
    | (intro x; first | (refine Keeps.cut (s0 := s0) (x := x) ?_ ?_ <;> (first | (clear_value x; intro hx) | subst x)) | (subst x; try dsimp -zeta only))
    | with_reducible (refine wrB_keeps ?_)
    | with_reducible (refine wr_keeps ?_)
    | with_reducible (refine icu_keeps ?_)
    | split
    | lift_lets
    | (fail_if_no_progress with_reducible refine Keeps.mk' ?_ rfl rfl rfl rfl))

theorem dropEvent_keeps {a0} (h : Keeps s0 s) : Keeps s0 (dropEvent s a0) := by
  delta dropEvent
  repeat' (first
    | with_reducible assumption
    | (refine fun (_ : Keeps _ _) => ?_)
    | (intro x; first | (refine Keeps.cut (s0 := s0) (x := x) ?_ ?_ <;> (first | (clear_value x; intro hx) | subst x)) | (subst x; try dsimp -zeta only))
    | with_reducible (refine countEvent_keeps ?_)
    | with_reducible (refine addSat_keeps ?_)
    | with_reducible (refine icu_keeps ?_)
    | with_reducible (refine fwDone_keeps ?_)
    | split
    | lift_lets
    | (fail_if_no_progress with_reducible refine Keeps.mk' ?_ rfl rfl rfl rfl))

theorem freezeNow_keeps {a0} (h : Keeps s0 s) : Keeps s0 (freezeNow s a0) := by
  delta freezeNow
  repeat' (first
    | with_reducible assumption
    | (refine fun (_ : Keeps _ _) => ?_)
    | (intro x; first | (refine Keeps.cut (s0 := s0) (x := x) ?_ ?_ <;> (first | (clear_value x; intro hx) | subst x)) | (subst x; try dsimp -zeta only))
    | with_reducible (refine evrFlush_keeps ?_)
    | with_reducible (refine ownRec_keeps ?_)
    | with_reducible (refine icu_keeps ?_)
    | split
    | lift_lets
    | (fail_if_no_progress with_reducible refine Keeps.mk' ?_ rfl rfl rfl rfl))

theorem evrFreeze_keeps {a0} (h : Keeps s0 s) : Keeps s0 (evrFreeze s a0) := by
  delta evrFreeze
  repeat' (first
    | with_reducible assumption
    | (refine fun (_ : Keeps _ _) => ?_)
    | (intro x; first | (refine Keeps.cut (s0 := s0) (x := x) ?_ ?_ <;> (first | (clear_value x; intro hx) | subst x)) | (subst x; try dsimp -zeta only))
    | with_reducible (refine freezeNow_keeps ?_)
    | split
    | lift_lets
    | (fail_if_no_progress with_reducible refine Keeps.mk' ?_ rfl rfl rfl rfl))

theorem evrUnfreeze_keeps (h : Keeps s0 s) : Keeps s0 (evrUnfreeze s) := by
  delta evrUnfreeze
  repeat' (first
    | with_reducible assumption
    | (refine fun (_ : Keeps _ _) => ?_)
    | (intro x; first | (refine Keeps.cut (s0 := s0) (x := x) ?_ ?_ <;> (first | (clear_value x; intro hx) | subst x)) | (subst x; try dsimp -zeta only))
    | with_reducible (refine icu_keeps ?_)
    | with_reducible (refine ownRec_keeps ?_)
    | split
    | lift_lets
    | (fail_if_no_progress with_reducible refine Keeps.mk' ?_ rfl rfl rfl rfl))

theorem afterFatal_keeps {a0} (h : Keeps s0 s) : Keeps s0 (afterFatal s a0) := by
  delta afterFatal
  repeat' (first
    | with_reducible assumption
    | (refine fun (_ : Keeps _ _) => ?_)
    | (intro x; first | (refine Keeps.cut (s0 := s0) (x := x) ?_ ?_ <;> (first | (clear_value x; intro hx) | subst x)) | (subst x; try dsimp -zeta only))
    | with_reducible (refine evrFreeze_keeps ?_)
    | split
    | lift_lets
    | (fail_if_no_progress with_reducible refine Keeps.mk' ?_ rfl rfl rfl rfl))

theorem admitEvent_keeps {a0} (h : Keeps s0 s) : Keeps s0 (admitEvent s a0) := by
  delta admitEvent
  repeat' (first
    | with_reducible assumption
    | (refine fun (_ : Keeps _ _) => ?_)
    | (intro x; first | (refine Keeps.cut (s0 := s0) (x := x) ?_ ?_ <;> (first | (clear_value x; intro hx) | subst x)) | (subst x; try dsimp -zeta only))
    | with_reducible (refine dropEvent_keeps ?_)
    | with_reducible (refine storeBucket_keeps ?_)
    | with_reducible (refine afterFatal_keeps ?_)
    | with_reducible (refine fwDone_keeps ?_)
    | with_reducible (refine admitRec_keeps ?_)
    | split
    | lift_lets
    | (fail_if_no_progress with_reducible refine Keeps.mk' ?_ rfl rfl rfl rfl))

theorem enterVolatile_keeps {a0} (h : Keeps s0 s) : Keeps s0 (enterVolatile s a0) := by
  delta enterVolatile
  repeat' (first
    | with_reducible assumption
    | (refine fun (_ : Keeps _ _) => ?_)
    | (intro x; first | (refine Keeps.cut (s0 := s0) (x := x) ?_ ?_ <;> (first | (clear_value x; intro hx) | subst x)) | (subst x; try dsimp -zeta only))
    | with_reducible (refine setCflOp_keeps ?_)
    | with_reducible (refine ownRec_keeps ?_)
    | with_reducible (refine wrB_keeps ?_)
    | with_reducible (refine icu_keeps ?_)
    | with_reducible (refine report_keeps ?_)
    | split
    | lift_lets
    | (fail_if_no_progress with_reducible refine Keeps.mk' ?_ rfl rfl rfl rfl))

theorem copyFailed_keeps (h : Keeps s0 s) : Keeps s0 (copyFailed s) := by
  delta copyFailed
  repeat' (first
    | with_reducible assumption
    | (refine fun (_ : Keeps _ _) => ?_)
    | (intro x; first | (refine Keeps.cut (s0 := s0) (x := x) ?_ ?_ <;> (first | (clear_value x; intro hx) | subst x)) | (subst x; try dsimp -zeta only))
    | with_reducible (refine report_keeps ?_)
    | split
    | lift_lets
    | (fail_if_no_progress with_reducible refine Keeps.mk' ?_ rfl rfl rfl rfl))

theorem putCopy_keeps {a0 a1 a2 a3} (h : Keeps s0 s) : Keeps s0 (putCopy s a0 a1 a2 a3) := by
  delta putCopy
  repeat' (first
    | with_reducible assumption
    | (refine fun (_ : Keeps _ _) => ?_)
    | (intro x; first | (refine Keeps.cut (s0 := s0) (x := x) ?_ ?_ <;> (first | (clear_value x; intro hx) | subst x)) | (subst x; try dsimp -zeta only))
    | split
    | lift_lets
    | (fail_if_no_progress with_reducible refine Keeps.mk' ?_ rfl rfl rfl rfl))

theorem writeSummary_keeps {a0 a1} (h : Keeps s0 s) : Keeps s0 (writeSummary s a0 a1) := by
  delta writeSummary
  repeat' (first
    | with_reducible assumption
    | (refine fun (_ : Keeps _ _) => ?_)
    | (intro x; first | (refine Keeps.cut (s0 := s0) (x := x) ?_ ?_ <;> (first | (clear_value x; intro hx) | subst x)) | (subst x; try dsimp -zeta only))
    | with_reducible (refine putCopy_keeps ?_)
    | with_reducible (refine copyFailed_keeps ?_)
    | with_reducible (refine icu_keeps ?_)
    | with_reducible (refine enterVolatile_keeps ?_)
    | split
    | lift_lets
    | (fail_if_no_progress with_reducible refine Keeps.mk' ?_ rfl rfl rfl rfl))

theorem evrSecure_keeps (h : Keeps s0 s) : Keeps s0 (evrSecure s) := by
  delta evrSecure
  repeat' (first
    | with_reducible assumption
    | (refine fun (_ : Keeps _ _) => ?_)
    | (intro x; first | (refine Keeps.cut (s0 := s0) (x := x) ?_ ?_ <;> (first | (clear_value x; intro hx) | subst x)) | (subst x; try dsimp -zeta only))
    | with_reducible (refine writeSummary_keeps ?_)
    | with_reducible (refine evrFlush_keeps ?_)
    | split
    | lift_lets
    | (fail_if_no_progress with_reducible refine Keeps.mk' ?_ rfl rfl rfl rfl))

theorem retireSector_keeps {a0 a1} (h : Keeps s0 s) : Keeps s0 (retireSector s a0 a1) := by
  delta retireSector
  repeat' (first
    | with_reducible assumption
    | (refine fun (_ : Keeps _ _) => ?_)
    | (intro x; first | (refine Keeps.cut (s0 := s0) (x := x) ?_ ?_ <;> (first | (clear_value x; intro hx) | subst x)) | (subst x; try dsimp -zeta only))
    | with_reducible (refine icu_keeps ?_)
    | with_reducible (refine report_keeps ?_)
    | with_reducible (refine countEvent_keeps ?_)
    | with_reducible (refine wr_keeps ?_)
    | with_reducible (refine enterVolatile_keeps ?_)
    | split
    | lift_lets
    | (fail_if_no_progress with_reducible refine Keeps.mk' ?_ rfl rfl rfl rfl))

theorem pageDone_keeps {a0 a1} (h : Keeps s0 s) : Keeps s0 (pageDone s a0 a1) := by
  delta pageDone
  repeat' (first
    | with_reducible assumption
    | (refine fun (_ : Keeps _ _) => ?_)
    | (intro x; first | (refine Keeps.cut (s0 := s0) (x := x) ?_ ?_ <;> (first | (clear_value x; intro hx) | subst x)) | (subst x; try dsimp -zeta only))
    | with_reducible (refine setCflOp_keeps ?_)
    | with_reducible (refine setSector_keeps ?_)
    | with_reducible (refine evrPump_keeps ?_)
    | with_reducible (refine topUpAll_keeps ?_)
    | with_reducible (refine retireSector_keeps ?_)
    | split
    | lift_lets
    | (fail_if_no_progress with_reducible refine Keeps.mk' ?_ rfl rfl rfl rfl))

theorem sectorErased_keeps {a0 a1} (h : Keeps s0 s) : Keeps s0 (sectorErased s a0 a1) := by
  delta sectorErased
  repeat' (first
    | with_reducible assumption
    | (refine fun (_ : Keeps _ _) => ?_)
    | (intro x; first | (refine Keeps.cut (s0 := s0) (x := x) ?_ ?_ <;> (first | (clear_value x; intro hx) | subst x)) | (subst x; try dsimp -zeta only))
    | with_reducible (refine setCflOp_keeps ?_)
    | with_reducible (refine cflErase_keeps ?_)
    | with_reducible (refine evrPump_keeps ?_)
    | with_reducible (refine icu_keeps ?_)
    | with_reducible (refine report_keeps ?_)
    | with_reducible (refine ownRec_keeps ?_)
    | with_reducible (refine enterVolatile_keeps ?_)
    | split
    | lift_lets
    | (fail_if_no_progress with_reducible refine Keeps.mk' ?_ rfl rfl rfl rfl))

theorem unitBad_keeps {a0} (h : Keeps s0 s) : Keeps s0 (unitBad s a0) := by
  delta unitBad
  repeat' (first
    | with_reducible assumption
    | (refine fun (_ : Keeps _ _) => ?_)
    | (intro x; first | (refine Keeps.cut (s0 := s0) (x := x) ?_ ?_ <;> (first | (clear_value x; intro hx) | subst x)) | (subst x; try dsimp -zeta only))
    | with_reducible (refine setSector_keeps ?_)
    | with_reducible (refine ownRec_keeps ?_)
    | split
    | lift_lets
    | (fail_if_no_progress with_reducible refine Keeps.mk' ?_ rfl rfl rfl rfl))

theorem bank3Erased_keeps {a0} (h : Keeps s0 s) : Keeps s0 (bank3Erased s a0) := by
  delta bank3Erased
  repeat' (first
    | with_reducible assumption
    | (refine fun (_ : Keeps _ _) => ?_)
    | (intro x; first | (refine Keeps.cut (s0 := s0) (x := x) ?_ ?_ <;> (first | (clear_value x; intro hx) | subst x)) | (subst x; try dsimp -zeta only))
    | with_reducible (refine dropSector_keeps ?_)
    | split
    | lift_lets
    | (fail_if_no_progress with_reducible refine Keeps.mk' ?_ rfl rfl rfl rfl))

theorem startClear_keeps {a0} (h : Keeps s0 s) : Keeps s0 (startClear s a0) := by
  delta startClear
  repeat' (first
    | with_reducible assumption
    | (refine fun (_ : Keeps _ _) => ?_)
    | (intro x; first | (refine Keeps.cut (s0 := s0) (x := x) ?_ ?_ <;> (first | (clear_value x; intro hx) | subst x)) | (subst x; try dsimp -zeta only))
    | with_reducible (refine evrUnfreeze_keeps ?_)
    | with_reducible (refine topUpAll_keeps ?_)
    | split
    | lift_lets
    | (fail_if_no_progress with_reducible refine Keeps.mk' ?_ rfl rfl rfl rfl))

theorem endClear_keeps (h : Keeps s0 s) : Keeps s0 (endClear s) := by
  delta endClear
  repeat' (first
    | with_reducible assumption
    | (refine fun (_ : Keeps _ _) => ?_)
    | (intro x; first | (refine Keeps.cut (s0 := s0) (x := x) ?_ ?_ <;> (first | (clear_value x; intro hx) | subst x)) | (subst x; try dsimp -zeta only))
    | with_reducible (refine icu_keeps ?_)
    | with_reducible (refine ownRec_keeps ?_)
    | with_reducible (refine endBg_keeps ?_)
    | with_reducible (refine freezeNow_keeps ?_)
    | split
    | lift_lets
    | (fail_if_no_progress with_reducible refine Keeps.mk' ?_ rfl rfl rfl rfl))

theorem evrLost_keeps (h : Keeps s0 s) : Keeps s0 (evrLost s) := by
  delta evrLost
  repeat' (first
    | with_reducible assumption
    | (refine fun (_ : Keeps _ _) => ?_)
    | (intro x; first | (refine Keeps.cut (s0 := s0) (x := x) ?_ ?_ <;> (first | (clear_value x; intro hx) | subst x)) | (subst x; try dsimp -zeta only))
    | with_reducible (refine setCflOp_keeps ?_)
    | split
    | lift_lets
    | (fail_if_no_progress with_reducible refine Keeps.mk' ?_ rfl rfl rfl rfl))

theorem restoreCycles_keeps (h : Keeps s0 s) : Keeps s0 (restoreCycles s) := by
  delta restoreCycles
  repeat' (first
    | with_reducible assumption
    | (refine fun (_ : Keeps _ _) => ?_)
    | (intro x; first | (refine Keeps.cut (s0 := s0) (x := x) ?_ ?_ <;> (first | (clear_value x; intro hx) | subst x)) | (subst x; try dsimp -zeta only))
    | with_reducible (refine addSat_keeps ?_)
    | split
    | lift_lets
    | (fail_if_no_progress with_reducible refine Keeps.mk' ?_ rfl rfl rfl rfl))

theorem replayLatch_keeps (h : Keeps s0 s) : Keeps s0 (replayLatch s) := by
  delta replayLatch
  repeat' (first
    | with_reducible assumption
    | (refine fun (_ : Keeps _ _) => ?_)
    | (intro x; first | (refine Keeps.cut (s0 := s0) (x := x) ?_ ?_ <;> (first | (clear_value x; intro hx) | subst x)) | (subst x; try dsimp -zeta only))
    | with_reducible (refine admitRec_keeps ?_)
    | with_reducible (refine ownRec_keeps ?_)
    | with_reducible (refine forEach_keeps ?_ fun s a hs => ?_)
    | split
    | lift_lets
    | (fail_if_no_progress with_reducible refine Keeps.mk' ?_ rfl rfl rfl rfl))

theorem mountLog_keeps {a0 a1} (h : Keeps s0 s) : Keeps s0 (mountLog s a0 a1) := by
  delta mountLog
  repeat' (first
    | with_reducible assumption
    | (refine fun (_ : Keeps _ _) => ?_)
    | (intro x; first | (refine Keeps.cut (s0 := s0) (x := x) ?_ ?_ <;> (first | (clear_value x; intro hx) | subst x)) | (subst x; try dsimp -zeta only))
    | with_reducible (refine wr_keeps ?_)
    | with_reducible (refine restoreCycles_keeps ?_)
    | with_reducible (refine report_keeps ?_)
    | with_reducible (refine ownRec_keeps ?_)
    | with_reducible (refine topUpAll_keeps ?_)
    | with_reducible (refine icu_keeps ?_)
    | with_reducible (refine replayLatch_keeps ?_)
    | with_reducible (refine enterVolatile_keeps ?_)
    | with_reducible (refine writeSummary_keeps ?_)
    | with_reducible (refine forEach_keeps ?_ fun s a hs => ?_)
    | split
    | lift_lets
    | (fail_if_no_progress with_reducible refine Keeps.mk' ?_ rfl rfl rfl rfl))

theorem winRefuse_keeps {a0 a1 a2} (h : Keeps s0 s) : Keeps s0 (winRefuse s a0 a1 a2) := by
  delta winRefuse
  repeat' (first
    | with_reducible assumption
    | (refine fun (_ : Keeps _ _) => ?_)
    | (intro x; first | (refine Keeps.cut (s0 := s0) (x := x) ?_ ?_ <;> (first | (clear_value x; intro hx) | subst x)) | (subst x; try dsimp -zeta only))
    | with_reducible (refine wr_keeps ?_)
    | with_reducible (refine report_keeps ?_)
    | split
    | lift_lets
    | (fail_if_no_progress with_reducible refine Keeps.mk' ?_ rfl rfl rfl rfl))

theorem refreshGroup_keeps {a0} (h : Keeps s0 s) : Keeps s0 (refreshGroup s a0) := by
  delta refreshGroup
  repeat' (first
    | with_reducible assumption
    | (refine fun (_ : Keeps _ _) => ?_)
    | (intro x; first | (refine Keeps.cut (s0 := s0) (x := x) ?_ ?_ <;> (first | (clear_value x; intro hx) | subst x)) | (subst x; try dsimp -zeta only))
    | with_reducible (refine setGrpWord_keeps ?_)
    | split
    | lift_lets
    | (fail_if_no_progress with_reducible refine Keeps.mk' ?_ rfl rfl rfl rfl))

theorem storeWin_keeps {a0 a1} (h : Keeps s0 s) : Keeps s0 (storeWin s a0 a1) := by
  delta storeWin
  repeat' (first
    | with_reducible assumption
    | (refine fun (_ : Keeps _ _) => ?_)
    | (intro x; first | (refine Keeps.cut (s0 := s0) (x := x) ?_ ?_ <;> (first | (clear_value x; intro hx) | subst x)) | (subst x; try dsimp -zeta only))
    | with_reducible (refine setWinWord_keeps ?_)
    | split
    | lift_lets
    | (fail_if_no_progress with_reducible refine Keeps.mk' ?_ rfl rfl rfl rfl))

theorem zeroWindow_keeps {a0} (h : Keeps s0 s) : Keeps s0 (zeroWindow s a0) := by
  delta zeroWindow
  repeat' (first
    | with_reducible assumption
    | (refine fun (_ : Keeps _ _) => ?_)
    | (intro x; first | (refine Keeps.cut (s0 := s0) (x := x) ?_ ?_ <;> (first | (clear_value x; intro hx) | subst x)) | (subst x; try dsimp -zeta only))
    | with_reducible (refine zeroRange_keeps ?_)
    | split
    | lift_lets
    | (fail_if_no_progress with_reducible refine Keeps.mk' ?_ rfl rfl rfl rfl))

theorem writeWin_keeps {a0 a1 a2} (h : Keeps s0 s) : Keeps s0 (writeWin s a0 a1 a2).1 := by
  delta writeWin
  repeat' (first
    | with_reducible assumption
    | (refine fun (_ : Keeps _ _) => ?_)
    | (intro x; first | (refine Keeps.cut (s0 := s0) (x := x) ?_ ?_ <;> (first | (clear_value x; intro hx) | subst x)) | (subst x; try dsimp -zeta only))
    | with_reducible (refine storeWin_keeps ?_)
    | with_reducible (refine refreshGroup_keeps ?_)
    | with_reducible (refine zeroWindow_keeps ?_)
    | with_reducible (refine noteReasons_keeps ?_)
    | with_reducible (refine winRefuse_keeps ?_)
    | split
    | lift_lets
    | (fail_if_no_progress with_reducible refine Keeps.mk' ?_ rfl rfl rfl rfl))

theorem writeGrp_keeps {a0 a1} (h : Keeps s0 s) : Keeps s0 (writeGrp s a0 a1).1 := by
  delta writeGrp
  repeat' (first
    | with_reducible assumption
    | (refine fun (_ : Keeps _ _) => ?_)
    | (intro x; first | (refine Keeps.cut (s0 := s0) (x := x) ?_ ?_ <;> (first | (clear_value x; intro hx) | subst x)) | (subst x; try dsimp -zeta only))
    | with_reducible (refine winRefuse_keeps ?_)
    | with_reducible (refine setGrpWord_keeps ?_)
    | with_reducible (refine enableGroup_keeps ?_)
    | with_reducible (refine pace_keeps ?_)
    | with_reducible (refine budgetBelow_keeps ?_)
    | with_reducible (refine noteReasons_keeps ?_)
    | with_reducible (refine forEach_keeps ?_ fun s a hs => ?_)
    | split
    | lift_lets
    | (fail_if_no_progress with_reducible refine Keeps.mk' ?_ rfl rfl rfl rfl))

theorem countDropped_keeps {a0 a1} (h : Keeps s0 s) : Keeps s0 (countDropped s a0 a1) := by
  delta countDropped
  repeat' (first
    | with_reducible assumption
    | (refine fun (_ : Keeps _ _) => ?_)
    | (intro x; first | (refine Keeps.cut (s0 := s0) (x := x) ?_ ?_ <;> (first | (clear_value x; intro hx) | subst x)) | (subst x; try dsimp -zeta only))
    | with_reducible (refine addSat_keeps ?_)
    | split
    | lift_lets
    | (fail_if_no_progress with_reducible refine Keeps.mk' ?_ rfl rfl rfl rfl))

theorem dropRequests_keeps {a0} (h : Keeps s0 s) : Keeps s0 (dropRequests s a0) := by
  delta dropRequests
  repeat' (first
    | with_reducible assumption
    | (refine fun (_ : Keeps _ _) => ?_)
    | (intro x; first | (refine Keeps.cut (s0 := s0) (x := x) ?_ ?_ <;> (first | (clear_value x; intro hx) | subst x)) | (subst x; try dsimp -zeta only))
    | with_reducible (refine freeWaits_keeps ?_)
    | with_reducible (refine setDch_keeps ?_)
    | with_reducible (refine releaseBuffers_keeps ?_)
    | with_reducible (refine countDropped_keeps ?_)
    | with_reducible (refine forEach_keeps ?_ fun s a hs => ?_)
    | split
    | lift_lets
    | (fail_if_no_progress with_reducible refine Keeps.mk' ?_ rfl rfl rfl rfl))

theorem resetFunction_keeps {a0} (h : Keeps s0 s) : Keeps s0 (resetFunction s a0) := by
  delta resetFunction
  repeat' (first
    | with_reducible assumption
    | (refine fun (_ : Keeps _ _) => ?_)
    | (intro x; first | (refine Keeps.cut (s0 := s0) (x := x) ?_ ?_ <;> (first | (clear_value x; intro hx) | subst x)) | (subst x; try dsimp -zeta only))
    | with_reducible (refine setLd_keeps ?_)
    | split
    | lift_lets
    | (fail_if_no_progress with_reducible refine Keeps.mk' ?_ rfl rfl rfl rfl))

theorem setIde_keeps {a0 a1} (h : Keeps s0 s) : Keeps s0 (setIde s a0 a1) := by
  delta setIde
  repeat' (first
    | with_reducible assumption
    | (refine fun (_ : Keeps _ _) => ?_)
    | (intro x; first | (refine Keeps.cut (s0 := s0) (x := x) ?_ ?_ <;> (first | (clear_value x; intro hx) | subst x)) | (subst x; try dsimp -zeta only))
    | with_reducible (refine wrF_keeps ?_)
    | split
    | lift_lets
    | (fail_if_no_progress with_reducible refine Keeps.mk' ?_ rfl rfl rfl rfl))

theorem resetPort_keeps {a0} (h : Keeps s0 s) : Keeps s0 (resetPort s a0) := by
  delta resetPort
  repeat' (first
    | with_reducible assumption
    | (refine fun (_ : Keeps _ _) => ?_)
    | (intro x; first | (refine Keeps.cut (s0 := s0) (x := x) ?_ ?_ <;> (first | (clear_value x; intro hx) | subst x)) | (subst x; try dsimp -zeta only))
    | with_reducible (refine dropRequests_keeps ?_)
    | with_reducible (refine resetFunction_keeps ?_)
    | with_reducible (refine setLd_keeps ?_)
    | with_reducible (refine setPort_keeps ?_)
    | with_reducible (refine noteReasons_keeps ?_)
    | with_reducible (refine setIde_keeps ?_)
    | with_reducible (refine forEach_keeps ?_ fun s a hs => ?_)
    | split
    | lift_lets
    | (fail_if_no_progress with_reducible refine Keeps.mk' ?_ rfl rfl rfl rfl))

theorem portDown_keeps {a0} (h : Keeps s0 s) : Keeps s0 (portDown s a0) := by
  delta portDown
  repeat' (first
    | with_reducible assumption
    | (refine fun (_ : Keeps _ _) => ?_)
    | (intro x; first | (refine Keeps.cut (s0 := s0) (x := x) ?_ ?_ <;> (first | (clear_value x; intro hx) | subst x)) | (subst x; try dsimp -zeta only))
    | with_reducible (refine icu_keeps ?_)
    | with_reducible (refine addSat_keeps ?_)
    | with_reducible (refine resetPort_keeps ?_)
    | split
    | lift_lets
    | (fail_if_no_progress with_reducible refine Keeps.mk' ?_ rfl rfl rfl rfl))

theorem linkOff_keeps {a0} (h : Keeps s0 s) : Keeps s0 (linkOff s a0) := by
  delta linkOff
  repeat' (first
    | with_reducible assumption
    | (refine fun (_ : Keeps _ _) => ?_)
    | (intro x; first | (refine Keeps.cut (s0 := s0) (x := x) ?_ ?_ <;> (first | (clear_value x; intro hx) | subst x)) | (subst x; try dsimp -zeta only))
    | with_reducible (refine portDown_keeps ?_)
    | split
    | lift_lets
    | (fail_if_no_progress with_reducible refine Keeps.mk' ?_ rfl rfl rfl rfl))

theorem latchCfg_keeps {a0} (h : Keeps s0 s) : Keeps s0 (latchCfg s a0) := by
  delta latchCfg
  repeat' (first
    | with_reducible assumption
    | (refine fun (_ : Keeps _ _) => ?_)
    | (intro x; first | (refine Keeps.cut (s0 := s0) (x := x) ?_ ?_ <;> (first | (clear_value x; intro hx) | subst x)) | (subst x; try dsimp -zeta only))
    | with_reducible (refine setPort_keeps ?_)
    | split
    | lift_lets
    | (fail_if_no_progress with_reducible refine Keeps.mk' ?_ rfl rfl rfl rfl))

theorem portReset_keeps {a0 a1} (h : Keeps s0 s) : Keeps s0 (portReset s a0 a1) := by
  delta portReset
  repeat' (first
    | with_reducible assumption
    | (refine fun (_ : Keeps _ _) => ?_)
    | (intro x; first | (refine Keeps.cut (s0 := s0) (x := x) ?_ ?_ <;> (first | (clear_value x; intro hx) | subst x)) | (subst x; try dsimp -zeta only))
    | with_reducible (refine latchCfg_keeps ?_)
    | with_reducible (refine resetPort_keeps ?_)
    | with_reducible (refine setPort_keeps ?_)
    | with_reducible (refine icu_keeps ?_)
    | split
    | lift_lets
    | (fail_if_no_progress with_reducible refine Keeps.mk' ?_ rfl rfl rfl rfl))

theorem programBoot_keeps {a0} (h : Keeps s0 s) : Keeps s0 (programBoot s a0) := by
  delta programBoot
  repeat' (first
    | with_reducible assumption
    | (refine fun (_ : Keeps _ _) => ?_)
    | (intro x; first | (refine Keeps.cut (s0 := s0) (x := x) ?_ ?_ <;> (first | (clear_value x; intro hx) | subst x)) | (subst x; try dsimp -zeta only))
    | with_reducible (refine cflErase_keeps ?_)
    | with_reducible (refine cflProgram_keeps ?_)
    | split
    | lift_lets
    | (fail_if_no_progress with_reducible refine Keeps.mk' ?_ rfl rfl rfl rfl))

theorem appendBoot_keeps {a0} (h : Keeps s0 s) : Keeps s0 (appendBoot s a0) := by
  delta appendBoot
  repeat' (first
    | with_reducible assumption
    | (refine fun (_ : Keeps _ _) => ?_)
    | (intro x; first | (refine Keeps.cut (s0 := s0) (x := x) ?_ ?_ <;> (first | (clear_value x; intro hx) | subst x)) | (subst x; try dsimp -zeta only))
    | with_reducible (refine programBoot_keeps ?_)
    | split
    | lift_lets
    | (fail_if_no_progress with_reducible refine Keeps.mk' ?_ rfl rfl rfl rfl))

theorem restartPair_keeps {a0 a1} (h : Keeps s0 s) : Keeps s0 (restartPair s a0 a1) := by
  delta restartPair
  repeat' (first
    | with_reducible assumption
    | (refine fun (_ : Keeps _ _) => ?_)
    | (intro x; first | (refine Keeps.cut (s0 := s0) (x := x) ?_ ?_ <;> (first | (clear_value x; intro hx) | subst x)) | (subst x; try dsimp -zeta only))
    | with_reducible (refine clearStack_keeps ?_)
    | with_reducible (refine wr_keeps ?_)
    | split
    | lift_lets
    | (fail_if_no_progress with_reducible refine Keeps.mk' ?_ rfl rfl rfl rfl))

theorem noteRefusal_keeps (h : Keeps s0 s) : Keeps s0 (noteRefusal s) := by
  delta noteRefusal
  repeat' (first
    | with_reducible assumption
    | (refine fun (_ : Keeps _ _) => ?_)
    | (intro x; first | (refine Keeps.cut (s0 := s0) (x := x) ?_ ?_ <;> (first | (clear_value x; intro hx) | subst x)) | (subst x; try dsimp -zeta only))
    | with_reducible (refine addSat_keeps ?_)
    | with_reducible (refine wrF_keeps ?_)
    | split
    | lift_lets
    | (fail_if_no_progress with_reducible refine Keeps.mk' ?_ rfl rfl rfl rfl))

theorem slotInvalid_keeps {a0} (h : Keeps s0 s) : Keeps s0 (slotInvalid s a0) := by
  delta slotInvalid
  repeat' (first
    | with_reducible assumption
    | (refine fun (_ : Keeps _ _) => ?_)
    | (intro x; first | (refine Keeps.cut (s0 := s0) (x := x) ?_ ?_ <;> (first | (clear_value x; intro hx) | subst x)) | (subst x; try dsimp -zeta only))
    | with_reducible (refine cflErase_keeps ?_)
    | split
    | lift_lets
    | (fail_if_no_progress with_reducible refine Keeps.mk' ?_ rfl rfl rfl rfl))

theorem updEnd_keeps (h : Keeps s0 s) : Keeps s0 (updEnd s) := by
  delta updEnd
  repeat' (first
    | with_reducible assumption
    | (refine fun (_ : Keeps _ _) => ?_)
    | (intro x; first | (refine Keeps.cut (s0 := s0) (x := x) ?_ ?_ <;> (first | (clear_value x; intro hx) | subst x)) | (subst x; try dsimp -zeta only))
    | with_reducible (refine icu_keeps ?_)
    | split
    | lift_lets
    | (fail_if_no_progress with_reducible refine Keeps.mk' ?_ rfl rfl rfl rfl))

theorem abandonTransfer_keeps (h : Keeps s0 s) : Keeps s0 (abandonTransfer s) := by
  delta abandonTransfer
  repeat' (first
    | with_reducible assumption
    | (refine fun (_ : Keeps _ _) => ?_)
    | (intro x; first | (refine Keeps.cut (s0 := s0) (x := x) ?_ ?_ <;> (first | (clear_value x; intro hx) | subst x)) | (subst x; try dsimp -zeta only))
    | with_reducible (refine slotInvalid_keeps ?_)
    | with_reducible (refine updEnd_keeps ?_)
    | with_reducible (refine endBg_keeps ?_)
    | split
    | lift_lets
    | (fail_if_no_progress with_reducible refine Keeps.mk' ?_ rfl rfl rfl rfl))

theorem abandonReconstruction_keeps (h : Keeps s0 s) : Keeps s0 (abandonReconstruction s) := by
  delta abandonReconstruction
  repeat' (first
    | with_reducible assumption
    | (refine fun (_ : Keeps _ _) => ?_)
    | (intro x; first | (refine Keeps.cut (s0 := s0) (x := x) ?_ ?_ <;> (first | (clear_value x; intro hx) | subst x)) | (subst x; try dsimp -zeta only))
    | with_reducible (refine abandonTransfer_keeps ?_)
    | split
    | lift_lets
    | (fail_if_no_progress with_reducible refine Keeps.mk' ?_ rfl rfl rfl rfl))

theorem writeArea_keeps {a0 a1 a2} (h : Keeps s0 s) : Keeps s0 (writeArea s a0 a1 a2) := by
  delta writeArea
  repeat' (first
    | with_reducible assumption
    | (refine fun (_ : Keeps _ _) => ?_)
    | (intro x; first | (refine Keeps.cut (s0 := s0) (x := x) ?_ ?_ <;> (first | (clear_value x; intro hx) | subst x)) | (subst x; try dsimp -zeta only))
    | with_reducible (refine cflProgram_keeps ?_)
    | with_reducible (refine cflErase_keeps ?_)
    | split
    | lift_lets
    | (fail_if_no_progress with_reducible refine Keeps.mk' ?_ rfl rfl rfl rfl))

theorem handoverFail_keeps (h : Keeps s0 s) : Keeps s0 (handoverFail s) := by
  delta handoverFail
  repeat' (first
    | with_reducible assumption
    | (refine fun (_ : Keeps _ _) => ?_)
    | (intro x; first | (refine Keeps.cut (s0 := s0) (x := x) ?_ ?_ <;> (first | (clear_value x; intro hx) | subst x)) | (subst x; try dsimp -zeta only))
    | with_reducible (refine appendBoot_keeps ?_)
    | with_reducible (refine restartPair_keeps ?_)
    | with_reducible (refine wr_keeps ?_)
    | with_reducible (refine updEnd_keeps ?_)
    | with_reducible (refine endBg_keeps ?_)
    | with_reducible (refine report_keeps ?_)
    | split
    | lift_lets
    | (fail_if_no_progress with_reducible refine Keeps.mk' ?_ rfl rfl rfl rfl))

theorem confirmTrial_keeps (h : Keeps s0 s) : Keeps s0 (confirmTrial s) := by
  delta confirmTrial
  repeat' (first
    | with_reducible assumption
    | (refine fun (_ : Keeps _ _) => ?_)
    | (intro x; first | (refine Keeps.cut (s0 := s0) (x := x) ?_ ?_ <;> (first | (clear_value x; intro hx) | subst x)) | (subst x; try dsimp -zeta only))
    | with_reducible (refine updEnd_keeps ?_)
    | with_reducible (refine appendBoot_keeps ?_)
    | split
    | lift_lets
    | (fail_if_no_progress with_reducible refine Keeps.mk' ?_ rfl rfl rfl rfl))

theorem runFallBack_keeps (h : Keeps s0 s) : Keeps s0 (runFallBack s) := by
  delta runFallBack
  repeat' (first
    | with_reducible assumption
    | (refine fun (_ : Keeps _ _) => ?_)
    | (intro x; first | (refine Keeps.cut (s0 := s0) (x := x) ?_ ?_ <;> (first | (clear_value x; intro hx) | subst x)) | (subst x; try dsimp -zeta only))
    | with_reducible (refine logged_keeps ?_)
    | with_reducible (refine appendBoot_keeps ?_)
    | with_reducible (refine restartPair_keeps ?_)
    | with_reducible (refine wr_keeps ?_)
    | with_reducible (refine updEnd_keeps ?_)
    | with_reducible (refine report_keeps ?_)
    | split
    | lift_lets
    | (fail_if_no_progress with_reducible refine Keeps.mk' ?_ rfl rfl rfl rfl))

theorem failTrial_keeps (h : Keeps s0 s) : Keeps s0 (failTrial s) := by
  delta failTrial
  repeat' (first
    | with_reducible assumption
    | (refine fun (_ : Keeps _ _) => ?_)
    | (intro x; first | (refine Keeps.cut (s0 := s0) (x := x) ?_ ?_ <;> (first | (clear_value x; intro hx) | subst x)) | (subst x; try dsimp -zeta only))
    | with_reducible (refine runFallBack_keeps ?_)
    | split
    | lift_lets
    | (fail_if_no_progress with_reducible refine Keeps.mk' ?_ rfl rfl rfl rfl))

theorem updOnRestart_keeps (h : Keeps s0 s) : Keeps s0 (updOnRestart s) := by
  delta updOnRestart
  repeat' (first
    | with_reducible assumption
    | (refine fun (_ : Keeps _ _) => ?_)
    | (intro x; first | (refine Keeps.cut (s0 := s0) (x := x) ?_ ?_ <;> (first | (clear_value x; intro hx) | subst x)) | (subst x; try dsimp -zeta only))
    | with_reducible (refine handoverFail_keeps ?_)
    | with_reducible (refine failTrial_keeps ?_)
    | split
    | lift_lets
    | (fail_if_no_progress with_reducible refine Keeps.mk' ?_ rfl rfl rfl rfl))

theorem bootSlot_keeps {a0 a1} (h : Keeps s0 s) : Keeps s0 (bootSlot s a0 a1) := by
  delta bootSlot
  repeat' (first
    | with_reducible assumption
    | (refine fun (_ : Keeps _ _) => ?_)
    | (intro x; first | (refine Keeps.cut (s0 := s0) (x := x) ?_ ?_ <;> (first | (clear_value x; intro hx) | subst x)) | (subst x; try dsimp -zeta only))
    | with_reducible (refine wr_keeps ?_)
    | split
    | lift_lets
    | (fail_if_no_progress with_reducible refine Keeps.mk' ?_ rfl rfl rfl rfl))

theorem bootSelect_keeps (h : Keeps s0 s) : Keeps s0 (bootSelect s) := by
  delta bootSelect
  repeat' (first
    | with_reducible assumption
    | (refine fun (_ : Keeps _ _) => ?_)
    | (intro x; first | (refine Keeps.cut (s0 := s0) (x := x) ?_ ?_ <;> (first | (clear_value x; intro hx) | subst x)) | (subst x; try dsimp -zeta only))
    | with_reducible (refine appendBoot_keeps ?_)
    | with_reducible (refine logged_keeps ?_)
    | with_reducible (refine report_keeps ?_)
    | with_reducible (refine bootSlot_keeps ?_)
    | split
    | lift_lets
    | (fail_if_no_progress with_reducible refine Keeps.mk' ?_ rfl rfl rfl rfl))

theorem setHem_keeps {a0} (h : Keeps s0 s) : Keeps s0 (setHem s a0) := by
  delta setHem
  repeat' (first
    | with_reducible assumption
    | (refine fun (_ : Keeps _ _) => ?_)
    | (intro x; first | (refine Keeps.cut (s0 := s0) (x := x) ?_ ?_ <;> (first | (clear_value x; intro hx) | subst x)) | (subst x; try dsimp -zeta only))
    | split
    | lift_lets
    | (fail_if_no_progress with_reducible refine Keeps.mk' ?_ rfl rfl rfl rfl))

theorem hemFlag_keeps {a0 a1} (h : Keeps s0 s) : Keeps s0 (hemFlag s a0 a1) := by
  delta hemFlag
  repeat' (first
    | with_reducible assumption
    | (refine fun (_ : Keeps _ _) => ?_)
    | (intro x; first | (refine Keeps.cut (s0 := s0) (x := x) ?_ ?_ <;> (first | (clear_value x; intro hx) | subst x)) | (subst x; try dsimp -zeta only))
    | with_reducible (refine wrB_keeps ?_)
    | split
    | lift_lets
    | (fail_if_no_progress with_reducible refine Keeps.mk' ?_ rfl rfl rfl rfl))

theorem openNext_keeps {a0} (h : Keeps s0 s) : Keeps s0 (openNext s a0) := by
  delta openNext
  repeat' (first
    | with_reducible assumption
    | (refine fun (_ : Keeps _ _) => ?_)
    | (intro x; first | (refine Keeps.cut (s0 := s0) (x := x) ?_ ?_ <;> (first | (clear_value x; intro hx) | subst x)) | (subst x; try dsimp -zeta only))
    | with_reducible (refine setGrp_keeps ?_)
    | split
    | lift_lets
    | (fail_if_no_progress with_reducible refine Keeps.mk' ?_ rfl rfl rfl rfl))

theorem leaveErased_keeps {a0} (h : Keeps s0 s) : Keeps s0 (leaveErased s a0) := by
  delta leaveErased
  repeat' (first
    | with_reducible assumption
    | (refine fun (_ : Keeps _ _) => ?_)
    | (intro x; first | (refine Keeps.cut (s0 := s0) (x := x) ?_ ?_ <;> (first | (clear_value x; intro hx) | subst x)) | (subst x; try dsimp -zeta only))
    | with_reducible (refine dropUnsewn_keeps ?_)
    | with_reducible (refine setGrp_keeps ?_)
    | split
    | lift_lets
    | (fail_if_no_progress with_reducible refine Keeps.mk' ?_ rfl rfl rfl rfl))

theorem cutGroup_keeps {a0} (h : Keeps s0 s) : Keeps s0 (cutGroup s a0) := by
  delta cutGroup
  repeat' (first
    | with_reducible assumption
    | (refine fun (_ : Keeps _ _) => ?_)
    | (intro x; first | (refine Keeps.cut (s0 := s0) (x := x) ?_ ?_ <;> (first | (clear_value x; intro hx) | subst x)) | (subst x; try dsimp -zeta only))
    | with_reducible (refine resolve_keeps ?_)
    | with_reducible (refine setGrp_keeps ?_)
    | with_reducible (refine finish_keeps ?_)
    | with_reducible (refine finishCode_keeps ?_)
    | with_reducible (refine endQuiesce_keeps ?_)
    | with_reducible (refine leaveErased_keeps ?_)
    | with_reducible (refine openNext_keeps ?_)
    | split
    | lift_lets
    | (fail_if_no_progress with_reducible refine Keeps.mk' ?_ rfl rfl rfl rfl))

theorem hemGiveUp_keeps (h : Keeps s0 s) : Keeps s0 (hemGiveUp s) := by
  delta hemGiveUp
  repeat' (first
    | with_reducible assumption
    | (refine fun (_ : Keeps _ _) => ?_)
    | (intro x; first | (refine Keeps.cut (s0 := s0) (x := x) ?_ ?_ <;> (first | (clear_value x; intro hx) | subst x)) | (subst x; try dsimp -zeta only))
    | with_reducible (refine hemFlag_keeps ?_)
    | with_reducible (refine setHem_keeps ?_)
    | split
    | lift_lets
    | (fail_if_no_progress with_reducible refine Keeps.mk' ?_ rfl rfl rfl rfl))

theorem cutLinks_keeps (h : Keeps s0 s) : Keeps s0 (cutLinks s) := by
  delta cutLinks
  repeat' (first
    | with_reducible assumption
    | (refine fun (_ : Keeps _ _) => ?_)
    | (intro x; first | (refine Keeps.cut (s0 := s0) (x := x) ?_ ?_ <;> (first | (clear_value x; intro hx) | subst x)) | (subst x; try dsimp -zeta only))
    | with_reducible (refine linkOff_keeps ?_)
    | with_reducible (refine domReq_keeps ?_)
    | with_reducible (refine forEach_keeps ?_ fun s a hs => ?_)
    | split
    | lift_lets
    | (fail_if_no_progress with_reducible refine Keeps.mk' ?_ rfl rfl rfl rfl))

theorem touchAll_keeps (h : Keeps s0 s) : Keeps s0 (touchAll s) := by
  delta touchAll
  repeat' (first
    | with_reducible assumption
    | (refine fun (_ : Keeps _ _) => ?_)
    | (intro x; first | (refine Keeps.cut (s0 := s0) (x := x) ?_ ?_ <;> (first | (clear_value x; intro hx) | subst x)) | (subst x; try dsimp -zeta only))
    | with_reducible (refine touchLine_keeps ?_)
    | with_reducible (refine forEach_keeps ?_ fun s a hs => ?_)
    | split
    | lift_lets
    | (fail_if_no_progress with_reducible refine Keeps.mk' ?_ rfl rfl rfl rfl))

theorem furtherTrigger_keeps {a0} (h : Keeps s0 s) : Keeps s0 (furtherTrigger s a0) := by
  delta furtherTrigger
  repeat' (first
    | with_reducible assumption
    | (refine fun (_ : Keeps _ _) => ?_)
    | (intro x; first | (refine Keeps.cut (s0 := s0) (x := x) ?_ ?_ <;> (first | (clear_value x; intro hx) | subst x)) | (subst x; try dsimp -zeta only))
    | with_reducible (refine logged_keeps ?_)
    | split
    | lift_lets
    | (fail_if_no_progress with_reducible refine Keeps.mk' ?_ rfl rfl rfl rfl))

theorem hemCut_keeps {a0} (h : Keeps s0 s) : Keeps s0 (hemCut s a0) := by
  delta hemCut
  repeat' (first
    | with_reducible assumption
    | (refine fun (_ : Keeps _ _) => ?_)
    | (intro x; first | (refine Keeps.cut (s0 := s0) (x := x) ?_ ?_ <;> (first | (clear_value x; intro hx) | subst x)) | (subst x; try dsimp -zeta only))
    | with_reducible (refine furtherTrigger_keeps ?_)
    | with_reducible (refine setHem_keeps ?_)
    | with_reducible (refine hemFlag_keeps ?_)
    | with_reducible (refine wr_keeps ?_)
    | with_reducible (refine icu_keeps ?_)
    | with_reducible (refine dropRequests_keeps ?_)
    | with_reducible (refine cutLinks_keeps ?_)
    | with_reducible (refine touchAll_keeps ?_)
    | with_reducible (refine disarm_keeps ?_)
    | with_reducible (refine cutGroup_keeps ?_)
    | with_reducible (refine addProg_keeps ?_)
    | with_reducible (refine activatePage_keeps ?_)
    | with_reducible (refine suspendErase_keeps ?_)
    | with_reducible (refine hemTset_keeps ?_)
    | with_reducible (refine poolHem_keeps ?_)
    | with_reducible (refine batHold_keeps ?_)
    | with_reducible (refine updateHold_keeps ?_)
    | with_reducible (refine driveFault_keeps ?_)
    | with_reducible (refine noteReasons_keeps ?_)
    | with_reducible (refine hemGiveUp_keeps ?_)
    | with_reducible (refine evrFlush_keeps ?_)
    | with_reducible (refine abandonReconstruction_keeps ?_)
    | with_reducible (refine forEach_keeps ?_ fun s a hs => ?_)
    | split
    | lift_lets
    | (fail_if_no_progress with_reducible refine Keeps.mk' ?_ rfl rfl rfl rfl))

theorem closeDeltas_keeps {a0} (h : Keeps s0 s) : Keeps s0 (closeDeltas s a0) := by
  delta closeDeltas
  repeat' (first
    | with_reducible assumption
    | (refine fun (_ : Keeps _ _) => ?_)
    | (intro x; first | (refine Keeps.cut (s0 := s0) (x := x) ?_ ?_ <;> (first | (clear_value x; intro hx) | subst x)) | (subst x; try dsimp -zeta only))
    | with_reducible (refine modGen_keeps ?_)
    | with_reducible (refine forEach_keeps ?_ fun s a hs => ?_)
    | split
    | lift_lets
    | (fail_if_no_progress with_reducible refine Keeps.mk' ?_ rfl rfl rfl rfl))

theorem sewnHem_keeps {a0 a1} (h : Keeps s0 s) : Keeps s0 (sewnHem s a0 a1) := by
  delta sewnHem
  repeat' (first
    | with_reducible assumption
    | (refine fun (_ : Keeps _ _) => ?_)
    | (intro x; first | (refine Keeps.cut (s0 := s0) (x := x) ?_ ?_ <;> (first | (clear_value x; intro hx) | subst x)) | (subst x; try dsimp -zeta only))
    | with_reducible (refine setHem_keeps ?_)
    | with_reducible (refine trimRing_keeps ?_)
    | with_reducible (refine clearExhausted_keeps ?_)
    | with_reducible (refine icu_keeps ?_)
    | with_reducible (refine setGrp_keeps ?_)
    | split
    | lift_lets
    | (fail_if_no_progress with_reducible refine Keeps.mk' ?_ rfl rfl rfl rfl))

theorem writeChunk_keeps {a0 a1 a2} (h : Keeps s0 s) : Keeps s0 (writeChunk s a0 a1 a2) := by
  delta writeChunk
  repeat' (first
    | with_reducible assumption
    | (refine fun (_ : Keeps _ _) => ?_)
    | (intro x; first | (refine Keeps.cut (s0 := s0) (x := x) ?_ ?_ <;> (first | (clear_value x; intro hx) | subst x)) | (subst x; try dsimp -zeta only))
    | with_reducible (refine writeLine_keeps ?_)
    | with_reducible (refine forEach_keeps ?_ fun s a hs => ?_)
    | split
    | lift_lets
    | (fail_if_no_progress with_reducible refine Keeps.mk' ?_ rfl rfl rfl rfl))

theorem writeCanaries_keeps {a0} (h : Keeps s0 s) : Keeps s0 (writeCanaries s a0) := by
  delta writeCanaries
  repeat' (first
    | with_reducible assumption
    | (refine fun (_ : Keeps _ _) => ?_)
    | (intro x; first | (refine Keeps.cut (s0 := s0) (x := x) ?_ ?_ <;> (first | (clear_value x; intro hx) | subst x)) | (subst x; try dsimp -zeta only))
    | with_reducible (refine writeChunk_keeps ?_)
    | with_reducible (refine forEach_keeps ?_ fun s a hs => ?_)
    | split
    | lift_lets
    | (fail_if_no_progress with_reducible refine Keeps.mk' ?_ rfl rfl rfl rfl))

theorem writeHemRecord_keeps (h : Keeps s0 s) : Keeps s0 (writeHemRecord s) := by
  delta writeHemRecord
  repeat' (first
    | with_reducible assumption
    | (refine fun (_ : Keeps _ _) => ?_)
    | (intro x; first | (refine Keeps.cut (s0 := s0) (x := x) ?_ ?_ <;> (first | (clear_value x; intro hx) | subst x)) | (subst x; try dsimp -zeta only))
    | with_reducible (refine setHem_keeps ?_)
    | split
    | lift_lets
    | (fail_if_no_progress with_reducible refine Keeps.mk' ?_ rfl rfl rfl rfl))

theorem keepTrained_keeps {a0} (h : Keeps s0 s) : Keeps s0 (keepTrained s a0) := by
  delta keepTrained
  repeat' (first
    | with_reducible assumption
    | (refine fun (_ : Keeps _ _) => ?_)
    | (intro x; first | (refine Keeps.cut (s0 := s0) (x := x) ?_ ?_ <;> (first | (clear_value x; intro hx) | subst x)) | (subst x; try dsimp -zeta only))
    | with_reducible (refine setDch_keeps ?_)
    | split
    | lift_lets
    | (fail_if_no_progress with_reducible refine Keeps.mk' ?_ rfl rfl rfl rfl))

theorem loadTrained_keeps {a0} (h : Keeps s0 s) : Keeps s0 (loadTrained s a0) := by
  delta loadTrained
  repeat' (first
    | with_reducible assumption
    | (refine fun (_ : Keeps _ _) => ?_)
    | (intro x; first | (refine Keeps.cut (s0 := s0) (x := x) ?_ ?_ <;> (first | (clear_value x; intro hx) | subst x)) | (subst x; try dsimp -zeta only))
    | with_reducible (refine wr_keeps ?_)
    | with_reducible (refine forEach_keeps ?_ fun s a hs => ?_)
    | split
    | lift_lets
    | (fail_if_no_progress with_reducible refine Keeps.mk' ?_ rfl rfl rfl rfl))

theorem keepRecord_keeps (h : Keeps s0 s) : Keeps s0 (keepRecord s) := by
  delta keepRecord
  repeat' (first
    | with_reducible assumption
    | (refine fun (_ : Keeps _ _) => ?_)
    | (intro x; first | (refine Keeps.cut (s0 := s0) (x := x) ?_ ?_ <;> (first | (clear_value x; intro hx) | subst x)) | (subst x; try dsimp -zeta only))
    | with_reducible (refine setHem_keeps ?_)
    | with_reducible (refine writeCanaries_keeps ?_)
    | with_reducible (refine keepTrained_keeps ?_)
    | with_reducible (refine forEach_keeps ?_ fun s a hs => ?_)
    | split
    | lift_lets
    | (fail_if_no_progress with_reducible refine Keeps.mk' ?_ rfl rfl rfl rfl))

theorem stampOutside_keeps (h : Keeps s0 s) : Keeps s0 (stampOutside s) := by
  delta stampOutside
  repeat' (first
    | with_reducible assumption
    | (refine fun (_ : Keeps _ _) => ?_)
    | (intro x; first | (refine Keeps.cut (s0 := s0) (x := x) ?_ ?_ <;> (first | (clear_value x; intro hx) | subst x)) | (subst x; try dsimp -zeta only))
    | with_reducible (refine modGen_keeps ?_)
    | with_reducible (refine setHem_keeps ?_)
    | with_reducible (refine forEach_keeps ?_ fun s a hs => ?_)
    | split
    | lift_lets
    | (fail_if_no_progress with_reducible refine Keeps.mk' ?_ rfl rfl rfl rfl))

theorem recordDone_keeps (h : Keeps s0 s) : Keeps s0 (recordDone s) := by
  delta recordDone
  repeat' (first
    | with_reducible assumption
    | (refine fun (_ : Keeps _ _) => ?_)
    | (intro x; first | (refine Keeps.cut (s0 := s0) (x := x) ?_ ?_ <;> (first | (clear_value x; intro hx) | subst x)) | (subst x; try dsimp -zeta only))
    | with_reducible (refine stampOutside_keeps ?_)
    | with_reducible (refine keepRecord_keeps ?_)
    | with_reducible (refine endBg_keeps ?_)
    | with_reducible (refine setHem_keeps ?_)
    | with_reducible (refine updateHold_keeps ?_)
    | split
    | lift_lets
    | (fail_if_no_progress with_reducible refine Keeps.mk' ?_ rfl rfl rfl rfl))

theorem sealsDone_keeps (h : Keeps s0 s) : Keeps s0 (sealsDone s) := by
  delta sealsDone
  repeat' (first
    | with_reducible assumption
    | (refine fun (_ : Keeps _ _) => ?_)
    | (intro x; first | (refine Keeps.cut (s0 := s0) (x := x) ?_ ?_ <;> (first | (clear_value x; intro hx) | subst x)) | (subst x; try dsimp -zeta only))
    | with_reducible (refine driveFault_keeps ?_)
    | with_reducible (refine extreme_keeps ?_)
    | with_reducible (refine histAdd_keeps ?_)
    | with_reducible (refine wr_keeps ?_)
    | with_reducible (refine icu_keeps ?_)
    | with_reducible (refine evrSecure_keeps ?_)
    | with_reducible (refine recordDone_keeps ?_)
    | with_reducible (refine writeHemRecord_keeps ?_)
    | split
    | lift_lets
    | (fail_if_no_progress with_reducible refine Keeps.mk' ?_ rfl rfl rfl rfl))

theorem hemNoFlash_keeps (h : Keeps s0 s) : Keeps s0 (hemNoFlash s) := by
  delta hemNoFlash
  repeat' (first
    | with_reducible assumption
    | (refine fun (_ : Keeps _ _) => ?_)
    | (intro x; first | (refine Keeps.cut (s0 := s0) (x := x) ?_ ?_ <;> (first | (clear_value x; intro hx) | subst x)) | (subst x; try dsimp -zeta only))
    | with_reducible (refine hemGiveUp_keeps ?_)
    | with_reducible (refine setHem_keeps ?_)
    | with_reducible (refine sealsDone_keeps ?_)
    | with_reducible (refine recordDone_keeps ?_)
    | split
    | lift_lets
    | (fail_if_no_progress with_reducible refine Keeps.mk' ?_ rfl rfl rfl rfl))

theorem abandonSeal_keeps {a0} (h : Keeps s0 s) : Keeps s0 (abandonSeal s a0) := by
  delta abandonSeal
  repeat' (first
    | with_reducible assumption
    | (refine fun (_ : Keeps _ _) => ?_)
    | (intro x; first | (refine Keeps.cut (s0 := s0) (x := x) ?_ ?_ <;> (first | (clear_value x; intro hx) | subst x)) | (subst x; try dsimp -zeta only))
    | with_reducible (refine hemFlag_keeps ?_)
    | with_reducible (refine setHem_keeps ?_)
    | split
    | lift_lets
    | (fail_if_no_progress with_reducible refine Keeps.mk' ?_ rfl rfl rfl rfl))

theorem bringOnline_keeps (h : Keeps s0 s) : Keeps s0 (bringOnline s) := by
  delta bringOnline
  repeat' (first
    | with_reducible assumption
    | (refine fun (_ : Keeps _ _) => ?_)
    | (intro x; first | (refine Keeps.cut (s0 := s0) (x := x) ?_ ?_ <;> (first | (clear_value x; intro hx) | subst x)) | (subst x; try dsimp -zeta only))
    | with_reducible (refine icu_keeps ?_)
    | with_reducible (refine setGrp_keeps ?_)
    | with_reducible (refine noteReasons_keeps ?_)
    | with_reducible (refine forEach_keeps ?_ fun s a hs => ?_)
    | split
    | lift_lets
    | (fail_if_no_progress with_reducible refine Keeps.mk' ?_ rfl rfl rfl rfl))

theorem setPhase_keeps {a0} (h : Keeps s0 s) : Keeps s0 (setPhase s a0) := by
  delta setPhase
  repeat' (first
    | with_reducible assumption
    | (refine fun (_ : Keeps _ _) => ?_)
    | (intro x; first | (refine Keeps.cut (s0 := s0) (x := x) ?_ ?_ <;> (first | (clear_value x; intro hx) | subst x)) | (subst x; try dsimp -zeta only))
    | split
    | lift_lets
    | (fail_if_no_progress with_reducible refine Keeps.mk' ?_ rfl rfl rfl rfl))

theorem restoreStep_keeps (h : Keeps s0 s) : Keeps s0 (restoreStep s) := by
  delta restoreStep
  repeat' (first
    | with_reducible assumption
    | (refine fun (_ : Keeps _ _) => ?_)
    | (intro x; first | (refine Keeps.cut (s0 := s0) (x := x) ?_ ?_ <;> (first | (clear_value x; intro hx) | subst x)) | (subst x; try dsimp -zeta only))
    | with_reducible (refine setPhase_keeps ?_)
    | with_reducible (refine icu_keeps ?_)
    | split
    | lift_lets
    | (fail_if_no_progress with_reducible refine Keeps.mk' ?_ rfl rfl rfl rfl))

theorem sweepEnd_keeps (h : Keeps s0 s) : Keeps s0 (sweepEnd s) := by
  delta sweepEnd
  repeat' (first
    | with_reducible assumption
    | (refine fun (_ : Keeps _ _) => ?_)
    | (intro x; first | (refine Keeps.cut (s0 := s0) (x := x) ?_ ?_ <;> (first | (clear_value x; intro hx) | subst x)) | (subst x; try dsimp -zeta only))
    | with_reducible (refine restoreStep_keeps ?_)
    | with_reducible (refine icu_keeps ?_)
    | with_reducible (refine setPhase_keeps ?_)
    | with_reducible (refine bringOnline_keeps ?_)
    | split
    | lift_lets
    | (fail_if_no_progress with_reducible refine Keeps.mk' ?_ rfl rfl rfl rfl))

theorem spaceFreed_keeps (h : Keeps s0 s) : Keeps s0 (spaceFreed s) := by
  delta spaceFreed
  repeat' (first
    | with_reducible assumption
    | (refine fun (_ : Keeps _ _) => ?_)
    | (intro x; first | (refine Keeps.cut (s0 := s0) (x := x) ?_ ?_ <;> (first | (clear_value x; intro hx) | subst x)) | (subst x; try dsimp -zeta only))
    | with_reducible (refine sweepEnd_keeps ?_)
    | split
    | lift_lets
    | (fail_if_no_progress with_reducible refine Keeps.mk' ?_ rfl rfl rfl rfl))

theorem resweep_keeps {a0} (h : Keeps s0 s) : Keeps s0 (resweep s a0) := by
  delta resweep
  repeat' (first
    | with_reducible assumption
    | (refine fun (_ : Keeps _ _) => ?_)
    | (intro x; first | (refine Keeps.cut (s0 := s0) (x := x) ?_ ?_ <;> (first | (clear_value x; intro hx) | subst x)) | (subst x; try dsimp -zeta only))
    | split
    | lift_lets
    | (fail_if_no_progress with_reducible refine Keeps.mk' ?_ rfl rfl rfl rfl))

theorem verifyDone_keeps {a0} (h : Keeps s0 s) : Keeps s0 (verifyDone s a0) := by
  delta verifyDone
  repeat' (first
    | with_reducible assumption
    | (refine fun (_ : Keeps _ _) => ?_)
    | (intro x; first | (refine Keeps.cut (s0 := s0) (x := x) ?_ ?_ <;> (first | (clear_value x; intro hx) | subst x)) | (subst x; try dsimp -zeta only))
    | with_reducible (refine setGrp_keeps ?_)
    | with_reducible (refine sweepEnd_keeps ?_)
    | with_reducible (refine icu_keeps ?_)
    | split
    | lift_lets
    | (fail_if_no_progress with_reducible refine Keeps.mk' ?_ rfl rfl rfl rfl))

theorem restoreGroup_keeps {a0 a1} (h : Keeps s0 s) : Keeps s0 (restoreGroup s a0 a1) := by
  delta restoreGroup
  repeat' (first
    | with_reducible assumption
    | (refine fun (_ : Keeps _ _) => ?_)
    | (intro x; first | (refine Keeps.cut (s0 := s0) (x := x) ?_ ?_ <;> (first | (clear_value x; intro hx) | subst x)) | (subst x; try dsimp -zeta only))
    | with_reducible (refine dropUnsewn_keeps ?_)
    | with_reducible (refine setGrp_keeps ?_)
    | with_reducible (refine markAbsent_keeps ?_)
    | split
    | lift_lets
    | (fail_if_no_progress with_reducible refine Keeps.mk' ?_ rfl rfl rfl rfl))

theorem serviceBegins_keeps (h : Keeps s0 s) : Keeps s0 (serviceBegins s) := by
  delta serviceBegins
  repeat' (first
    | with_reducible assumption
    | (refine fun (_ : Keeps _ _) => ?_)
    | (intro x; first | (refine Keeps.cut (s0 := s0) (x := x) ?_ ?_ <;> (first | (clear_value x; intro hx) | subst x)) | (subst x; try dsimp -zeta only))
    | with_reducible (refine icu_keeps ?_)
    | with_reducible (refine report_keeps ?_)
    | split
    | lift_lets
    | (fail_if_no_progress with_reducible refine Keeps.mk' ?_ rfl rfl rfl rfl))

theorem startRestore_keeps {a0} (h : Keeps s0 s) : Keeps s0 (startRestore s a0) := by
  delta startRestore
  repeat' (first
    | with_reducible assumption
    | (refine fun (_ : Keeps _ _) => ?_)
    | (intro x; first | (refine Keeps.cut (s0 := s0) (x := x) ?_ ?_ <;> (first | (clear_value x; intro hx) | subst x)) | (subst x; try dsimp -zeta only))
    | with_reducible (refine restoreGroup_keeps ?_)
    | with_reducible (refine noteReasons_keeps ?_)
    | with_reducible (refine serviceBegins_keeps ?_)
    | with_reducible (refine forEach_keeps ?_ fun s a hs => ?_)
    | split
    | lift_lets
    | (fail_if_no_progress with_reducible refine Keeps.mk' ?_ rfl rfl rfl rfl))

theorem dropNewest_keeps {a0} (h : Keeps s0 s) : Keeps s0 (dropNewest s a0) := by
  delta dropNewest
  repeat' (first
    | with_reducible assumption
    | (refine fun (_ : Keeps _ _) => ?_)
    | (intro x; first | (refine Keeps.cut (s0 := s0) (x := x) ?_ ?_ <;> (first | (clear_value x; intro hx) | subst x)) | (subst x; try dsimp -zeta only))
    | with_reducible (refine report_keeps ?_)
    | with_reducible (refine setGrp_keeps ?_)
    | split
    | lift_lets
    | (fail_if_no_progress with_reducible refine Keeps.mk' ?_ rfl rfl rfl rfl))

theorem rebuiltGroup_keeps {a0} (h : Keeps s0 s) : Keeps s0 (rebuiltGroup s a0) := by
  delta rebuiltGroup
  repeat' (first
    | with_reducible assumption
    | (refine fun (_ : Keeps _ _) => ?_)
    | (intro x; first | (refine Keeps.cut (s0 := s0) (x := x) ?_ ?_ <;> (first | (clear_value x; intro hx) | subst x)) | (subst x; try dsimp -zeta only))
    | with_reducible (refine setGrp_keeps ?_)
    | with_reducible (refine logged_keeps ?_)
    | with_reducible (refine openNext_keeps ?_)
    | split
    | lift_lets
    | (fail_if_no_progress with_reducible refine Keeps.mk' ?_ rfl rfl rfl rfl))

theorem restoreRebuilt_keeps {a0} (h : Keeps s0 s) : Keeps s0 (restoreRebuilt s a0) := by
  delta restoreRebuilt
  repeat' (first
    | with_reducible assumption
    | (refine fun (_ : Keeps _ _) => ?_)
    | (intro x; first | (refine Keeps.cut (s0 := s0) (x := x) ?_ ?_ <;> (first | (clear_value x; intro hx) | subst x)) | (subst x; try dsimp -zeta only))
    | with_reducible (refine dropNewest_keeps ?_)
    | with_reducible (refine rebuildLoc_keeps ?_)
    | with_reducible (refine icu_keeps ?_)
    | with_reducible (refine hemFlag_keeps ?_)
    | with_reducible (refine rebuiltGroup_keeps ?_)
    | with_reducible (refine sweepEnd_keeps ?_)
    | with_reducible (refine setPhase_keeps ?_)
    | with_reducible (refine forEach_keeps ?_ fun s a hs => ?_)
    | split
    | lift_lets
    | (fail_if_no_progress with_reducible refine Keeps.mk' ?_ rfl rfl rfl rfl))

theorem fetchPage_keeps {a0 a1 a2} (h : Keeps s0 s) : Keeps s0 (fetchPage s a0 a1 a2).1 := by
  delta fetchPage
  repeat' (first
    | with_reducible assumption
    | (refine fun (_ : Keeps _ _) => ?_)
    | (intro x; first | (refine Keeps.cut (s0 := s0) (x := x) ?_ ?_ <;> (first | (clear_value x; intro hx) | subst x)) | (subst x; try dsimp -zeta only))
    | with_reducible (refine ladder_keeps ?_)
    | with_reducible (refine verifyFail_keeps ?_)
    | with_reducible (refine report_keeps ?_)
    | split
    | lift_lets
    | (fail_if_no_progress with_reducible refine Keeps.mk' ?_ rfl rfl rfl rfl))

theorem fetchDone_keeps {a0 a1 a2} (h : Keeps s0 s) : Keeps s0 (fetchDone s a0 a1 a2) := by
  delta fetchDone
  repeat' (first
    | with_reducible assumption
    | (refine fun (_ : Keeps _ _) => ?_)
    | (intro x; first | (refine Keeps.cut (s0 := s0) (x := x) ?_ ?_ <;> (first | (clear_value x; intro hx) | subst x)) | (subst x; try dsimp -zeta only))
    | with_reducible (refine fetchPage_keeps ?_)
    | with_reducible (refine activatePage_keeps ?_)
    | with_reducible (refine writePage_keeps ?_)
    | with_reducible (refine setSt_keeps ?_)
    | with_reducible (refine mediaEvent_keeps ?_)
    | with_reducible (refine handled_keeps ?_)
    | with_reducible (refine icu_keeps ?_)
    | with_reducible (refine sweepEnd_keeps ?_)
    | with_reducible (refine retryWaits_keeps ?_)
    | with_reducible (refine forEach_keeps ?_ fun s a hs => ?_)
    | split
    | lift_lets
    | (fail_if_no_progress with_reducible refine Keeps.mk' ?_ rfl rfl rfl rfl))

theorem restoreChunks_keeps (h : Keeps s0 s) : Keeps s0 (restoreChunks s) := by
  delta restoreChunks
  repeat' (first
    | with_reducible assumption
    | (refine fun (_ : Keeps _ _) => ?_)
    | (intro x; first | (refine Keeps.cut (s0 := s0) (x := x) ?_ ?_ <;> (first | (clear_value x; intro hx) | subst x)) | (subst x; try dsimp -zeta only))
    | with_reducible (refine writeChunk_keeps ?_)
    | with_reducible (refine forEach_keeps ?_ fun s a hs => ?_)
    | split
    | lift_lets
    | (fail_if_no_progress with_reducible refine Keeps.mk' ?_ rfl rfl rfl rfl))

theorem warmGroup_keeps {a0} (h : Keeps s0 s) : Keeps s0 (warmGroup s a0) := by
  delta warmGroup
  repeat' (first
    | with_reducible assumption
    | (refine fun (_ : Keeps _ _) => ?_)
    | (intro x; first | (refine Keeps.cut (s0 := s0) (x := x) ?_ ?_ <;> (first | (clear_value x; intro hx) | subst x)) | (subst x; try dsimp -zeta only))
    | with_reducible (refine dropUnsewn_keeps ?_)
    | with_reducible (refine drawKey_keeps ?_)
    | with_reducible (refine zeroGroup_keeps ?_)
    | with_reducible (refine setGrp_keeps ?_)
    | with_reducible (refine openNext_keeps ?_)
    | split
    | lift_lets
    | (fail_if_no_progress with_reducible refine Keeps.mk' ?_ rfl rfl rfl rfl))

theorem warmPhase_keeps (h : Keeps s0 s) : Keeps s0 (warmPhase s) := by
  delta warmPhase
  repeat' (first
    | with_reducible assumption
    | (refine fun (_ : Keeps _ _) => ?_)
    | (intro x; first | (refine Keeps.cut (s0 := s0) (x := x) ?_ ?_ <;> (first | (clear_value x; intro hx) | subst x)) | (subst x; try dsimp -zeta only))
    | with_reducible (refine icu_keeps ?_)
    | with_reducible (refine setPhase_keeps ?_)
    | split
    | lift_lets
    | (fail_if_no_progress with_reducible refine Keeps.mk' ?_ rfl rfl rfl rfl))

theorem warmResume_keeps (h : Keeps s0 s) : Keeps s0 (warmResume s) := by
  delta warmResume
  repeat' (first
    | with_reducible assumption
    | (refine fun (_ : Keeps _ _) => ?_)
    | (intro x; first | (refine Keeps.cut (s0 := s0) (x := x) ?_ ?_ <;> (first | (clear_value x; intro hx) | subst x)) | (subst x; try dsimp -zeta only))
    | with_reducible (refine hemTset_keeps ?_)
    | with_reducible (refine restoreChunks_keeps ?_)
    | with_reducible (refine setPhase_keeps ?_)
    | with_reducible (refine warmGroup_keeps ?_)
    | with_reducible (refine poolNormal_keeps ?_)
    | with_reducible (refine setHem_keeps ?_)
    | with_reducible (refine serviceBegins_keeps ?_)
    | with_reducible (refine applyPower_keeps ?_)
    | with_reducible (refine hemFlag_keeps ?_)
    | with_reducible (refine updateHold_keeps ?_)
    | with_reducible (refine warmPhase_keeps ?_)
    | with_reducible (refine runErases_keeps ?_)
    | with_reducible (refine paceAll_keeps ?_)
    | with_reducible (refine sweepEnd_keeps ?_)
    | with_reducible (refine icu_keeps ?_)
    | with_reducible (refine forEach_keeps ?_ fun s a hs => ?_)
    | split
    | lift_lets
    | (fail_if_no_progress with_reducible refine Keeps.mk' ?_ rfl rfl rfl rfl))

theorem flushRequests_keeps (h : Keeps s0 s) : Keeps s0 (flushRequests s) := by
  delta flushRequests
  repeat' (first
    | with_reducible assumption
    | (refine fun (_ : Keeps _ _) => ?_)
    | (intro x; first | (refine Keeps.cut (s0 := s0) (x := x) ?_ ?_ <;> (first | (clear_value x; intro hx) | subst x)) | (subst x; try dsimp -zeta only))
    | with_reducible (refine freeWaits_keeps ?_)
    | with_reducible (refine clearQueues_keeps ?_)
    | with_reducible (refine respond_keeps ?_)
    | with_reducible (refine offlineAccess_keeps ?_)
    | with_reducible (refine forEach_keeps ?_ fun s a hs => ?_)
    | split
    | lift_lets
    | (fail_if_no_progress with_reducible refine Keeps.mk' ?_ rfl rfl rfl rfl))

theorem relayout_keeps (h : Keeps s0 s) : Keeps s0 (relayout s) := by
  unfold relayout
  dsimp only
  refine recomputeLevel_keeps (startRestore_keeps (fixLayout_keeps ?_))
  refine Keeps.whole ?_ id (fun _ => rfl) id rfl id id
  refine forEach_keeps (disarm_keeps (flushRequests_keeps (noteReasons_keeps (forEach_keeps h fun s a hs => setGrp_keeps hs))))
    fun s a hs => ?_
  split
  · exact resolve_keeps (setGrp_keeps hs)
  · exact hs

theorem applyRelief_keeps (h : Keeps s0 s) : Keeps s0 (applyRelief s) := by
  delta applyRelief
  repeat' (first
    | with_reducible assumption
    | (refine fun (_ : Keeps _ _) => ?_)
    | (intro x; first | (refine Keeps.cut (s0 := s0) (x := x) ?_ ?_ <;> (first | (clear_value x; intro hx) | subst x)) | (subst x; try dsimp -zeta only))
    | with_reducible (refine icu_keeps ?_)
    | with_reducible (refine updateTset_keeps ?_)
    | with_reducible (refine setDch_keeps ?_)
    | with_reducible (refine forEach_keeps ?_ fun s a hs => ?_)
    | split
    | lift_lets
    | (fail_if_no_progress with_reducible refine Keeps.mk' ?_ rfl rfl rfl rfl))

theorem applyDoubled_keeps (h : Keeps s0 s) : Keeps s0 (applyDoubled s) := by
  delta applyDoubled
  repeat' (first
    | with_reducible assumption
    | (refine fun (_ : Keeps _ _) => ?_)
    | (intro x; first | (refine Keeps.cut (s0 := s0) (x := x) ?_ ?_ <;> (first | (clear_value x; intro hx) | subst x)) | (subst x; try dsimp -zeta only))
    | with_reducible (refine icu_keeps ?_)
    | with_reducible (refine updateRegime_keeps ?_)
    | with_reducible (refine setDch_keeps ?_)
    | with_reducible (refine forEach_keeps ?_ fun s a hs => ?_)
    | split
    | lift_lets
    | (fail_if_no_progress with_reducible refine Keeps.mk' ?_ rfl rfl rfl rfl))

theorem setWindow_keeps {a0} (h : Keeps s0 s) : Keeps s0 (setWindow s a0) := by
  delta setWindow
  repeat' (first
    | with_reducible assumption
    | (refine fun (_ : Keeps _ _) => ?_)
    | (intro x; first | (refine Keeps.cut (s0 := s0) (x := x) ?_ ?_ <;> (first | (clear_value x; intro hx) | subst x)) | (subst x; try dsimp -zeta only))
    | with_reducible (refine icu_keeps ?_)
    | with_reducible (refine wrB_keeps ?_)
    | split
    | lift_lets
    | (fail_if_no_progress with_reducible refine Keeps.mk' ?_ rfl rfl rfl rfl))

theorem lostResponses_keeps (h : Keeps s0 s) : Keeps s0 (lostResponses s) := by
  delta lostResponses
  repeat' (first
    | with_reducible assumption
    | (refine fun (_ : Keeps _ _) => ?_)
    | (intro x; first | (refine Keeps.cut (s0 := s0) (x := x) ?_ ?_ <;> (first | (clear_value x; intro hx) | subst x)) | (subst x; try dsimp -zeta only))
    | with_reducible (refine setWindow_keeps ?_)
    | with_reducible (refine applyDoubled_keeps ?_)
    | with_reducible (refine applyRelief_keeps ?_)
    | with_reducible (refine thermalAsk_keeps ?_)
    | with_reducible (refine forEach_keeps ?_ fun s a hs => ?_)
    | split
    | lift_lets
    | (fail_if_no_progress with_reducible refine Keeps.mk' ?_ rfl rfl rfl rfl))

theorem chargerGone_keeps (h : Keeps s0 s) : Keeps s0 (chargerGone s) := by
  delta chargerGone
  repeat' (first
    | with_reducible assumption
    | (refine fun (_ : Keeps _ _) => ?_)
    | (intro x; first | (refine Keeps.cut (s0 := s0) (x := x) ?_ ?_ <;> (first | (clear_value x; intro hx) | subst x)) | (subst x; try dsimp -zeta only))
    | with_reducible (refine recomputeBudget_keeps ?_)
    | with_reducible (refine judgeEnergy_keeps ?_)
    | with_reducible (refine setChgEn_keeps ?_)
    | split
    | lift_lets
    | (fail_if_no_progress with_reducible refine Keeps.mk' ?_ rfl rfl rfl rfl))

theorem xferEnd_keeps {a0 a1} (h : Keeps s0 s) : Keeps s0 (xferEnd s a0 a1) := by
  delta xferEnd
  repeat' (first
    | with_reducible assumption
    | (refine fun (_ : Keeps _ _) => ?_)
    | (intro x; first | (refine Keeps.cut (s0 := s0) (x := x) ?_ ?_ <;> (first | (clear_value x; intro hx) | subst x)) | (subst x; try dsimp -zeta only))
    | with_reducible (refine icu_keeps ?_)
    | with_reducible (refine wr_keeps ?_)
    | split
    | lift_lets
    | (fail_if_no_progress with_reducible refine Keeps.mk' ?_ rfl rfl rfl rfl))

theorem sb1Fenced_keeps (h : Keeps s0 s) : Keeps s0 (sb1Fenced s) := by
  delta sb1Fenced
  repeat' (first
    | with_reducible assumption
    | (refine fun (_ : Keeps _ _) => ?_)
    | (intro x; first | (refine Keeps.cut (s0 := s0) (x := x) ?_ ?_ <;> (first | (clear_value x; intro hx) | subst x)) | (subst x; try dsimp -zeta only))
    | with_reducible (refine icu_keeps ?_)
    | with_reducible (refine chargerGone_keeps ?_)
    | with_reducible (refine xferEnd_keeps ?_)
    | split
    | lift_lets
    | (fail_if_no_progress with_reducible refine Keeps.mk' ?_ rfl rfl rfl rfl))

end Sys2Proof.Machine
end

