-- ==== Sys2Proof/Laws/KeepsLifeOps.lean ====
section
/-! SUPPORT. Frame lemmas of the operations of Machine/LifeOps, Machine/FltOps, Machine/Escalate, Machine/Icu, Machine/Hem, Machine/Baste, Machine/RegOps: each keeps the queue and every
invariant of `Keeps`. -/

set_option linter.unusedTactic false
set_option linter.unreachableTactic false

namespace Sys2Proof.Machine

open Bits

variable {s0 s : State}

theorem coreLost_keeps (h : Keeps s0 s) : Keeps s0 (coreLost s) := by
  delta coreLost
  lift_lets
  intro ka e sh s1 s2 s3 s4 s5 s6
  have k1 : Keeps s0 s1 := poolLost_keeps (evrLost_keeps (cflAbortAll_keeps (setChgEn_keeps (setHem_keeps h))))
  clear_value s1
  have k2 : Keeps s0 s2 := forEach_keeps k1 fun s a hs => setGrp_keeps hs
  clear_value s2
  have k3 : Keeps s0 s3 := forEach_keeps k2 fun s a hs => setDch_keeps hs
  clear_value s3
  have k4 : Keeps s0 s4 := forEach_keeps k3 fun s a hs => setFch_keeps hs
  clear_value s4
  have k5 : Keeps s0 s5 := forEach_keeps k4 fun s a hs => setPort_keeps hs
  clear_value s5
  have k6 : Keeps s0 s6 := forEach_keeps k5 fun s a hs => setWin_keeps hs
  clear_value s6 ka
  intros
  refine Keeps.whole k6 id ?_ (fun _ => rfl) rfl (fun _ => rfl) fun _ => ?_
  · cases ka <;> exact id
  · exact Nat.zero_le 16

theorem dramLost_keeps {a0} (h : Keeps s0 s) : Keeps s0 (dramLost s a0) :=
  Keeps.dram h fun hm => filter_wf (d := zeroByte) hm

theorem raiseDeferred_keeps (h : Keeps s0 s) : Keeps s0 (raiseDeferred s) := by
  delta raiseDeferred
  repeat' (first
    | with_reducible assumption
    | (refine fun (_ : Keeps _ _) => ?_)
    | (intro x; first | (refine Keeps.cut (s0 := s0) (x := x) ?_ ?_ <;> (first | (clear_value x; intro hx) | subst x)) | (subst x; try dsimp -zeta only))
    | with_reducible (refine icuMsg_keeps ?_)
    | with_reducible (refine forEach_keeps ?_ fun s a hs => ?_)
    | split
    | lift_lets
    | (fail_if_no_progress with_reducible refine Keeps.mk' ?_ rfl rfl rfl rfl))

theorem coreStarted_keeps (h : Keeps s0 s) : Keeps s0 (coreStarted s) := by
  have r : Keeps s0 { s with regs := s.regs.filter fun e => keepsOff s e.1 } := Keeps.regs h filter_wf
  delta coreStarted
  lift_lets
  intro ups hemSt s1 s2 s3 f1 f2 s4 f3 s5 s6 s7
  have k3 : Keeps s0 s3 := wr_keeps (wr_keeps r)
  clear_value s3 f1 f2
  have k4 : Keeps s0 s4 := Keeps.whole k3 id id id rfl id fun _ => Nat.zero_le 16
  clear_value s4 f3
  have k5 : Keeps s0 s5 := Keeps.mk' k4 rfl rfl rfl rfl
  clear_value s5
  have k7 : Keeps s0 s7 := bootSelect_keeps (raiseDeferred_keeps (forEach_keeps k5 fun s a hs => applyPower_keeps hs))
  clear_value s7
  split
  · exact icu_keeps (Keeps.mk' k7 rfl rfl rfl rfl)
  · exact k7

theorem startStep_keeps {a0} (h : Keeps s0 s) : Keeps s0 (startStep s a0) := by
  delta startStep
  repeat' (first
    | with_reducible assumption
    | (refine fun (_ : Keeps _ _) => ?_)
    | (intro x; first | (refine Keeps.cut (s0 := s0) (x := x) ?_ ?_ <;> (first | (clear_value x; intro hx) | subst x)) | (subst x; try dsimp -zeta only))
    | with_reducible (refine trace_keeps ?_)
    | with_reducible (refine railEnable_keeps ?_)
    | with_reducible (refine forEach_keeps ?_ fun s a hs => ?_)
    | split
    | lift_lets
    | (fail_if_no_progress with_reducible refine Keeps.mk' ?_ rfl rfl rfl rfl))

theorem startTraining_keeps (h : Keeps s0 s) : Keeps s0 (startTraining s) := by
  delta startTraining
  repeat' (first
    | with_reducible assumption
    | (refine fun (_ : Keeps _ _) => ?_)
    | (intro x; first | (refine Keeps.cut (s0 := s0) (x := x) ?_ ?_ <;> (first | (clear_value x; intro hx) | subst x)) | (subst x; try dsimp -zeta only))
    | with_reducible (refine report_keeps ?_)
    | with_reducible (refine startSweep_keeps ?_)
    | with_reducible (refine forEach_keeps ?_ fun s a hs => ?_)
    | split
    | lift_lets
    | (fail_if_no_progress with_reducible refine Keeps.mk' ?_ rfl rfl rfl rfl))

theorem startPorts_keeps (h : Keeps s0 s) : Keeps s0 (startPorts s) := by
  delta startPorts
  repeat' (first
    | with_reducible assumption
    | (refine fun (_ : Keeps _ _) => ?_)
    | (intro x; first | (refine Keeps.cut (s0 := s0) (x := x) ?_ ?_ <;> (first | (clear_value x; intro hx) | subst x)) | (subst x; try dsimp -zeta only))
    | with_reducible (refine latchCfg_keeps ?_)
    | with_reducible (refine setPort_keeps ?_)
    | with_reducible (refine forEach_keeps ?_ fun s a hs => ?_)
    | split
    | lift_lets
    | (fail_if_no_progress with_reducible refine Keeps.mk' ?_ rfl rfl rfl rfl))

theorem switchOff_keeps {a0} (h : Keeps s0 s) : Keeps s0 (switchOff s a0) := by
  delta switchOff
  repeat' (first
    | with_reducible assumption
    | (refine fun (_ : Keeps _ _) => ?_)
    | (intro x; first | (refine Keeps.cut (s0 := s0) (x := x) ?_ ?_ <;> (first | (clear_value x; intro hx) | subst x)) | (subst x; try dsimp -zeta only))
    | with_reducible (refine railRelease_keeps ?_)
    | with_reducible (refine setChgEn_keeps ?_)
    | with_reducible (refine coreLost_keeps ?_)
    | with_reducible (refine dramLost_keeps ?_)
    | split
    | lift_lets
    | (fail_if_no_progress with_reducible refine Keeps.mk' ?_ rfl rfl rfl rfl))

theorem allOff_keeps (h : Keeps s0 s) : Keeps s0 (allOff s) := by
  delta allOff
  repeat' (first
    | with_reducible assumption
    | (refine fun (_ : Keeps _ _) => ?_)
    | (intro x; first | (refine Keeps.cut (s0 := s0) (x := x) ?_ ?_ <;> (first | (clear_value x; intro hx) | subst x)) | (subst x; try dsimp -zeta only))
    | with_reducible (refine setHem_keeps ?_)
    | with_reducible (refine updateHold_keeps ?_)
    | split
    | lift_lets
    | (fail_if_no_progress with_reducible refine Keeps.mk' ?_ rfl rfl rfl rfl))

theorem walkDown_keeps (h : Keeps s0 s) : Keeps s0 (walkDown s) := by
  delta walkDown
  repeat' (first
    | with_reducible assumption
    | (refine fun (_ : Keeps _ _) => ?_)
    | (intro x; first | (refine Keeps.cut (s0 := s0) (x := x) ?_ ?_ <;> (first | (clear_value x; intro hx) | subst x)) | (subst x; try dsimp -zeta only))
    | with_reducible (refine trace_keeps ?_)
    | with_reducible (refine allOff_keeps ?_)
    | with_reducible (refine switchOff_keeps ?_)
    | with_reducible (refine forEach_keeps ?_ fun s a hs => ?_)
    | split
    | lift_lets
    | (fail_if_no_progress with_reducible refine Keeps.mk' ?_ rfl rfl rfl rfl))

theorem powerDown_keeps (h : Keeps s0 s) : Keeps s0 (powerDown s) := by
  delta powerDown
  repeat' (first
    | with_reducible assumption
    | (refine fun (_ : Keeps _ _) => ?_)
    | (intro x; first | (refine Keeps.cut (s0 := s0) (x := x) ?_ ?_ <;> (first | (clear_value x; intro hx) | subst x)) | (subst x; try dsimp -zeta only))
    | with_reducible (refine walkDown_keeps ?_)
    | split
    | lift_lets
    | (fail_if_no_progress with_reducible refine Keeps.mk' ?_ rfl rfl rfl rfl))

theorem holdNow_keeps {a0} (h : Keeps s0 s) : Keeps s0 (holdNow s a0) := by
  delta holdNow
  repeat' (first
    | with_reducible assumption
    | (refine fun (_ : Keeps _ _) => ?_)
    | (intro x; first | (refine Keeps.cut (s0 := s0) (x := x) ?_ ?_ <;> (first | (clear_value x; intro hx) | subst x)) | (subst x; try dsimp -zeta only))
    | with_reducible (refine traceReq_keeps ?_)
    | with_reducible (refine icu_keeps ?_)
    | with_reducible (refine driveFault_keeps ?_)
    | with_reducible (refine setHem_keeps ?_)
    | with_reducible (refine walkDown_keeps ?_)
    | with_reducible (refine powerDown_keeps ?_)
    | split
    | lift_lets
    | (fail_if_no_progress with_reducible refine Keeps.mk' ?_ rfl rfl rfl rfl))

theorem enterHold_keeps (h : Keeps s0 s) : Keeps s0 (enterHold s) := by
  delta enterHold
  repeat' (first
    | with_reducible assumption
    | (refine fun (_ : Keeps _ _) => ?_)
    | (intro x; first | (refine Keeps.cut (s0 := s0) (x := x) ?_ ?_ <;> (first | (clear_value x; intro hx) | subst x)) | (subst x; try dsimp -zeta only))
    | with_reducible (refine setHem_keeps ?_)
    | with_reducible (refine hemCut_keeps ?_)
    | with_reducible (refine holdNow_keeps ?_)
    | split
    | lift_lets
    | (fail_if_no_progress with_reducible refine Keeps.mk' ?_ rfl rfl rfl rfl))

theorem queueFences_keeps {a0} (h : Keeps s0 s) : Keeps s0 (queueFences s a0) := by
  delta queueFences
  repeat' (first
    | with_reducible assumption
    | (refine fun (_ : Keeps _ _) => ?_)
    | (intro x; first | (refine Keeps.cut (s0 := s0) (x := x) ?_ ?_ <;> (first | (clear_value x; intro hx) | subst x)) | (subst x; try dsimp -zeta only))
    | split
    | lift_lets
    | (fail_if_no_progress with_reducible refine Keeps.mk' ?_ rfl rfl rfl rfl))

theorem railFail_keeps {a0 a1} (h : Keeps s0 s) : Keeps s0 (railFail s a0 a1) := by
  delta railFail
  repeat' (first
    | with_reducible assumption
    | (refine fun (_ : Keeps _ _) => ?_)
    | (intro x; first | (refine Keeps.cut (s0 := s0) (x := x) ?_ ?_ <;> (first | (clear_value x; intro hx) | subst x)) | (subst x; try dsimp -zeta only))
    | with_reducible (refine traceTrigger_keeps ?_)
    | with_reducible (refine trace_keeps ?_)
    | with_reducible (refine icu_keeps ?_)
    | with_reducible (refine report_keeps ?_)
    | with_reducible (refine setChgEn_keeps ?_)
    | with_reducible (refine railRelease_keeps ?_)
    | with_reducible (refine switchOff_keeps ?_)
    | with_reducible (refine setRail_keeps ?_)
    | with_reducible (refine holdNow_keeps ?_)
    | with_reducible (refine coreLost_keeps ?_)
    | with_reducible (refine setHem_keeps ?_)
    | with_reducible (refine recomputeLevel_keeps ?_)
    | with_reducible (refine queueFences_keeps ?_)
    | with_reducible (refine forEach_keeps ?_ fun s a hs => ?_)
    | split
    | lift_lets
    | (fail_if_no_progress with_reducible refine Keeps.mk' ?_ rfl rfl rfl rfl))

theorem offRequest_keeps {a0 a1} (h : Keeps s0 s) : Keeps s0 (offRequest s a0 a1) := by
  delta offRequest
  repeat' (first
    | with_reducible assumption
    | (refine fun (_ : Keeps _ _) => ?_)
    | (intro x; first | (refine Keeps.cut (s0 := s0) (x := x) ?_ ?_ <;> (first | (clear_value x; intro hx) | subst x)) | (subst x; try dsimp -zeta only))
    | with_reducible (refine traceReq_keeps ?_)
    | with_reducible (refine icu_keeps ?_)
    | with_reducible (refine evrSecure_keeps ?_)
    | with_reducible (refine setHem_keeps ?_)
    | with_reducible (refine walkDown_keeps ?_)
    | with_reducible (refine hemCut_keeps ?_)
    | with_reducible (refine powerDown_keeps ?_)
    | split
    | lift_lets
    | (fail_if_no_progress with_reducible refine Keeps.mk' ?_ rfl rfl rfl rfl))

theorem enterKa_keeps (h : Keeps s0 s) : Keeps s0 (enterKa s) := by
  delta enterKa
  repeat' (first
    | with_reducible assumption
    | (refine fun (_ : Keeps _ _) => ?_)
    | (intro x; first | (refine Keeps.cut (s0 := s0) (x := x) ?_ ?_ <;> (first | (clear_value x; intro hx) | subst x)) | (subst x; try dsimp -zeta only))
    | with_reducible (refine wr_keeps ?_)
    | with_reducible (refine setHem_keeps ?_)
    | with_reducible (refine powerDown_keeps ?_)
    | with_reducible (refine updateHold_keeps ?_)
    | split
    | lift_lets
    | (fail_if_no_progress with_reducible refine Keeps.mk' ?_ rfl rfl rfl rfl))

theorem endKa_keeps {a0} (h : Keeps s0 s) : Keeps s0 (endKa s a0) := by
  delta endKa
  repeat' (first
    | with_reducible assumption
    | (refine fun (_ : Keeps _ _) => ?_)
    | (intro x; first | (refine Keeps.cut (s0 := s0) (x := x) ?_ ?_ <;> (first | (clear_value x; intro hx) | subst x)) | (subst x; try dsimp -zeta only))
    | with_reducible (refine wrF_keeps ?_)
    | with_reducible (refine hemFlag_keeps ?_)
    | with_reducible (refine setHem_keeps ?_)
    | with_reducible (refine powerDown_keeps ?_)
    | with_reducible (refine updateHold_keeps ?_)
    | split
    | lift_lets
    | (fail_if_no_progress with_reducible refine Keeps.mk' ?_ rfl rfl rfl rfl))

theorem tryResume_keeps {a0 a1} (h : Keeps s0 s) : Keeps s0 (tryResume s a0 a1).1 := by
  delta tryResume
  repeat' (first
    | with_reducible assumption
    | (refine fun (_ : Keeps _ _) => ?_)
    | (intro x; first | (refine Keeps.cut (s0 := s0) (x := x) ?_ ?_ <;> (first | (clear_value x; intro hx) | subst x)) | (subst x; try dsimp -zeta only))
    | with_reducible (refine report_keeps ?_)
    | with_reducible (refine warmResume_keeps ?_)
    | with_reducible (refine icu_keeps ?_)
    | with_reducible (refine logged_keeps ?_)
    | with_reducible (refine setHem_keeps ?_)
    | with_reducible (refine powerDown_keeps ?_)
    | with_reducible (refine forEach_keeps ?_ fun s a hs => ?_)
    | split
    | lift_lets
    | (fail_if_no_progress with_reducible refine Keeps.mk' ?_ rfl rfl rfl rfl))

theorem resumeKept_keeps (h : Keeps s0 s) : Keeps s0 (resumeKept s) := by
  delta resumeKept
  repeat' (first
    | with_reducible assumption
    | (refine fun (_ : Keeps _ _) => ?_)
    | (intro x; first | (refine Keeps.cut (s0 := s0) (x := x) ?_ ?_ <;> (first | (clear_value x; intro hx) | subst x)) | (subst x; try dsimp -zeta only))
    | with_reducible (refine tryResume_keeps ?_)
    | split
    | lift_lets
    | (fail_if_no_progress with_reducible refine Keeps.mk' ?_ rfl rfl rfl rfl))

theorem enterHemmed_keeps (h : Keeps s0 s) : Keeps s0 (enterHemmed s) := by
  delta enterHemmed
  repeat' (first
    | with_reducible assumption
    | (refine fun (_ : Keeps _ _) => ?_)
    | (intro x; first | (refine Keeps.cut (s0 := s0) (x := x) ?_ ?_ <;> (first | (clear_value x; intro hx) | subst x)) | (subst x; try dsimp -zeta only))
    | with_reducible (refine setHem_keeps ?_)
    | with_reducible (refine setDebt_keeps ?_)
    | with_reducible (refine forEach_keeps ?_ fun s a hs => ?_)
    | split
    | lift_lets
    | (fail_if_no_progress with_reducible refine Keeps.mk' ?_ rfl rfl rfl rfl))

theorem stepSeven_keeps (h : Keeps s0 s) : Keeps s0 (stepSeven s) := by
  delta stepSeven
  repeat' (first
    | with_reducible assumption
    | (refine fun (_ : Keeps _ _) => ?_)
    | (intro x; first | (refine Keeps.cut (s0 := s0) (x := x) ?_ ?_ <;> (first | (clear_value x; intro hx) | subst x)) | (subst x; try dsimp -zeta only))
    | with_reducible (refine holdNow_keeps ?_)
    | with_reducible (refine powerDown_keeps ?_)
    | with_reducible (refine enterHemmed_keeps ?_)
    | with_reducible (refine resumeKept_keeps ?_)
    | with_reducible (refine enterKa_keeps ?_)
    | with_reducible (refine wr_keeps ?_)
    | split
    | lift_lets
    | (fail_if_no_progress with_reducible refine Keeps.mk' ?_ rfl rfl rfl rfl))

theorem powerUpDone_keeps (h : Keeps s0 s) : Keeps s0 (powerUpDone s) := by
  delta powerUpDone
  repeat' (first
    | with_reducible assumption
    | (refine fun (_ : Keeps _ _) => ?_)
    | (intro x; first | (refine Keeps.cut (s0 := s0) (x := x) ?_ ?_ <;> (first | (clear_value x; intro hx) | subst x)) | (subst x; try dsimp -zeta only))
    | with_reducible (refine icu_keeps ?_)
    | with_reducible (refine startPorts_keeps ?_)
    | with_reducible (refine wrB_keeps ?_)
    | with_reducible (refine setDch_keeps ?_)
    | with_reducible (refine loadTrained_keeps ?_)
    | with_reducible (refine resumeKept_keeps ?_)
    | with_reducible (refine startTraining_keeps ?_)
    | with_reducible (refine forEach_keeps ?_ fun s a hs => ?_)
    | split
    | lift_lets
    | (fail_if_no_progress with_reducible refine Keeps.mk' ?_ rfl rfl rfl rfl))

theorem walkUp_keeps {a0} (h : Keeps s0 s) : Keeps s0 (walkUp a0 s) := by
  induction a0 generalizing s with
  | zero => exact h
  | succ f ih =>
    unfold walkUp
    dsimp only
    repeat' split
    all_goals first
      | with_reducible exact h
      | with_reducible exact powerUpDone_keeps (trace_keeps h)
      | with_reducible exact powerUpDone_keeps (recomputeLevel_keeps (trace_keeps h))
      | with_reducible exact ih (startStep_keeps (trace_keeps h))
      | with_reducible exact ih (startStep_keeps (recomputeLevel_keeps (trace_keeps h)))

theorem startCheck_keeps (h : Keeps s0 s) : Keeps s0 (startCheck s) := by
  delta startCheck
  repeat' (first
    | with_reducible assumption
    | (refine fun (_ : Keeps _ _) => ?_)
    | (intro x; first | (refine Keeps.cut (s0 := s0) (x := x) ?_ ?_ <;> (first | (clear_value x; intro hx) | subst x)) | (subst x; try dsimp -zeta only))
    | split
    | lift_lets
    | (fail_if_no_progress with_reducible refine Keeps.mk' ?_ rfl rfl rfl rfl))

theorem startPowerUp_keeps {a0} (h : Keeps s0 s) : Keeps s0 (startPowerUp s a0) := by
  delta startPowerUp
  repeat' (first
    | with_reducible assumption
    | (refine fun (_ : Keeps _ _) => ?_)
    | (intro x; first | (refine Keeps.cut (s0 := s0) (x := x) ?_ ?_ <;> (first | (clear_value x; intro hx) | subst x)) | (subst x; try dsimp -zeta only))
    | with_reducible (refine hemFlag_keeps ?_)
    | with_reducible (refine startCheck_keeps ?_)
    | with_reducible (refine setRail_keeps ?_)
    | with_reducible (refine walkUp_keeps ?_)
    | with_reducible (refine startStep_keeps ?_)
    | with_reducible (refine forEach_keeps ?_ fun s a hs => ?_)
    | split
    | lift_lets
    | (fail_if_no_progress with_reducible refine Keeps.mk' ?_ rfl rfl rfl rfl))

theorem fchBands_keeps {a0} (h : Keeps s0 s) : Keeps s0 (fchBands s a0) := by
  delta fchBands
  repeat' (first
    | with_reducible assumption
    | (refine fun (_ : Keeps _ _) => ?_)
    | (intro x; first | (refine Keeps.cut (s0 := s0) (x := x) ?_ ?_ <;> (first | (clear_value x; intro hx) | subst x)) | (subst x; try dsimp -zeta only))
    | with_reducible (refine closeBlk_keeps ?_)
    | with_reducible (refine addCand_keeps ?_)
    | with_reducible (refine forEach_keeps ?_ fun s a hs => ?_)
    | split
    | lift_lets
    | (fail_if_no_progress with_reducible refine Keeps.mk' ?_ rfl rfl rfl rfl))

theorem takeSnap_keeps (h : Keeps s0 s) : Keeps s0 (takeSnap s) := by
  delta takeSnap
  repeat' (first
    | with_reducible assumption
    | (refine fun (_ : Keeps _ _) => ?_)
    | (intro x; first | (refine Keeps.cut (s0 := s0) (x := x) ?_ ?_ <;> (first | (clear_value x; intro hx) | subst x)) | (subst x; try dsimp -zeta only))
    | split
    | lift_lets
    | (fail_if_no_progress with_reducible refine Keeps.mk' ?_ rfl rfl rfl rfl))

theorem stickyFatal_keeps {a0 a1} (h : Keeps s0 s) : Keeps s0 (stickyFatal s a0 a1) := by
  delta stickyFatal
  repeat' (first
    | with_reducible assumption
    | (refine fun (_ : Keeps _ _) => ?_)
    | (intro x; first | (refine Keeps.cut (s0 := s0) (x := x) ?_ ?_ <;> (first | (clear_value x; intro hx) | subst x)) | (subst x; try dsimp -zeta only))
    | with_reducible (refine wr_keeps ?_)
    | split
    | lift_lets
    | (fail_if_no_progress with_reducible refine Keeps.mk' ?_ rfl rfl rfl rfl))

theorem abandonDump_keeps (h : Keeps s0 s) : Keeps s0 (abandonDump s) := by
  delta abandonDump
  repeat' (first
    | with_reducible assumption
    | (refine fun (_ : Keeps _ _) => ?_)
    | (intro x; first | (refine Keeps.cut (s0 := s0) (x := x) ?_ ?_ <;> (first | (clear_value x; intro hx) | subst x)) | (subst x; try dsimp -zeta only))
    | with_reducible (refine icu_keeps ?_)
    | with_reducible (refine wrB_keeps ?_)
    | split
    | lift_lets
    | (fail_if_no_progress with_reducible refine Keeps.mk' ?_ rfl rfl rfl rfl))

theorem setFlt_keeps {a0} (h : Keeps s0 s) : Keeps s0 (setFlt s a0) := by
  delta setFlt
  repeat' (first
    | with_reducible assumption
    | (refine fun (_ : Keeps _ _) => ?_)
    | (intro x; first | (refine Keeps.cut (s0 := s0) (x := x) ?_ ?_ <;> (first | (clear_value x; intro hx) | subst x)) | (subst x; try dsimp -zeta only))
    | split
    | lift_lets
    | (fail_if_no_progress with_reducible refine Keeps.mk' ?_ rfl rfl rfl rfl))

theorem skipDump_keeps (h : Keeps s0 s) : Keeps s0 (skipDump s) := by
  delta skipDump
  repeat' (first
    | with_reducible assumption
    | (refine fun (_ : Keeps _ _) => ?_)
    | (intro x; first | (refine Keeps.cut (s0 := s0) (x := x) ?_ ?_ <;> (first | (clear_value x; intro hx) | subst x)) | (subst x; try dsimp -zeta only))
    | with_reducible (refine icu_keeps ?_)
    | split
    | lift_lets
    | (fail_if_no_progress with_reducible refine Keeps.mk' ?_ rfl rfl rfl rfl))

theorem openWindow_keeps {a0} (h : Keeps s0 s) : Keeps s0 (openWindow s a0) := by
  delta openWindow
  repeat' (first
    | with_reducible assumption
    | (refine fun (_ : Keeps _ _) => ?_)
    | (intro x; first | (refine Keeps.cut (s0 := s0) (x := x) ?_ ?_ <;> (first | (clear_value x; intro hx) | subst x)) | (subst x; try dsimp -zeta only))
    | with_reducible (refine icu_keeps ?_)
    | with_reducible (refine setFlt_keeps ?_)
    | with_reducible (refine skipDump_keeps ?_)
    | split
    | lift_lets
    | (fail_if_no_progress with_reducible refine Keeps.mk' ?_ rfl rfl rfl rfl))

theorem finishStop_keeps (h : Keeps s0 s) : Keeps s0 (finishStop s) := by
  delta finishStop
  repeat' (first
    | with_reducible assumption
    | (refine fun (_ : Keeps _ _) => ?_)
    | (intro x; first | (refine Keeps.cut (s0 := s0) (x := x) ?_ ?_ <;> (first | (clear_value x; intro hx) | subst x)) | (subst x; try dsimp -zeta only))
    | with_reducible (refine stepSeven_keeps ?_)
    | with_reducible (refine holdNow_keeps ?_)
    | with_reducible (refine setFlt_keeps ?_)
    | split
    | lift_lets
    | (fail_if_no_progress with_reducible refine Keeps.mk' ?_ rfl rfl rfl rfl))

theorem safeStop_keeps {a0 a1 a2} (h : Keeps s0 s) : Keeps s0 (safeStop s a0 a1 a2) := by
  delta safeStop
  repeat' (first
    | with_reducible assumption
    | (refine fun (_ : Keeps _ _) => ?_)
    | (intro x; first | (refine Keeps.cut (s0 := s0) (x := x) ?_ ?_ <;> (first | (clear_value x; intro hx) | subst x)) | (subst x; try dsimp -zeta only))
    | with_reducible (refine takeSnap_keeps ?_)
    | with_reducible (refine wrB_keeps ?_)
    | with_reducible (refine stickyFatal_keeps ?_)
    | with_reducible (refine evrFlush_keeps ?_)
    | with_reducible (refine icu_keeps ?_)
    | with_reducible (refine setFlt_keeps ?_)
    | with_reducible (refine furtherTrigger_keeps ?_)
    | with_reducible (refine setHem_keeps ?_)
    | with_reducible (refine hemCut_keeps ?_)
    | with_reducible (refine driveFault_keeps ?_)
    | with_reducible (refine finishStop_keeps ?_)
    | with_reducible (refine openWindow_keeps ?_)
    | split
    | lift_lets
    | (fail_if_no_progress with_reducible refine Keeps.mk' ?_ rfl rfl rfl rfl))

theorem fatal_keeps {a0 a1} (h : Keeps s0 s) : Keeps s0 (fatal s a0 a1) := by
  delta fatal
  repeat' (first
    | with_reducible assumption
    | (refine fun (_ : Keeps _ _) => ?_)
    | (intro x; first | (refine Keeps.cut (s0 := s0) (x := x) ?_ ?_ <;> (first | (clear_value x; intro hx) | subst x)) | (subst x; try dsimp -zeta only))
    | with_reducible (refine abandonDump_keeps ?_)
    | with_reducible (refine stickyFatal_keeps ?_)
    | with_reducible (refine finishStop_keeps ?_)
    | with_reducible (refine setFlt_keeps ?_)
    | with_reducible (refine safeStop_keeps ?_)
    | split
    | lift_lets
    | (fail_if_no_progress with_reducible refine Keeps.mk' ?_ rfl rfl rfl rfl))

theorem closeWindow_keeps (h : Keeps s0 s) : Keeps s0 (closeWindow s) := by
  delta closeWindow
  repeat' (first
    | with_reducible assumption
    | (refine fun (_ : Keeps _ _) => ?_)
    | (intro x; first | (refine Keeps.cut (s0 := s0) (x := x) ?_ ?_ <;> (first | (clear_value x; intro hx) | subst x)) | (subst x; try dsimp -zeta only))
    | with_reducible (refine setFlt_keeps ?_)
    | with_reducible (refine finishStop_keeps ?_)
    | with_reducible (refine report_keeps ?_)
    | split
    | lift_lets
    | (fail_if_no_progress with_reducible refine Keeps.mk' ?_ rfl rfl rfl rfl))

theorem sixEnded_keeps (h : Keeps s0 s) : Keeps s0 (sixEnded s) := by
  delta sixEnded
  repeat' (first
    | with_reducible assumption
    | (refine fun (_ : Keeps _ _) => ?_)
    | (intro x; first | (refine Keeps.cut (s0 := s0) (x := x) ?_ ?_ <;> (first | (clear_value x; intro hx) | subst x)) | (subst x; try dsimp -zeta only))
    | with_reducible (refine closeWindow_keeps ?_)
    | split
    | lift_lets
    | (fail_if_no_progress with_reducible refine Keeps.mk' ?_ rfl rfl rfl rfl))

theorem fenceEffect_keeps {a0 a1} (h : Keeps s0 s) : Keeps s0 (fenceEffect s a0 a1) := by
  delta fenceEffect
  repeat' (first
    | with_reducible assumption
    | (refine fun (_ : Keeps _ _) => ?_)
    | (intro x; first | (refine Keeps.cut (s0 := s0) (x := x) ?_ ?_ <;> (first | (clear_value x; intro hx) | subst x)) | (subst x; try dsimp -zeta only))
    | with_reducible (refine setDch_keeps ?_)
    | with_reducible (refine relayout_keeps ?_)
    | with_reducible (refine noteReasons_keeps ?_)
    | with_reducible (refine fixLayout_keeps ?_)
    | with_reducible (refine fixLining_keeps ?_)
    | with_reducible (refine sixEnded_keeps ?_)
    | with_reducible (refine hemNoFlash_keeps ?_)
    | with_reducible (refine icu_keeps ?_)
    | with_reducible (refine fchBands_keeps ?_)
    | with_reducible (refine updateScale_keeps ?_)
    | with_reducible (refine linkOff_keeps ?_)
    | with_reducible (refine lostResponses_keeps ?_)
    | with_reducible (refine recomputeBudget_keeps ?_)
    | with_reducible (refine judgeEnergy_keeps ?_)
    | with_reducible (refine evrLost_keeps ?_)
    | with_reducible (refine wrB_keeps ?_)
    | with_reducible (refine sb1Fenced_keeps ?_)
    | split
    | lift_lets
    | (fail_if_no_progress with_reducible refine Keeps.mk' ?_ rfl rfl rfl rfl))

theorem fenceUnit_keeps {a0 a1 a2} (h : Keeps s0 s) : Keeps s0 (fenceUnit s a0 a1 a2) := by
  delta fenceUnit
  repeat' (first
    | with_reducible assumption
    | (refine fun (_ : Keeps _ _) => ?_)
    | (intro x; first | (refine Keeps.cut (s0 := s0) (x := x) ?_ ?_ <;> (first | (clear_value x; intro hx) | subst x)) | (subst x; try dsimp -zeta only))
    | with_reducible (refine recomputeLevel_keeps ?_)
    | with_reducible (refine fenceEffect_keeps ?_)
    | with_reducible (refine icu_keeps ?_)
    | split
    | lift_lets
    | (fail_if_no_progress with_reducible refine Keeps.mk' ?_ rfl rfl rfl rfl))

theorem escStep_keeps {a0} (h : Keeps s0 s) : Keeps s0 (escStep s a0) := by
  delta escStep
  repeat' (first
    | with_reducible assumption
    | (refine fun (_ : Keeps _ _) => ?_)
    | (intro x; first | (refine Keeps.cut (s0 := s0) (x := x) ?_ ?_ <;> (first | (clear_value x; intro hx) | subst x)) | (subst x; try dsimp -zeta only))
    | with_reducible (refine fenceUnit_keeps ?_)
    | with_reducible (refine fatal_keeps ?_)
    | with_reducible (refine enterHold_keeps ?_)
    | split
    | lift_lets
    | (fail_if_no_progress with_reducible refine Keeps.mk' ?_ rfl rfl rfl rfl))

theorem settleN_keeps {a0} (h : Keeps s0 s) : Keeps s0 (settleN a0 s) := by
  induction a0 generalizing s with
  | zero => exact Keeps.mk' h rfl rfl rfl rfl
  | succ n ih =>
    unfold settleN
    split
    · exact h
    · exact ih (escStep_keeps (Keeps.mk' h rfl rfl rfl rfl))

theorem settle_keeps (h : Keeps s0 s) : Keeps s0 (settle s) := by
  delta settle
  repeat' (first
    | with_reducible assumption
    | (refine fun (_ : Keeps _ _) => ?_)
    | (intro x; first | (refine Keeps.cut (s0 := s0) (x := x) ?_ ?_ <;> (first | (clear_value x; intro hx) | subst x)) | (subst x; try dsimp -zeta only))
    | with_reducible (refine noteReasons_keeps ?_)
    | with_reducible (refine withdrawBudgets_keeps ?_)
    | with_reducible (refine settleN_keeps ?_)
    | split
    | lift_lets
    | (fail_if_no_progress with_reducible refine Keeps.mk' ?_ rfl rfl rfl rfl))

theorem execIcuMessage_keeps {a0} (h : Keeps s0 s) : Keeps s0 (after (execIcuMessage a0 s) s) := by
  delta execIcuMessage
  repeat' (first
    | with_reducible assumption
    | (refine fun (_ : Keeps _ _) => ?_)
    | (intro x; first | (refine Keeps.cut (s0 := s0) (x := x) ?_ ?_ <;> (first | (clear_value x; intro hx) | subst x)) | (subst x; try dsimp -zeta only))
    | with_reducible refine next_keeps ?_
    | with_reducible (refine settle_keeps ?_)
    | with_reducible (refine icu_keeps ?_)
    | split
    | lift_lets
    | (fail_if_no_progress with_reducible refine Keeps.mk' ?_ rfl rfl rfl rfl))

theorem execIcuDoorbell_keeps {a0} (h : Keeps s0 s) : Keeps s0 (after (execIcuDoorbell a0 s) s) := by
  delta execIcuDoorbell
  repeat' (first
    | with_reducible assumption
    | (refine fun (_ : Keeps _ _) => ?_)
    | (intro x; first | (refine Keeps.cut (s0 := s0) (x := x) ?_ ?_ <;> (first | (clear_value x; intro hx) | subst x)) | (subst x; try dsimp -zeta only))
    | with_reducible refine next_keeps ?_
    | with_reducible (refine settle_keeps ?_)
    | with_reducible (refine accessErr_keeps ?_)
    | with_reducible (refine icuMsg_keeps ?_)
    | split
    | lift_lets
    | (fail_if_no_progress with_reducible refine Keeps.mk' ?_ rfl rfl rfl rfl))

theorem execIcuEntry_keeps {a0} (h : Keeps s0 s) : Keeps s0 (after (execIcuEntry a0 s) s) := by
  unfold execIcuEntry
  refine next_keeps (settle_keeps ?_)
  split
  · split
    · exact h
    · rename_i hb
      split
      · exact enterSource_keeps (sramStore_keeps h) (bestSource_room hb)
      · exact abandonEntry_keeps h
  · exact h

theorem execIcuDone_keeps {a0} (h : Keeps s0 s) : Keeps s0 (after (execIcuDone a0 s) s) := by
  delta execIcuDone
  repeat' (first
    | with_reducible assumption
    | (refine fun (_ : Keeps _ _) => ?_)
    | (intro x; first | (refine Keeps.cut (s0 := s0) (x := x) ?_ ?_ <;> (first | (clear_value x; intro hx) | subst x)) | (subst x; try dsimp -zeta only))
    | with_reducible refine next_keeps ?_
    | with_reducible (refine settle_keeps ?_)
    | with_reducible (refine accessErr_keeps ?_)
    | with_reducible (refine report_keeps ?_)
    | with_reducible (refine stackFault_keeps ?_)
    | with_reducible (refine completeTop_keeps ?_)
    | split
    | lift_lets
    | (fail_if_no_progress with_reducible refine Keeps.mk' ?_ rfl rfl rfl rfl))

theorem exitReturn_keeps (h : Keeps s0 s) : Keeps s0 (exitReturn s) := by
  delta exitReturn
  repeat' (first
    | with_reducible assumption
    | (refine fun (_ : Keeps _ _) => ?_)
    | (intro x; first | (refine Keeps.cut (s0 := s0) (x := x) ?_ ?_ <;> (first | (clear_value x; intro hx) | subst x)) | (subst x; try dsimp -zeta only))
    | split
    | lift_lets
    | (fail_if_no_progress with_reducible refine Keeps.mk' ?_ rfl rfl rfl rfl))

theorem exitChain_keeps (h : Keeps s0 s) : Keeps s0 (exitChain s) := by
  unfold exitChain
  split
  · rename_i hb
    split
    · exact enterSource_keeps (sramStore_keeps h) (bestSource_room hb)
    · exact exitReturn_keeps (abandonEntry_keeps h)
  · exact exitReturn_keeps h

theorem execIcuExit_keeps (h : Keeps s0 s) : Keeps s0 (after (execIcuExit s) s) := by
  unfold execIcuExit
  refine next_keeps (settle_keeps ?_)
  split
  · exact h
  · exact exitChain_keeps h
  · refine exitChain_keeps (report_keeps (stackFault_keeps (Keeps.stk h fun hs => ?_)))
    exact Nat.le_trans (Nat.le_of_eq List.length_tail) (Nat.le_trans (Nat.sub_le _ 1) hs)

theorem execIcuPendclr_keeps {a0} (h : Keeps s0 s) : Keeps s0 (after (execIcuPendclr a0 s) s) := by
  delta execIcuPendclr
  repeat' (first
    | with_reducible assumption
    | (refine fun (_ : Keeps _ _) => ?_)
    | (intro x; first | (refine Keeps.cut (s0 := s0) (x := x) ?_ ?_ <;> (first | (clear_value x; intro hx) | subst x)) | (subst x; try dsimp -zeta only))
    | with_reducible refine next_keeps ?_
    | with_reducible (refine settle_keeps ?_)
    | with_reducible (refine accessErr_keeps ?_)
    | with_reducible (refine setPending_keeps ?_)
    | split
    | lift_lets
    | (fail_if_no_progress with_reducible refine Keeps.mk' ?_ rfl rfl rfl rfl))

theorem setCfgField_keeps {a0 a1 a2 a3 a4} (h : Keeps s0 s) : Keeps s0 (setCfgField s a0 a1 a2 a3 a4) := by
  delta setCfgField
  repeat' (first
    | with_reducible assumption
    | (refine fun (_ : Keeps _ _) => ?_)
    | (intro x; first | (refine Keeps.cut (s0 := s0) (x := x) ?_ ?_ <;> (first | (clear_value x; intro hx) | subst x)) | (subst x; try dsimp -zeta only))
    | with_reducible (refine accessErr_keeps ?_)
    | with_reducible (refine wrF_keeps ?_)
    | split
    | lift_lets
    | (fail_if_no_progress with_reducible refine Keeps.mk' ?_ rfl rfl rfl rfl))

theorem execIcuEnset_keeps {a0} (h : Keeps s0 s) : Keeps s0 (after (execIcuEnset a0 s) s) := by
  delta execIcuEnset
  repeat' (first
    | with_reducible assumption
    | (refine fun (_ : Keeps _ _) => ?_)
    | (intro x; first | (refine Keeps.cut (s0 := s0) (x := x) ?_ ?_ <;> (first | (clear_value x; intro hx) | subst x)) | (subst x; try dsimp -zeta only))
    | with_reducible refine next_keeps ?_
    | with_reducible (refine settle_keeps ?_)
    | with_reducible (refine accessErr_keeps ?_)
    | with_reducible (refine setCfgField_keeps ?_)
    | split
    | lift_lets
    | (fail_if_no_progress with_reducible refine Keeps.mk' ?_ rfl rfl rfl rfl))

theorem execIcuEnclr_keeps {a0} (h : Keeps s0 s) : Keeps s0 (after (execIcuEnclr a0 s) s) := by
  delta execIcuEnclr
  repeat' (first
    | with_reducible assumption
    | (refine fun (_ : Keeps _ _) => ?_)
    | (intro x; first | (refine Keeps.cut (s0 := s0) (x := x) ?_ ?_ <;> (first | (clear_value x; intro hx) | subst x)) | (subst x; try dsimp -zeta only))
    | with_reducible refine next_keeps ?_
    | with_reducible (refine settle_keeps ?_)
    | with_reducible (refine accessErr_keeps ?_)
    | with_reducible (refine setCfgField_keeps ?_)
    | split
    | lift_lets
    | (fail_if_no_progress with_reducible refine Keeps.mk' ?_ rfl rfl rfl rfl))

theorem execIcuPrioSet_keeps {a0} (h : Keeps s0 s) : Keeps s0 (after (execIcuPrioSet a0 s) s) := by
  delta execIcuPrioSet
  repeat' (first
    | with_reducible assumption
    | (refine fun (_ : Keeps _ _) => ?_)
    | (intro x; first | (refine Keeps.cut (s0 := s0) (x := x) ?_ ?_ <;> (first | (clear_value x; intro hx) | subst x)) | (subst x; try dsimp -zeta only))
    | with_reducible refine next_keeps ?_
    | with_reducible (refine settle_keeps ?_)
    | with_reducible (refine accessErr_keeps ?_)
    | with_reducible (refine setCfgField_keeps ?_)
    | split
    | lift_lets
    | (fail_if_no_progress with_reducible refine Keeps.mk' ?_ rfl rfl rfl rfl))

theorem sleepAbort_keeps (h : Keeps s0 s) : Keeps s0 (sleepAbort s) := by
  delta sleepAbort
  repeat' (first
    | with_reducible assumption
    | (refine fun (_ : Keeps _ _) => ?_)
    | (intro x; first | (refine Keeps.cut (s0 := s0) (x := x) ?_ ?_ <;> (first | (clear_value x; intro hx) | subst x)) | (subst x; try dsimp -zeta only))
    | with_reducible (refine icu_keeps ?_)
    | with_reducible (refine wrB_keeps ?_)
    | split
    | lift_lets
    | (fail_if_no_progress with_reducible refine Keeps.mk' ?_ rfl rfl rfl rfl))

theorem lightSleep_keeps (h : Keeps s0 s) : Keeps s0 (lightSleep s) := by
  delta lightSleep
  repeat' (first
    | with_reducible assumption
    | (refine fun (_ : Keeps _ _) => ?_)
    | (intro x; first | (refine Keeps.cut (s0 := s0) (x := x) ?_ ?_ <;> (first | (clear_value x; intro hx) | subst x)) | (subst x; try dsimp -zeta only))
    | with_reducible (refine sleepAbort_keeps ?_)
    | split
    | lift_lets
    | (fail_if_no_progress with_reducible refine Keeps.mk' ?_ rfl rfl rfl rfl))

theorem deepSleep_keeps (h : Keeps s0 s) : Keeps s0 (deepSleep s) := by
  delta deepSleep
  repeat' (first
    | with_reducible assumption
    | (refine fun (_ : Keeps _ _) => ?_)
    | (intro x; first | (refine Keeps.cut (s0 := s0) (x := x) ?_ ?_ <;> (first | (clear_value x; intro hx) | subst x)) | (subst x; try dsimp -zeta only))
    | with_reducible (refine domReq_keeps ?_)
    | with_reducible (refine forEach_keeps ?_ fun s a hs => ?_)
    | split
    | lift_lets
    | (fail_if_no_progress with_reducible refine Keeps.mk' ?_ rfl rfl rfl rfl))

theorem execWfiSleep_keeps (h : Keeps s0 s) : Keeps s0 (after (execWfiSleep s) s) := by
  delta execWfiSleep
  repeat' (first
    | with_reducible assumption
    | (refine fun (_ : Keeps _ _) => ?_)
    | (intro x; first | (refine Keeps.cut (s0 := s0) (x := x) ?_ ?_ <;> (first | (clear_value x; intro hx) | subst x)) | (subst x; try dsimp -zeta only))
    | with_reducible refine next_keeps ?_
    | with_reducible (refine settle_keeps ?_)
    | with_reducible (refine sleepAbort_keeps ?_)
    | with_reducible (refine lightSleep_keeps ?_)
    | with_reducible (refine icu_keeps ?_)
    | with_reducible (refine deepSleep_keeps ?_)
    | split
    | lift_lets
    | (fail_if_no_progress with_reducible refine Keeps.mk' ?_ rfl rfl rfl rfl))

theorem deepWakeStart_keeps {a0} (h : Keeps s0 s) : Keeps s0 (deepWakeStart s a0) := by
  delta deepWakeStart
  repeat' (first
    | with_reducible assumption
    | (refine fun (_ : Keeps _ _) => ?_)
    | (intro x; first | (refine Keeps.cut (s0 := s0) (x := x) ?_ ?_ <;> (first | (clear_value x; intro hx) | subst x)) | (subst x; try dsimp -zeta only))
    | with_reducible (refine wakeCause_keeps ?_)
    | with_reducible (refine icu_keeps ?_)
    | with_reducible (refine applyPower_keeps ?_)
    | split
    | lift_lets
    | (fail_if_no_progress with_reducible refine Keeps.mk' ?_ rfl rfl rfl rfl))

theorem execSleepWake_keeps (h : Keeps s0 s) : Keeps s0 (after (execSleepWake s) s) := by
  delta execSleepWake
  repeat' (first
    | with_reducible assumption
    | (refine fun (_ : Keeps _ _) => ?_)
    | (intro x; first | (refine Keeps.cut (s0 := s0) (x := x) ?_ ?_ <;> (first | (clear_value x; intro hx) | subst x)) | (subst x; try dsimp -zeta only))
    | with_reducible refine next_keeps ?_
    | with_reducible (refine settle_keeps ?_)
    | with_reducible (refine wakeCause_keeps ?_)
    | with_reducible (refine deepWakeStart_keeps ?_)
    | split
    | lift_lets
    | (fail_if_no_progress with_reducible refine Keeps.mk' ?_ rfl rfl rfl rfl))

theorem execThimbleWake_keeps {a0} (h : Keeps s0 s) : Keeps s0 (after (execThimbleWake a0 s) s) := by
  delta execThimbleWake
  repeat' (first
    | with_reducible assumption
    | (refine fun (_ : Keeps _ _) => ?_)
    | (intro x; first | (refine Keeps.cut (s0 := s0) (x := x) ?_ ?_ <;> (first | (clear_value x; intro hx) | subst x)) | (subst x; try dsimp -zeta only))
    | with_reducible refine next_keeps ?_
    | with_reducible (refine settle_keeps ?_)
    | with_reducible (refine icu_keeps ?_)
    | with_reducible (refine deepWakeStart_keeps ?_)
    | split
    | lift_lets
    | (fail_if_no_progress with_reducible refine Keeps.mk' ?_ rfl rfl rfl rfl))

theorem inputLoss_keeps (h : Keeps s0 s) : Keeps s0 (inputLoss s) := by
  delta inputLoss
  repeat' (first
    | with_reducible assumption
    | (refine fun (_ : Keeps _ _) => ?_)
    | (intro x; first | (refine Keeps.cut (s0 := s0) (x := x) ?_ ?_ <;> (first | (clear_value x; intro hx) | subst x)) | (subst x; try dsimp -zeta only))
    | with_reducible (refine trace_keeps ?_)
    | with_reducible (refine icu_keeps ?_)
    | with_reducible (refine traceTrigger_keeps ?_)
    | with_reducible (refine updateHold_keeps ?_)
    | with_reducible (refine traceReq_keeps ?_)
    | with_reducible (refine batInputLoss_keeps ?_)
    | with_reducible (refine furtherTrigger_keeps ?_)
    | with_reducible (refine setHem_keeps ?_)
    | with_reducible (refine enterKa_keeps ?_)
    | with_reducible (refine powerDown_keeps ?_)
    | with_reducible (refine hemCut_keeps ?_)
    | with_reducible (refine evrSecure_keeps ?_)
    | with_reducible (refine walkDown_keeps ?_)
    | split
    | lift_lets
    | (fail_if_no_progress with_reducible refine Keeps.mk' ?_ rfl rfl rfl rfl))

theorem execInputLoss_keeps (h : Keeps s0 s) : Keeps s0 (after (execInputLoss s) s) := by
  delta execInputLoss
  repeat' (first
    | with_reducible assumption
    | (refine fun (_ : Keeps _ _) => ?_)
    | (intro x; first | (refine Keeps.cut (s0 := s0) (x := x) ?_ ?_ <;> (first | (clear_value x; intro hx) | subst x)) | (subst x; try dsimp -zeta only))
    | with_reducible refine next_keeps ?_
    | with_reducible (refine settle_keeps ?_)
    | with_reducible (refine inputLoss_keeps ?_)
    | split
    | lift_lets
    | (fail_if_no_progress with_reducible refine Keeps.mk' ?_ rfl rfl rfl rfl))

theorem execSiblingFault_keeps (h : Keeps s0 s) : Keeps s0 (after (execSiblingFault s) s) := by
  delta execSiblingFault
  repeat' (first
    | with_reducible assumption
    | (refine fun (_ : Keeps _ _) => ?_)
    | (intro x; first | (refine Keeps.cut (s0 := s0) (x := x) ?_ ?_ <;> (first | (clear_value x; intro hx) | subst x)) | (subst x; try dsimp -zeta only))
    | with_reducible refine next_keeps ?_
    | with_reducible (refine settle_keeps ?_)
    | with_reducible (refine trace_keeps ?_)
    | with_reducible (refine icu_keeps ?_)
    | with_reducible (refine traceTrigger_keeps ?_)
    | with_reducible (refine hemCut_keeps ?_)
    | split
    | lift_lets
    | (fail_if_no_progress with_reducible refine Keeps.mk' ?_ rfl rfl rfl rfl))

theorem mbHemNow_keeps {a0 a1} (h : Keeps s0 s) : Keeps s0 (mbHemNow a0 a1 s) := by
  delta mbHemNow
  repeat' (first
    | with_reducible assumption
    | (refine fun (_ : Keeps _ _) => ?_)
    | (intro x; first | (refine Keeps.cut (s0 := s0) (x := x) ?_ ?_ <;> (first | (clear_value x; intro hx) | subst x)) | (subst x; try dsimp -zeta only))
    | with_reducible (refine replyBad_keeps ?_)
    | with_reducible (refine replyCode_keeps ?_)
    | with_reducible (refine hemCut_keeps ?_)
    | with_reducible (refine setHem_keeps ?_)
    | with_reducible (refine startBg_keeps ?_ (fun s hs => ?_))
    | split
    | lift_lets
    | (fail_if_no_progress with_reducible refine Keeps.mk' ?_ rfl rfl rfl rfl))

theorem execHemNow_keeps {a0 a1} (h : Keeps s0 s) : Keeps s0 (after (execHemNow a0 a1 s) s) := by
  delta execHemNow
  repeat' (first
    | with_reducible assumption
    | (refine fun (_ : Keeps _ _) => ?_)
    | (intro x; first | (refine Keeps.cut (s0 := s0) (x := x) ?_ ?_ <;> (first | (clear_value x; intro hx) | subst x)) | (subst x; try dsimp -zeta only))
    | with_reducible refine next_keeps ?_
    | with_reducible (refine settle_keeps ?_)
    | with_reducible (refine mbHemNow_keeps ?_)
    | split
    | lift_lets
    | (fail_if_no_progress with_reducible refine Keeps.mk' ?_ rfl rfl rfl rfl))

theorem execGenHemCmdHem_keeps {a0} (h : Keeps s0 s) : Keeps s0 (after (execGenHemCmdHem a0 s) s) := by
  delta execGenHemCmdHem
  repeat' (first
    | with_reducible assumption
    | (refine fun (_ : Keeps _ _) => ?_)
    | (intro x; first | (refine Keeps.cut (s0 := s0) (x := x) ?_ ?_ <;> (first | (clear_value x; intro hx) | subst x)) | (subst x; try dsimp -zeta only))
    | with_reducible refine next_keeps ?_
    | with_reducible (refine settle_keeps ?_)
    | with_reducible (refine hemCut_keeps ?_)
    | split
    | lift_lets
    | (fail_if_no_progress with_reducible refine Keeps.mk' ?_ rfl rfl rfl rfl))

theorem execHemSealWrite_keeps (h : Keeps s0 s) : Keeps s0 (after (execHemSealWrite s) s) := by
  delta execHemSealWrite
  repeat' (first
    | with_reducible assumption
    | (refine fun (_ : Keeps _ _) => ?_)
    | (intro x; first | (refine Keeps.cut (s0 := s0) (x := x) ?_ ?_ <;> (first | (clear_value x; intro hx) | subst x)) | (subst x; try dsimp -zeta only))
    | with_reducible refine next_keeps ?_
    | with_reducible (refine settle_keeps ?_)
    | with_reducible (refine sixEnded_keeps ?_)
    | with_reducible (refine hemNoFlash_keeps ?_)
    | with_reducible (refine setHem_keeps ?_)
    | with_reducible (refine closeDeltas_keeps ?_)
    | with_reducible (refine sealsDone_keeps ?_)
    | split
    | lift_lets
    | (fail_if_no_progress with_reducible refine Keeps.mk' ?_ rfl rfl rfl rfl))

theorem sealsEnd_keeps (h : Keeps s0 s) : Keeps s0 (sealsEnd s) := by
  delta sealsEnd
  repeat' (first
    | with_reducible assumption
    | (refine fun (_ : Keeps _ _) => ?_)
    | (intro x; first | (refine Keeps.cut (s0 := s0) (x := x) ?_ ?_ <;> (first | (clear_value x; intro hx) | subst x)) | (subst x; try dsimp -zeta only))
    | with_reducible (refine sixEnded_keeps ?_)
    | with_reducible (refine sealsDone_keeps ?_)
    | split
    | lift_lets
    | (fail_if_no_progress with_reducible refine Keeps.mk' ?_ rfl rfl rfl rfl))

theorem hemSealBack_keeps {a0 a1 a2} (h : Keeps s0 s) : Keeps s0 (hemSealBack s a0 a1 a2) := by
  delta hemSealBack
  repeat' (first
    | with_reducible assumption
    | (refine fun (_ : Keeps _ _) => ?_)
    | (intro x; first | (refine Keeps.cut (s0 := s0) (x := x) ?_ ?_ <;> (first | (clear_value x; intro hx) | subst x)) | (subst x; try dsimp -zeta only))
    | with_reducible (refine programAt_keeps ?_)
    | with_reducible (refine sewnHem_keeps ?_)
    | with_reducible (refine modGen_keeps ?_)
    | with_reducible (refine sealsEnd_keeps ?_)
    | with_reducible (refine setHem_keeps ?_)
    | with_reducible (refine mismatch_keeps ?_)
    | with_reducible (refine addSat_keeps ?_)
    | with_reducible (refine abandonSeal_keeps ?_)
    | split
    | lift_lets
    | (fail_if_no_progress with_reducible refine Keeps.mk' ?_ rfl rfl rfl rfl))

theorem hemRecordBack_keeps {a0 a1 a2} (h : Keeps s0 s) : Keeps s0 (hemRecordBack s a0 a1 a2) := by
  delta hemRecordBack
  repeat' (first
    | with_reducible assumption
    | (refine fun (_ : Keeps _ _) => ?_)
    | (intro x; first | (refine Keeps.cut (s0 := s0) (x := x) ?_ ?_ <;> (first | (clear_value x; intro hx) | subst x)) | (subst x; try dsimp -zeta only))
    | with_reducible (refine programAt_keeps ?_)
    | with_reducible (refine setHem_keeps ?_)
    | with_reducible (refine mismatch_keeps ?_)
    | with_reducible (refine addSat_keeps ?_)
    | with_reducible (refine hemFlag_keeps ?_)
    | with_reducible (refine sixEnded_keeps ?_)
    | with_reducible (refine recordDone_keeps ?_)
    | split
    | lift_lets
    | (fail_if_no_progress with_reducible refine Keeps.mk' ?_ rfl rfl rfl rfl))

theorem execHemSealReadback_keeps {a0 a1 a2 a3} (h : Keeps s0 s) : Keeps s0 (after (execHemSealReadback a0 a1 a2 a3 s) s) := by
  delta execHemSealReadback
  repeat' (first
    | with_reducible assumption
    | (refine fun (_ : Keeps _ _) => ?_)
    | (intro x; first | (refine Keeps.cut (s0 := s0) (x := x) ?_ ?_ <;> (first | (clear_value x; intro hx) | subst x)) | (subst x; try dsimp -zeta only))
    | with_reducible refine next_keeps ?_
    | with_reducible (refine settle_keeps ?_)
    | with_reducible (refine hemRecordBack_keeps ?_)
    | with_reducible (refine hemSealBack_keeps ?_)
    | split
    | lift_lets
    | (fail_if_no_progress with_reducible refine Keeps.mk' ?_ rfl rfl rfl rfl))

theorem execKeepAliveStart_keeps (h : Keeps s0 s) : Keeps s0 (after (execKeepAliveStart s) s) := by
  delta execKeepAliveStart
  repeat' (first
    | with_reducible assumption
    | (refine fun (_ : Keeps _ _) => ?_)
    | (intro x; first | (refine Keeps.cut (s0 := s0) (x := x) ?_ ?_ <;> (first | (clear_value x; intro hx) | subst x)) | (subst x; try dsimp -zeta only))
    | with_reducible refine next_keeps ?_
    | with_reducible (refine settle_keeps ?_)
    | with_reducible (refine stepSeven_keeps ?_)
    | split
    | lift_lets
    | (fail_if_no_progress with_reducible refine Keeps.mk' ?_ rfl rfl rfl rfl))

theorem execKeepAliveTimeExpiry_keeps (h : Keeps s0 s) : Keeps s0 (after (execKeepAliveTimeExpiry s) s) := by
  delta execKeepAliveTimeExpiry
  repeat' (first
    | with_reducible assumption
    | (refine fun (_ : Keeps _ _) => ?_)
    | (intro x; first | (refine Keeps.cut (s0 := s0) (x := x) ?_ ?_ <;> (first | (clear_value x; intro hx) | subst x)) | (subst x; try dsimp -zeta only))
    | with_reducible refine next_keeps ?_
    | with_reducible (refine settle_keeps ?_)
    | with_reducible (refine endKa_keeps ?_)
    | split
    | lift_lets
    | (fail_if_no_progress with_reducible refine Keeps.mk' ?_ rfl rfl rfl rfl))

theorem mbResumeMemory_keeps {a0 a1 a2 a3} (h : Keeps s0 s) : Keeps s0 (mbResumeMemory a0 a1 a2 a3 s) := by
  delta mbResumeMemory
  repeat' (first
    | with_reducible assumption
    | (refine fun (_ : Keeps _ _) => ?_)
    | (intro x; first | (refine Keeps.cut (s0 := s0) (x := x) ?_ ?_ <;> (first | (clear_value x; intro hx) | subst x)) | (subst x; try dsimp -zeta only))
    | with_reducible (refine replyBad_keeps ?_)
    | with_reducible (refine replyCode_keeps ?_)
    | with_reducible (refine tryResume_keeps ?_)
    | split
    | lift_lets
    | (fail_if_no_progress with_reducible refine Keeps.mk' ?_ rfl rfl rfl rfl))

theorem execResumeMemory_keeps {a0 a1 a2 a3} (h : Keeps s0 s) : Keeps s0 (after (execResumeMemory a0 a1 a2 a3 s) s) := by
  delta execResumeMemory
  repeat' (first
    | with_reducible assumption
    | (refine fun (_ : Keeps _ _) => ?_)
    | (intro x; first | (refine Keeps.cut (s0 := s0) (x := x) ?_ ?_ <;> (first | (clear_value x; intro hx) | subst x)) | (subst x; try dsimp -zeta only))
    | with_reducible refine next_keeps ?_
    | with_reducible (refine settle_keeps ?_)
    | with_reducible (refine mbResumeMemory_keeps ?_)
    | split
    | lift_lets
    | (fail_if_no_progress with_reducible refine Keeps.mk' ?_ rfl rfl rfl rfl))

theorem execGenHemCmdResume_keeps {a0 a1 a2} (h : Keeps s0 s) : Keeps s0 (after (execGenHemCmdResume a0 a1 a2 s) s) := by
  delta execGenHemCmdResume
  repeat' (first
    | with_reducible assumption
    | (refine fun (_ : Keeps _ _) => ?_)
    | (intro x; first | (refine Keeps.cut (s0 := s0) (x := x) ?_ ?_ <;> (first | (clear_value x; intro hx) | subst x)) | (subst x; try dsimp -zeta only))
    | with_reducible refine next_keeps ?_
    | with_reducible (refine settle_keeps ?_)
    | with_reducible (refine tryResume_keeps ?_)
    | split
    | lift_lets
    | (fail_if_no_progress with_reducible refine Keeps.mk' ?_ rfl rfl rfl rfl))

theorem mbGetHemStatus_keeps {a0 a1} (h : Keeps s0 s) : Keeps s0 (mbGetHemStatus a0 a1 s) := by
  delta mbGetHemStatus
  repeat' (first
    | with_reducible assumption
    | (refine fun (_ : Keeps _ _) => ?_)
    | (intro x; first | (refine Keeps.cut (s0 := s0) (x := x) ?_ ?_ <;> (first | (clear_value x; intro hx) | subst x)) | (subst x; try dsimp -zeta only))
    | with_reducible (refine replyBad_keeps ?_)
    | with_reducible (refine replyOk_keeps ?_)
    | split
    | lift_lets
    | (fail_if_no_progress with_reducible refine Keeps.mk' ?_ rfl rfl rfl rfl))

theorem execGetHemStatus_keeps {a0 a1} (h : Keeps s0 s) : Keeps s0 (after (execGetHemStatus a0 a1 s) s) := by
  delta execGetHemStatus
  repeat' (first
    | with_reducible assumption
    | (refine fun (_ : Keeps _ _) => ?_)
    | (intro x; first | (refine Keeps.cut (s0 := s0) (x := x) ?_ ?_ <;> (first | (clear_value x; intro hx) | subst x)) | (subst x; try dsimp -zeta only))
    | with_reducible refine next_keeps ?_
    | with_reducible (refine settle_keeps ?_)
    | with_reducible (refine mbGetHemStatus_keeps ?_)
    | split
    | lift_lets
    | (fail_if_no_progress with_reducible refine Keeps.mk' ?_ rfl rfl rfl rfl))

theorem mbSetRestoreMode_keeps {a0 a1} (h : Keeps s0 s) : Keeps s0 (mbSetRestoreMode a0 a1 s) := by
  delta mbSetRestoreMode
  repeat' (first
    | with_reducible assumption
    | (refine fun (_ : Keeps _ _) => ?_)
    | (intro x; first | (refine Keeps.cut (s0 := s0) (x := x) ?_ ?_ <;> (first | (clear_value x; intro hx) | subst x)) | (subst x; try dsimp -zeta only))
    | with_reducible (refine replyBad_keeps ?_)
    | with_reducible (refine replyCode_keeps ?_)
    | with_reducible (refine wr_keeps ?_)
    | with_reducible (refine wrF_keeps ?_)
    | with_reducible (refine forEach_keeps ?_ fun s a hs => ?_)
    | split
    | lift_lets
    | (fail_if_no_progress with_reducible refine Keeps.mk' ?_ rfl rfl rfl rfl))

theorem execSetRestoreMode_keeps {a0 a1} (h : Keeps s0 s) : Keeps s0 (after (execSetRestoreMode a0 a1 s) s) := by
  delta execSetRestoreMode
  repeat' (first
    | with_reducible assumption
    | (refine fun (_ : Keeps _ _) => ?_)
    | (intro x; first | (refine Keeps.cut (s0 := s0) (x := x) ?_ ?_ <;> (first | (clear_value x; intro hx) | subst x)) | (subst x; try dsimp -zeta only))
    | with_reducible refine next_keeps ?_
    | with_reducible (refine settle_keeps ?_)
    | with_reducible (refine mbSetRestoreMode_keeps ?_)
    | split
    | lift_lets
    | (fail_if_no_progress with_reducible refine Keeps.mk' ?_ rfl rfl rfl rfl))

theorem execRestoreStart_keeps (h : Keeps s0 s) : Keeps s0 (after (execRestoreStart s) s) := by
  delta execRestoreStart
  repeat' (first
    | with_reducible assumption
    | (refine fun (_ : Keeps _ _) => ?_)
    | (intro x; first | (refine Keeps.cut (s0 := s0) (x := x) ?_ ?_ <;> (first | (clear_value x; intro hx) | subst x)) | (subst x; try dsimp -zeta only))
    | with_reducible refine next_keeps ?_
    | with_reducible (refine settle_keeps ?_)
    | with_reducible (refine startRestore_keeps ?_)
    | split
    | lift_lets
    | (fail_if_no_progress with_reducible refine Keeps.mk' ?_ rfl rfl rfl rfl))

theorem execRestoreRebuildDone_keeps {a0 a1} (h : Keeps s0 s) : Keeps s0 (after (execRestoreRebuildDone a0 a1 s) s) := by
  delta execRestoreRebuildDone
  repeat' (first
    | with_reducible assumption
    | (refine fun (_ : Keeps _ _) => ?_)
    | (intro x; first | (refine Keeps.cut (s0 := s0) (x := x) ?_ ?_ <;> (first | (clear_value x; intro hx) | subst x)) | (subst x; try dsimp -zeta only))
    | with_reducible refine next_keeps ?_
    | with_reducible (refine settle_keeps ?_)
    | with_reducible (refine setPhase_keeps ?_)
    | with_reducible (refine restoreRebuilt_keeps ?_)
    | split
    | lift_lets
    | (fail_if_no_progress with_reducible refine Keeps.mk' ?_ rfl rfl rfl rfl))

theorem execOnTouchFetchDone_keeps {a0 a1 a2} (h : Keeps s0 s) : Keeps s0 (after (execOnTouchFetchDone a0 a1 a2 s) s) := by
  delta execOnTouchFetchDone
  repeat' (first
    | with_reducible assumption
    | (refine fun (_ : Keeps _ _) => ?_)
    | (intro x; first | (refine Keeps.cut (s0 := s0) (x := x) ?_ ?_ <;> (first | (clear_value x; intro hx) | subst x)) | (subst x; try dsimp -zeta only))
    | with_reducible refine next_keeps ?_
    | with_reducible (refine settle_keeps ?_)
    | with_reducible (refine raiseTo_keeps ?_)
    | with_reducible (refine addWrap_keeps ?_)
    | with_reducible (refine extreme_keeps ?_)
    | with_reducible (refine histAdd_keeps ?_)
    | with_reducible (refine fetchDone_keeps ?_)
    | split
    | lift_lets
    | (fail_if_no_progress with_reducible refine Keeps.mk' ?_ rfl rfl rfl rfl))

theorem execRestoreSweepFetch_keeps {a0 a1} (h : Keeps s0 s) : Keeps s0 (after (execRestoreSweepFetch a0 a1 s) s) := by
  delta execRestoreSweepFetch
  repeat' (first
    | with_reducible assumption
    | (refine fun (_ : Keeps _ _) => ?_)
    | (intro x; first | (refine Keeps.cut (s0 := s0) (x := x) ?_ ?_ <;> (first | (clear_value x; intro hx) | subst x)) | (subst x; try dsimp -zeta only))
    | with_reducible refine next_keeps ?_
    | with_reducible (refine settle_keeps ?_)
    | with_reducible (refine fetchDone_keeps ?_)
    | with_reducible (refine startFetch_keeps ?_)
    | with_reducible (refine touchLine_keeps ?_)
    | split
    | lift_lets
    | (fail_if_no_progress with_reducible refine Keeps.mk' ?_ rfl rfl rfl rfl))

theorem foldPage_keeps {a0 a1} (h : Keeps s0 s) : Keeps s0 (foldPage s a0 a1) := by
  delta foldPage
  repeat' (first
    | with_reducible assumption
    | (refine fun (_ : Keeps _ _) => ?_)
    | (intro x; first | (refine Keeps.cut (s0 := s0) (x := x) ?_ ?_ <;> (first | (clear_value x; intro hx) | subst x)) | (subst x; try dsimp -zeta only))
    | with_reducible (refine programAt_keeps ?_)
    | with_reducible (refine countNative_keeps ?_)
    | split
    | lift_lets
    | (fail_if_no_progress with_reducible refine Keeps.mk' ?_ rfl rfl rfl rfl))

theorem execFoldHemGeneration_keeps {a0 a1 a2} (h : Keeps s0 s) : Keeps s0 (after (execFoldHemGeneration a0 a1 a2 s) s) := by
  delta execFoldHemGeneration
  repeat' (first
    | with_reducible assumption
    | (refine fun (_ : Keeps _ _) => ?_)
    | (intro x; first | (refine Keeps.cut (s0 := s0) (x := x) ?_ ?_ <;> (first | (clear_value x; intro hx) | subst x)) | (subst x; try dsimp -zeta only))
    | with_reducible refine next_keeps ?_
    | with_reducible (refine settle_keeps ?_)
    | with_reducible (refine foldPage_keeps ?_)
    | with_reducible (refine programPart_keeps ?_)
    | with_reducible (refine programAt_keeps ?_)
    | with_reducible (refine modGen_keeps ?_)
    | with_reducible (refine spaceFreed_keeps ?_)
    | with_reducible (refine icu_keeps ?_)
    | with_reducible (refine freeUnused_keeps ?_)
    | with_reducible (refine rebuildLoc_keeps ?_)
    | with_reducible (refine forEach_keeps ?_ fun s a hs => ?_)
    | split
    | lift_lets
    | (fail_if_no_progress with_reducible refine Keeps.mk' ?_ rfl rfl rfl rfl))

theorem execBastingStart_keeps {a0} (h : Keeps s0 s) : Keeps s0 (after (execBastingStart a0 s) s) := by
  delta execBastingStart
  repeat' (first
    | with_reducible assumption
    | (refine fun (_ : Keeps _ _) => ?_)
    | (intro x; first | (refine Keeps.cut (s0 := s0) (x := x) ?_ ?_ <;> (first | (clear_value x; intro hx) | subst x)) | (subst x; try dsimp -zeta only))
    | with_reducible refine next_keeps ?_
    | with_reducible (refine settle_keeps ?_)
    | with_reducible (refine blockWaiting_keeps ?_)
    | with_reducible (refine trySealing_keeps ?_)
    | with_reducible (refine modGen_keeps ?_)
    | split
    | lift_lets
    | (fail_if_no_progress with_reducible refine Keeps.mk' ?_ rfl rfl rfl rfl))

theorem captureSwatch_keeps {a0 a1 a2 a3} (h : Keeps s0 s) : Keeps s0 (captureSwatch s a0 a1 a2 a3) := by
  delta captureSwatch
  repeat' (first
    | with_reducible assumption
    | (refine fun (_ : Keeps _ _) => ?_)
    | (intro x; first | (refine Keeps.cut (s0 := s0) (x := x) ?_ ?_ <;> (first | (clear_value x; intro hx) | subst x)) | (subst x; try dsimp -zeta only))
    | with_reducible (refine setSt_keeps ?_)
    | with_reducible (refine freeSlot_keeps ?_)
    | with_reducible (refine retrySlots_keeps ?_)
    | with_reducible (refine addProg_keeps ?_)
    | with_reducible (refine activatePage_keeps ?_)
    | split
    | lift_lets
    | (fail_if_no_progress with_reducible refine Keeps.mk' ?_ rfl rfl rfl rfl))

theorem touchWalk_keeps {a0 a1 a2} (h : Keeps s0 s) : Keeps s0 (touchWalk s a0 a1 a2) := by
  delta touchWalk
  repeat' (first
    | with_reducible assumption
    | (refine fun (_ : Keeps _ _) => ?_)
    | (intro x; first | (refine Keeps.cut (s0 := s0) (x := x) ?_ ?_ <;> (first | (clear_value x; intro hx) | subst x)) | (subst x; try dsimp -zeta only))
    | with_reducible (refine touchLine_keeps ?_)
    | with_reducible (refine forEach_keeps ?_ fun s a hs => ?_)
    | split
    | lift_lets
    | (fail_if_no_progress with_reducible refine Keeps.mk' ?_ rfl rfl rfl rfl))

theorem execCapture_keeps {a0} (h : Keeps s0 s) : Keeps s0 (after (execCapture a0 s) s) := by
  delta execCapture
  repeat' (first
    | with_reducible assumption
    | (refine fun (_ : Keeps _ _) => ?_)
    | (intro x; first | (refine Keeps.cut (s0 := s0) (x := x) ?_ ?_ <;> (first | (clear_value x; intro hx) | subst x)) | (subst x; try dsimp -zeta only))
    | with_reducible refine next_keeps ?_
    | with_reducible (refine settle_keeps ?_)
    | with_reducible (refine blockWaiting_keeps ?_)
    | with_reducible (refine waitAtMax_keeps ?_)
    | with_reducible (refine pace_keeps ?_)
    | with_reducible (refine captureSwatch_keeps ?_)
    | with_reducible (refine mapAccess_keeps ?_)
    | with_reducible (refine touchWalk_keeps ?_)
    | split
    | lift_lets
    | (fail_if_no_progress with_reducible refine Keeps.mk' ?_ rfl rfl rfl rfl))

theorem recordBad_keeps {a0} (h : Keeps s0 s) : Keeps s0 (recordBad s a0) := by
  delta recordBad
  repeat' (first
    | with_reducible assumption
    | (refine fun (_ : Keeps _ _) => ?_)
    | (intro x; first | (refine Keeps.cut (s0 := s0) (x := x) ?_ ?_ <;> (first | (clear_value x; intro hx) | subst x)) | (subst x; try dsimp -zeta only))
    | with_reducible (refine addRec_keeps ?_)
    | split
    | lift_lets
    | (fail_if_no_progress with_reducible refine Keeps.mk' ?_ rfl rfl rfl rfl))

theorem basted_keeps {a0 a1} (h : Keeps s0 s) : Keeps s0 (basted s a0 a1) := by
  delta basted
  repeat' (first
    | with_reducible assumption
    | (refine fun (_ : Keeps _ _) => ?_)
    | (intro x; first | (refine Keeps.cut (s0 := s0) (x := x) ?_ ?_ <;> (first | (clear_value x; intro hx) | subst x)) | (subst x; try dsimp -zeta only))
    | with_reducible (refine countNative_keeps ?_)
    | with_reducible (refine storePage_keeps ?_)
    | with_reducible (refine programAt_keeps ?_)
    | with_reducible (refine recordBad_keeps ?_)
    | with_reducible (refine addDelta_keeps ?_)
    | with_reducible (refine setGrp_keeps ?_)
    | with_reducible (refine trySealing_keeps ?_)
    | with_reducible (refine updateRates_keeps ?_)
    | with_reducible (refine reclaimStore_keeps ?_)
    | with_reducible (refine pace_keeps ?_)
    | split
    | lift_lets
    | (fail_if_no_progress with_reducible refine Keeps.mk' ?_ rfl rfl rfl rfl))

theorem bastedInHem_keeps {a0 a1} (h : Keeps s0 s) : Keeps s0 (bastedInHem s a0 a1) := by
  delta bastedInHem
  repeat' (first
    | with_reducible assumption
    | (refine fun (_ : Keeps _ _) => ?_)
    | (intro x; first | (refine Keeps.cut (s0 := s0) (x := x) ?_ ?_ <;> (first | (clear_value x; intro hx) | subst x)) | (subst x; try dsimp -zeta only))
    | with_reducible (refine storePage_keeps ?_)
    | with_reducible (refine programAt_keeps ?_)
    | with_reducible (refine addDelta_keeps ?_)
    | split
    | lift_lets
    | (fail_if_no_progress with_reducible refine Keeps.mk' ?_ rfl rfl rfl rfl))

theorem hemSaved_keeps {a0 a1} (h : Keeps s0 s) : Keeps s0 (hemSaved s a0 a1) := by
  delta hemSaved
  repeat' (first
    | with_reducible assumption
    | (refine fun (_ : Keeps _ _) => ?_)
    | (intro x; first | (refine Keeps.cut (s0 := s0) (x := x) ?_ ?_ <;> (first | (clear_value x; intro hx) | subst x)) | (subst x; try dsimp -zeta only))
    | with_reducible (refine storePage_keeps ?_)
    | with_reducible (refine programAt_keeps ?_)
    | with_reducible (refine addDelta_keeps ?_)
    | with_reducible (refine modGen_keeps ?_)
    | with_reducible (refine addWrap_keeps ?_)
    | split
    | lift_lets
    | (fail_if_no_progress with_reducible refine Keeps.mk' ?_ rfl rfl rfl rfl))

theorem execFlashProgramComplete_keeps {a0 a1 a2} (h : Keeps s0 s) : Keeps s0 (after (execFlashProgramComplete a0 a1 a2 s) s) := by
  delta execFlashProgramComplete
  repeat' (first
    | with_reducible assumption
    | (refine fun (_ : Keeps _ _) => ?_)
    | (intro x; first | (refine Keeps.cut (s0 := s0) (x := x) ?_ ?_ <;> (first | (clear_value x; intro hx) | subst x)) | (subst x; try dsimp -zeta only))
    | with_reducible refine next_keeps ?_
    | with_reducible (refine settle_keeps ?_)
    | with_reducible (refine releaseBuffers_keeps ?_)
    | with_reducible (refine hemSaved_keeps ?_)
    | with_reducible (refine bastedInHem_keeps ?_)
    | with_reducible (refine basted_keeps ?_)
    | with_reducible (refine programFailed_keeps ?_)
    | with_reducible (refine addWrap_keeps ?_)
    | split
    | lift_lets
    | (fail_if_no_progress with_reducible refine Keeps.mk' ?_ rfl rfl rfl rfl))

theorem reliefFull_keeps (h : Keeps s0 s) : Keeps s0 (reliefFull s) := by
  delta reliefFull
  repeat' (first
    | with_reducible assumption
    | (refine fun (_ : Keeps _ _) => ?_)
    | (intro x; first | (refine Keeps.cut (s0 := s0) (x := x) ?_ ?_ <;> (first | (clear_value x; intro hx) | subst x)) | (subst x; try dsimp -zeta only))
    | with_reducible (refine report_keeps ?_)
    | with_reducible (refine enforce_keeps ?_)
    | with_reducible (refine postPace_keeps ?_)
    | with_reducible (refine retarget_keeps ?_)
    | with_reducible (refine forEach_keeps ?_ fun s a hs => ?_)
    | split
    | lift_lets
    | (fail_if_no_progress with_reducible refine Keeps.mk' ?_ rfl rfl rfl rfl))

theorem reliefStart_keeps (h : Keeps s0 s) : Keeps s0 (reliefStart s) := by
  delta reliefStart
  repeat' (first
    | with_reducible assumption
    | (refine fun (_ : Keeps _ _) => ?_)
    | (intro x; first | (refine Keeps.cut (s0 := s0) (x := x) ?_ ?_ <;> (first | (clear_value x; intro hx) | subst x)) | (subst x; try dsimp -zeta only))
    | with_reducible (refine icu_keeps ?_)
    | with_reducible (refine takeBuffers_keeps ?_)
    | with_reducible (refine reliefFull_keeps ?_)
    | split
    | lift_lets
    | (fail_if_no_progress with_reducible refine Keeps.mk' ?_ rfl rfl rfl rfl))

theorem execReliefStart_keeps (h : Keeps s0 s) : Keeps s0 (after (execReliefStart s) s) := by
  delta execReliefStart
  repeat' (first
    | with_reducible assumption
    | (refine fun (_ : Keeps _ _) => ?_)
    | (intro x; first | (refine Keeps.cut (s0 := s0) (x := x) ?_ ?_ <;> (first | (clear_value x; intro hx) | subst x)) | (subst x; try dsimp -zeta only))
    | with_reducible refine next_keeps ?_
    | with_reducible (refine settle_keeps ?_)
    | with_reducible (refine reliefStart_keeps ?_)
    | split
    | lift_lets
    | (fail_if_no_progress with_reducible refine Keeps.mk' ?_ rfl rfl rfl rfl))

theorem relieved_keeps {a0 a1 a2 a3} (h : Keeps s0 s) : Keeps s0 (relieved s a0 a1 a2 a3) := by
  delta relieved
  repeat' (first
    | with_reducible assumption
    | (refine fun (_ : Keeps _ _) => ?_)
    | (intro x; first | (refine Keeps.cut (s0 := s0) (x := x) ?_ ?_ <;> (first | (clear_value x; intro hx) | subst x)) | (subst x; try dsimp -zeta only))
    | with_reducible (refine releaseBuffers_keeps ?_)
    | with_reducible (refine storePage_keeps ?_)
    | with_reducible (refine programAt_keeps ?_)
    | with_reducible (refine addDelta_keeps ?_)
    | with_reducible (refine addRec_keeps ?_)
    | with_reducible (refine modGen_keeps ?_)
    | with_reducible (refine setSt_keeps ?_)
    | with_reducible (refine freeSlot_keeps ?_)
    | with_reducible (refine setGrp_keeps ?_)
    | with_reducible (refine pace_keeps ?_)
    | with_reducible (refine trySealing_keeps ?_)
    | with_reducible (refine addSat_keeps ?_)
    | split
    | lift_lets
    | (fail_if_no_progress with_reducible refine Keeps.mk' ?_ rfl rfl rfl rfl))

theorem execReliefProgramDone_keeps {a0 a1} (h : Keeps s0 s) : Keeps s0 (after (execReliefProgramDone a0 a1 s) s) := by
  delta execReliefProgramDone
  repeat' (first
    | with_reducible assumption
    | (refine fun (_ : Keeps _ _) => ?_)
    | (intro x; first | (refine Keeps.cut (s0 := s0) (x := x) ?_ ?_ <;> (first | (clear_value x; intro hx) | subst x)) | (subst x; try dsimp -zeta only))
    | with_reducible refine next_keeps ?_
    | with_reducible (refine settle_keeps ?_)
    | with_reducible (refine suspendErase_keeps ?_)
    | with_reducible (refine relieved_keeps ?_)
    | with_reducible (refine reliefStart_keeps ?_)
    | with_reducible (refine retrySlots_keeps ?_)
    | with_reducible (refine programFailed_keeps ?_)
    | split
    | lift_lets
    | (fail_if_no_progress with_reducible refine Keeps.mk' ?_ rfl rfl rfl rfl))

theorem partBack_keeps {a0 a1 a2 a3 a4} (h : Keeps s0 s) : Keeps s0 (partBack s a0 a1 a2 a3 a4) := by
  delta partBack
  repeat' (first
    | with_reducible assumption
    | (refine fun (_ : Keeps _ _) => ?_)
    | (intro x; first | (refine Keeps.cut (s0 := s0) (x := x) ?_ ?_ <;> (first | (clear_value x; intro hx) | subst x)) | (subst x; try dsimp -zeta only))
    | with_reducible (refine programPart_keeps ?_)
    | with_reducible (refine modGen_keeps ?_)
    | with_reducible (refine trySeal_keeps ?_)
    | with_reducible (refine clearExhausted_keeps ?_)
    | with_reducible (refine countMismatch_keeps ?_)
    | with_reducible (refine mismatch_keeps ?_)
    | split
    | lift_lets
    | (fail_if_no_progress with_reducible refine Keeps.mk' ?_ rfl rfl rfl rfl))

theorem hemPartBack_keeps {a0 a1 a2 a3 a4} (h : Keeps s0 s) : Keeps s0 (hemPartBack s a0 a1 a2 a3 a4) := by
  delta hemPartBack
  repeat' (first
    | with_reducible assumption
    | (refine fun (_ : Keeps _ _) => ?_)
    | (intro x; first | (refine Keeps.cut (s0 := s0) (x := x) ?_ ?_ <;> (first | (clear_value x; intro hx) | subst x)) | (subst x; try dsimp -zeta only))
    | with_reducible (refine programPart_keeps ?_)
    | with_reducible (refine modGen_keeps ?_)
    | with_reducible (refine mismatch_keeps ?_)
    | with_reducible (refine addSat_keeps ?_)
    | with_reducible (refine sealsEnd_keeps ?_)
    | with_reducible (refine abandonSeal_keeps ?_)
    | split
    | lift_lets
    | (fail_if_no_progress with_reducible refine Keeps.mk' ?_ rfl rfl rfl rfl))

theorem execDeltaReadback_keeps {a0 a1 a2 a3} (h : Keeps s0 s) : Keeps s0 (after (execDeltaReadback a0 a1 a2 a3 s) s) := by
  delta execDeltaReadback
  repeat' (first
    | with_reducible assumption
    | (refine fun (_ : Keeps _ _) => ?_)
    | (intro x; first | (refine Keeps.cut (s0 := s0) (x := x) ?_ ?_ <;> (first | (clear_value x; intro hx) | subst x)) | (subst x; try dsimp -zeta only))
    | with_reducible refine next_keeps ?_
    | with_reducible (refine settle_keeps ?_)
    | with_reducible (refine hemPartBack_keeps ?_)
    | with_reducible (refine partBack_keeps ?_)
    | split
    | lift_lets
    | (fail_if_no_progress with_reducible refine Keeps.mk' ?_ rfl rfl rfl rfl))

theorem recEffect_keeps {a0 a1} (h : Keeps s0 s) : Keeps s0 (recEffect s a0 a1) := by
  delta recEffect
  repeat' (first
    | with_reducible assumption
    | (refine fun (_ : Keeps _ _) => ?_)
    | (intro x; first | (refine Keeps.cut (s0 := s0) (x := x) ?_ ?_ <;> (first | (clear_value x; intro hx) | subst x)) | (subst x; try dsimp -zeta only))
    | with_reducible (refine modGen_keeps ?_)
    | split
    | lift_lets
    | (fail_if_no_progress with_reducible refine Keeps.mk' ?_ rfl rfl rfl rfl))

theorem recReadback_keeps {a0 a1 a2 a3} (h : Keeps s0 s) : Keeps s0 (recReadback s a0 a1 a2 a3) := by
  delta recReadback
  repeat' (first
    | with_reducible assumption
    | (refine fun (_ : Keeps _ _) => ?_)
    | (intro x; first | (refine Keeps.cut (s0 := s0) (x := x) ?_ ?_ <;> (first | (clear_value x; intro hx) | subst x)) | (subst x; try dsimp -zeta only))
    | with_reducible (refine programAt_keeps ?_)
    | with_reducible (refine modGen_keeps ?_)
    | with_reducible (refine setGrp_keeps ?_)
    | with_reducible (refine recEffect_keeps ?_)
    | with_reducible (refine replyCode_keeps ?_)
    | with_reducible (refine wr_keeps ?_)
    | with_reducible (refine reclaimStore_keeps ?_)
    | with_reducible (refine trimRing_keeps ?_)
    | with_reducible (refine endDamage_keeps ?_)
    | with_reducible (refine programFailed_keeps ?_)
    | split
    | lift_lets
    | (fail_if_no_progress with_reducible refine Keeps.mk' ?_ rfl rfl rfl rfl))

theorem keyReadback_keeps {a0 a1 a2} (h : Keeps s0 s) : Keeps s0 (keyReadback s a0 a1 a2) := by
  delta keyReadback
  repeat' (first
    | with_reducible assumption
    | (refine fun (_ : Keeps _ _) => ?_)
    | (intro x; first | (refine Keeps.cut (s0 := s0) (x := x) ?_ ?_ <;> (first | (clear_value x; intro hx) | subst x)) | (subst x; try dsimp -zeta only))
    | with_reducible (refine programAt_keeps ?_)
    | with_reducible (refine setGrp_keeps ?_)
    | with_reducible (refine programFailed_keeps ?_)
    | split
    | lift_lets
    | (fail_if_no_progress with_reducible refine Keeps.mk' ?_ rfl rfl rfl rfl))

theorem execSealReadback_keeps {a0 a1 a2 a3} (h : Keeps s0 s) : Keeps s0 (after (execSealReadback a0 a1 a2 a3 s) s) := by
  delta execSealReadback
  repeat' (first
    | with_reducible assumption
    | (refine fun (_ : Keeps _ _) => ?_)
    | (intro x; first | (refine Keeps.cut (s0 := s0) (x := x) ?_ ?_ <;> (first | (clear_value x; intro hx) | subst x)) | (subst x; try dsimp -zeta only))
    | with_reducible refine next_keeps ?_
    | with_reducible (refine settle_keeps ?_)
    | with_reducible (refine programAt_keeps ?_)
    | with_reducible (refine sewn_keeps ?_)
    | with_reducible (refine modGen_keeps ?_)
    | with_reducible (refine countMismatch_keeps ?_)
    | with_reducible (refine mismatch_keeps ?_)
    | with_reducible (refine keyReadback_keeps ?_)
    | with_reducible (refine recReadback_keeps ?_)
    | split
    | lift_lets
    | (fail_if_no_progress with_reducible refine Keeps.mk' ?_ rfl rfl rfl rfl))

theorem execSealRetry_keeps {a0} (h : Keeps s0 s) : Keeps s0 (after (execSealRetry a0 s) s) := by
  delta execSealRetry
  repeat' (first
    | with_reducible assumption
    | (refine fun (_ : Keeps _ _) => ?_)
    | (intro x; first | (refine Keeps.cut (s0 := s0) (x := x) ?_ ?_ <;> (first | (clear_value x; intro hx) | subst x)) | (subst x; try dsimp -zeta only))
    | with_reducible refine next_keeps ?_
    | with_reducible (refine addSat_keeps ?_)
    | split
    | lift_lets
    | (fail_if_no_progress with_reducible refine Keeps.mk' ?_ rfl rfl rfl rfl))

theorem execVerifyPass_keeps {a0 a1 a2} (h : Keeps s0 s) : Keeps s0 (after (execVerifyPass a0 a1 a2 s) s) := by
  delta execVerifyPass
  repeat' (first
    | with_reducible assumption
    | (refine fun (_ : Keeps _ _) => ?_)
    | (intro x; first | (refine Keeps.cut (s0 := s0) (x := x) ?_ ?_ <;> (first | (clear_value x; intro hx) | subst x)) | (subst x; try dsimp -zeta only))
    | with_reducible refine next_keeps ?_
    | with_reducible (refine settle_keeps ?_)
    | with_reducible (refine modGen_keeps ?_)
    | with_reducible (refine freeUnused_keeps ?_)
    | with_reducible (refine verifyFail_keeps ?_)
    | with_reducible (refine verifyDone_keeps ?_)
    | with_reducible (refine forEach_keeps ?_ fun s a hs => ?_)
    | split
    | lift_lets
    | (fail_if_no_progress with_reducible refine Keeps.mk' ?_ rfl rfl rfl rfl))

theorem execVerifySweep_keeps {a0} (h : Keeps s0 s) : Keeps s0 (after (execVerifySweep a0 s) s) := by
  delta execVerifySweep
  repeat' (first
    | with_reducible assumption
    | (refine fun (_ : Keeps _ _) => ?_)
    | (intro x; first | (refine Keeps.cut (s0 := s0) (x := x) ?_ ?_ <;> (first | (clear_value x; intro hx) | subst x)) | (subst x; try dsimp -zeta only))
    | with_reducible refine next_keeps ?_
    | with_reducible (refine settle_keeps ?_)
    | with_reducible (refine verifyFail_keeps ?_)
    | with_reducible (refine wr_keeps ?_)
    | with_reducible (refine icu_keeps ?_)
    | with_reducible (refine forEach_keeps ?_ fun s a hs => ?_)
    | split
    | lift_lets
    | (fail_if_no_progress with_reducible refine Keeps.mk' ?_ rfl rfl rfl rfl))

theorem resetRegs_keeps {a0} (h : Keeps s0 s) : Keeps s0 (resetRegs s a0) := Keeps.regs h filter_wf

theorem resetDch_keeps {a0} (h : Keeps s0 s) : Keeps s0 (resetDch s a0) := by
  delta resetDch
  repeat' (first
    | with_reducible assumption
    | (refine fun (_ : Keeps _ _) => ?_)
    | (intro x; first | (refine Keeps.cut (s0 := s0) (x := x) ?_ ?_ <;> (first | (clear_value x; intro hx) | subst x)) | (subst x; try dsimp -zeta only))
    | with_reducible (refine setDch_keeps ?_)
    | with_reducible (refine clearQueues_keeps ?_)
    | with_reducible (refine respond_keeps ?_)
    | with_reducible (refine forEach_keeps ?_ fun s a hs => ?_)
    | split
    | lift_lets
    | (fail_if_no_progress with_reducible refine Keeps.mk' ?_ rfl rfl rfl rfl))

theorem resetFch_keeps {a0} (h : Keeps s0 s) : Keeps s0 (resetFch s a0) := by
  delta resetFch
  repeat' (first
    | with_reducible assumption
    | (refine fun (_ : Keeps _ _) => ?_)
    | (intro x; first | (refine Keeps.cut (s0 := s0) (x := x) ?_ ?_ <;> (first | (clear_value x; intro hx) | subst x)) | (subst x; try dsimp -zeta only))
    | with_reducible (refine setBlk_keeps ?_)
    | with_reducible (refine setLun_keeps ?_)
    | with_reducible (refine setFch_keeps ?_)
    | with_reducible (refine forEach_keeps ?_ fun s a hs => ?_)
    | split
    | lift_lets
    | (fail_if_no_progress with_reducible refine Keeps.mk' ?_ rfl rfl rfl rfl))

theorem resetLogic_keeps {a0} (h : Keeps s0 s) : Keeps s0 (resetLogic s a0) := by
  delta resetLogic
  repeat' (first
    | with_reducible assumption
    | (refine fun (_ : Keeps _ _) => ?_)
    | (intro x; first | (refine Keeps.cut (s0 := s0) (x := x) ?_ ?_ <;> (first | (clear_value x; intro hx) | subst x)) | (subst x; try dsimp -zeta only))
    | with_reducible (refine restartPair_keeps ?_)
    | with_reducible (refine evrLost_keeps ?_)
    | with_reducible (refine cflAbortAll_keeps ?_)
    | with_reducible (refine abandonTransfer_keeps ?_)
    | with_reducible (refine recomputeBudget_keeps ?_)
    | with_reducible (refine judgeEnergy_keeps ?_)
    | with_reducible (refine setChgEn_keeps ?_)
    | with_reducible (refine applyDoubled_keeps ?_)
    | with_reducible (refine applyRelief_keeps ?_)
    | with_reducible (refine thermalClear_keeps ?_)
    | with_reducible (refine xferEnd_keeps ?_)
    | with_reducible (refine poolLost_keeps ?_)
    | with_reducible (refine updateScale_keeps ?_)
    | with_reducible (refine disarm_keeps ?_)
    | with_reducible (refine linkOff_keeps ?_)
    | with_reducible (refine noteReasons_keeps ?_)
    | with_reducible (refine setGrp_keeps ?_)
    | with_reducible (refine resetDch_keeps ?_)
    | with_reducible (refine setDch_keeps ?_)
    | with_reducible (refine resetFch_keeps ?_)
    | with_reducible (refine wrB_keeps ?_)
    | with_reducible (refine forEach_keeps ?_ fun s a hs => ?_)
    | (fail_if_no_progress with_reducible refine iteS_keeps ?_ ?_)
    | (fail_if_no_progress with_reducible refine Keeps.noStk ?_ rfl)
    | split
    | lift_lets
    | (fail_if_no_progress with_reducible refine Keeps.mk' ?_ rfl rfl rfl rfl))

theorem enableEffect_keeps {a0 a1} (h : Keeps s0 s) : Keeps s0 (enableEffect s a0 a1) := by
  delta enableEffect
  repeat' (first
    | with_reducible assumption
    | (refine fun (_ : Keeps _ _) => ?_)
    | (intro x; first | (refine Keeps.cut (s0 := s0) (x := x) ?_ ?_ <;> (first | (clear_value x; intro hx) | subst x)) | (subst x; try dsimp -zeta only))
    | with_reducible (refine evrLost_keeps ?_)
    | with_reducible (refine retryWaits_keeps ?_)
    | with_reducible (refine applyRelief_keeps ?_)
    | with_reducible (refine thermalJoin_keeps ?_)
    | with_reducible (refine thermalClear_keeps ?_)
    | with_reducible (refine forEach_keeps ?_ fun s a hs => ?_)
    | split
    | lift_lets
    | (fail_if_no_progress with_reducible refine Keeps.mk' ?_ rfl rfl rfl rfl))

theorem batEnable_keeps (h : Keeps s0 s) : Keeps s0 (batEnable s) := by
  delta batEnable
  repeat' (first
    | with_reducible assumption
    | (refine fun (_ : Keeps _ _) => ?_)
    | (intro x; first | (refine Keeps.cut (s0 := s0) (x := x) ?_ ?_ <;> (first | (clear_value x; intro hx) | subst x)) | (subst x; try dsimp -zeta only))
    | with_reducible (refine report_keeps ?_)
    | with_reducible (refine recomputeBudget_keeps ?_)
    | with_reducible (refine judgeEnergy_keeps ?_)
    | split
    | lift_lets
    | (fail_if_no_progress with_reducible refine Keeps.mk' ?_ rfl rfl rfl rfl))

theorem setCtrl_keeps {a0 a1 a2} (h : Keeps s0 s) : Keeps s0 (setCtrl s a0 a1 a2) := by
  delta setCtrl
  repeat' (first
    | with_reducible assumption
    | (refine fun (_ : Keeps _ _) => ?_)
    | (intro x; first | (refine Keeps.cut (s0 := s0) (x := x) ?_ ?_ <;> (first | (clear_value x; intro hx) | subst x)) | (subst x; try dsimp -zeta only))
    | with_reducible (refine accessErr_keeps ?_)
    | with_reducible (refine wr_keeps ?_)
    | with_reducible (refine enableEffect_keeps ?_)
    | with_reducible (refine batEnable_keeps ?_)
    | with_reducible (refine applyPower_keeps ?_)
    | split
    | lift_lets
    | (fail_if_no_progress with_reducible refine Keeps.mk' ?_ rfl rfl rfl rfl))

theorem ctrlWrite_keeps {a0 a1} (h : Keeps s0 s) : Keeps s0 (ctrlWrite s a0 a1) := by
  delta ctrlWrite
  repeat' (first
    | with_reducible assumption
    | (refine fun (_ : Keeps _ _) => ?_)
    | (intro x; first | (refine Keeps.cut (s0 := s0) (x := x) ?_ ?_ <;> (first | (clear_value x; intro hx) | subst x)) | (subst x; try dsimp -zeta only))
    | with_reducible (refine accessErr_keeps ?_)
    | with_reducible (refine setCtrl_keeps ?_)
    | split
    | lift_lets
    | (fail_if_no_progress with_reducible refine Keeps.mk' ?_ rfl rfl rfl rfl))

theorem softReset_keeps {a0 a1} (h : Keeps s0 s) : Keeps s0 (softReset s a0 a1) := by
  delta softReset
  repeat' (first
    | with_reducible assumption
    | (refine fun (_ : Keeps _ _) => ?_)
    | (intro x; first | (refine Keeps.cut (s0 := s0) (x := x) ?_ ?_ <;> (first | (clear_value x; intro hx) | subst x)) | (subst x; try dsimp -zeta only))
    | with_reducible (refine resetLogic_keeps ?_)
    | with_reducible (refine resetRegs_keeps ?_)
    | with_reducible (refine accessErr_keeps ?_)
    | with_reducible (refine wr_keeps ?_)
    | with_reducible (refine enableEffect_keeps ?_)
    | with_reducible (refine batEnable_keeps ?_)
    | with_reducible (refine updateRegime_keeps ?_)
    | with_reducible (refine updateTset_keeps ?_)
    | with_reducible (refine applyPower_keeps ?_)
    | split
    | lift_lets
    | (fail_if_no_progress with_reducible refine Keeps.mk' ?_ rfl rfl rfl rfl))

end Sys2Proof.Machine
end

