-- ==== Sys2Proof/Laws/KeepsBat.lean ====
section
/-! SUPPORT. Frame lemmas of the operations of Machine/Bat, Machine/Cfl, Machine/Fst, Machine/Thermal, Machine/Power: each keeps the queue and every
invariant of `Keeps`. -/

set_option linter.unusedTactic false
set_option linter.unreachableTactic false

namespace Sys2Proof.Machine

open Bits

variable {s0 s : State}

theorem acceptSpan_keeps (h : Keeps s0 s) : Keeps s0 (acceptSpan s) := by
  delta acceptSpan
  repeat' (first
    | with_reducible assumption
    | (refine fun (_ : Keeps _ _) => ?_)
    | (intro x; first | (refine Keeps.cut (s0 := s0) (x := x) ?_ ?_ <;> (first | (clear_value x; intro hx) | subst x)) | (subst x; try dsimp -zeta only))
    | with_reducible (refine addSat_keeps ?_)
    | with_reducible (refine wrF_keeps ?_)
    | with_reducible (refine icu_keeps ?_)
    | split
    | lift_lets
    | (fail_if_no_progress with_reducible refine Keeps.mk' ?_ rfl rfl rfl rfl))

theorem judgeSpan_keeps (h : Keeps s0 s) : Keeps s0 (judgeSpan s) := by
  delta judgeSpan
  repeat' (first
    | with_reducible assumption
    | (refine fun (_ : Keeps _ _) => ?_)
    | (intro x; first | (refine Keeps.cut (s0 := s0) (x := x) ?_ ?_ <;> (first | (clear_value x; intro hx) | subst x)) | (subst x; try dsimp -zeta only))
    | with_reducible (refine icu_keeps ?_)
    | with_reducible (refine acceptSpan_keeps ?_)
    | split
    | lift_lets
    | (fail_if_no_progress with_reducible refine Keeps.mk' ?_ rfl rfl rfl rfl))

theorem restEnd_keeps (h : Keeps s0 s) : Keeps s0 (restEnd s) := by
  delta restEnd
  repeat' (first
    | with_reducible assumption
    | (refine fun (_ : Keeps _ _) => ?_)
    | (intro x; first | (refine Keeps.cut (s0 := s0) (x := x) ?_ ?_ <;> (first | (clear_value x; intro hx) | subst x)) | (subst x; try dsimp -zeta only))
    | with_reducible (refine judgeSpan_keeps ?_)
    | with_reducible (refine icu_keeps ?_)
    | with_reducible (refine report_keeps ?_)
    | split
    | lift_lets
    | (fail_if_no_progress with_reducible refine Keeps.mk' ?_ rfl rfl rfl rfl))

theorem restCount_keeps {a0} (h : Keeps s0 s) : Keeps s0 (restCount s a0) := by
  delta restCount
  repeat' (first
    | with_reducible assumption
    | (refine fun (_ : Keeps _ _) => ?_)
    | (intro x; first | (refine Keeps.cut (s0 := s0) (x := x) ?_ ?_ <;> (first | (clear_value x; intro hx) | subst x)) | (subst x; try dsimp -zeta only))
    | with_reducible (refine breakRest_keeps ?_)
    | split
    | lift_lets
    | (fail_if_no_progress with_reducible refine Keeps.mk' ?_ rfl rfl rfl rfl))

theorem restAge_keeps {a0} (h : Keeps s0 s) : Keeps s0 (restAge s a0) := by
  delta restAge
  repeat' (first
    | with_reducible assumption
    | (refine fun (_ : Keeps _ _) => ?_)
    | (intro x; first | (refine Keeps.cut (s0 := s0) (x := x) ?_ ?_ <;> (first | (clear_value x; intro hx) | subst x)) | (subst x; try dsimp -zeta only))
    | with_reducible (refine icu_keeps ?_)
    | with_reducible (refine report_keeps ?_)
    | split
    | lift_lets
    | (fail_if_no_progress with_reducible refine Keeps.mk' ?_ rfl rfl rfl rfl))

theorem noteTemp_keeps (h : Keeps s0 s) : Keeps s0 (noteTemp s) := by
  delta noteTemp
  repeat' (first
    | with_reducible assumption
    | (refine fun (_ : Keeps _ _) => ?_)
    | (intro x; first | (refine Keeps.cut (s0 := s0) (x := x) ?_ ?_ <;> (first | (clear_value x; intro hx) | subst x)) | (subst x; try dsimp -zeta only))
    | split
    | lift_lets
    | (fail_if_no_progress with_reducible refine Keeps.mk' ?_ rfl rfl rfl rfl))

theorem pauseStart_keeps (h : Keeps s0 s) : Keeps s0 (pauseStart s) := by
  delta pauseStart
  repeat' (first
    | with_reducible assumption
    | (refine fun (_ : Keeps _ _) => ?_)
    | (intro x; first | (refine Keeps.cut (s0 := s0) (x := x) ?_ ?_ <;> (first | (clear_value x; intro hx) | subst x)) | (subst x; try dsimp -zeta only))
    | with_reducible (refine icu_keeps ?_)
    | with_reducible (refine setChgEn_keeps ?_)
    | split
    | lift_lets
    | (fail_if_no_progress with_reducible refine Keeps.mk' ?_ rfl rfl rfl rfl))

theorem chargeWindow_keeps (h : Keeps s0 s) : Keeps s0 (chargeWindow s) := by
  delta chargeWindow
  repeat' (first
    | with_reducible assumption
    | (refine fun (_ : Keeps _ _) => ?_)
    | (intro x; first | (refine Keeps.cut (s0 := s0) (x := x) ?_ ?_ <;> (first | (clear_value x; intro hx) | subst x)) | (subst x; try dsimp -zeta only))
    | with_reducible (refine icu_keeps ?_)
    | split
    | lift_lets
    | (fail_if_no_progress with_reducible refine Keeps.mk' ?_ rfl rfl rfl rfl))

theorem learnEnd_keeps (h : Keeps s0 s) : Keeps s0 (learnEnd s) := by
  delta learnEnd
  repeat' (first
    | with_reducible assumption
    | (refine fun (_ : Keeps _ _) => ?_)
    | (intro x; first | (refine Keeps.cut (s0 := s0) (x := x) ?_ ?_ <;> (first | (clear_value x; intro hx) | subst x)) | (subst x; try dsimp -zeta only))
    | with_reducible (refine setChgEn_keeps ?_)
    | split
    | lift_lets
    | (fail_if_no_progress with_reducible refine Keeps.mk' ?_ rfl rfl rfl rfl))

theorem spanSecond_keeps (h : Keeps s0 s) : Keeps s0 (spanSecond s) := by
  delta spanSecond
  repeat' (first
    | with_reducible assumption
    | (refine fun (_ : Keeps _ _) => ?_)
    | (intro x; first | (refine Keeps.cut (s0 := s0) (x := x) ?_ ?_ <;> (first | (clear_value x; intro hx) | subst x)) | (subst x; try dsimp -zeta only))
    | split
    | lift_lets
    | (fail_if_no_progress with_reducible refine Keeps.mk' ?_ rfl rfl rfl rfl))

theorem spanAge_keeps (h : Keeps s0 s) : Keeps s0 (spanAge s) := by
  delta spanAge
  repeat' (first
    | with_reducible assumption
    | (refine fun (_ : Keeps _ _) => ?_)
    | (intro x; first | (refine Keeps.cut (s0 := s0) (x := x) ?_ ?_ <;> (first | (clear_value x; intro hx) | subst x)) | (subst x; try dsimp -zeta only))
    | split
    | lift_lets
    | (fail_if_no_progress with_reducible refine Keeps.mk' ?_ rfl rfl rfl rfl))

theorem execBatSecond_keeps (h : Keeps s0 s) : Keeps s0 (after (execBatSecond s) s) := by
  delta execBatSecond
  repeat' (first
    | with_reducible assumption
    | (refine fun (_ : Keeps _ _) => ?_)
    | (intro x; first | (refine Keeps.cut (s0 := s0) (x := x) ?_ ?_ <;> (first | (clear_value x; intro hx) | subst x)) | (subst x; try dsimp -zeta only))
    | with_reducible refine next_keeps ?_
    | with_reducible (refine settle_keeps ?_)
    | with_reducible (refine integrate_keeps ?_)
    | with_reducible (refine extreme_keeps ?_)
    | with_reducible (refine restEnd_keeps ?_)
    | with_reducible (refine restAge_keeps ?_)
    | with_reducible (refine restCount_keeps ?_)
    | with_reducible (refine noteTemp_keeps ?_)
    | with_reducible (refine spanAge_keeps ?_)
    | with_reducible (refine spanSecond_keeps ?_)
    | with_reducible (refine chargeWindow_keeps ?_)
    | with_reducible (refine batHold_keeps ?_)
    | with_reducible (refine chargeControl_keeps ?_)
    | with_reducible (refine pauseStart_keeps ?_)
    | with_reducible (refine learnEnd_keeps ?_)
    | with_reducible (refine recomputeBudget_keeps ?_)
    | with_reducible (refine recomputeEnergy_keeps ?_)
    | split
    | lift_lets
    | (fail_if_no_progress with_reducible refine Keeps.mk' ?_ rfl rfl rfl rfl))

theorem execRestPauseEnd_keeps (h : Keeps s0 s) : Keeps s0 (after (execRestPauseEnd s) s) := by
  delta execRestPauseEnd
  repeat' (first
    | with_reducible assumption
    | (refine fun (_ : Keeps _ _) => ?_)
    | (intro x; first | (refine Keeps.cut (s0 := s0) (x := x) ?_ ?_ <;> (first | (clear_value x; intro hx) | subst x)) | (subst x; try dsimp -zeta only))
    | with_reducible refine next_keeps ?_
    | with_reducible (refine settle_keeps ?_)
    | with_reducible (refine chargeControl_keeps ?_)
    | with_reducible (refine endPause_keeps ?_)
    | with_reducible (refine restEnd_keeps ?_)
    | split
    | lift_lets
    | (fail_if_no_progress with_reducible refine Keeps.mk' ?_ rfl rfl rfl rfl))

theorem execHibEstimatorTick_keeps {a0} (h : Keeps s0 s) : Keeps s0 (after (execHibEstimatorTick a0 s) s) := by
  delta execHibEstimatorTick
  repeat' (first
    | with_reducible assumption
    | (refine fun (_ : Keeps _ _) => ?_)
    | (intro x; first | (refine Keeps.cut (s0 := s0) (x := x) ?_ ?_ <;> (first | (clear_value x; intro hx) | subst x)) | (subst x; try dsimp -zeta only))
    | with_reducible refine next_keeps ?_
    | with_reducible (refine settle_keeps ?_)
    | with_reducible (refine restAge_keeps ?_)
    | with_reducible (refine restCount_keeps ?_)
    | with_reducible (refine integrate_keeps ?_)
    | with_reducible (refine recomputeEnergy_keeps ?_)
    | with_reducible (refine endKa_keeps ?_)
    | split
    | lift_lets
    | (fail_if_no_progress with_reducible refine Keeps.mk' ?_ rfl rfl rfl rfl))

theorem execBatEnableTableCheck_keeps {a0} (h : Keeps s0 s) : Keeps s0 (after (execBatEnableTableCheck a0 s) s) := by
  delta execBatEnableTableCheck
  repeat' (first
    | with_reducible assumption
    | (refine fun (_ : Keeps _ _) => ?_)
    | (intro x; first | (refine Keeps.cut (s0 := s0) (x := x) ?_ ?_ <;> (first | (clear_value x; intro hx) | subst x)) | (subst x; try dsimp -zeta only))
    | with_reducible refine next_keeps ?_
    | with_reducible (refine settle_keeps ?_)
    | with_reducible (refine ctrlWrite_keeps ?_)
    | split
    | lift_lets
    | (fail_if_no_progress with_reducible refine Keeps.mk' ?_ rfl rfl rfl rfl))

theorem learnCtrl_keeps {a0} (h : Keeps s0 s) : Keeps s0 (learnCtrl s a0) := by
  delta learnCtrl
  repeat' (first
    | with_reducible assumption
    | (refine fun (_ : Keeps _ _) => ?_)
    | (intro x; first | (refine Keeps.cut (s0 := s0) (x := x) ?_ ?_ <;> (first | (clear_value x; intro hx) | subst x)) | (subst x; try dsimp -zeta only))
    | with_reducible (refine accessErr_keeps ?_)
    | with_reducible (refine wrF_keeps ?_)
    | split
    | lift_lets
    | (fail_if_no_progress with_reducible refine Keeps.mk' ?_ rfl rfl rfl rfl))

theorem execBatLearnRequest_keeps {a0} (h : Keeps s0 s) : Keeps s0 (after (execBatLearnRequest a0 s) s) := by
  delta execBatLearnRequest
  repeat' (first
    | with_reducible assumption
    | (refine fun (_ : Keeps _ _) => ?_)
    | (intro x; first | (refine Keeps.cut (s0 := s0) (x := x) ?_ ?_ <;> (first | (clear_value x; intro hx) | subst x)) | (subst x; try dsimp -zeta only))
    | with_reducible refine next_keeps ?_
    | with_reducible (refine settle_keeps ?_)
    | with_reducible (refine learnCtrl_keeps ?_)
    | split
    | lift_lets
    | (fail_if_no_progress with_reducible refine Keeps.mk' ?_ rfl rfl rfl rfl))

theorem mbGetBatteryStatus_keeps {a0 a1} (h : Keeps s0 s) : Keeps s0 (mbGetBatteryStatus a0 a1 s) := by
  delta mbGetBatteryStatus
  repeat' (first
    | with_reducible assumption
    | (refine fun (_ : Keeps _ _) => ?_)
    | (intro x; first | (refine Keeps.cut (s0 := s0) (x := x) ?_ ?_ <;> (first | (clear_value x; intro hx) | subst x)) | (subst x; try dsimp -zeta only))
    | with_reducible (refine replyBad_keeps ?_)
    | with_reducible (refine replyOk_keeps ?_)
    | split
    | lift_lets
    | (fail_if_no_progress with_reducible refine Keeps.mk' ?_ rfl rfl rfl rfl))

theorem execGetBatteryStatus_keeps {a0 a1} (h : Keeps s0 s) : Keeps s0 (after (execGetBatteryStatus a0 a1 s) s) := by
  delta execGetBatteryStatus
  repeat' (first
    | with_reducible assumption
    | (refine fun (_ : Keeps _ _) => ?_)
    | (intro x; first | (refine Keeps.cut (s0 := s0) (x := x) ?_ ?_ <;> (first | (clear_value x; intro hx) | subst x)) | (subst x; try dsimp -zeta only))
    | with_reducible refine next_keeps ?_
    | with_reducible (refine settle_keeps ?_)
    | with_reducible (refine mbGetBatteryStatus_keeps ?_)
    | split
    | lift_lets
    | (fail_if_no_progress with_reducible refine Keeps.mk' ?_ rfl rfl rfl rfl))

theorem mbRequestLearningCycle_keeps {a0 a1} (h : Keeps s0 s) : Keeps s0 (mbRequestLearningCycle a0 a1 s) := by
  delta mbRequestLearningCycle
  repeat' (first
    | with_reducible assumption
    | (refine fun (_ : Keeps _ _) => ?_)
    | (intro x; first | (refine Keeps.cut (s0 := s0) (x := x) ?_ ?_ <;> (first | (clear_value x; intro hx) | subst x)) | (subst x; try dsimp -zeta only))
    | with_reducible (refine replyBad_keeps ?_)
    | with_reducible (refine replyCode_keeps ?_)
    | split
    | lift_lets
    | (fail_if_no_progress with_reducible refine Keeps.mk' ?_ rfl rfl rfl rfl))

theorem execRequestLearningCycle_keeps {a0 a1} (h : Keeps s0 s) : Keeps s0 (after (execRequestLearningCycle a0 a1 s) s) := by
  delta execRequestLearningCycle
  repeat' (first
    | with_reducible assumption
    | (refine fun (_ : Keeps _ _) => ?_)
    | (intro x; first | (refine Keeps.cut (s0 := s0) (x := x) ?_ ?_ <;> (first | (clear_value x; intro hx) | subst x)) | (subst x; try dsimp -zeta only))
    | with_reducible refine next_keeps ?_
    | with_reducible (refine settle_keeps ?_)
    | with_reducible (refine mbRequestLearningCycle_keeps ?_)
    | split
    | lift_lets
    | (fail_if_no_progress with_reducible refine Keeps.mk' ?_ rfl rfl rfl rfl))

theorem mbArmShipMode_keeps {a0 a1} (h : Keeps s0 s) : Keeps s0 (mbArmShipMode a0 a1 s) := by
  delta mbArmShipMode
  repeat' (first
    | with_reducible assumption
    | (refine fun (_ : Keeps _ _) => ?_)
    | (intro x; first | (refine Keeps.cut (s0 := s0) (x := x) ?_ ?_ <;> (first | (clear_value x; intro hx) | subst x)) | (subst x; try dsimp -zeta only))
    | with_reducible (refine replyBad_keeps ?_)
    | with_reducible (refine replyCode_keeps ?_)
    | with_reducible (refine icu_keeps ?_)
    | split
    | lift_lets
    | (fail_if_no_progress with_reducible refine Keeps.mk' ?_ rfl rfl rfl rfl))

theorem execArmShipMode_keeps {a0 a1} (h : Keeps s0 s) : Keeps s0 (after (execArmShipMode a0 a1 s) s) := by
  delta execArmShipMode
  repeat' (first
    | with_reducible assumption
    | (refine fun (_ : Keeps _ _) => ?_)
    | (intro x; first | (refine Keeps.cut (s0 := s0) (x := x) ?_ ?_ <;> (first | (clear_value x; intro hx) | subst x)) | (subst x; try dsimp -zeta only))
    | with_reducible refine next_keeps ?_
    | with_reducible (refine settle_keeps ?_)
    | with_reducible (refine mbArmShipMode_keeps ?_)
    | split
    | lift_lets
    | (fail_if_no_progress with_reducible refine Keeps.mk' ?_ rfl rfl rfl rfl))

theorem mbDisarmShipMode_keeps {a0 a1} (h : Keeps s0 s) : Keeps s0 (mbDisarmShipMode a0 a1 s) := by
  delta mbDisarmShipMode
  repeat' (first
    | with_reducible assumption
    | (refine fun (_ : Keeps _ _) => ?_)
    | (intro x; first | (refine Keeps.cut (s0 := s0) (x := x) ?_ ?_ <;> (first | (clear_value x; intro hx) | subst x)) | (subst x; try dsimp -zeta only))
    | with_reducible (refine replyBad_keeps ?_)
    | with_reducible (refine replyCode_keeps ?_)
    | with_reducible (refine icu_keeps ?_)
    | split
    | lift_lets
    | (fail_if_no_progress with_reducible refine Keeps.mk' ?_ rfl rfl rfl rfl))

theorem execDisarmShipMode_keeps {a0 a1} (h : Keeps s0 s) : Keeps s0 (after (execDisarmShipMode a0 a1 s) s) := by
  delta execDisarmShipMode
  repeat' (first
    | with_reducible assumption
    | (refine fun (_ : Keeps _ _) => ?_)
    | (intro x; first | (refine Keeps.cut (s0 := s0) (x := x) ?_ ?_ <;> (first | (clear_value x; intro hx) | subst x)) | (subst x; try dsimp -zeta only))
    | with_reducible refine next_keeps ?_
    | with_reducible (refine settle_keeps ?_)
    | with_reducible (refine mbDisarmShipMode_keeps ?_)
    | split
    | lift_lets
    | (fail_if_no_progress with_reducible refine Keeps.mk' ?_ rfl rfl rfl rfl))

theorem cflRefuse_keeps {a0 a1} (h : Keeps s0 s) : Keeps s0 (cflRefuse s a0 a1) := by
  delta cflRefuse
  repeat' (first
    | with_reducible assumption
    | (refine fun (_ : Keeps _ _) => ?_)
    | (intro x; first | (refine Keeps.cut (s0 := s0) (x := x) ?_ ?_ <;> (first | (clear_value x; intro hx) | subst x)) | (subst x; try dsimp -zeta only))
    | with_reducible (refine cflResult_keeps ?_)
    | with_reducible (refine report_keeps ?_)
    | with_reducible (refine addSat_keeps ?_)
    | split
    | lift_lets
    | (fail_if_no_progress with_reducible refine Keeps.mk' ?_ rfl rfl rfl rfl))

theorem cflStart_keeps {a0 a1} (h : Keeps s0 s) : Keeps s0 (cflStart s a0 a1) := by
  delta cflStart
  repeat' (first
    | with_reducible assumption
    | (refine fun (_ : Keeps _ _) => ?_)
    | (intro x; first | (refine Keeps.cut (s0 := s0) (x := x) ?_ ?_ <;> (first | (clear_value x; intro hx) | subst x)) | (subst x; try dsimp -zeta only))
    | with_reducible (refine cflRefuse_keeps ?_)
    | with_reducible (refine freeVal_keeps ?_)
    | with_reducible (refine setCflOp_keeps ?_)
    | split
    | lift_lets
    | (fail_if_no_progress with_reducible refine Keeps.mk' ?_ rfl rfl rfl rfl))

theorem execCflProgramPage_keeps {a0 a1} (h : Keeps s0 s) : Keeps s0 (after (execCflProgramPage a0 a1 s) s) := by
  delta execCflProgramPage
  repeat' (first
    | with_reducible assumption
    | (refine fun (_ : Keeps _ _) => ?_)
    | (intro x; first | (refine Keeps.cut (s0 := s0) (x := x) ?_ ?_ <;> (first | (clear_value x; intro hx) | subst x)) | (subst x; try dsimp -zeta only))
    | with_reducible refine next_keeps ?_
    | with_reducible (refine settle_keeps ?_)
    | with_reducible (refine cflStart_keeps ?_)
    | split
    | lift_lets
    | (fail_if_no_progress with_reducible refine Keeps.mk' ?_ rfl rfl rfl rfl))

theorem execCflEraseSector_keeps {a0 a1} (h : Keeps s0 s) : Keeps s0 (after (execCflEraseSector a0 a1 s) s) := by
  delta execCflEraseSector
  repeat' (first
    | with_reducible assumption
    | (refine fun (_ : Keeps _ _) => ?_)
    | (intro x; first | (refine Keeps.cut (s0 := s0) (x := x) ?_ ?_ <;> (first | (clear_value x; intro hx) | subst x)) | (subst x; try dsimp -zeta only))
    | with_reducible refine next_keeps ?_
    | with_reducible (refine settle_keeps ?_)
    | with_reducible (refine cflStart_keeps ?_)
    | split
    | lift_lets
    | (fail_if_no_progress with_reducible refine Keeps.mk' ?_ rfl rfl rfl rfl))

theorem execCflBlankCheck_keeps {a0 a1} (h : Keeps s0 s) : Keeps s0 (after (execCflBlankCheck a0 a1 s) s) := by
  delta execCflBlankCheck
  repeat' (first
    | with_reducible assumption
    | (refine fun (_ : Keeps _ _) => ?_)
    | (intro x; first | (refine Keeps.cut (s0 := s0) (x := x) ?_ ?_ <;> (first | (clear_value x; intro hx) | subst x)) | (subst x; try dsimp -zeta only))
    | with_reducible refine next_keeps ?_
    | with_reducible (refine settle_keeps ?_)
    | with_reducible (refine cflStart_keeps ?_)
    | split
    | lift_lets
    | (fail_if_no_progress with_reducible refine Keeps.mk' ?_ rfl rfl rfl rfl))

theorem cflProgramDone_keeps {a0 a1 a2} (h : Keeps s0 s) : Keeps s0 (cflProgramDone s a0 a1 a2) := by
  delta cflProgramDone
  repeat' (first
    | with_reducible assumption
    | (refine fun (_ : Keeps _ _) => ?_)
    | (intro x; first | (refine Keeps.cut (s0 := s0) (x := x) ?_ ?_ <;> (first | (clear_value x; intro hx) | subst x)) | (subst x; try dsimp -zeta only))
    | with_reducible (refine cflProgram_keeps ?_)
    | with_reducible (refine cflResult_keeps ?_)
    | with_reducible (refine cflSpoil_keeps ?_)
    | with_reducible (refine report_keeps ?_)
    | split
    | lift_lets
    | (fail_if_no_progress with_reducible refine Keeps.mk' ?_ rfl rfl rfl rfl))

theorem cflEraseDone_keeps {a0 a1 a2} (h : Keeps s0 s) : Keeps s0 (cflEraseDone s a0 a1 a2) := by
  delta cflEraseDone
  repeat' (first
    | with_reducible assumption
    | (refine fun (_ : Keeps _ _) => ?_)
    | (intro x; first | (refine Keeps.cut (s0 := s0) (x := x) ?_ ?_ <;> (first | (clear_value x; intro hx) | subst x)) | (subst x; try dsimp -zeta only))
    | with_reducible (refine bank3Erased_keeps ?_)
    | with_reducible (refine cflResult_keeps ?_)
    | with_reducible (refine cflErase_keeps ?_)
    | with_reducible (refine report_keeps ?_)
    | with_reducible (refine cflSpoil_keeps ?_)
    | split
    | lift_lets
    | (fail_if_no_progress with_reducible refine Keeps.mk' ?_ rfl rfl rfl rfl))

theorem execCflOperationDone_keeps {a0 a1} (h : Keeps s0 s) : Keeps s0 (after (execCflOperationDone a0 a1 s) s) := by
  delta execCflOperationDone
  repeat' (first
    | with_reducible assumption
    | (refine fun (_ : Keeps _ _) => ?_)
    | (intro x; first | (refine Keeps.cut (s0 := s0) (x := x) ?_ ?_ <;> (first | (clear_value x; intro hx) | subst x)) | (subst x; try dsimp -zeta only))
    | with_reducible refine next_keeps ?_
    | with_reducible (refine settle_keeps ?_)
    | with_reducible (refine sectorErased_keeps ?_)
    | with_reducible (refine setCflOp_keeps ?_)
    | with_reducible (refine cflProgramDone_keeps ?_)
    | with_reducible (refine cflEraseDone_keeps ?_)
    | with_reducible (refine cflResult_keeps ?_)
    | with_reducible (refine evrPump_keeps ?_)
    | with_reducible (refine icu_keeps ?_)
    | split
    | lift_lets
    | (fail_if_no_progress with_reducible refine Keeps.mk' ?_ rfl rfl rfl rfl))

theorem execCflReadSuspend_keeps {a0} (h : Keeps s0 s) : Keeps s0 (after (execCflReadSuspend a0 s) s) := by
  delta execCflReadSuspend
  repeat' (first
    | with_reducible assumption
    | (refine fun (_ : Keeps _ _) => ?_)
    | (intro x; first | (refine Keeps.cut (s0 := s0) (x := x) ?_ ?_ <;> (first | (clear_value x; intro hx) | subst x)) | (subst x; try dsimp -zeta only))
    | with_reducible refine next_keeps ?_
    | with_reducible (refine setCflOp_keeps ?_)
    | split
    | lift_lets
    | (fail_if_no_progress with_reducible refine Keeps.mk' ?_ rfl rfl rfl rfl))

theorem execCflEraseResume_keeps {a0} (h : Keeps s0 s) : Keeps s0 (after (execCflEraseResume a0 s) s) := by
  delta execCflEraseResume
  repeat' (first
    | with_reducible assumption
    | (refine fun (_ : Keeps _ _) => ?_)
    | (intro x; first | (refine Keeps.cut (s0 := s0) (x := x) ?_ ?_ <;> (first | (clear_value x; intro hx) | subst x)) | (subst x; try dsimp -zeta only))
    | with_reducible refine next_keeps ?_
    | with_reducible (refine setCflOp_keeps ?_)
    | split
    | lift_lets
    | (fail_if_no_progress with_reducible refine Keeps.mk' ?_ rfl rfl rfl rfl))

theorem execCodeFlashUncorrectable_keeps {a0} (h : Keeps s0 s) : Keeps s0 (after (execCodeFlashUncorrectable a0 s) s) := by
  delta execCodeFlashUncorrectable
  repeat' (first
    | with_reducible assumption
    | (refine fun (_ : Keeps _ _) => ?_)
    | (intro x; first | (refine Keeps.cut (s0 := s0) (x := x) ?_ ?_ <;> (first | (clear_value x; intro hx) | subst x)) | (subst x; try dsimp -zeta only))
    | with_reducible refine next_keeps ?_
    | with_reducible (refine settle_keeps ?_)
    | with_reducible (refine addSat_keeps ?_)
    | with_reducible (refine wr_keeps ?_)
    | with_reducible (refine report_keeps ?_)
    | with_reducible (refine unitBad_keeps ?_)
    | split
    | lift_lets
    | (fail_if_no_progress with_reducible refine Keeps.mk' ?_ rfl rfl rfl rfl))

theorem countFree_keeps (h : Keeps s0 s) : Keeps s0 (countFree s) := by
  delta countFree
  repeat' (first
    | with_reducible assumption
    | (refine fun (_ : Keeps _ _) => ?_)
    | (intro x; first | (refine Keeps.cut (s0 := s0) (x := x) ?_ ?_ <;> (first | (clear_value x; intro hx) | subst x)) | (subst x; try dsimp -zeta only))
    | split
    | lift_lets
    | (fail_if_no_progress with_reducible refine Keeps.mk' ?_ rfl rfl rfl rfl))

theorem setGeom_keeps {a0} (h : Keeps s0 s) : Keeps s0 (setGeom s a0) := by
  delta setGeom
  repeat' (first
    | with_reducible assumption
    | (refine fun (_ : Keeps _ _) => ?_)
    | (intro x; first | (refine Keeps.cut (s0 := s0) (x := x) ?_ ?_ <;> (first | (clear_value x; intro hx) | subst x)) | (subst x; try dsimp -zeta only))
    | with_reducible (refine wr_keeps ?_)
    | split
    | lift_lets
    | (fail_if_no_progress with_reducible refine Keeps.mk' ?_ rfl rfl rfl rfl))

theorem eraseLost_keeps {a0} (h : Keeps s0 s) : Keeps s0 (eraseLost s a0) := by
  delta eraseLost
  repeat' (first
    | with_reducible assumption
    | (refine fun (_ : Keeps _ _) => ?_)
    | (intro x; first | (refine Keeps.cut (s0 := s0) (x := x) ?_ ?_ <;> (first | (clear_value x; intro hx) | subst x)) | (subst x; try dsimp -zeta only))
    | with_reducible (refine eraseBlk_keeps ?_)
    | with_reducible (refine forEach_keeps ?_ fun s a hs => ?_)
    | split
    | lift_lets
    | (fail_if_no_progress with_reducible refine Keeps.mk' ?_ rfl rfl rfl rfl))

theorem mount_keeps {a0 a1 a2 a3} (h : Keeps s0 s) : Keeps s0 (mount s a0 a1 a2 a3) := by
  delta mount
  repeat' (first
    | with_reducible assumption
    | (refine fun (_ : Keeps _ _) => ?_)
    | (intro x; first | (refine Keeps.cut (s0 := s0) (x := x) ?_ ?_ <;> (first | (clear_value x; intro hx) | subst x)) | (subst x; try dsimp -zeta only))
    | with_reducible (refine setGeom_keeps ?_)
    | with_reducible (refine wr_keeps ?_)
    | with_reducible (refine icu_keeps ?_)
    | with_reducible (refine report_keeps ?_)
    | with_reducible (refine setLun_keeps ?_)
    | with_reducible (refine classAll_keeps ?_)
    | with_reducible (refine wrB_keeps ?_)
    | with_reducible (refine setFch_keeps ?_)
    | with_reducible (refine freeVal_keeps ?_)
    | with_reducible (refine wrF_keeps ?_)
    | with_reducible (refine eraseLost_keeps ?_)
    | with_reducible (refine updateWear_keeps ?_)
    | with_reducible (refine updatePe_keeps ?_)
    | with_reducible (refine countFree_keeps ?_)
    | with_reducible (refine forEach_keeps ?_ fun s a hs => ?_)
    | split
    | lift_lets
    | (fail_if_no_progress with_reducible refine Keeps.mk' ?_ rfl rfl rfl rfl))

theorem execFlashMount_keeps {a0 a1 a2 a3} (h : Keeps s0 s) : Keeps s0 (after (execFlashMount a0 a1 a2 a3 s) s) := by
  delta execFlashMount
  repeat' (first
    | with_reducible assumption
    | (refine fun (_ : Keeps _ _) => ?_)
    | (intro x; first | (refine Keeps.cut (s0 := s0) (x := x) ?_ ?_ <;> (first | (clear_value x; intro hx) | subst x)) | (subst x; try dsimp -zeta only))
    | with_reducible refine next_keeps ?_
    | with_reducible (refine settle_keeps ?_)
    | with_reducible (refine recomputeLevel_keeps ?_)
    | with_reducible (refine mount_keeps ?_)
    | split
    | lift_lets
    | (fail_if_no_progress with_reducible refine Keeps.mk' ?_ rfl rfl rfl rfl))

theorem bandFreed_keeps {a0} (h : Keeps s0 s) : Keeps s0 (bandFreed s a0) := by
  delta bandFreed
  repeat' (first
    | with_reducible assumption
    | (refine fun (_ : Keeps _ _) => ?_)
    | (intro x; first | (refine Keeps.cut (s0 := s0) (x := x) ?_ ?_ <;> (first | (clear_value x; intro hx) | subst x)) | (subst x; try dsimp -zeta only))
    | with_reducible (refine freeLevels_keeps ?_)
    | with_reducible (refine storeEvent_keeps ?_)
    | with_reducible (refine setBand_keeps ?_)
    | with_reducible (refine spaceFreed_keeps ?_)
    | split
    | lift_lets
    | (fail_if_no_progress with_reducible refine Keeps.mk' ?_ rfl rfl rfl rfl))

theorem execFlashEraseComplete_keeps {a0 a1} (h : Keeps s0 s) : Keeps s0 (after (execFlashEraseComplete a0 a1 s) s) := by
  delta execFlashEraseComplete
  repeat' (first
    | with_reducible assumption
    | (refine fun (_ : Keeps _ _) => ?_)
    | (intro x; first | (refine Keeps.cut (s0 := s0) (x := x) ?_ ?_ <;> (first | (clear_value x; intro hx) | subst x)) | (subst x; try dsimp -zeta only))
    | with_reducible refine next_keeps ?_
    | with_reducible (refine settle_keeps ?_)
    | with_reducible (refine addWrap_keeps ?_)
    | with_reducible (refine setLun_keeps ?_)
    | with_reducible (refine setBlk_keeps ?_)
    | with_reducible (refine updateWear_keeps ?_)
    | with_reducible (refine updatePe_keeps ?_)
    | with_reducible (refine intentNow_keeps ?_)
    | with_reducible (refine retireBlk_keeps ?_)
    | with_reducible (refine report_keeps ?_)
    | with_reducible (refine runErases_keeps ?_)
    | with_reducible (refine bandFreed_keeps ?_)
    | split
    | lift_lets
    | (fail_if_no_progress with_reducible refine Keeps.mk' ?_ rfl rfl rfl rfl))

theorem execEraseResume_keeps {a0 a1 a2} (h : Keeps s0 s) : Keeps s0 (after (execEraseResume a0 a1 a2 s) s) := by
  delta execEraseResume
  repeat' (first
    | with_reducible assumption
    | (refine fun (_ : Keeps _ _) => ?_)
    | (intro x; first | (refine Keeps.cut (s0 := s0) (x := x) ?_ ?_ <;> (first | (clear_value x; intro hx) | subst x)) | (subst x; try dsimp -zeta only))
    | with_reducible refine next_keeps ?_
    | with_reducible (refine setLun_keeps ?_)
    | split
    | lift_lets
    | (fail_if_no_progress with_reducible refine Keeps.mk' ?_ rfl rfl rfl rfl))

theorem execFlashReadComplete_keeps {a0 a1} (h : Keeps s0 s) : Keeps s0 (after (execFlashReadComplete a0 a1 s) s) := by
  delta execFlashReadComplete
  repeat' (first
    | with_reducible assumption
    | (refine fun (_ : Keeps _ _) => ?_)
    | (intro x; first | (refine Keeps.cut (s0 := s0) (x := x) ?_ ?_ <;> (first | (clear_value x; intro hx) | subst x)) | (subst x; try dsimp -zeta only))
    | with_reducible refine next_keeps ?_
    | with_reducible (refine settle_keeps ?_)
    | with_reducible (refine ladder_keeps ?_)
    | with_reducible (refine verifyFail_keeps ?_)
    | split
    | lift_lets
    | (fail_if_no_progress with_reducible refine Keeps.mk' ?_ rfl rfl rfl rfl))

theorem resetTarget_keeps {a0 a1} (h : Keeps s0 s) : Keeps s0 (resetTarget s a0 a1) := by
  delta resetTarget
  repeat' (first
    | with_reducible assumption
    | (refine fun (_ : Keeps _ _) => ?_)
    | (intro x; first | (refine Keeps.cut (s0 := s0) (x := x) ?_ ?_ <;> (first | (clear_value x; intro hx) | subst x)) | (subst x; try dsimp -zeta only))
    | with_reducible (refine setBlk_keeps ?_)
    | with_reducible (refine setLun_keeps ?_)
    | with_reducible (refine forEach_keeps ?_ fun s a hs => ?_)
    | split
    | lift_lets
    | (fail_if_no_progress with_reducible refine Keeps.mk' ?_ rfl rfl rfl rfl))

theorem unmountTarget_keeps {a0 a1} (h : Keeps s0 s) : Keeps s0 (unmountTarget s a0 a1) := by
  delta unmountTarget
  repeat' (first
    | with_reducible assumption
    | (refine fun (_ : Keeps _ _) => ?_)
    | (intro x; first | (refine Keeps.cut (s0 := s0) (x := x) ?_ ?_ <;> (first | (clear_value x; intro hx) | subst x)) | (subst x; try dsimp -zeta only))
    | with_reducible (refine report_keeps ?_)
    | with_reducible (refine wrB_keeps ?_)
    | with_reducible (refine wrF_keeps ?_)
    | with_reducible (refine closeBlk_keeps ?_)
    | with_reducible (refine addCand_keeps ?_)
    | with_reducible (refine forEach_keeps ?_ fun s a hs => ?_)
    | split
    | lift_lets
    | (fail_if_no_progress with_reducible refine Keeps.mk' ?_ rfl rfl rfl rfl))

theorem execStuckTargetTimeout_keeps {a0 a1} (h : Keeps s0 s) : Keeps s0 (after (execStuckTargetTimeout a0 a1 s) s) := by
  delta execStuckTargetTimeout
  repeat' (first
    | with_reducible assumption
    | (refine fun (_ : Keeps _ _) => ?_)
    | (intro x; first | (refine Keeps.cut (s0 := s0) (x := x) ?_ ?_ <;> (first | (clear_value x; intro hx) | subst x)) | (subst x; try dsimp -zeta only))
    | with_reducible refine next_keeps ?_
    | with_reducible (refine settle_keeps ?_)
    | with_reducible (refine resetTarget_keeps ?_)
    | with_reducible (refine unmountTarget_keeps ?_)
    | with_reducible (refine eraseLost_keeps ?_)
    | with_reducible (refine setFch_keeps ?_)
    | split
    | lift_lets
    | (fail_if_no_progress with_reducible refine Keeps.mk' ?_ rfl rfl rfl rfl))

theorem execIntentPageDurable_keeps {a0} (h : Keeps s0 s) : Keeps s0 (after (execIntentPageDurable a0 s) s) := by
  delta execIntentPageDurable
  repeat' (first
    | with_reducible assumption
    | (refine fun (_ : Keeps _ _) => ?_)
    | (intro x; first | (refine Keeps.cut (s0 := s0) (x := x) ?_ ?_ <;> (first | (clear_value x; intro hx) | subst x)) | (subst x; try dsimp -zeta only))
    | with_reducible refine next_keeps ?_
    | with_reducible (refine intentFlush_keeps ?_)
    | split
    | lift_lets
    | (fail_if_no_progress with_reducible refine Keeps.mk' ?_ rfl rfl rfl rfl))

theorem execValidCountRecount_keeps (h : Keeps s0 s) : Keeps s0 (after (execValidCountRecount s) s) := by
  delta execValidCountRecount
  repeat' (first
    | with_reducible assumption
    | (refine fun (_ : Keeps _ _) => ?_)
    | (intro x; first | (refine Keeps.cut (s0 := s0) (x := x) ?_ ?_ <;> (first | (clear_value x; intro hx) | subst x)) | (subst x; try dsimp -zeta only))
    | with_reducible refine next_keeps ?_
    | with_reducible (refine settle_keeps ?_)
    | with_reducible (refine storeEvent_keeps ?_)
    | with_reducible (refine wr_keeps ?_)
    | with_reducible (refine setBlk_keeps ?_)
    | with_reducible (refine eraseBlk_keeps ?_)
    | with_reducible (refine forEach_keeps ?_ fun s a hs => ?_)
    | split
    | lift_lets
    | (fail_if_no_progress with_reducible refine Keeps.mk' ?_ rfl rfl rfl rfl))

theorem moveCw_keeps {a0 a1} (h : Keeps s0 s) : Keeps s0 (moveCw s a0 a1) := by
  delta moveCw
  repeat' (first
    | with_reducible assumption
    | (refine fun (_ : Keeps _ _) => ?_)
    | (intro x; first | (refine Keeps.cut (s0 := s0) (x := x) ?_ ?_ <;> (first | (clear_value x; intro hx) | subst x)) | (subst x; try dsimp -zeta only))
    | with_reducible (refine programAt_keeps ?_)
    | with_reducible (refine countNative_keeps ?_)
    | split
    | lift_lets
    | (fail_if_no_progress with_reducible refine Keeps.mk' ?_ rfl rfl rfl rfl))

theorem reseal_keeps {a0 a1 a2 a3} (h : Keeps s0 s) : Keeps s0 (reseal s a0 a1 a2 a3).1 := by
  delta reseal
  repeat' (first
    | with_reducible assumption
    | (refine fun (_ : Keeps _ _) => ?_)
    | (intro x; first | (refine Keeps.cut (s0 := s0) (x := x) ?_ ?_ <;> (first | (clear_value x; intro hx) | subst x)) | (subst x; try dsimp -zeta only))
    | with_reducible (refine programPart_keeps ?_)
    | with_reducible (refine programAt_keeps ?_)
    | with_reducible (refine modGen_keeps ?_)
    | with_reducible (refine forEach_keeps ?_ fun s a hs => ?_)
    | split
    | lift_lets
    | (fail_if_no_progress with_reducible refine Keeps.mk' ?_ rfl rfl rfl rfl))

theorem moveRecords_keeps {a0} (h : Keeps s0 s) : Keeps s0 (moveRecords s a0) := by
  delta moveRecords
  repeat' (first
    | with_reducible assumption
    | (refine fun (_ : Keeps _ _) => ?_)
    | (intro x; first | (refine Keeps.cut (s0 := s0) (x := x) ?_ ?_ <;> (first | (clear_value x; intro hx) | subst x)) | (subst x; try dsimp -zeta only))
    | split
    | lift_lets
    | (fail_if_no_progress with_reducible refine Keeps.mk' ?_ rfl rfl rfl rfl))

theorem execRelocation_keeps {a0 a1 a2 a3} (h : Keeps s0 s) : Keeps s0 (after (execRelocation a0 a1 a2 a3 s) s) := by
  delta execRelocation
  repeat' (first
    | with_reducible assumption
    | (refine fun (_ : Keeps _ _) => ?_)
    | (intro x; first | (refine Keeps.cut (s0 := s0) (x := x) ?_ ?_ <;> (first | (clear_value x; intro hx) | subst x)) | (subst x; try dsimp -zeta only))
    | with_reducible refine next_keeps ?_
    | with_reducible (refine settle_keeps ?_)
    | with_reducible (refine closeBlk_keeps ?_)
    | with_reducible (refine moveRecords_keeps ?_)
    | with_reducible (refine moveCw_keeps ?_)
    | with_reducible (refine reseal_keeps ?_)
    | with_reducible (refine eraseBand_keeps ?_)
    | with_reducible (refine addSat_keeps ?_)
    | with_reducible (refine forEach_keeps ?_ fun s a hs => ?_)
    | (fail_if_no_progress with_reducible refine foldl_fst_keeps ?_ (fun t a hs => ?_))
    | (fail_if_no_progress with_reducible refine reseal_keeps ?_)
    | split
    | lift_lets
    | (fail_if_no_progress with_reducible refine Keeps.mk' ?_ rfl rfl rfl rfl))

theorem judgeWindow_keeps (h : Keeps s0 s) : Keeps s0 (judgeWindow s) := by
  delta judgeWindow
  repeat' (first
    | with_reducible assumption
    | (refine fun (_ : Keeps _ _) => ?_)
    | (intro x; first | (refine Keeps.cut (s0 := s0) (x := x) ?_ ?_ <;> (first | (clear_value x; intro hx) | subst x)) | (subst x; try dsimp -zeta only))
    | with_reducible (refine setWindow_keeps ?_)
    | split
    | lift_lets
    | (fail_if_no_progress with_reducible refine Keeps.mk' ?_ rfl rfl rfl rfl))

theorem pacingRows_keeps {a0} (h : Keeps s0 s) : Keeps s0 (pacingRows s a0) := by
  delta pacingRows
  repeat' (first
    | with_reducible assumption
    | (refine fun (_ : Keeps _ _) => ?_)
    | (intro x; first | (refine Keeps.cut (s0 := s0) (x := x) ?_ ?_ <;> (first | (clear_value x; intro hx) | subst x)) | (subst x; try dsimp -zeta only))
    | with_reducible (refine icu_keeps ?_)
    | with_reducible (refine thermalAsk_keeps ?_)
    | with_reducible (refine thermalClear_keeps ?_)
    | with_reducible (refine forEach_keeps ?_ fun s a hs => ?_)
    | split
    | lift_lets
    | (fail_if_no_progress with_reducible refine Keeps.mk' ?_ rfl rfl rfl rfl))

theorem latchShutdown_keeps (h : Keeps s0 s) : Keeps s0 (latchShutdown s) := by
  delta latchShutdown
  repeat' (first
    | with_reducible assumption
    | (refine fun (_ : Keeps _ _) => ?_)
    | (intro x; first | (refine Keeps.cut (s0 := s0) (x := x) ?_ ?_ <;> (first | (clear_value x; intro hx) | subst x)) | (subst x; try dsimp -zeta only))
    | with_reducible (refine furtherTrigger_keeps ?_)
    | with_reducible (refine report_keeps ?_)
    | with_reducible (refine offRequest_keeps ?_)
    | split
    | lift_lets
    | (fail_if_no_progress with_reducible refine Keeps.mk' ?_ rfl rfl rfl rfl))

theorem judgeAbs_keeps (h : Keeps s0 s) : Keeps s0 (judgeAbs s) := by
  delta judgeAbs
  repeat' (first
    | with_reducible assumption
    | (refine fun (_ : Keeps _ _) => ?_)
    | (intro x; first | (refine Keeps.cut (s0 := s0) (x := x) ?_ ?_ <;> (first | (clear_value x; intro hx) | subst x)) | (subst x; try dsimp -zeta only))
    | with_reducible (refine pacingRows_keeps ?_)
    | with_reducible (refine icu_keeps ?_)
    | with_reducible (refine enforce_keeps ?_)
    | with_reducible (refine applyRelief_keeps ?_)
    | with_reducible (refine latchShutdown_keeps ?_)
    | with_reducible (refine forEach_keeps ?_ fun s a hs => ?_)
    | split
    | lift_lets
    | (fail_if_no_progress with_reducible refine Keeps.mk' ?_ rfl rfl rfl rfl))

theorem sensorsLost_keeps (h : Keeps s0 s) : Keeps s0 (sensorsLost s) := by
  delta sensorsLost
  repeat' (first
    | with_reducible assumption
    | (refine fun (_ : Keeps _ _) => ?_)
    | (intro x; first | (refine Keeps.cut (s0 := s0) (x := x) ?_ ?_ <;> (first | (clear_value x; intro hx) | subst x)) | (subst x; try dsimp -zeta only))
    | with_reducible (refine lostResponses_keeps ?_)
    | with_reducible (refine icu_keeps ?_)
    | with_reducible (refine report_keeps ?_)
    | split
    | lift_lets
    | (fail_if_no_progress with_reducible refine Keeps.mk' ?_ rfl rfl rfl rfl))

theorem diodeBroken_keeps (h : Keeps s0 s) : Keeps s0 (diodeBroken s) := by
  delta diodeBroken
  repeat' (first
    | with_reducible assumption
    | (refine fun (_ : Keeps _ _) => ?_)
    | (intro x; first | (refine Keeps.cut (s0 := s0) (x := x) ?_ ?_ <;> (first | (clear_value x; intro hx) | subst x)) | (subst x; try dsimp -zeta only))
    | with_reducible (refine sensorsLost_keeps ?_)
    | with_reducible (refine icu_keeps ?_)
    | with_reducible (refine report_keeps ?_)
    | split
    | lift_lets
    | (fail_if_no_progress with_reducible refine Keeps.mk' ?_ rfl rfl rfl rfl))

theorem setInUse_keeps (h : Keeps s0 s) : Keeps s0 (setInUse s) := by
  delta setInUse
  repeat' (first
    | with_reducible assumption
    | (refine fun (_ : Keeps _ _) => ?_)
    | (intro x; first | (refine Keeps.cut (s0 := s0) (x := x) ?_ ?_ <;> (first | (clear_value x; intro hx) | subst x)) | (subst x; try dsimp -zeta only))
    | with_reducible (refine freeVal_keeps ?_)
    | with_reducible (refine extreme_keeps ?_)
    | split
    | lift_lets
    | (fail_if_no_progress with_reducible refine Keeps.mk' ?_ rfl rfl rfl rfl))

theorem execDiodeRead_keeps {a0} (h : Keeps s0 s) : Keeps s0 (after (execDiodeRead a0 s) s) := by
  delta execDiodeRead
  repeat' (first
    | with_reducible assumption
    | (refine fun (_ : Keeps _ _) => ?_)
    | (intro x; first | (refine Keeps.cut (s0 := s0) (x := x) ?_ ?_ <;> (first | (clear_value x; intro hx) | subst x)) | (subst x; try dsimp -zeta only))
    | with_reducible refine next_keeps ?_
    | with_reducible (refine settle_keeps ?_)
    | with_reducible (refine diodeBroken_keeps ?_)
    | with_reducible (refine judgeAbs_keeps ?_)
    | with_reducible (refine setInUse_keeps ?_)
    | split
    | lift_lets
    | (fail_if_no_progress with_reducible refine Keeps.mk' ?_ rfl rfl rfl rfl))

theorem crossCheck_keeps (h : Keeps s0 s) : Keeps s0 (crossCheck s) := by
  delta crossCheck
  repeat' (first
    | with_reducible assumption
    | (refine fun (_ : Keeps _ _) => ?_)
    | (intro x; first | (refine Keeps.cut (s0 := s0) (x := x) ?_ ?_ <;> (first | (clear_value x; intro hx) | subst x)) | (subst x; try dsimp -zeta only))
    | with_reducible (refine diodeBroken_keeps ?_)
    | split
    | lift_lets
    | (fail_if_no_progress with_reducible refine Keeps.mk' ?_ rfl rfl rfl rfl))

theorem packCheck_keeps (h : Keeps s0 s) : Keeps s0 (packCheck s) := by
  delta packCheck
  repeat' (first
    | with_reducible assumption
    | (refine fun (_ : Keeps _ _) => ?_)
    | (intro x; first | (refine Keeps.cut (s0 := s0) (x := x) ?_ ?_ <;> (first | (clear_value x; intro hx) | subst x)) | (subst x; try dsimp -zeta only))
    | with_reducible (refine chargeControl_keeps ?_)
    | with_reducible (refine icu_keeps ?_)
    | with_reducible (refine report_keeps ?_)
    | split
    | lift_lets
    | (fail_if_no_progress with_reducible refine Keeps.mk' ?_ rfl rfl rfl rfl))

theorem rateStep_keeps (h : Keeps s0 s) : Keeps s0 (rateStep s) := by
  delta rateStep
  repeat' (first
    | with_reducible assumption
    | (refine fun (_ : Keeps _ _) => ?_)
    | (intro x; first | (refine Keeps.cut (s0 := s0) (x := x) ?_ ?_ <;> (first | (clear_value x; intro hx) | subst x)) | (subst x; try dsimp -zeta only))
    | split
    | lift_lets
    | (fail_if_no_progress with_reducible refine Keeps.mk' ?_ rfl rfl rfl rfl))

theorem noteRate_keeps (h : Keeps s0 s) : Keeps s0 (noteRate s) := by
  delta noteRate
  repeat' (first
    | with_reducible assumption
    | (refine fun (_ : Keeps _ _) => ?_)
    | (intro x; first | (refine Keeps.cut (s0 := s0) (x := x) ?_ ?_ <;> (first | (clear_value x; intro hx) | subst x)) | (subst x; try dsimp -zeta only))
    | with_reducible (refine extreme_keeps ?_)
    | split
    | lift_lets
    | (fail_if_no_progress with_reducible refine Keeps.mk' ?_ rfl rfl rfl rfl))

theorem judgeRate_keeps (h : Keeps s0 s) : Keeps s0 (judgeRate s) := by
  delta judgeRate
  repeat' (first
    | with_reducible assumption
    | (refine fun (_ : Keeps _ _) => ?_)
    | (intro x; first | (refine Keeps.cut (s0 := s0) (x := x) ?_ ?_ <;> (first | (clear_value x; intro hx) | subst x)) | (subst x; try dsimp -zeta only))
    | with_reducible (refine pacingRows_keeps ?_)
    | with_reducible (refine furtherTrigger_keeps ?_)
    | with_reducible (refine icu_keeps ?_)
    | with_reducible (refine report_keeps ?_)
    | with_reducible (refine latchShutdown_keeps ?_)
    | with_reducible (refine hemCut_keeps ?_)
    | split
    | lift_lets
    | (fail_if_no_progress with_reducible refine Keeps.mk' ?_ rfl rfl rfl rfl))

theorem execThmCheck_keeps (h : Keeps s0 s) : Keeps s0 (after (execThmCheck s) s) := by
  delta execThmCheck
  repeat' (first
    | with_reducible assumption
    | (refine fun (_ : Keeps _ _) => ?_)
    | (intro x; first | (refine Keeps.cut (s0 := s0) (x := x) ?_ ?_ <;> (first | (clear_value x; intro hx) | subst x)) | (subst x; try dsimp -zeta only))
    | with_reducible refine next_keeps ?_
    | with_reducible (refine settle_keeps ?_)
    | with_reducible (refine wr_keeps ?_)
    | with_reducible (refine crossCheck_keeps ?_)
    | with_reducible (refine sensorsLost_keeps ?_)
    | with_reducible (refine packCheck_keeps ?_)
    | with_reducible (refine judgeAbs_keeps ?_)
    | with_reducible (refine setInUse_keeps ?_)
    | with_reducible (refine judgeRate_keeps ?_)
    | with_reducible (refine noteRate_keeps ?_)
    | with_reducible (refine rateStep_keeps ?_)
    | with_reducible (refine applyDoubled_keeps ?_)
    | with_reducible (refine applyRelief_keeps ?_)
    | with_reducible (refine thermalJoin_keeps ?_)
    | with_reducible (refine judgeWindow_keeps ?_)
    | with_reducible (refine forEach_keeps ?_ fun s a hs => ?_)
    | split
    | lift_lets
    | (fail_if_no_progress with_reducible refine Keeps.mk' ?_ rfl rfl rfl rfl))

theorem execDramTempRead_keeps {a0 a1 a2} (h : Keeps s0 s) : Keeps s0 (after (execDramTempRead a0 a1 a2 s) s) := by
  delta execDramTempRead
  repeat' (first
    | with_reducible assumption
    | (refine fun (_ : Keeps _ _) => ?_)
    | (intro x; first | (refine Keeps.cut (s0 := s0) (x := x) ?_ ?_ <;> (first | (clear_value x; intro hx) | subst x)) | (subst x; try dsimp -zeta only))
    | with_reducible refine next_keeps ?_
    | with_reducible (refine settle_keeps ?_)
    | with_reducible (refine extreme_keeps ?_)
    | with_reducible (refine wr_keeps ?_)
    | with_reducible (refine applyDoubled_keeps ?_)
    | with_reducible (refine applyRelief_keeps ?_)
    | split
    | lift_lets
    | (fail_if_no_progress with_reducible refine Keeps.mk' ?_ rfl rfl rfl rfl))

theorem execNandTempRead_keeps {a0 a1 a2} (h : Keeps s0 s) : Keeps s0 (after (execNandTempRead a0 a1 a2 s) s) := by
  delta execNandTempRead
  repeat' (first
    | with_reducible assumption
    | (refine fun (_ : Keeps _ _) => ?_)
    | (intro x; first | (refine Keeps.cut (s0 := s0) (x := x) ?_ ?_ <;> (first | (clear_value x; intro hx) | subst x)) | (subst x; try dsimp -zeta only))
    | with_reducible refine next_keeps ?_
    | with_reducible (refine settle_keeps ?_)
    | with_reducible (refine wr_keeps ?_)
    | with_reducible (refine setFch_keeps ?_)
    | with_reducible (refine extreme_keeps ?_)
    | with_reducible (refine hemFlag_keeps ?_)
    | with_reducible (refine judgeWindow_keeps ?_)
    | split
    | lift_lets
    | (fail_if_no_progress with_reducible refine Keeps.mk' ?_ rfl rfl rfl rfl))

theorem mbGetThermalStatus_keeps {a0 a1} (h : Keeps s0 s) : Keeps s0 (mbGetThermalStatus a0 a1 s) := by
  delta mbGetThermalStatus
  repeat' (first
    | with_reducible assumption
    | (refine fun (_ : Keeps _ _) => ?_)
    | (intro x; first | (refine Keeps.cut (s0 := s0) (x := x) ?_ ?_ <;> (first | (clear_value x; intro hx) | subst x)) | (subst x; try dsimp -zeta only))
    | with_reducible (refine replyBad_keeps ?_)
    | with_reducible (refine replyOk_keeps ?_)
    | split
    | lift_lets
    | (fail_if_no_progress with_reducible refine Keeps.mk' ?_ rfl rfl rfl rfl))

theorem execGetThermalStatus_keeps {a0 a1} (h : Keeps s0 s) : Keeps s0 (after (execGetThermalStatus a0 a1 s) s) := by
  delta execGetThermalStatus
  repeat' (first
    | with_reducible assumption
    | (refine fun (_ : Keeps _ _) => ?_)
    | (intro x; first | (refine Keeps.cut (s0 := s0) (x := x) ?_ ?_ <;> (first | (clear_value x; intro hx) | subst x)) | (subst x; try dsimp -zeta only))
    | with_reducible refine next_keeps ?_
    | with_reducible (refine settle_keeps ?_)
    | with_reducible (refine mbGetThermalStatus_keeps ?_)
    | split
    | lift_lets
    | (fail_if_no_progress with_reducible refine Keeps.mk' ?_ rfl rfl rfl rfl))

theorem walk_keeps (h : Keeps s0 s) : Keeps s0 (walk s) := by
  delta walk
  repeat' (first
    | with_reducible assumption
    | (refine fun (_ : Keeps _ _) => ?_)
    | (intro x; first | (refine Keeps.cut (s0 := s0) (x := x) ?_ ?_ <;> (first | (clear_value x; intro hx) | subst x)) | (subst x; try dsimp -zeta only))
    | with_reducible (refine walkUp_keeps ?_)
    | with_reducible (refine walkDown_keeps ?_)
    | split
    | lift_lets
    | (fail_if_no_progress with_reducible refine Keeps.mk' ?_ rfl rfl rfl rfl))

theorem latchOn_keeps {a0} (h : Keeps s0 s) : Keeps s0 (latchOn s a0) := by
  delta latchOn
  repeat' (first
    | with_reducible assumption
    | (refine fun (_ : Keeps _ _) => ?_)
    | (intro x; first | (refine Keeps.cut (s0 := s0) (x := x) ?_ ?_ <;> (first | (clear_value x; intro hx) | subst x)) | (subst x; try dsimp -zeta only))
    | with_reducible (refine traceReq_keeps ?_)
    | with_reducible (refine icu_keeps ?_)
    | split
    | lift_lets
    | (fail_if_no_progress with_reducible refine Keeps.mk' ?_ rfl rfl rfl rfl))

theorem execPowerUp_keeps {a0 a1} (h : Keeps s0 s) : Keeps s0 (after (execPowerUp a0 a1 s) s) := by
  delta execPowerUp
  repeat' (first
    | with_reducible assumption
    | (refine fun (_ : Keeps _ _) => ?_)
    | (intro x; first | (refine Keeps.cut (s0 := s0) (x := x) ?_ ?_ <;> (first | (clear_value x; intro hx) | subst x)) | (subst x; try dsimp -zeta only))
    | with_reducible refine next_keeps ?_
    | with_reducible (refine settle_keeps ?_)
    | with_reducible (refine startPowerUp_keeps ?_)
    | split
    | lift_lets
    | (fail_if_no_progress with_reducible refine Keeps.mk' ?_ rfl rfl rfl rfl))

theorem execRailUp_keeps {a0 a1} (h : Keeps s0 s) : Keeps s0 (after (execRailUp a0 a1 s) s) := by
  delta execRailUp
  repeat' (first
    | with_reducible assumption
    | (refine fun (_ : Keeps _ _) => ?_)
    | (intro x; first | (refine Keeps.cut (s0 := s0) (x := x) ?_ ?_ <;> (first | (clear_value x; intro hx) | subst x)) | (subst x; try dsimp -zeta only))
    | with_reducible refine next_keeps ?_
    | with_reducible (refine settle_keeps ?_)
    | with_reducible (refine railPg_keeps ?_)
    | with_reducible (refine setRail_keeps ?_)
    | with_reducible (refine coreStarted_keeps ?_)
    | with_reducible (refine wrB_keeps ?_)
    | with_reducible (refine walk_keeps ?_)
    | split
    | lift_lets
    | (fail_if_no_progress with_reducible refine Keeps.mk' ?_ rfl rfl rfl rfl))

theorem execRailRampTimeout_keeps {a0} (h : Keeps s0 s) : Keeps s0 (after (execRailRampTimeout a0 s) s) := by
  delta execRailRampTimeout
  repeat' (first
    | with_reducible assumption
    | (refine fun (_ : Keeps _ _) => ?_)
    | (intro x; first | (refine Keeps.cut (s0 := s0) (x := x) ?_ ?_ <;> (first | (clear_value x; intro hx) | subst x)) | (subst x; try dsimp -zeta only))
    | with_reducible refine next_keeps ?_
    | with_reducible (refine settle_keeps ?_)
    | with_reducible (refine walk_keeps ?_)
    | with_reducible (refine railFail_keeps ?_)
    | split
    | lift_lets
    | (fail_if_no_progress with_reducible refine Keeps.mk' ?_ rfl rfl rfl rfl))

theorem holdFail_keeps {a0} (h : Keeps s0 s) : Keeps s0 (holdFail s a0) := by
  delta holdFail
  repeat' (first
    | with_reducible assumption
    | (refine fun (_ : Keeps _ _) => ?_)
    | (intro x; first | (refine Keeps.cut (s0 := s0) (x := x) ?_ ?_ <;> (first | (clear_value x; intro hx) | subst x)) | (subst x; try dsimp -zeta only))
    | with_reducible (refine setRail_keeps ?_)
    | with_reducible (refine traceTrigger_keeps ?_)
    | with_reducible (refine trace_keeps ?_)
    | with_reducible (refine icu_keeps ?_)
    | split
    | lift_lets
    | (fail_if_no_progress with_reducible refine Keeps.mk' ?_ rfl rfl rfl rfl))

theorem execRailPgFall_keeps {a0} (h : Keeps s0 s) : Keeps s0 (after (execRailPgFall a0 s) s) := by
  delta execRailPgFall
  repeat' (first
    | with_reducible assumption
    | (refine fun (_ : Keeps _ _) => ?_)
    | (intro x; first | (refine Keeps.cut (s0 := s0) (x := x) ?_ ?_ <;> (first | (clear_value x; intro hx) | subst x)) | (subst x; try dsimp -zeta only))
    | with_reducible refine next_keeps ?_
    | with_reducible (refine settle_keeps ?_)
    | with_reducible (refine walk_keeps ?_)
    | with_reducible (refine railFail_keeps ?_)
    | with_reducible (refine railPg_keeps ?_)
    | split
    | lift_lets
    | (fail_if_no_progress with_reducible refine Keeps.mk' ?_ rfl rfl rfl rfl))

theorem windowCheck_keeps {a0 a1} (h : Keeps s0 s) : Keeps s0 (windowCheck s a0 a1) := by
  delta windowCheck
  repeat' (first
    | with_reducible assumption
    | (refine fun (_ : Keeps _ _) => ?_)
    | (intro x; first | (refine Keeps.cut (s0 := s0) (x := x) ?_ ?_ <;> (first | (clear_value x; intro hx) | subst x)) | (subst x; try dsimp -zeta only))
    | with_reducible (refine setRail_keeps ?_)
    | with_reducible (refine holdFail_keeps ?_)
    | with_reducible (refine walk_keeps ?_)
    | with_reducible (refine railFail_keeps ?_)
    | split
    | lift_lets
    | (fail_if_no_progress with_reducible refine Keeps.mk' ?_ rfl rfl rfl rfl))

theorem busCheck_keeps {a0 a1} (h : Keeps s0 s) : Keeps s0 (busCheck s a0 a1) := by
  delta busCheck
  repeat' (first
    | with_reducible assumption
    | (refine fun (_ : Keeps _ _) => ?_)
    | (intro x; first | (refine Keeps.cut (s0 := s0) (x := x) ?_ ?_ <;> (first | (clear_value x; intro hx) | subst x)) | (subst x; try dsimp -zeta only))
    | with_reducible (refine icu_keeps ?_)
    | split
    | lift_lets
    | (fail_if_no_progress with_reducible refine Keeps.mk' ?_ rfl rfl rfl rfl))

theorem execScanRead_keeps {a0 a1 a2} (h : Keeps s0 s) : Keeps s0 (after (execScanRead a0 a1 a2 s) s) := by
  delta execScanRead
  repeat' (first
    | with_reducible assumption
    | (refine fun (_ : Keeps _ _) => ?_)
    | (intro x; first | (refine Keeps.cut (s0 := s0) (x := x) ?_ ?_ <;> (first | (clear_value x; intro hx) | subst x)) | (subst x; try dsimp -zeta only))
    | with_reducible refine next_keeps ?_
    | with_reducible (refine settle_keeps ?_)
    | with_reducible (refine wr_keeps ?_)
    | with_reducible (refine report_keeps ?_)
    | with_reducible (refine windowCheck_keeps ?_)
    | with_reducible (refine recomputeBudget_keeps ?_)
    | with_reducible (refine tapCheck_keeps ?_)
    | with_reducible (refine thermistorCheck_keeps ?_)
    | with_reducible (refine busCheck_keeps ?_)
    | split
    | lift_lets
    | (fail_if_no_progress with_reducible refine Keeps.mk' ?_ rfl rfl rfl rfl))

theorem execTraceSample_keeps {a0} (h : Keeps s0 s) : Keeps s0 (after (execTraceSample a0 s) s) := by
  delta execTraceSample
  repeat' (first
    | with_reducible assumption
    | (refine fun (_ : Keeps _ _) => ?_)
    | (intro x; first | (refine Keeps.cut (s0 := s0) (x := x) ?_ ?_ <;> (first | (clear_value x; intro hx) | subst x)) | (subst x; try dsimp -zeta only))
    | with_reducible refine next_keeps ?_
    | with_reducible (refine settle_keeps ?_)
    | with_reducible (refine trace_keeps ?_)
    | split
    | lift_lets
    | (fail_if_no_progress with_reducible refine Keeps.mk' ?_ rfl rfl rfl rfl))

theorem holdTest_keeps (h : Keeps s0 s) : Keeps s0 (holdTest s) := by
  delta holdTest
  repeat' (first
    | with_reducible assumption
    | (refine fun (_ : Keeps _ _) => ?_)
    | (intro x; first | (refine Keeps.cut (s0 := s0) (x := x) ?_ ?_ <;> (first | (clear_value x; intro hx) | subst x)) | (subst x; try dsimp -zeta only))
    | with_reducible (refine batHold_keeps ?_)
    | with_reducible (refine updateHold_keeps ?_)
    | with_reducible (refine accessErr_keeps ?_)
    | split
    | lift_lets
    | (fail_if_no_progress with_reducible refine Keeps.mk' ?_ rfl rfl rfl rfl))

theorem cmdOn_keeps (h : Keeps s0 s) : Keeps s0 (cmdOn s) := by
  delta cmdOn
  repeat' (first
    | with_reducible assumption
    | (refine fun (_ : Keeps _ _) => ?_)
    | (intro x; first | (refine Keeps.cut (s0 := s0) (x := x) ?_ ?_ <;> (first | (clear_value x; intro hx) | subst x)) | (subst x; try dsimp -zeta only))
    | with_reducible (refine latchOn_keeps ?_)
    | split
    | lift_lets
    | (fail_if_no_progress with_reducible refine Keeps.mk' ?_ rfl rfl rfl rfl))

theorem cmdOff_keeps (h : Keeps s0 s) : Keeps s0 (cmdOff s) := by
  delta cmdOff
  repeat' (first
    | with_reducible assumption
    | (refine fun (_ : Keeps _ _) => ?_)
    | (intro x; first | (refine Keeps.cut (s0 := s0) (x := x) ?_ ?_ <;> (first | (clear_value x; intro hx) | subst x)) | (subst x; try dsimp -zeta only))
    | with_reducible (refine offRequest_keeps ?_)
    | split
    | lift_lets
    | (fail_if_no_progress with_reducible refine Keeps.mk' ?_ rfl rfl rfl rfl))

theorem psqCmd_keeps {a0} (h : Keeps s0 s) : Keeps s0 (psqCmd s a0) := by
  delta psqCmd
  repeat' (first
    | with_reducible assumption
    | (refine fun (_ : Keeps _ _) => ?_)
    | (intro x; first | (refine Keeps.cut (s0 := s0) (x := x) ?_ ?_ <;> (first | (clear_value x; intro hx) | subst x)) | (subst x; try dsimp -zeta only))
    | with_reducible (refine accessErr_keeps ?_)
    | with_reducible (refine cmdOn_keeps ?_)
    | with_reducible (refine cmdOff_keeps ?_)
    | with_reducible (refine holdTest_keeps ?_)
    | with_reducible (refine traceTrigger_keeps ?_)
    | split
    | lift_lets
    | (fail_if_no_progress with_reducible refine Keeps.mk' ?_ rfl rfl rfl rfl))

theorem execPsqCmdOn_keeps {a0} (h : Keeps s0 s) : Keeps s0 (after (execPsqCmdOn a0 s) s) := by
  delta execPsqCmdOn
  repeat' (first
    | with_reducible assumption
    | (refine fun (_ : Keeps _ _) => ?_)
    | (intro x; first | (refine Keeps.cut (s0 := s0) (x := x) ?_ ?_ <;> (first | (clear_value x; intro hx) | subst x)) | (subst x; try dsimp -zeta only))
    | with_reducible refine next_keeps ?_
    | with_reducible (refine settle_keeps ?_)
    | with_reducible (refine psqCmd_keeps ?_)
    | split
    | lift_lets
    | (fail_if_no_progress with_reducible refine Keeps.mk' ?_ rfl rfl rfl rfl))

theorem execPsqCmdOff_keeps {a0} (h : Keeps s0 s) : Keeps s0 (after (execPsqCmdOff a0 s) s) := by
  delta execPsqCmdOff
  repeat' (first
    | with_reducible assumption
    | (refine fun (_ : Keeps _ _) => ?_)
    | (intro x; first | (refine Keeps.cut (s0 := s0) (x := x) ?_ ?_ <;> (first | (clear_value x; intro hx) | subst x)) | (subst x; try dsimp -zeta only))
    | with_reducible refine next_keeps ?_
    | with_reducible (refine settle_keeps ?_)
    | with_reducible (refine psqCmd_keeps ?_)
    | split
    | lift_lets
    | (fail_if_no_progress with_reducible refine Keeps.mk' ?_ rfl rfl rfl rfl))

theorem execPsqHoldTest_keeps {a0} (h : Keeps s0 s) : Keeps s0 (after (execPsqHoldTest a0 s) s) := by
  delta execPsqHoldTest
  repeat' (first
    | with_reducible assumption
    | (refine fun (_ : Keeps _ _) => ?_)
    | (intro x; first | (refine Keeps.cut (s0 := s0) (x := x) ?_ ?_ <;> (first | (clear_value x; intro hx) | subst x)) | (subst x; try dsimp -zeta only))
    | with_reducible refine next_keeps ?_
    | with_reducible (refine settle_keeps ?_)
    | with_reducible (refine psqCmd_keeps ?_)
    | split
    | lift_lets
    | (fail_if_no_progress with_reducible refine Keeps.mk' ?_ rfl rfl rfl rfl))

theorem execPsqTraceFreeze_keeps {a0} (h : Keeps s0 s) : Keeps s0 (after (execPsqTraceFreeze a0 s) s) := by
  delta execPsqTraceFreeze
  repeat' (first
    | with_reducible assumption
    | (refine fun (_ : Keeps _ _) => ?_)
    | (intro x; first | (refine Keeps.cut (s0 := s0) (x := x) ?_ ?_ <;> (first | (clear_value x; intro hx) | subst x)) | (subst x; try dsimp -zeta only))
    | with_reducible refine next_keeps ?_
    | with_reducible (refine settle_keeps ?_)
    | with_reducible (refine psqCmd_keeps ?_)
    | split
    | lift_lets
    | (fail_if_no_progress with_reducible refine Keeps.mk' ?_ rfl rfl rfl rfl))

theorem execPsqTraceUnfreeze_keeps {a0} (h : Keeps s0 s) : Keeps s0 (after (execPsqTraceUnfreeze a0 s) s) := by
  delta execPsqTraceUnfreeze
  repeat' (first
    | with_reducible assumption
    | (refine fun (_ : Keeps _ _) => ?_)
    | (intro x; first | (refine Keeps.cut (s0 := s0) (x := x) ?_ ?_ <;> (first | (clear_value x; intro hx) | subst x)) | (subst x; try dsimp -zeta only))
    | with_reducible refine next_keeps ?_
    | with_reducible (refine settle_keeps ?_)
    | with_reducible (refine psqCmd_keeps ?_)
    | split
    | lift_lets
    | (fail_if_no_progress with_reducible refine Keeps.mk' ?_ rfl rfl rfl rfl))

theorem execRailDischarged_keeps {a0 a1} (h : Keeps s0 s) : Keeps s0 (after (execRailDischarged a0 a1 s) s) := by
  delta execRailDischarged
  repeat' (first
    | with_reducible assumption
    | (refine fun (_ : Keeps _ _) => ?_)
    | (intro x; first | (refine Keeps.cut (s0 := s0) (x := x) ?_ ?_ <;> (first | (clear_value x; intro hx) | subst x)) | (subst x; try dsimp -zeta only))
    | with_reducible refine next_keeps ?_
    | with_reducible (refine settle_keeps ?_)
    | with_reducible (refine walk_keeps ?_)
    | with_reducible (refine trace_keeps ?_)
    | with_reducible (refine setRail_keeps ?_)
    | split
    | lift_lets
    | (fail_if_no_progress with_reducible refine Keeps.mk' ?_ rfl rfl rfl rfl))

theorem execDischargeTimeout_keeps {a0} (h : Keeps s0 s) : Keeps s0 (after (execDischargeTimeout a0 s) s) := by
  delta execDischargeTimeout
  repeat' (first
    | with_reducible assumption
    | (refine fun (_ : Keeps _ _) => ?_)
    | (intro x; first | (refine Keeps.cut (s0 := s0) (x := x) ?_ ?_ <;> (first | (clear_value x; intro hx) | subst x)) | (subst x; try dsimp -zeta only))
    | with_reducible refine next_keeps ?_
    | with_reducible (refine settle_keeps ?_)
    | with_reducible (refine setRail_keeps ?_)
    | with_reducible (refine icu_keeps ?_)
    | with_reducible (refine trace_keeps ?_)
    | with_reducible (refine walk_keeps ?_)
    | with_reducible (refine report_keeps ?_)
    | split
    | lift_lets
    | (fail_if_no_progress with_reducible refine Keeps.mk' ?_ rfl rfl rfl rfl))

theorem execMinOffTimeExpiry_keeps (h : Keeps s0 s) : Keeps s0 (after (execMinOffTimeExpiry s) s) := by
  delta execMinOffTimeExpiry
  repeat' (first
    | with_reducible assumption
    | (refine fun (_ : Keeps _ _) => ?_)
    | (intro x; first | (refine Keeps.cut (s0 := s0) (x := x) ?_ ?_ <;> (first | (clear_value x; intro hx) | subst x)) | (subst x; try dsimp -zeta only))
    | with_reducible refine next_keeps ?_
    | with_reducible (refine settle_keeps ?_)
    | with_reducible (refine startPowerUp_keeps ?_)
    | split
    | lift_lets
    | (fail_if_no_progress with_reducible refine Keeps.mk' ?_ rfl rfl rfl rfl))

theorem execInputPresent_keeps {a0 a1} (h : Keeps s0 s) : Keeps s0 (after (execInputPresent a0 a1 s) s) := by
  delta execInputPresent
  repeat' (first
    | with_reducible assumption
    | (refine fun (_ : Keeps _ _) => ?_)
    | (intro x; first | (refine Keeps.cut (s0 := s0) (x := x) ?_ ?_ <;> (first | (clear_value x; intro hx) | subst x)) | (subst x; try dsimp -zeta only))
    | with_reducible refine next_keeps ?_
    | with_reducible (refine settle_keeps ?_)
    | with_reducible (refine trace_keeps ?_)
    | with_reducible (refine icu_keeps ?_)
    | with_reducible (refine updateHold_keeps ?_)
    | with_reducible (refine setHem_keeps ?_)
    | with_reducible (refine wrF_keeps ?_)
    | with_reducible (refine startPowerUp_keeps ?_)
    | with_reducible (refine latchOn_keeps ?_)
    | split
    | lift_lets
    | (fail_if_no_progress with_reducible refine Keeps.mk' ?_ rfl rfl rfl rfl))

theorem clearLatches_keeps (h : Keeps s0 s) : Keeps s0 (clearLatches s) := by
  delta clearLatches
  repeat' (first
    | with_reducible assumption
    | (refine fun (_ : Keeps _ _) => ?_)
    | (intro x; first | (refine Keeps.cut (s0 := s0) (x := x) ?_ ?_ <;> (first | (clear_value x; intro hx) | subst x)) | (subst x; try dsimp -zeta only))
    | with_reducible (refine driveFault_keeps ?_)
    | with_reducible (refine setGrp_keeps ?_)
    | with_reducible (refine forEach_keeps ?_ fun s a hs => ?_)
    | split
    | lift_lets
    | (fail_if_no_progress with_reducible refine Keeps.mk' ?_ rfl rfl rfl rfl))

theorem execPowerCycle_keeps (h : Keeps s0 s) : Keeps s0 (after (execPowerCycle s) s) := by
  delta execPowerCycle
  repeat' (first
    | with_reducible assumption
    | (refine fun (_ : Keeps _ _) => ?_)
    | (intro x; first | (refine Keeps.cut (s0 := s0) (x := x) ?_ ?_ <;> (first | (clear_value x; intro hx) | subst x)) | (subst x; try dsimp -zeta only))
    | with_reducible refine next_keeps ?_
    | with_reducible (refine settle_keeps ?_)
    | with_reducible (refine clearLatches_keeps ?_)
    | with_reducible (refine addSat_keeps ?_)
    | split
    | lift_lets
    | (fail_if_no_progress with_reducible refine Keeps.mk' ?_ rfl rfl rfl rfl))

theorem execVaoReset_keeps (h : Keeps s0 s) : Keeps s0 (after (execVaoReset s) s) := by
  unfold execVaoReset
  refine next_keeps (settle_keeps ?_)
  refine Keeps.whole ?_ filter_wf (fun _ => rfl) id rfl id fun _ => Nat.zero_le 16
  exact clearLatches_keeps (Keeps.mk' (coreLost_keeps (setHem_keeps h)) rfl rfl rfl rfl)

theorem execVaoResetRelease_keeps {a0} (h : Keeps s0 s) : Keeps s0 (after (execVaoResetRelease a0 s) s) := by
  delta execVaoResetRelease
  repeat' (first
    | with_reducible assumption
    | (refine fun (_ : Keeps _ _) => ?_)
    | (intro x; first | (refine Keeps.cut (s0 := s0) (x := x) ?_ ?_ <;> (first | (clear_value x; intro hx) | subst x)) | (subst x; try dsimp -zeta only))
    | with_reducible refine next_keeps ?_
    | with_reducible (refine settle_keeps ?_)
    | split
    | lift_lets
    | (fail_if_no_progress with_reducible refine Keeps.mk' ?_ rfl rfl rfl rfl))

theorem holdSlow_keeps (h : Keeps s0 s) : Keeps s0 (holdSlow s) := by
  delta holdSlow
  repeat' (first
    | with_reducible assumption
    | (refine fun (_ : Keeps _ _) => ?_)
    | (intro x; first | (refine Keeps.cut (s0 := s0) (x := x) ?_ ?_ <;> (first | (clear_value x; intro hx) | subst x)) | (subst x; try dsimp -zeta only))
    | with_reducible (refine report_keeps ?_)
    | split
    | lift_lets
    | (fail_if_no_progress with_reducible refine Keeps.mk' ?_ rfl rfl rfl rfl))

theorem execHoldPgRise_keeps {a0} (h : Keeps s0 s) : Keeps s0 (after (execHoldPgRise a0 s) s) := by
  delta execHoldPgRise
  repeat' (first
    | with_reducible assumption
    | (refine fun (_ : Keeps _ _) => ?_)
    | (intro x; first | (refine Keeps.cut (s0 := s0) (x := x) ?_ ?_ <;> (first | (clear_value x; intro hx) | subst x)) | (subst x; try dsimp -zeta only))
    | with_reducible refine next_keeps ?_
    | with_reducible (refine settle_keeps ?_)
    | with_reducible (refine railPg_keeps ?_)
    | with_reducible (refine setRail_keeps ?_)
    | with_reducible (refine holdSlow_keeps ?_)
    | split
    | lift_lets
    | (fail_if_no_progress with_reducible refine Keeps.mk' ?_ rfl rfl rfl rfl))

theorem execHoldPgLimitExpiry_keeps (h : Keeps s0 s) : Keeps s0 (after (execHoldPgLimitExpiry s) s) := by
  delta execHoldPgLimitExpiry
  repeat' (first
    | with_reducible assumption
    | (refine fun (_ : Keeps _ _) => ?_)
    | (intro x; first | (refine Keeps.cut (s0 := s0) (x := x) ?_ ?_ <;> (first | (clear_value x; intro hx) | subst x)) | (subst x; try dsimp -zeta only))
    | with_reducible refine next_keeps ?_
    | with_reducible (refine settle_keeps ?_)
    | with_reducible (refine holdSlow_keeps ?_)
    | split
    | lift_lets
    | (fail_if_no_progress with_reducible refine Keeps.mk' ?_ rfl rfl rfl rfl))

theorem execHoldPgFall_keeps (h : Keeps s0 s) : Keeps s0 (after (execHoldPgFall s) s) := by
  delta execHoldPgFall
  repeat' (first
    | with_reducible assumption
    | (refine fun (_ : Keeps _ _) => ?_)
    | (intro x; first | (refine Keeps.cut (s0 := s0) (x := x) ?_ ?_ <;> (first | (clear_value x; intro hx) | subst x)) | (subst x; try dsimp -zeta only))
    | with_reducible refine next_keeps ?_
    | with_reducible (refine settle_keeps ?_)
    | with_reducible (refine railPg_keeps ?_)
    | with_reducible (refine holdFail_keeps ?_)
    | with_reducible (refine setRail_keeps ?_)
    | split
    | lift_lets
    | (fail_if_no_progress with_reducible refine Keeps.mk' ?_ rfl rfl rfl rfl))

theorem execHoldTestEnd_keeps (h : Keeps s0 s) : Keeps s0 (after (execHoldTestEnd s) s) := by
  delta execHoldTestEnd
  repeat' (first
    | with_reducible assumption
    | (refine fun (_ : Keeps _ _) => ?_)
    | (intro x; first | (refine Keeps.cut (s0 := s0) (x := x) ?_ ?_ <;> (first | (clear_value x; intro hx) | subst x)) | (subst x; try dsimp -zeta only))
    | with_reducible refine next_keeps ?_
    | with_reducible (refine settle_keeps ?_)
    | with_reducible (refine icu_keeps ?_)
    | with_reducible (refine updateHold_keeps ?_)
    | split
    | lift_lets
    | (fail_if_no_progress with_reducible refine Keeps.mk' ?_ rfl rfl rfl rfl))

theorem execResetStretchExpiry_keeps {a0} (h : Keeps s0 s) : Keeps s0 (after (execResetStretchExpiry a0 s) s) := by
  delta execResetStretchExpiry
  repeat' (first
    | with_reducible assumption
    | (refine fun (_ : Keeps _ _) => ?_)
    | (intro x; first | (refine Keeps.cut (s0 := s0) (x := x) ?_ ?_ <;> (first | (clear_value x; intro hx) | subst x)) | (subst x; try dsimp -zeta only))
    | with_reducible refine next_keeps ?_
    | with_reducible (refine settle_keeps ?_)
    | with_reducible (refine setRail_keeps ?_)
    | with_reducible (refine setRst_keeps ?_)
    | split
    | lift_lets
    | (fail_if_no_progress with_reducible refine Keeps.mk' ?_ rfl rfl rfl rfl))

theorem rstCtrl_keeps {a0} (h : Keeps s0 s) : Keeps s0 (rstCtrl s a0) := by
  delta rstCtrl
  repeat' (first
    | with_reducible assumption
    | (refine fun (_ : Keeps _ _) => ?_)
    | (intro x; first | (refine Keeps.cut (s0 := s0) (x := x) ?_ ?_ <;> (first | (clear_value x; intro hx) | subst x)) | (subst x; try dsimp -zeta only))
    | with_reducible (refine wr_keeps ?_)
    | with_reducible (refine setRst_keeps ?_)
    | with_reducible (refine forEach_keeps ?_ fun s a hs => ?_)
    | split
    | lift_lets
    | (fail_if_no_progress with_reducible refine Keeps.mk' ?_ rfl rfl rfl rfl))

theorem execPsqRstCtrlWrite_keeps {a0} (h : Keeps s0 s) : Keeps s0 (after (execPsqRstCtrlWrite a0 s) s) := by
  delta execPsqRstCtrlWrite
  repeat' (first
    | with_reducible assumption
    | (refine fun (_ : Keeps _ _) => ?_)
    | (intro x; first | (refine Keeps.cut (s0 := s0) (x := x) ?_ ?_ <;> (first | (clear_value x; intro hx) | subst x)) | (subst x; try dsimp -zeta only))
    | with_reducible refine next_keeps ?_
    | with_reducible (refine settle_keeps ?_)
    | with_reducible (refine accessErr_keeps ?_)
    | with_reducible (refine rstCtrl_keeps ?_)
    | split
    | lift_lets
    | (fail_if_no_progress with_reducible refine Keeps.mk' ?_ rfl rfl rfl rfl))

theorem execTrigger2Arm_keeps (h : Keeps s0 s) : Keeps s0 (after (execTrigger2Arm s) s) := by
  delta execTrigger2Arm
  repeat' (first
    | with_reducible assumption
    | (refine fun (_ : Keeps _ _) => ?_)
    | (intro x; first | (refine Keeps.cut (s0 := s0) (x := x) ?_ ?_ <;> (first | (clear_value x; intro hx) | subst x)) | (subst x; try dsimp -zeta only))
    | with_reducible refine next_keeps ?_
    | with_reducible (refine settle_keeps ?_)
    | with_reducible (refine icu_keeps ?_)
    | split
    | lift_lets
    | (fail_if_no_progress with_reducible refine Keeps.mk' ?_ rfl rfl rfl rfl))

theorem execLatchOpenChange_keeps {a0} (h : Keeps s0 s) : Keeps s0 (after (execLatchOpenChange a0 s) s) := by
  delta execLatchOpenChange
  repeat' (first
    | with_reducible assumption
    | (refine fun (_ : Keeps _ _) => ?_)
    | (intro x; first | (refine Keeps.cut (s0 := s0) (x := x) ?_ ?_ <;> (first | (clear_value x; intro hx) | subst x)) | (subst x; try dsimp -zeta only))
    | with_reducible refine next_keeps ?_
    | with_reducible (refine settle_keeps ?_)
    | with_reducible (refine abandonReconstruction_keeps ?_)
    | split
    | lift_lets
    | (fail_if_no_progress with_reducible refine Keeps.mk' ?_ rfl rfl rfl rfl))

theorem execVidStep_keeps {a0} (h : Keeps s0 s) : Keeps s0 (after (execVidStep a0 s) s) := by
  delta execVidStep
  repeat' (first
    | with_reducible assumption
    | (refine fun (_ : Keeps _ _) => ?_)
    | (intro x; first | (refine Keeps.cut (s0 := s0) (x := x) ?_ ?_ <;> (first | (clear_value x; intro hx) | subst x)) | (subst x; try dsimp -zeta only))
    | with_reducible refine next_keeps ?_
    | with_reducible (refine settle_keeps ?_)
    | split
    | lift_lets
    | (fail_if_no_progress with_reducible refine Keeps.mk' ?_ rfl rfl rfl rfl))

end Sys2Proof.Machine
end

