-- ==== Sys2Proof/Laws/KeepsFaults.lean ====
section
/-! SUPPORT. Frame lemmas of the operations of Machine/Faults, Machine/Hl, Machine/Mirror, Machine/Sb, Machine/Sys: each keeps the queue and every
invariant of `Keeps`. -/

set_option linter.unusedTactic false
set_option linter.unreachableTactic false

namespace Sys2Proof.Machine

open Bits

variable {s0 s : State}

theorem bufferLost_keeps {a0 a1} (h : Keeps s0 s) : Keeps s0 (bufferLost s a0 a1) := by
  delta bufferLost
  repeat' (first
    | with_reducible assumption
    | (refine fun (_ : Keeps _ _) => ?_)
    | (intro x; first | (refine Keeps.cut (s0 := s0) (x := x) ?_ ?_ <;> (first | (clear_value x; intro hx) | subst x)) | (subst x; try dsimp -zeta only))
    | with_reducible (refine writeLine_keeps ?_)
    | split
    | lift_lets
    | (fail_if_no_progress with_reducible refine Keeps.mk' ?_ rfl rfl rfl rfl))

theorem bufferUe_keeps {a0} (h : Keeps s0 s) : Keeps s0 (bufferUe s a0) := by
  delta bufferUe
  repeat' (first
    | with_reducible assumption
    | (refine fun (_ : Keeps _ _) => ?_)
    | (intro x; first | (refine Keeps.cut (s0 := s0) (x := x) ?_ ?_ <;> (first | (clear_value x; intro hx) | subst x)) | (subst x; try dsimp -zeta only))
    | with_reducible (refine freeVal_keeps ?_)
    | with_reducible (refine wr_keeps ?_)
    | with_reducible (refine report_keeps ?_)
    | split
    | lift_lets
    | (fail_if_no_progress with_reducible refine Keeps.mk' ?_ rfl rfl rfl rfl))

theorem detected_keeps {a0 a1 a2} (h : Keeps s0 s) : Keeps s0 (detected s a0 a1 a2) := by
  unfold detected
  dsimp only
  repeat' split
  all_goals first
    | with_reducible exact h
    | with_reducible exact addSat_keeps h
    | with_reducible exact icu_keeps (addSat_keeps h)
    | with_reducible exact bufferLost_keeps h
    | with_reducible exact bufferLost_keeps (bufferUe_keeps h)
    | with_reducible exact report_keeps h
    | with_reducible exact setGrp_keeps h
    | with_reducible exact noteReasons_keeps (refreshGroup_keeps (Keeps.mk' h rfl rfl rfl rfl))
    | with_reducible exact noteReasons_keeps (Keeps.mk' h rfl rfl rfl rfl)

theorem detect_keeps {a0 a1 a2} (h : Keeps s0 s) : Keeps s0 (detect s a0 a1 a2) := by
  delta detect
  repeat' (first
    | with_reducible assumption
    | (refine fun (_ : Keeps _ _) => ?_)
    | (intro x; first | (refine Keeps.cut (s0 := s0) (x := x) ?_ ?_ <;> (first | (clear_value x; intro hx) | subst x)) | (subst x; try dsimp -zeta only))
    | with_reducible (refine detected_keeps ?_)
    | with_reducible (refine report_keeps ?_)
    | split
    | lift_lets
    | (fail_if_no_progress with_reducible refine Keeps.mk' ?_ rfl rfl rfl rfl))

theorem execErrorReport_keeps {a0 a1 a2} (h : Keeps s0 s) : Keeps s0 (after (execErrorReport a0 a1 a2 s) s) := by
  delta execErrorReport
  repeat' (first
    | with_reducible assumption
    | (refine fun (_ : Keeps _ _) => ?_)
    | (intro x; first | (refine Keeps.cut (s0 := s0) (x := x) ?_ ?_ <;> (first | (clear_value x; intro hx) | subst x)) | (subst x; try dsimp -zeta only))
    | with_reducible refine next_keeps ?_
    | with_reducible (refine settle_keeps ?_)
    | with_reducible (refine detect_keeps ?_)
    | split
    | lift_lets
    | (fail_if_no_progress with_reducible refine Keeps.mk' ?_ rfl rfl rfl rfl))

theorem execHandlingTimeout_keeps {a0 a1} (h : Keeps s0 s) : Keeps s0 (after (execHandlingTimeout a0 a1 s) s) := by
  delta execHandlingTimeout
  repeat' (first
    | with_reducible assumption
    | (refine fun (_ : Keeps _ _) => ?_)
    | (intro x; first | (refine Keeps.cut (s0 := s0) (x := x) ?_ ?_ <;> (first | (clear_value x; intro hx) | subst x)) | (subst x; try dsimp -zeta only))
    | with_reducible refine next_keeps ?_
    | with_reducible (refine settle_keeps ?_)
    | split
    | lift_lets
    | (fail_if_no_progress with_reducible refine Keeps.mk' ?_ rfl rfl rfl rfl))

theorem liftUnit_keeps {a0} (h : Keeps s0 s) : Keeps s0 (liftUnit s a0) := by
  delta liftUnit
  repeat' (first
    | with_reducible assumption
    | (refine fun (_ : Keeps _ _) => ?_)
    | (intro x; first | (refine Keeps.cut (s0 := s0) (x := x) ?_ ?_ <;> (first | (clear_value x; intro hx) | subst x)) | (subst x; try dsimp -zeta only))
    | with_reducible (refine icu_keeps ?_)
    | with_reducible (refine updateScale_keeps ?_)
    | with_reducible (refine softReset_keeps ?_)
    | with_reducible (refine recomputeLevel_keeps ?_)
    | split
    | lift_lets
    | (fail_if_no_progress with_reducible refine Keeps.mk' ?_ rfl rfl rfl rfl))

theorem fenceCmd_keeps {a0} (h : Keeps s0 s) : Keeps s0 (fenceCmd s a0) := by
  delta fenceCmd
  repeat' (first
    | with_reducible assumption
    | (refine fun (_ : Keeps _ _) => ?_)
    | (intro x; first | (refine Keeps.cut (s0 := s0) (x := x) ?_ ?_ <;> (first | (clear_value x; intro hx) | subst x)) | (subst x; try dsimp -zeta only))
    | with_reducible (refine accessErr_keeps ?_)
    | with_reducible (refine fenceUnit_keeps ?_)
    | with_reducible (refine icu_keeps ?_)
    | with_reducible (refine liftUnit_keeps ?_)
    | split
    | lift_lets
    | (fail_if_no_progress with_reducible refine Keeps.mk' ?_ rfl rfl rfl rfl))

theorem execFltFence_keeps {a0} (h : Keeps s0 s) : Keeps s0 (after (execFltFence a0 s) s) := by
  delta execFltFence
  repeat' (first
    | with_reducible assumption
    | (refine fun (_ : Keeps _ _) => ?_)
    | (intro x; first | (refine Keeps.cut (s0 := s0) (x := x) ?_ ?_ <;> (first | (clear_value x; intro hx) | subst x)) | (subst x; try dsimp -zeta only))
    | with_reducible refine next_keeps ?_
    | with_reducible (refine settle_keeps ?_)
    | with_reducible (refine fenceCmd_keeps ?_)
    | split
    | lift_lets
    | (fail_if_no_progress with_reducible refine Keeps.mk' ?_ rfl rfl rfl rfl))

theorem execFltLift_keeps {a0} (h : Keeps s0 s) : Keeps s0 (after (execFltLift a0 s) s) := by
  delta execFltLift
  repeat' (first
    | with_reducible assumption
    | (refine fun (_ : Keeps _ _) => ?_)
    | (intro x; first | (refine Keeps.cut (s0 := s0) (x := x) ?_ ?_ <;> (first | (clear_value x; intro hx) | subst x)) | (subst x; try dsimp -zeta only))
    | with_reducible refine next_keeps ?_
    | with_reducible (refine settle_keeps ?_)
    | with_reducible (refine fenceCmd_keeps ?_)
    | split
    | lift_lets
    | (fail_if_no_progress with_reducible refine Keeps.mk' ?_ rfl rfl rfl rfl))

theorem execDumpWindowExpiry_keeps (h : Keeps s0 s) : Keeps s0 (after (execDumpWindowExpiry s) s) := by
  delta execDumpWindowExpiry
  repeat' (first
    | with_reducible assumption
    | (refine fun (_ : Keeps _ _) => ?_)
    | (intro x; first | (refine Keeps.cut (s0 := s0) (x := x) ?_ ?_ <;> (first | (clear_value x; intro hx) | subst x)) | (subst x; try dsimp -zeta only))
    | with_reducible refine next_keeps ?_
    | with_reducible (refine settle_keeps ?_)
    | with_reducible (refine closeWindow_keeps ?_)
    | split
    | lift_lets
    | (fail_if_no_progress with_reducible refine Keeps.mk' ?_ rfl rfl rfl rfl))

theorem dumpOnCommand_keeps (h : Keeps s0 s) : Keeps s0 (dumpOnCommand s) := by
  delta dumpOnCommand
  repeat' (first
    | with_reducible assumption
    | (refine fun (_ : Keeps _ _) => ?_)
    | (intro x; first | (refine Keeps.cut (s0 := s0) (x := x) ?_ ?_ <;> (first | (clear_value x; intro hx) | subst x)) | (subst x; try dsimp -zeta only))
    | with_reducible (refine takeSnap_keeps ?_)
    | split
    | lift_lets
    | (fail_if_no_progress with_reducible refine Keeps.mk' ?_ rfl rfl rfl rfl))

theorem dumpRefused_keeps (h : Keeps s0 s) : Keeps s0 (dumpRefused s) := by
  delta dumpRefused
  repeat' (first
    | with_reducible assumption
    | (refine fun (_ : Keeps _ _) => ?_)
    | (intro x; first | (refine Keeps.cut (s0 := s0) (x := x) ?_ ?_ <;> (first | (clear_value x; intro hx) | subst x)) | (subst x; try dsimp -zeta only))
    | with_reducible (refine skipDump_keeps ?_)
    | split
    | lift_lets
    | (fail_if_no_progress with_reducible refine Keeps.mk' ?_ rfl rfl rfl rfl))

theorem dumpTake_keeps (h : Keeps s0 s) : Keeps s0 (dumpTake s) := by
  delta dumpTake
  repeat' (first
    | with_reducible assumption
    | (refine fun (_ : Keeps _ _) => ?_)
    | (intro x; first | (refine Keeps.cut (s0 := s0) (x := x) ?_ ?_ <;> (first | (clear_value x; intro hx) | subst x)) | (subst x; try dsimp -zeta only))
    | with_reducible (refine dumpOnCommand_keeps ?_)
    | with_reducible (refine dumpRefused_keeps ?_)
    | split
    | lift_lets
    | (fail_if_no_progress with_reducible refine Keeps.mk' ?_ rfl rfl rfl rfl))

theorem dumpDone_keeps (h : Keeps s0 s) : Keeps s0 (dumpDone s) := by
  delta dumpDone
  repeat' (first
    | with_reducible assumption
    | (refine fun (_ : Keeps _ _) => ?_)
    | (intro x; first | (refine Keeps.cut (s0 := s0) (x := x) ?_ ?_ <;> (first | (clear_value x; intro hx) | subst x)) | (subst x; try dsimp -zeta only))
    | with_reducible (refine icu_keeps ?_)
    | with_reducible (refine finishStop_keeps ?_)
    | with_reducible (refine setFlt_keeps ?_)
    | split
    | lift_lets
    | (fail_if_no_progress with_reducible refine Keeps.mk' ?_ rfl rfl rfl rfl))

theorem dumpClear_keeps (h : Keeps s0 s) : Keeps s0 (dumpClear s) := by
  delta dumpClear
  repeat' (first
    | with_reducible assumption
    | (refine fun (_ : Keeps _ _) => ?_)
    | (intro x; first | (refine Keeps.cut (s0 := s0) (x := x) ?_ ?_ <;> (first | (clear_value x; intro hx) | subst x)) | (subst x; try dsimp -zeta only))
    | split
    | lift_lets
    | (fail_if_no_progress with_reducible refine Keeps.mk' ?_ rfl rfl rfl rfl))

theorem dumpCmd_keeps {a0} (h : Keeps s0 s) : Keeps s0 (dumpCmd s a0) := by
  delta dumpCmd
  repeat' (first
    | with_reducible assumption
    | (refine fun (_ : Keeps _ _) => ?_)
    | (intro x; first | (refine Keeps.cut (s0 := s0) (x := x) ?_ ?_ <;> (first | (clear_value x; intro hx) | subst x)) | (subst x; try dsimp -zeta only))
    | with_reducible (refine dumpTake_keeps ?_)
    | with_reducible (refine dumpDone_keeps ?_)
    | with_reducible (refine dumpClear_keeps ?_)
    | split
    | lift_lets
    | (fail_if_no_progress with_reducible refine Keeps.mk' ?_ rfl rfl rfl rfl))

theorem execFltDumpTake_keeps {a0} (h : Keeps s0 s) : Keeps s0 (after (execFltDumpTake a0 s) s) := by
  delta execFltDumpTake
  repeat' (first
    | with_reducible assumption
    | (refine fun (_ : Keeps _ _) => ?_)
    | (intro x; first | (refine Keeps.cut (s0 := s0) (x := x) ?_ ?_ <;> (first | (clear_value x; intro hx) | subst x)) | (subst x; try dsimp -zeta only))
    | with_reducible refine next_keeps ?_
    | with_reducible (refine settle_keeps ?_)
    | with_reducible (refine dumpCmd_keeps ?_)
    | split
    | lift_lets
    | (fail_if_no_progress with_reducible refine Keeps.mk' ?_ rfl rfl rfl rfl))

theorem execFltDumpDone_keeps {a0} (h : Keeps s0 s) : Keeps s0 (after (execFltDumpDone a0 s) s) := by
  delta execFltDumpDone
  repeat' (first
    | with_reducible assumption
    | (refine fun (_ : Keeps _ _) => ?_)
    | (intro x; first | (refine Keeps.cut (s0 := s0) (x := x) ?_ ?_ <;> (first | (clear_value x; intro hx) | subst x)) | (subst x; try dsimp -zeta only))
    | with_reducible refine next_keeps ?_
    | with_reducible (refine settle_keeps ?_)
    | with_reducible (refine dumpCmd_keeps ?_)
    | split
    | lift_lets
    | (fail_if_no_progress with_reducible refine Keeps.mk' ?_ rfl rfl rfl rfl))

theorem execFltDumpClear_keeps {a0} (h : Keeps s0 s) : Keeps s0 (after (execFltDumpClear a0 s) s) := by
  delta execFltDumpClear
  repeat' (first
    | with_reducible assumption
    | (refine fun (_ : Keeps _ _) => ?_)
    | (intro x; first | (refine Keeps.cut (s0 := s0) (x := x) ?_ ?_ <;> (first | (clear_value x; intro hx) | subst x)) | (subst x; try dsimp -zeta only))
    | with_reducible refine next_keeps ?_
    | with_reducible (refine settle_keeps ?_)
    | with_reducible (refine dumpCmd_keeps ?_)
    | split
    | lift_lets
    | (fail_if_no_progress with_reducible refine Keeps.mk' ?_ rfl rfl rfl rfl))

theorem execFltStickyClr_keeps {a0} (h : Keeps s0 s) : Keeps s0 (after (execFltStickyClr a0 s) s) := by
  delta execFltStickyClr
  repeat' (first
    | with_reducible assumption
    | (refine fun (_ : Keeps _ _) => ?_)
    | (intro x; first | (refine Keeps.cut (s0 := s0) (x := x) ?_ ?_ <;> (first | (clear_value x; intro hx) | subst x)) | (subst x; try dsimp -zeta only))
    | with_reducible refine next_keeps ?_
    | with_reducible (refine settle_keeps ?_)
    | with_reducible (refine wr_keeps ?_)
    | split
    | lift_lets
    | (fail_if_no_progress with_reducible refine Keeps.mk' ?_ rfl rfl rfl rfl))

theorem execClearDumpDone_keeps (h : Keeps s0 s) : Keeps s0 (after (execClearDumpDone s) s) := by
  delta execClearDumpDone
  repeat' (first
    | with_reducible assumption
    | (refine fun (_ : Keeps _ _) => ?_)
    | (intro x; first | (refine Keeps.cut (s0 := s0) (x := x) ?_ ?_ <;> (first | (clear_value x; intro hx) | subst x)) | (subst x; try dsimp -zeta only))
    | with_reducible refine next_keeps ?_
    | with_reducible (refine settle_keeps ?_)
    | with_reducible (refine cflErase_keeps ?_)
    | with_reducible (refine icu_keeps ?_)
    | with_reducible (refine endBg_keeps ?_)
    | split
    | lift_lets
    | (fail_if_no_progress with_reducible refine Keeps.mk' ?_ rfl rfl rfl rfl))

theorem mbGetFaultStatus_keeps {a0 a1} (h : Keeps s0 s) : Keeps s0 (mbGetFaultStatus a0 a1 s) := by
  delta mbGetFaultStatus
  repeat' (first
    | with_reducible assumption
    | (refine fun (_ : Keeps _ _) => ?_)
    | (intro x; first | (refine Keeps.cut (s0 := s0) (x := x) ?_ ?_ <;> (first | (clear_value x; intro hx) | subst x)) | (subst x; try dsimp -zeta only))
    | with_reducible (refine replyBad_keeps ?_)
    | with_reducible (refine replyOk_keeps ?_)
    | split
    | lift_lets
    | (fail_if_no_progress with_reducible refine Keeps.mk' ?_ rfl rfl rfl rfl))

theorem execGetFaultStatus_keeps {a0 a1} (h : Keeps s0 s) : Keeps s0 (after (execGetFaultStatus a0 a1 s) s) := by
  delta execGetFaultStatus
  repeat' (first
    | with_reducible assumption
    | (refine fun (_ : Keeps _ _) => ?_)
    | (intro x; first | (refine Keeps.cut (s0 := s0) (x := x) ?_ ?_ <;> (first | (clear_value x; intro hx) | subst x)) | (subst x; try dsimp -zeta only))
    | with_reducible refine next_keeps ?_
    | with_reducible (refine settle_keeps ?_)
    | with_reducible (refine mbGetFaultStatus_keeps ?_)
    | split
    | lift_lets
    | (fail_if_no_progress with_reducible refine Keeps.mk' ?_ rfl rfl rfl rfl))

theorem mbTakeDump_keeps {a0 a1} (h : Keeps s0 s) : Keeps s0 (mbTakeDump a0 a1 s) := by
  delta mbTakeDump
  repeat' (first
    | with_reducible assumption
    | (refine fun (_ : Keeps _ _) => ?_)
    | (intro x; first | (refine Keeps.cut (s0 := s0) (x := x) ?_ ?_ <;> (first | (clear_value x; intro hx) | subst x)) | (subst x; try dsimp -zeta only))
    | with_reducible (refine replyBad_keeps ?_)
    | with_reducible (refine replyCode_keeps ?_)
    | with_reducible (refine dumpOnCommand_keeps ?_)
    | with_reducible (refine dumpRefused_keeps ?_)
    | split
    | lift_lets
    | (fail_if_no_progress with_reducible refine Keeps.mk' ?_ rfl rfl rfl rfl))

theorem execTakeDump_keeps {a0 a1} (h : Keeps s0 s) : Keeps s0 (after (execTakeDump a0 a1 s) s) := by
  delta execTakeDump
  repeat' (first
    | with_reducible assumption
    | (refine fun (_ : Keeps _ _) => ?_)
    | (intro x; first | (refine Keeps.cut (s0 := s0) (x := x) ?_ ?_ <;> (first | (clear_value x; intro hx) | subst x)) | (subst x; try dsimp -zeta only))
    | with_reducible refine next_keeps ?_
    | with_reducible (refine settle_keeps ?_)
    | with_reducible (refine mbTakeDump_keeps ?_)
    | split
    | lift_lets
    | (fail_if_no_progress with_reducible refine Keeps.mk' ?_ rfl rfl rfl rfl))

theorem mbReadDump_keeps {a0 a1} (h : Keeps s0 s) : Keeps s0 (mbReadDump a0 a1 s) := by
  delta mbReadDump
  repeat' (first
    | with_reducible assumption
    | (refine fun (_ : Keeps _ _) => ?_)
    | (intro x; first | (refine Keeps.cut (s0 := s0) (x := x) ?_ ?_ <;> (first | (clear_value x; intro hx) | subst x)) | (subst x; try dsimp -zeta only))
    | with_reducible (refine replyBad_keeps ?_)
    | with_reducible (refine replyOk_keeps ?_)
    | split
    | lift_lets
    | (fail_if_no_progress with_reducible refine Keeps.mk' ?_ rfl rfl rfl rfl))

theorem execReadDump_keeps {a0 a1} (h : Keeps s0 s) : Keeps s0 (after (execReadDump a0 a1 s) s) := by
  delta execReadDump
  repeat' (first
    | with_reducible assumption
    | (refine fun (_ : Keeps _ _) => ?_)
    | (intro x; first | (refine Keeps.cut (s0 := s0) (x := x) ?_ ?_ <;> (first | (clear_value x; intro hx) | subst x)) | (subst x; try dsimp -zeta only))
    | with_reducible refine next_keeps ?_
    | with_reducible (refine settle_keeps ?_)
    | with_reducible (refine mbReadDump_keeps ?_)
    | split
    | lift_lets
    | (fail_if_no_progress with_reducible refine Keeps.mk' ?_ rfl rfl rfl rfl))

theorem mbClearDump_keeps {a0 a1} (h : Keeps s0 s) : Keeps s0 (mbClearDump a0 a1 s) := by
  delta mbClearDump
  repeat' (first
    | with_reducible assumption
    | (refine fun (_ : Keeps _ _) => ?_)
    | (intro x; first | (refine Keeps.cut (s0 := s0) (x := x) ?_ ?_ <;> (first | (clear_value x; intro hx) | subst x)) | (subst x; try dsimp -zeta only))
    | with_reducible (refine replyBad_keeps ?_)
    | with_reducible (refine replyCode_keeps ?_)
    | with_reducible (refine dumpClear_keeps ?_)
    | with_reducible (refine startBg_keeps ?_ (fun s hs => ?_))
    | split
    | lift_lets
    | (fail_if_no_progress with_reducible refine Keeps.mk' ?_ rfl rfl rfl rfl))

theorem execClearDump_keeps {a0 a1} (h : Keeps s0 s) : Keeps s0 (after (execClearDump a0 a1 s) s) := by
  delta execClearDump
  repeat' (first
    | with_reducible assumption
    | (refine fun (_ : Keeps _ _) => ?_)
    | (intro x; first | (refine Keeps.cut (s0 := s0) (x := x) ?_ ?_ <;> (first | (clear_value x; intro hx) | subst x)) | (subst x; try dsimp -zeta only))
    | with_reducible refine next_keeps ?_
    | with_reducible (refine settle_keeps ?_)
    | with_reducible (refine mbClearDump_keeps ?_)
    | split
    | lift_lets
    | (fail_if_no_progress with_reducible refine Keeps.mk' ?_ rfl rfl rfl rfl))

theorem mbClearSticky_keeps {a0 a1} (h : Keeps s0 s) : Keeps s0 (mbClearSticky a0 a1 s) := by
  delta mbClearSticky
  repeat' (first
    | with_reducible assumption
    | (refine fun (_ : Keeps _ _) => ?_)
    | (intro x; first | (refine Keeps.cut (s0 := s0) (x := x) ?_ ?_ <;> (first | (clear_value x; intro hx) | subst x)) | (subst x; try dsimp -zeta only))
    | with_reducible (refine replyBad_keeps ?_)
    | with_reducible (refine replyCode_keeps ?_)
    | with_reducible (refine wr_keeps ?_)
    | split
    | lift_lets
    | (fail_if_no_progress with_reducible refine Keeps.mk' ?_ rfl rfl rfl rfl))

theorem execClearSticky_keeps {a0 a1} (h : Keeps s0 s) : Keeps s0 (after (execClearSticky a0 a1 s) s) := by
  delta execClearSticky
  repeat' (first
    | with_reducible assumption
    | (refine fun (_ : Keeps _ _) => ?_)
    | (intro x; first | (refine Keeps.cut (s0 := s0) (x := x) ?_ ?_ <;> (first | (clear_value x; intro hx) | subst x)) | (subst x; try dsimp -zeta only))
    | with_reducible refine next_keeps ?_
    | with_reducible (refine settle_keeps ?_)
    | with_reducible (refine mbClearSticky_keeps ?_)
    | split
    | lift_lets
    | (fail_if_no_progress with_reducible refine Keeps.mk' ?_ rfl rfl rfl rfl))

theorem execWindowEntryWrite_keeps {a0 a1} (h : Keeps s0 s) : Keeps s0 (after (execWindowEntryWrite a0 a1 s) s) := by
  delta execWindowEntryWrite
  repeat' (first
    | with_reducible assumption
    | (refine fun (_ : Keeps _ _) => ?_)
    | (intro x; first | (refine Keeps.cut (s0 := s0) (x := x) ?_ ?_ <;> (first | (clear_value x; intro hx) | subst x)) | (subst x; try dsimp -zeta only))
    | with_reducible refine next_keeps ?_
    | with_reducible (refine settle_keeps ?_)
    | with_reducible (refine writeWin_keeps ?_)
    | split
    | lift_lets
    | (fail_if_no_progress with_reducible refine Keeps.mk' ?_ rfl rfl rfl rfl))

theorem execGroupEntryWrite_keeps {a0 a1} (h : Keeps s0 s) : Keeps s0 (after (execGroupEntryWrite a0 a1 s) s) := by
  delta execGroupEntryWrite
  repeat' (first
    | with_reducible assumption
    | (refine fun (_ : Keeps _ _) => ?_)
    | (intro x; first | (refine Keeps.cut (s0 := s0) (x := x) ?_ ?_ <;> (first | (clear_value x; intro hx) | subst x)) | (subst x; try dsimp -zeta only))
    | with_reducible refine next_keeps ?_
    | with_reducible (refine settle_keeps ?_)
    | with_reducible (refine writeGrp_keeps ?_)
    | split
    | lift_lets
    | (fail_if_no_progress with_reducible refine Keeps.mk' ?_ rfl rfl rfl rfl))

theorem mbGetWindow_keeps {a0 a1} (h : Keeps s0 s) : Keeps s0 (mbGetWindow a0 a1 s) := by
  delta mbGetWindow
  repeat' (first
    | with_reducible assumption
    | (refine fun (_ : Keeps _ _) => ?_)
    | (intro x; first | (refine Keeps.cut (s0 := s0) (x := x) ?_ ?_ <;> (first | (clear_value x; intro hx) | subst x)) | (subst x; try dsimp -zeta only))
    | with_reducible (refine replyBad_keeps ?_)
    | with_reducible (refine replyOk_keeps ?_)
    | split
    | lift_lets
    | (fail_if_no_progress with_reducible refine Keeps.mk' ?_ rfl rfl rfl rfl))

theorem execGetWindow_keeps {a0 a1} (h : Keeps s0 s) : Keeps s0 (after (execGetWindow a0 a1 s) s) := by
  delta execGetWindow
  repeat' (first
    | with_reducible assumption
    | (refine fun (_ : Keeps _ _) => ?_)
    | (intro x; first | (refine Keeps.cut (s0 := s0) (x := x) ?_ ?_ <;> (first | (clear_value x; intro hx) | subst x)) | (subst x; try dsimp -zeta only))
    | with_reducible refine next_keeps ?_
    | with_reducible (refine mbGetWindow_keeps ?_)
    | split
    | lift_lets
    | (fail_if_no_progress with_reducible refine Keeps.mk' ?_ rfl rfl rfl rfl))

theorem mbSetWindow_keeps {a0 a1} (h : Keeps s0 s) : Keeps s0 (mbSetWindow a0 a1 s) := by
  delta mbSetWindow
  repeat' (first
    | with_reducible assumption
    | (refine fun (_ : Keeps _ _) => ?_)
    | (intro x; first | (refine Keeps.cut (s0 := s0) (x := x) ?_ ?_ <;> (first | (clear_value x; intro hx) | subst x)) | (subst x; try dsimp -zeta only))
    | with_reducible (refine replyBad_keeps ?_)
    | with_reducible (refine writeWin_keeps ?_)
    | with_reducible (refine replyCode_keeps ?_)
    | split
    | lift_lets
    | (fail_if_no_progress with_reducible refine Keeps.mk' ?_ rfl rfl rfl rfl))

theorem execSetWindow_keeps {a0 a1} (h : Keeps s0 s) : Keeps s0 (after (execSetWindow a0 a1 s) s) := by
  delta execSetWindow
  repeat' (first
    | with_reducible assumption
    | (refine fun (_ : Keeps _ _) => ?_)
    | (intro x; first | (refine Keeps.cut (s0 := s0) (x := x) ?_ ?_ <;> (first | (clear_value x; intro hx) | subst x)) | (subst x; try dsimp -zeta only))
    | with_reducible refine next_keeps ?_
    | with_reducible (refine settle_keeps ?_)
    | with_reducible (refine mbSetWindow_keeps ?_)
    | split
    | lift_lets
    | (fail_if_no_progress with_reducible refine Keeps.mk' ?_ rfl rfl rfl rfl))

theorem mbGetGroupConfig_keeps {a0 a1} (h : Keeps s0 s) : Keeps s0 (mbGetGroupConfig a0 a1 s) := by
  delta mbGetGroupConfig
  repeat' (first
    | with_reducible assumption
    | (refine fun (_ : Keeps _ _) => ?_)
    | (intro x; first | (refine Keeps.cut (s0 := s0) (x := x) ?_ ?_ <;> (first | (clear_value x; intro hx) | subst x)) | (subst x; try dsimp -zeta only))
    | with_reducible (refine replyBad_keeps ?_)
    | with_reducible (refine replyOk_keeps ?_)
    | split
    | lift_lets
    | (fail_if_no_progress with_reducible refine Keeps.mk' ?_ rfl rfl rfl rfl))

theorem execGetGroupConfig_keeps {a0 a1} (h : Keeps s0 s) : Keeps s0 (after (execGetGroupConfig a0 a1 s) s) := by
  delta execGetGroupConfig
  repeat' (first
    | with_reducible assumption
    | (refine fun (_ : Keeps _ _) => ?_)
    | (intro x; first | (refine Keeps.cut (s0 := s0) (x := x) ?_ ?_ <;> (first | (clear_value x; intro hx) | subst x)) | (subst x; try dsimp -zeta only))
    | with_reducible refine next_keeps ?_
    | with_reducible (refine mbGetGroupConfig_keeps ?_)
    | split
    | lift_lets
    | (fail_if_no_progress with_reducible refine Keeps.mk' ?_ rfl rfl rfl rfl))

theorem mbSetGroupConfig_keeps {a0 a1} (h : Keeps s0 s) : Keeps s0 (mbSetGroupConfig a0 a1 s) := by
  delta mbSetGroupConfig
  repeat' (first
    | with_reducible assumption
    | (refine fun (_ : Keeps _ _) => ?_)
    | (intro x; first | (refine Keeps.cut (s0 := s0) (x := x) ?_ ?_ <;> (first | (clear_value x; intro hx) | subst x)) | (subst x; try dsimp -zeta only))
    | with_reducible (refine replyBad_keeps ?_)
    | with_reducible (refine writeGrp_keeps ?_)
    | with_reducible (refine replyCode_keeps ?_)
    | with_reducible (refine winRefuse_keeps ?_)
    | split
    | lift_lets
    | (fail_if_no_progress with_reducible refine Keeps.mk' ?_ rfl rfl rfl rfl))

theorem execSetGroupConfig_keeps {a0 a1} (h : Keeps s0 s) : Keeps s0 (after (execSetGroupConfig a0 a1 s) s) := by
  delta execSetGroupConfig
  repeat' (first
    | with_reducible assumption
    | (refine fun (_ : Keeps _ _) => ?_)
    | (intro x; first | (refine Keeps.cut (s0 := s0) (x := x) ?_ ?_ <;> (first | (clear_value x; intro hx) | subst x)) | (subst x; try dsimp -zeta only))
    | with_reducible refine next_keeps ?_
    | with_reducible (refine settle_keeps ?_)
    | with_reducible (refine mbSetGroupConfig_keeps ?_)
    | split
    | lift_lets
    | (fail_if_no_progress with_reducible refine Keeps.mk' ?_ rfl rfl rfl rfl))

theorem mbGetPacing_keeps {a0 a1} (h : Keeps s0 s) : Keeps s0 (mbGetPacing a0 a1 s) := by
  delta mbGetPacing
  repeat' (first
    | with_reducible assumption
    | (refine fun (_ : Keeps _ _) => ?_)
    | (intro x; first | (refine Keeps.cut (s0 := s0) (x := x) ?_ ?_ <;> (first | (clear_value x; intro hx) | subst x)) | (subst x; try dsimp -zeta only))
    | with_reducible (refine replyBad_keeps ?_)
    | with_reducible (refine replyOk_keeps ?_)
    | split
    | lift_lets
    | (fail_if_no_progress with_reducible refine Keeps.mk' ?_ rfl rfl rfl rfl))

theorem execGetPacing_keeps {a0 a1} (h : Keeps s0 s) : Keeps s0 (after (execGetPacing a0 a1 s) s) := by
  delta execGetPacing
  repeat' (first
    | with_reducible assumption
    | (refine fun (_ : Keeps _ _) => ?_)
    | (intro x; first | (refine Keeps.cut (s0 := s0) (x := x) ?_ ?_ <;> (first | (clear_value x; intro hx) | subst x)) | (subst x; try dsimp -zeta only))
    | with_reducible refine next_keeps ?_
    | with_reducible (refine mbGetPacing_keeps ?_)
    | split
    | lift_lets
    | (fail_if_no_progress with_reducible refine Keeps.mk' ?_ rfl rfl rfl rfl))

theorem mbGetLinkCounters_keeps {a0 a1} (h : Keeps s0 s) : Keeps s0 (mbGetLinkCounters a0 a1 s) := by
  delta mbGetLinkCounters
  repeat' (first
    | with_reducible assumption
    | (refine fun (_ : Keeps _ _) => ?_)
    | (intro x; first | (refine Keeps.cut (s0 := s0) (x := x) ?_ ?_ <;> (first | (clear_value x; intro hx) | subst x)) | (subst x; try dsimp -zeta only))
    | with_reducible (refine replyBad_keeps ?_)
    | with_reducible (refine replyOk_keeps ?_)
    | split
    | lift_lets
    | (fail_if_no_progress with_reducible refine Keeps.mk' ?_ rfl rfl rfl rfl))

theorem execGetLinkCounters_keeps {a0 a1} (h : Keeps s0 s) : Keeps s0 (after (execGetLinkCounters a0 a1 s) s) := by
  delta execGetLinkCounters
  repeat' (first
    | with_reducible assumption
    | (refine fun (_ : Keeps _ _) => ?_)
    | (intro x; first | (refine Keeps.cut (s0 := s0) (x := x) ?_ ?_ <;> (first | (clear_value x; intro hx) | subst x)) | (subst x; try dsimp -zeta only))
    | with_reducible refine next_keeps ?_
    | with_reducible (refine mbGetLinkCounters_keeps ?_)
    | split
    | lift_lets
    | (fail_if_no_progress with_reducible refine Keeps.mk' ?_ rfl rfl rfl rfl))

theorem mbIdentify_keeps {a0 a1} (h : Keeps s0 s) : Keeps s0 (mbIdentify a0 a1 s) := by
  delta mbIdentify
  repeat' (first
    | with_reducible assumption
    | (refine fun (_ : Keeps _ _) => ?_)
    | (intro x; first | (refine Keeps.cut (s0 := s0) (x := x) ?_ ?_ <;> (first | (clear_value x; intro hx) | subst x)) | (subst x; try dsimp -zeta only))
    | with_reducible (refine replyBad_keeps ?_)
    | with_reducible (refine replyOk_keeps ?_)
    | split
    | lift_lets
    | (fail_if_no_progress with_reducible refine Keeps.mk' ?_ rfl rfl rfl rfl))

theorem execIdentify_keeps {a0 a1} (h : Keeps s0 s) : Keeps s0 (after (execIdentify a0 a1 s) s) := by
  delta execIdentify
  repeat' (first
    | with_reducible assumption
    | (refine fun (_ : Keeps _ _) => ?_)
    | (intro x; first | (refine Keeps.cut (s0 := s0) (x := x) ?_ ?_ <;> (first | (clear_value x; intro hx) | subst x)) | (subst x; try dsimp -zeta only))
    | with_reducible refine next_keeps ?_
    | with_reducible (refine mbIdentify_keeps ?_)
    | split
    | lift_lets
    | (fail_if_no_progress with_reducible refine Keeps.mk' ?_ rfl rfl rfl rfl))

theorem mbBackgroundStatus_keeps {a0 a1} (h : Keeps s0 s) : Keeps s0 (mbBackgroundStatus a0 a1 s) := by
  delta mbBackgroundStatus
  repeat' (first
    | with_reducible assumption
    | (refine fun (_ : Keeps _ _) => ?_)
    | (intro x; first | (refine Keeps.cut (s0 := s0) (x := x) ?_ ?_ <;> (first | (clear_value x; intro hx) | subst x)) | (subst x; try dsimp -zeta only))
    | with_reducible (refine replyBad_keeps ?_)
    | with_reducible (refine replyOk_keeps ?_)
    | split
    | lift_lets
    | (fail_if_no_progress with_reducible refine Keeps.mk' ?_ rfl rfl rfl rfl))

theorem execBackgroundOperationStatus_keeps {a0 a1} (h : Keeps s0 s) : Keeps s0 (after (execBackgroundOperationStatus a0 a1 s) s) := by
  delta execBackgroundOperationStatus
  repeat' (first
    | with_reducible assumption
    | (refine fun (_ : Keeps _ _) => ?_)
    | (intro x; first | (refine Keeps.cut (s0 := s0) (x := x) ?_ ?_ <;> (first | (clear_value x; intro hx) | subst x)) | (subst x; try dsimp -zeta only))
    | with_reducible refine next_keeps ?_
    | with_reducible (refine mbBackgroundStatus_keeps ?_)
    | split
    | lift_lets
    | (fail_if_no_progress with_reducible refine Keeps.mk' ?_ rfl rfl rfl rfl))

theorem mbGetEventRecords_keeps {a0 a1} (h : Keeps s0 s) : Keeps s0 (mbGetEventRecords a0 a1 s) := by
  delta mbGetEventRecords
  repeat' (first
    | with_reducible assumption
    | (refine fun (_ : Keeps _ _) => ?_)
    | (intro x; first | (refine Keeps.cut (s0 := s0) (x := x) ?_ ?_ <;> (first | (clear_value x; intro hx) | subst x)) | (subst x; try dsimp -zeta only))
    | with_reducible (refine replyBad_keeps ?_)
    | with_reducible (refine replyOk_keeps ?_)
    | split
    | lift_lets
    | (fail_if_no_progress with_reducible refine Keeps.mk' ?_ rfl rfl rfl rfl))

theorem execGetEventRecords_keeps {a0 a1} (h : Keeps s0 s) : Keeps s0 (after (execGetEventRecords a0 a1 s) s) := by
  delta execGetEventRecords
  repeat' (first
    | with_reducible assumption
    | (refine fun (_ : Keeps _ _) => ?_)
    | (intro x; first | (refine Keeps.cut (s0 := s0) (x := x) ?_ ?_ <;> (first | (clear_value x; intro hx) | subst x)) | (subst x; try dsimp -zeta only))
    | with_reducible refine next_keeps ?_
    | with_reducible (refine mbGetEventRecords_keeps ?_)
    | split
    | lift_lets
    | (fail_if_no_progress with_reducible refine Keeps.mk' ?_ rfl rfl rfl rfl))

theorem mbClearEventRecords_keeps {a0 a1} (h : Keeps s0 s) : Keeps s0 (mbClearEventRecords a0 a1 s) := by
  delta mbClearEventRecords
  repeat' (first
    | with_reducible assumption
    | (refine fun (_ : Keeps _ _) => ?_)
    | (intro x; first | (refine Keeps.cut (s0 := s0) (x := x) ?_ ?_ <;> (first | (clear_value x; intro hx) | subst x)) | (subst x; try dsimp -zeta only))
    | with_reducible (refine replyBad_keeps ?_)
    | with_reducible (refine setLd_keeps ?_)
    | with_reducible (refine replyOk_keeps ?_)
    | split
    | lift_lets
    | (fail_if_no_progress with_reducible refine Keeps.mk' ?_ rfl rfl rfl rfl))

theorem execClearEventRecords_keeps {a0 a1} (h : Keeps s0 s) : Keeps s0 (after (execClearEventRecords a0 a1 s) s) := by
  delta execClearEventRecords
  repeat' (first
    | with_reducible assumption
    | (refine fun (_ : Keeps _ _) => ?_)
    | (intro x; first | (refine Keeps.cut (s0 := s0) (x := x) ?_ ?_ <;> (first | (clear_value x; intro hx) | subst x)) | (subst x; try dsimp -zeta only))
    | with_reducible refine next_keeps ?_
    | with_reducible (refine mbClearEventRecords_keeps ?_)
    | split
    | lift_lets
    | (fail_if_no_progress with_reducible refine Keeps.mk' ?_ rfl rfl rfl rfl))

theorem mbGetEventPolicy_keeps {a0 a1} (h : Keeps s0 s) : Keeps s0 (mbGetEventPolicy a0 a1 s) := by
  delta mbGetEventPolicy
  repeat' (first
    | with_reducible assumption
    | (refine fun (_ : Keeps _ _) => ?_)
    | (intro x; first | (refine Keeps.cut (s0 := s0) (x := x) ?_ ?_ <;> (first | (clear_value x; intro hx) | subst x)) | (subst x; try dsimp -zeta only))
    | with_reducible (refine replyBad_keeps ?_)
    | with_reducible (refine replyOk_keeps ?_)
    | split
    | lift_lets
    | (fail_if_no_progress with_reducible refine Keeps.mk' ?_ rfl rfl rfl rfl))

theorem execGetEventInterruptPolicy_keeps {a0 a1} (h : Keeps s0 s) : Keeps s0 (after (execGetEventInterruptPolicy a0 a1 s) s) := by
  delta execGetEventInterruptPolicy
  repeat' (first
    | with_reducible assumption
    | (refine fun (_ : Keeps _ _) => ?_)
    | (intro x; first | (refine Keeps.cut (s0 := s0) (x := x) ?_ ?_ <;> (first | (clear_value x; intro hx) | subst x)) | (subst x; try dsimp -zeta only))
    | with_reducible refine next_keeps ?_
    | with_reducible (refine mbGetEventPolicy_keeps ?_)
    | split
    | lift_lets
    | (fail_if_no_progress with_reducible refine Keeps.mk' ?_ rfl rfl rfl rfl))

theorem mbSetEventPolicy_keeps {a0 a1} (h : Keeps s0 s) : Keeps s0 (mbSetEventPolicy a0 a1 s) := by
  delta mbSetEventPolicy
  repeat' (first
    | with_reducible assumption
    | (refine fun (_ : Keeps _ _) => ?_)
    | (intro x; first | (refine Keeps.cut (s0 := s0) (x := x) ?_ ?_ <;> (first | (clear_value x; intro hx) | subst x)) | (subst x; try dsimp -zeta only))
    | with_reducible (refine replyBad_keeps ?_)
    | with_reducible (refine replyOk_keeps ?_)
    | split
    | lift_lets
    | (fail_if_no_progress with_reducible refine Keeps.mk' ?_ rfl rfl rfl rfl))

theorem execSetEventInterruptPolicy_keeps {a0 a1} (h : Keeps s0 s) : Keeps s0 (after (execSetEventInterruptPolicy a0 a1 s) s) := by
  delta execSetEventInterruptPolicy
  repeat' (first
    | with_reducible assumption
    | (refine fun (_ : Keeps _ _) => ?_)
    | (intro x; first | (refine Keeps.cut (s0 := s0) (x := x) ?_ ?_ <;> (first | (clear_value x; intro hx) | subst x)) | (subst x; try dsimp -zeta only))
    | with_reducible refine next_keeps ?_
    | with_reducible (refine mbSetEventPolicy_keeps ?_)
    | split
    | lift_lets
    | (fail_if_no_progress with_reducible refine Keeps.mk' ?_ rfl rfl rfl rfl))

theorem mbGetTimestamp_keeps {a0 a1} (h : Keeps s0 s) : Keeps s0 (mbGetTimestamp a0 a1 s) := by
  delta mbGetTimestamp
  repeat' (first
    | with_reducible assumption
    | (refine fun (_ : Keeps _ _) => ?_)
    | (intro x; first | (refine Keeps.cut (s0 := s0) (x := x) ?_ ?_ <;> (first | (clear_value x; intro hx) | subst x)) | (subst x; try dsimp -zeta only))
    | with_reducible (refine replyBad_keeps ?_)
    | with_reducible (refine replyOk_keeps ?_)
    | split
    | lift_lets
    | (fail_if_no_progress with_reducible refine Keeps.mk' ?_ rfl rfl rfl rfl))

theorem execGetTimestamp_keeps {a0 a1} (h : Keeps s0 s) : Keeps s0 (after (execGetTimestamp a0 a1 s) s) := by
  delta execGetTimestamp
  repeat' (first
    | with_reducible assumption
    | (refine fun (_ : Keeps _ _) => ?_)
    | (intro x; first | (refine Keeps.cut (s0 := s0) (x := x) ?_ ?_ <;> (first | (clear_value x; intro hx) | subst x)) | (subst x; try dsimp -zeta only))
    | with_reducible refine next_keeps ?_
    | with_reducible (refine mbGetTimestamp_keeps ?_)
    | split
    | lift_lets
    | (fail_if_no_progress with_reducible refine Keeps.mk' ?_ rfl rfl rfl rfl))

theorem mbSetTimestamp_keeps {a0 a1} (h : Keeps s0 s) : Keeps s0 (mbSetTimestamp a0 a1 s) := by
  delta mbSetTimestamp
  repeat' (first
    | with_reducible assumption
    | (refine fun (_ : Keeps _ _) => ?_)
    | (intro x; first | (refine Keeps.cut (s0 := s0) (x := x) ?_ ?_ <;> (first | (clear_value x; intro hx) | subst x)) | (subst x; try dsimp -zeta only))
    | with_reducible (refine replyBad_keeps ?_)
    | with_reducible (refine replyOk_keeps ?_)
    | with_reducible (refine setLd_keeps ?_)
    | split
    | lift_lets
    | (fail_if_no_progress with_reducible refine Keeps.mk' ?_ rfl rfl rfl rfl))

theorem execSetTimestamp_keeps {a0 a1} (h : Keeps s0 s) : Keeps s0 (after (execSetTimestamp a0 a1 s) s) := by
  delta execSetTimestamp
  repeat' (first
    | with_reducible assumption
    | (refine fun (_ : Keeps _ _) => ?_)
    | (intro x; first | (refine Keeps.cut (s0 := s0) (x := x) ?_ ?_ <;> (first | (clear_value x; intro hx) | subst x)) | (subst x; try dsimp -zeta only))
    | with_reducible refine next_keeps ?_
    | with_reducible (refine mbSetTimestamp_keeps ?_)
    | split
    | lift_lets
    | (fail_if_no_progress with_reducible refine Keeps.mk' ?_ rfl rfl rfl rfl))

theorem mbGetSupportedLogs_keeps {a0 a1} (h : Keeps s0 s) : Keeps s0 (mbGetSupportedLogs a0 a1 s) := by
  delta mbGetSupportedLogs
  repeat' (first
    | with_reducible assumption
    | (refine fun (_ : Keeps _ _) => ?_)
    | (intro x; first | (refine Keeps.cut (s0 := s0) (x := x) ?_ ?_ <;> (first | (clear_value x; intro hx) | subst x)) | (subst x; try dsimp -zeta only))
    | with_reducible (refine replyBad_keeps ?_)
    | with_reducible (refine replyOk_keeps ?_)
    | split
    | lift_lets
    | (fail_if_no_progress with_reducible refine Keeps.mk' ?_ rfl rfl rfl rfl))

theorem execGetSupportedLogs_keeps {a0 a1} (h : Keeps s0 s) : Keeps s0 (after (execGetSupportedLogs a0 a1 s) s) := by
  delta execGetSupportedLogs
  repeat' (first
    | with_reducible assumption
    | (refine fun (_ : Keeps _ _) => ?_)
    | (intro x; first | (refine Keeps.cut (s0 := s0) (x := x) ?_ ?_ <;> (first | (clear_value x; intro hx) | subst x)) | (subst x; try dsimp -zeta only))
    | with_reducible refine next_keeps ?_
    | with_reducible (refine mbGetSupportedLogs_keeps ?_)
    | split
    | lift_lets
    | (fail_if_no_progress with_reducible refine Keeps.mk' ?_ rfl rfl rfl rfl))

theorem mbGetLog_keeps {a0 a1} (h : Keeps s0 s) : Keeps s0 (mbGetLog a0 a1 s) := by
  delta mbGetLog
  repeat' (first
    | with_reducible assumption
    | (refine fun (_ : Keeps _ _) => ?_)
    | (intro x; first | (refine Keeps.cut (s0 := s0) (x := x) ?_ ?_ <;> (first | (clear_value x; intro hx) | subst x)) | (subst x; try dsimp -zeta only))
    | with_reducible (refine replyBad_keeps ?_)
    | with_reducible (refine replyOk_keeps ?_)
    | split
    | lift_lets
    | (fail_if_no_progress with_reducible refine Keeps.mk' ?_ rfl rfl rfl rfl))

theorem execGetLog_keeps {a0 a1} (h : Keeps s0 s) : Keeps s0 (after (execGetLog a0 a1 s) s) := by
  delta execGetLog
  repeat' (first
    | with_reducible assumption
    | (refine fun (_ : Keeps _ _) => ?_)
    | (intro x; first | (refine Keeps.cut (s0 := s0) (x := x) ?_ ?_ <;> (first | (clear_value x; intro hx) | subst x)) | (subst x; try dsimp -zeta only))
    | with_reducible refine next_keeps ?_
    | with_reducible (refine mbGetLog_keeps ?_)
    | split
    | lift_lets
    | (fail_if_no_progress with_reducible refine Keeps.mk' ?_ rfl rfl rfl rfl))

theorem mbIdentifyMemory_keeps {a0 a1} (h : Keeps s0 s) : Keeps s0 (mbIdentifyMemory a0 a1 s) := by
  delta mbIdentifyMemory
  repeat' (first
    | with_reducible assumption
    | (refine fun (_ : Keeps _ _) => ?_)
    | (intro x; first | (refine Keeps.cut (s0 := s0) (x := x) ?_ ?_ <;> (first | (clear_value x; intro hx) | subst x)) | (subst x; try dsimp -zeta only))
    | with_reducible (refine replyBad_keeps ?_)
    | with_reducible (refine replyOk_keeps ?_)
    | split
    | lift_lets
    | (fail_if_no_progress with_reducible refine Keeps.mk' ?_ rfl rfl rfl rfl))

theorem execIdentifyMemoryDevice_keeps {a0 a1} (h : Keeps s0 s) : Keeps s0 (after (execIdentifyMemoryDevice a0 a1 s) s) := by
  delta execIdentifyMemoryDevice
  repeat' (first
    | with_reducible assumption
    | (refine fun (_ : Keeps _ _) => ?_)
    | (intro x; first | (refine Keeps.cut (s0 := s0) (x := x) ?_ ?_ <;> (first | (clear_value x; intro hx) | subst x)) | (subst x; try dsimp -zeta only))
    | with_reducible refine next_keeps ?_
    | with_reducible (refine mbIdentifyMemory_keeps ?_)
    | split
    | lift_lets
    | (fail_if_no_progress with_reducible refine Keeps.mk' ?_ rfl rfl rfl rfl))

theorem mbGetHealthInfo_keeps {a0 a1} (h : Keeps s0 s) : Keeps s0 (mbGetHealthInfo a0 a1 s) := by
  delta mbGetHealthInfo
  repeat' (first
    | with_reducible assumption
    | (refine fun (_ : Keeps _ _) => ?_)
    | (intro x; first | (refine Keeps.cut (s0 := s0) (x := x) ?_ ?_ <;> (first | (clear_value x; intro hx) | subst x)) | (subst x; try dsimp -zeta only))
    | with_reducible (refine replyBad_keeps ?_)
    | with_reducible (refine freeBytes_keeps ?_)
    | with_reducible (refine replyOk_keeps ?_)
    | split
    | lift_lets
    | (fail_if_no_progress with_reducible refine Keeps.mk' ?_ rfl rfl rfl rfl))

theorem execGetHealthInfo_keeps {a0 a1} (h : Keeps s0 s) : Keeps s0 (after (execGetHealthInfo a0 a1 s) s) := by
  delta execGetHealthInfo
  repeat' (first
    | with_reducible assumption
    | (refine fun (_ : Keeps _ _) => ?_)
    | (intro x; first | (refine Keeps.cut (s0 := s0) (x := x) ?_ ?_ <;> (first | (clear_value x; intro hx) | subst x)) | (subst x; try dsimp -zeta only))
    | with_reducible refine next_keeps ?_
    | with_reducible (refine mbGetHealthInfo_keeps ?_)
    | split
    | lift_lets
    | (fail_if_no_progress with_reducible refine Keeps.mk' ?_ rfl rfl rfl rfl))

theorem mbUnsupported_keeps {a0} (h : Keeps s0 s) : Keeps s0 (mbUnsupported a0 s) := by
  delta mbUnsupported
  repeat' (first
    | with_reducible assumption
    | (refine fun (_ : Keeps _ _) => ?_)
    | (intro x; first | (refine Keeps.cut (s0 := s0) (x := x) ?_ ?_ <;> (first | (clear_value x; intro hx) | subst x)) | (subst x; try dsimp -zeta only))
    | with_reducible (refine reply_keeps ?_)
    | split
    | lift_lets
    | (fail_if_no_progress with_reducible refine Keeps.mk' ?_ rfl rfl rfl rfl))

theorem execUnsupportedOpcode_keeps {a0 a1} (h : Keeps s0 s) : Keeps s0 (after (execUnsupportedOpcode a0 a1 s) s) := by
  delta execUnsupportedOpcode
  repeat' (first
    | with_reducible assumption
    | (refine fun (_ : Keeps _ _) => ?_)
    | (intro x; first | (refine Keeps.cut (s0 := s0) (x := x) ?_ ?_ <;> (first | (clear_value x; intro hx) | subst x)) | (subst x; try dsimp -zeta only))
    | with_reducible refine next_keeps ?_
    | with_reducible (refine mbUnsupported_keeps ?_)
    | split
    | lift_lets
    | (fail_if_no_progress with_reducible refine Keeps.mk' ?_ rfl rfl rfl rfl))

theorem execMailboxDoorbell_keeps {a0 a1 a2} (h : Keeps s0 s) : Keeps s0 (after (execMailboxDoorbell a0 a1 a2 s) s) := by
  delta execMailboxDoorbell
  repeat' (first
    | with_reducible assumption
    | (refine fun (_ : Keeps _ _) => ?_)
    | (intro x; first | (refine Keeps.cut (s0 := s0) (x := x) ?_ ?_ <;> (first | (clear_value x; intro hx) | subst x)) | (subst x; try dsimp -zeta only))
    | with_reducible refine next_keeps ?_
    | with_reducible (refine settle_keeps ?_)
    | with_reducible (refine icu_keeps ?_)
    | with_reducible (refine setLd_keeps ?_)
    | split
    | lift_lets
    | (fail_if_no_progress with_reducible refine Keeps.mk' ?_ rfl rfl rfl rfl))

theorem execConventionalReset_keeps {a0} (h : Keeps s0 s) : Keeps s0 (after (execConventionalReset a0 s) s) := by
  delta execConventionalReset
  repeat' (first
    | with_reducible assumption
    | (refine fun (_ : Keeps _ _) => ?_)
    | (intro x; first | (refine Keeps.cut (s0 := s0) (x := x) ?_ ?_ <;> (first | (clear_value x; intro hx) | subst x)) | (subst x; try dsimp -zeta only))
    | with_reducible refine next_keeps ?_
    | with_reducible (refine settle_keeps ?_)
    | with_reducible (refine portReset_keeps ?_)
    | split
    | lift_lets
    | (fail_if_no_progress with_reducible refine Keeps.mk' ?_ rfl rfl rfl rfl))

theorem execHotReset_keeps {a0} (h : Keeps s0 s) : Keeps s0 (after (execHotReset a0 s) s) := by
  delta execHotReset
  repeat' (first
    | with_reducible assumption
    | (refine fun (_ : Keeps _ _) => ?_)
    | (intro x; first | (refine Keeps.cut (s0 := s0) (x := x) ?_ ?_ <;> (first | (clear_value x; intro hx) | subst x)) | (subst x; try dsimp -zeta only))
    | with_reducible refine next_keeps ?_
    | with_reducible (refine settle_keeps ?_)
    | with_reducible (refine portReset_keeps ?_)
    | split
    | lift_lets
    | (fail_if_no_progress with_reducible refine Keeps.mk' ?_ rfl rfl rfl rfl))

theorem execLinkDown_keeps {a0} (h : Keeps s0 s) : Keeps s0 (after (execLinkDown a0 s) s) := by
  delta execLinkDown
  repeat' (first
    | with_reducible assumption
    | (refine fun (_ : Keeps _ _) => ?_)
    | (intro x; first | (refine Keeps.cut (s0 := s0) (x := x) ?_ ?_ <;> (first | (clear_value x; intro hx) | subst x)) | (subst x; try dsimp -zeta only))
    | with_reducible refine next_keeps ?_
    | with_reducible (refine settle_keeps ?_)
    | with_reducible (refine portDown_keeps ?_)
    | split
    | lift_lets
    | (fail_if_no_progress with_reducible refine Keeps.mk' ?_ rfl rfl rfl rfl))

theorem execLinkUp_keeps {a0 a1 a2 a3} (h : Keeps s0 s) : Keeps s0 (after (execLinkUp a0 a1 a2 a3 s) s) := by
  delta execLinkUp
  repeat' (first
    | with_reducible assumption
    | (refine fun (_ : Keeps _ _) => ?_)
    | (intro x; first | (refine Keeps.cut (s0 := s0) (x := x) ?_ ?_ <;> (first | (clear_value x; intro hx) | subst x)) | (subst x; try dsimp -zeta only))
    | with_reducible refine next_keeps ?_
    | with_reducible (refine settle_keeps ?_)
    | with_reducible (refine setPort_keeps ?_)
    | with_reducible (refine noteReasons_keeps ?_)
    | with_reducible (refine icu_keeps ?_)
    | split
    | lift_lets
    | (fail_if_no_progress with_reducible refine Keeps.mk' ?_ rfl rfl rfl rfl))

theorem execFunctionLevelReset_keeps {a0} (h : Keeps s0 s) : Keeps s0 (after (execFunctionLevelReset a0 s) s) := by
  delta execFunctionLevelReset
  repeat' (first
    | with_reducible assumption
    | (refine fun (_ : Keeps _ _) => ?_)
    | (intro x; first | (refine Keeps.cut (s0 := s0) (x := x) ?_ ?_ <;> (first | (clear_value x; intro hx) | subst x)) | (subst x; try dsimp -zeta only))
    | with_reducible refine next_keeps ?_
    | with_reducible (refine resetFunction_keeps ?_)
    | split
    | lift_lets
    | (fail_if_no_progress with_reducible refine Keeps.mk' ?_ rfl rfl rfl rfl))

theorem execL0pRequest_keeps {a0 a1} (h : Keeps s0 s) : Keeps s0 (after (execL0pRequest a0 a1 s) s) := by
  delta execL0pRequest
  repeat' (first
    | with_reducible assumption
    | (refine fun (_ : Keeps _ _) => ?_)
    | (intro x; first | (refine Keeps.cut (s0 := s0) (x := x) ?_ ?_ <;> (first | (clear_value x; intro hx) | subst x)) | (subst x; try dsimp -zeta only))
    | with_reducible refine next_keeps ?_
    | with_reducible (refine setPort_keeps ?_)
    | split
    | lift_lets
    | (fail_if_no_progress with_reducible refine Keeps.mk' ?_ rfl rfl rfl rfl))

theorem execIdeFail_keeps {a0} (h : Keeps s0 s) : Keeps s0 (after (execIdeFail a0 s) s) := by
  delta execIdeFail
  repeat' (first
    | with_reducible assumption
    | (refine fun (_ : Keeps _ _) => ?_)
    | (intro x; first | (refine Keeps.cut (s0 := s0) (x := x) ?_ ?_ <;> (first | (clear_value x; intro hx) | subst x)) | (subst x; try dsimp -zeta only))
    | with_reducible refine next_keeps ?_
    | with_reducible (refine settle_keeps ?_)
    | with_reducible (refine report_keeps ?_)
    | with_reducible (refine setIde_keeps ?_)
    | with_reducible (refine portDown_keeps ?_)
    | split
    | lift_lets
    | (fail_if_no_progress with_reducible refine Keeps.mk' ?_ rfl rfl rfl rfl))

theorem linkDomOff_keeps {a0} (h : Keeps s0 s) : Keeps s0 (linkDomOff s a0) := by
  delta linkDomOff
  repeat' (first
    | with_reducible assumption
    | (refine fun (_ : Keeps _ _) => ?_)
    | (intro x; first | (refine Keeps.cut (s0 := s0) (x := x) ?_ ?_ <;> (first | (clear_value x; intro hx) | subst x)) | (subst x; try dsimp -zeta only))
    | with_reducible (refine linkOff_keeps ?_)
    | with_reducible (refine portDown_keeps ?_)
    | with_reducible (refine forEach_keeps ?_ fun s a hs => ?_)
    | split
    | lift_lets
    | (fail_if_no_progress with_reducible refine Keeps.mk' ?_ rfl rfl rfl rfl))

theorem hlPwrSet_keeps {a0 a1} (h : Keeps s0 s) : Keeps s0 (hlPwrSet s a0 a1) := by
  delta hlPwrSet
  repeat' (first
    | with_reducible assumption
    | (refine fun (_ : Keeps _ _) => ?_)
    | (intro x; first | (refine Keeps.cut (s0 := s0) (x := x) ?_ ?_ <;> (first | (clear_value x; intro hx) | subst x)) | (subst x; try dsimp -zeta only))
    | with_reducible (refine wr_keeps ?_)
    | with_reducible (refine applyPower_keeps ?_)
    | with_reducible (refine linkDomOff_keeps ?_)
    | with_reducible (refine forEach_keeps ?_ fun s a hs => ?_)
    | split
    | lift_lets
    | (fail_if_no_progress with_reducible refine Keeps.mk' ?_ rfl rfl rfl rfl))

theorem execHlPwrWrite_keeps {a0 a1} (h : Keeps s0 s) : Keeps s0 (after (execHlPwrWrite a0 a1 s) s) := by
  delta execHlPwrWrite
  repeat' (first
    | with_reducible assumption
    | (refine fun (_ : Keeps _ _) => ?_)
    | (intro x; first | (refine Keeps.cut (s0 := s0) (x := x) ?_ ?_ <;> (first | (clear_value x; intro hx) | subst x)) | (subst x; try dsimp -zeta only))
    | with_reducible refine next_keeps ?_
    | with_reducible (refine settle_keeps ?_)
    | with_reducible (refine accessErr_keeps ?_)
    | with_reducible (refine hlPwrSet_keeps ?_)
    | split
    | lift_lets
    | (fail_if_no_progress with_reducible refine Keeps.mk' ?_ rfl rfl rfl rfl))

theorem execHdmDecoderCommit_keeps {a0 a1 a2 a3 a4 a5 a6 a7} (h : Keeps s0 s) : Keeps s0 (after (execHdmDecoderCommit a0 a1 a2 a3 a4 a5 a6 a7 s) s) := by
  delta execHdmDecoderCommit
  repeat' (first
    | with_reducible assumption
    | (refine fun (_ : Keeps _ _) => ?_)
    | (intro x; first | (refine Keeps.cut (s0 := s0) (x := x) ?_ ?_ <;> (first | (clear_value x; intro hx) | subst x)) | (subst x; try dsimp -zeta only))
    | with_reducible refine next_keeps ?_
    | with_reducible (refine setLd_keeps ?_)
    | split
    | lift_lets
    | (fail_if_no_progress with_reducible refine Keeps.mk' ?_ rfl rfl rfl rfl))

theorem execDoeRequest_keeps {a0 a1 a2} (h : Keeps s0 s) : Keeps s0 (after (execDoeRequest a0 a1 a2 s) s) := by
  delta execDoeRequest
  repeat' (first
    | with_reducible assumption
    | (refine fun (_ : Keeps _ _) => ?_)
    | (intro x; first | (refine Keeps.cut (s0 := s0) (x := x) ?_ ?_ <;> (first | (clear_value x; intro hx) | subst x)) | (subst x; try dsimp -zeta only))
    | with_reducible refine next_keeps ?_
    | with_reducible (refine setLd_keeps ?_)
    | with_reducible (refine setIde_keeps ?_)
    | split
    | lift_lets
    | (fail_if_no_progress with_reducible refine Keeps.mk' ?_ rfl rfl rfl rfl))

theorem execStatusMirrorRefresh_keeps (h : Keeps s0 s) : Keeps s0 (after (execStatusMirrorRefresh s) s) := by
  delta execStatusMirrorRefresh
  repeat' (first
    | with_reducible assumption
    | (refine fun (_ : Keeps _ _) => ?_)
    | (intro x; first | (refine Keeps.cut (s0 := s0) (x := x) ?_ ?_ <;> (first | (clear_value x; intro hx) | subst x)) | (subst x; try dsimp -zeta only))
    | with_reducible refine next_keeps ?_
    | split
    | lift_lets
    | (fail_if_no_progress with_reducible refine Keeps.mk' ?_ rfl rfl rfl rfl))

theorem execBar0ReservedAccess_keeps {a0 a1 a2} (h : Keeps s0 s) : Keeps s0 (after (execBar0ReservedAccess a0 a1 a2 s) s) := by
  delta execBar0ReservedAccess
  repeat' (first
    | with_reducible assumption
    | (refine fun (_ : Keeps _ _) => ?_)
    | (intro x; first | (refine Keeps.cut (s0 := s0) (x := x) ?_ ?_ <;> (first | (clear_value x; intro hx) | subst x)) | (subst x; try dsimp -zeta only))
    | with_reducible refine next_keeps ?_
    | with_reducible (refine hlCount_keeps ?_)
    | split
    | lift_lets
    | (fail_if_no_progress with_reducible refine Keeps.mk' ?_ rfl rfl rfl rfl))

theorem sb0Nack_keeps (h : Keeps s0 s) : Keeps s0 (sb0Nack s) := by
  delta sb0Nack
  repeat' (first
    | with_reducible assumption
    | (refine fun (_ : Keeps _ _) => ?_)
    | (intro x; first | (refine Keeps.cut (s0 := s0) (x := x) ?_ ?_ <;> (first | (clear_value x; intro hx) | subst x)) | (subst x; try dsimp -zeta only))
    | split
    | lift_lets
    | (fail_if_no_progress with_reducible refine Keeps.mk' ?_ rfl rfl rfl rfl))

theorem sb0Ack_keeps {a0} (h : Keeps s0 s) : Keeps s0 (sb0Ack s a0) := by
  delta sb0Ack
  repeat' (first
    | with_reducible assumption
    | (refine fun (_ : Keeps _ _) => ?_)
    | (intro x; first | (refine Keeps.cut (s0 := s0) (x := x) ?_ ?_ <;> (first | (clear_value x; intro hx) | subst x)) | (subst x; try dsimp -zeta only))
    | with_reducible (refine addWrap_keeps ?_)
    | split
    | lift_lets
    | (fail_if_no_progress with_reducible refine Keeps.mk' ?_ rfl rfl rfl rfl))

theorem sb0Read_keeps {d : State → List Byte} (h : Keeps s0 s) : Keeps s0 (sb0Read s d) := by
  unfold sb0Read
  split
  · exact sb0Ack_keeps h
  · exact sb0Nack_keeps h

theorem sb0Error_keeps {a0} (h : Keeps s0 s) : Keeps s0 (sb0Error s a0) := by
  delta sb0Error
  repeat' (first
    | with_reducible assumption
    | (refine fun (_ : Keeps _ _) => ?_)
    | (intro x; first | (refine Keeps.cut (s0 := s0) (x := x) ?_ ?_ <;> (first | (clear_value x; intro hx) | subst x)) | (subst x; try dsimp -zeta only))
    | with_reducible (refine report_keeps ?_)
    | with_reducible (refine addSat_keeps ?_)
    | split
    | lift_lets
    | (fail_if_no_progress with_reducible refine Keeps.mk' ?_ rfl rfl rfl rfl))

theorem sb0Write_keeps {p : Pec} {f : State → State} (h : Keeps s0 s)
    (hf : ∀ t, Keeps s0 t → Keeps s0 (f t)) : Keeps s0 (sb0Write s p f) := by
  unfold sb0Write
  split
  · exact sb0Error_keeps (sb0Ack_keeps h)
  · exact hf _ (sb0Ack_keeps h)

theorem execSb0ReadIdentity_keeps (h : Keeps s0 s) : Keeps s0 (after (execSb0ReadIdentity s) s) := by
  delta execSb0ReadIdentity
  repeat' (first
    | with_reducible assumption
    | (refine fun (_ : Keeps _ _) => ?_)
    | (intro x; first | (refine Keeps.cut (s0 := s0) (x := x) ?_ ?_ <;> (first | (clear_value x; intro hx) | subst x)) | (subst x; try dsimp -zeta only))
    | with_reducible refine next_keeps ?_
    | with_reducible (refine sb0Read_keeps ?_)
    | split
    | lift_lets
    | (fail_if_no_progress with_reducible refine Keeps.mk' ?_ rfl rfl rfl rfl))

theorem execSb0ReadLevel_keeps (h : Keeps s0 s) : Keeps s0 (after (execSb0ReadLevel s) s) := by
  delta execSb0ReadLevel
  repeat' (first
    | with_reducible assumption
    | (refine fun (_ : Keeps _ _) => ?_)
    | (intro x; first | (refine Keeps.cut (s0 := s0) (x := x) ?_ ?_ <;> (first | (clear_value x; intro hx) | subst x)) | (subst x; try dsimp -zeta only))
    | with_reducible refine next_keeps ?_
    | with_reducible (refine sb0Read_keeps ?_)
    | split
    | lift_lets
    | (fail_if_no_progress with_reducible refine Keeps.mk' ?_ rfl rfl rfl rfl))

theorem execSb0ReadTj_keeps (h : Keeps s0 s) : Keeps s0 (after (execSb0ReadTj s) s) := by
  delta execSb0ReadTj
  repeat' (first
    | with_reducible assumption
    | (refine fun (_ : Keeps _ _) => ?_)
    | (intro x; first | (refine Keeps.cut (s0 := s0) (x := x) ?_ ?_ <;> (first | (clear_value x; intro hx) | subst x)) | (subst x; try dsimp -zeta only))
    | with_reducible refine next_keeps ?_
    | with_reducible (refine sb0Read_keeps ?_)
    | split
    | lift_lets
    | (fail_if_no_progress with_reducible refine Keeps.mk' ?_ rfl rfl rfl rfl))

theorem execSb0ReadEnergy_keeps (h : Keeps s0 s) : Keeps s0 (after (execSb0ReadEnergy s) s) := by
  delta execSb0ReadEnergy
  repeat' (first
    | with_reducible assumption
    | (refine fun (_ : Keeps _ _) => ?_)
    | (intro x; first | (refine Keeps.cut (s0 := s0) (x := x) ?_ ?_ <;> (first | (clear_value x; intro hx) | subst x)) | (subst x; try dsimp -zeta only))
    | with_reducible refine next_keeps ?_
    | with_reducible (refine sb0Read_keeps ?_)
    | split
    | lift_lets
    | (fail_if_no_progress with_reducible refine Keeps.mk' ?_ rfl rfl rfl rfl))

theorem execSb0ReadHem_keeps (h : Keeps s0 s) : Keeps s0 (after (execSb0ReadHem s) s) := by
  delta execSb0ReadHem
  repeat' (first
    | with_reducible assumption
    | (refine fun (_ : Keeps _ _) => ?_)
    | (intro x; first | (refine Keeps.cut (s0 := s0) (x := x) ?_ ?_ <;> (first | (clear_value x; intro hx) | subst x)) | (subst x; try dsimp -zeta only))
    | with_reducible refine next_keeps ?_
    | with_reducible (refine sb0Read_keeps ?_)
    | split
    | lift_lets
    | (fail_if_no_progress with_reducible refine Keeps.mk' ?_ rfl rfl rfl rfl))

theorem execSb0ReadEventSeq_keeps (h : Keeps s0 s) : Keeps s0 (after (execSb0ReadEventSeq s) s) := by
  delta execSb0ReadEventSeq
  repeat' (first
    | with_reducible assumption
    | (refine fun (_ : Keeps _ _) => ?_)
    | (intro x; first | (refine Keeps.cut (s0 := s0) (x := x) ?_ ?_ <;> (first | (clear_value x; intro hx) | subst x)) | (subst x; try dsimp -zeta only))
    | with_reducible refine next_keeps ?_
    | with_reducible (refine sb0Read_keeps ?_)
    | split
    | lift_lets
    | (fail_if_no_progress with_reducible refine Keeps.mk' ?_ rfl rfl rfl rfl))

theorem execSb0SetWindow_keeps {a0 a1} (h : Keeps s0 s) : Keeps s0 (after (execSb0SetWindow a0 a1 s) s) := by
  delta execSb0SetWindow
  repeat' (first
    | with_reducible assumption
    | (refine fun (_ : Keeps _ _) => ?_)
    | (intro x; first | (refine Keeps.cut (s0 := s0) (x := x) ?_ ?_ <;> (first | (clear_value x; intro hx) | subst x)) | (subst x; try dsimp -zeta only))
    | with_reducible refine next_keeps ?_
    | with_reducible (refine settle_keeps ?_)
    | with_reducible (refine sb0Nack_keeps ?_)
    | with_reducible (refine wr_keeps ?_)
    | with_reducible (refine sb0Write_keeps ?_ (fun s hs => ?_))
    | split
    | lift_lets
    | (fail_if_no_progress with_reducible refine Keeps.mk' ?_ rfl rfl rfl rfl))

theorem execSb0ReadMirror_keeps (h : Keeps s0 s) : Keeps s0 (after (execSb0ReadMirror s) s) := by
  delta execSb0ReadMirror
  repeat' (first
    | with_reducible assumption
    | (refine fun (_ : Keeps _ _) => ?_)
    | (intro x; first | (refine Keeps.cut (s0 := s0) (x := x) ?_ ?_ <;> (first | (clear_value x; intro hx) | subst x)) | (subst x; try dsimp -zeta only))
    | with_reducible refine next_keeps ?_
    | with_reducible (refine wr_keeps ?_)
    | with_reducible (refine sb0Ack_keeps ?_)
    | with_reducible (refine sb0Nack_keeps ?_)
    | split
    | lift_lets
    | (fail_if_no_progress with_reducible refine Keeps.mk' ?_ rfl rfl rfl rfl))

theorem execSb0PowerOff_keeps {a0 a1} (h : Keeps s0 s) : Keeps s0 (after (execSb0PowerOff a0 a1 s) s) := by
  delta execSb0PowerOff
  repeat' (first
    | with_reducible assumption
    | (refine fun (_ : Keeps _ _) => ?_)
    | (intro x; first | (refine Keeps.cut (s0 := s0) (x := x) ?_ ?_ <;> (first | (clear_value x; intro hx) | subst x)) | (subst x; try dsimp -zeta only))
    | with_reducible refine next_keeps ?_
    | with_reducible (refine settle_keeps ?_)
    | with_reducible (refine sb0Nack_keeps ?_)
    | with_reducible (refine wr_keeps ?_)
    | with_reducible (refine icu_keeps ?_)
    | with_reducible (refine sb0Write_keeps ?_ (fun s hs => ?_))
    | split
    | lift_lets
    | (fail_if_no_progress with_reducible refine Keeps.mk' ?_ rfl rfl rfl rfl))

theorem execSb0ReadResult_keeps (h : Keeps s0 s) : Keeps s0 (after (execSb0ReadResult s) s) := by
  delta execSb0ReadResult
  repeat' (first
    | with_reducible assumption
    | (refine fun (_ : Keeps _ _) => ?_)
    | (intro x; first | (refine Keeps.cut (s0 := s0) (x := x) ?_ ?_ <;> (first | (clear_value x; intro hx) | subst x)) | (subst x; try dsimp -zeta only))
    | with_reducible refine next_keeps ?_
    | with_reducible (refine sb0Read_keeps ?_)
    | split
    | lift_lets
    | (fail_if_no_progress with_reducible refine Keeps.mk' ?_ rfl rfl rfl rfl))

theorem execSb0UnknownCommand_keeps {a0} (h : Keeps s0 s) : Keeps s0 (after (execSb0UnknownCommand a0 s) s) := by
  delta execSb0UnknownCommand
  repeat' (first
    | with_reducible assumption
    | (refine fun (_ : Keeps _ _) => ?_)
    | (intro x; first | (refine Keeps.cut (s0 := s0) (x := x) ?_ ?_ <;> (first | (clear_value x; intro hx) | subst x)) | (subst x; try dsimp -zeta only))
    | with_reducible refine next_keeps ?_
    | with_reducible (refine sb0Nack_keeps ?_)
    | split
    | lift_lets
    | (fail_if_no_progress with_reducible refine Keeps.mk' ?_ rfl rfl rfl rfl))

theorem sb0Done_keeps {a0} (h : Keeps s0 s) : Keeps s0 (sb0Done s a0) := by
  delta sb0Done
  repeat' (first
    | with_reducible assumption
    | (refine fun (_ : Keeps _ _) => ?_)
    | (intro x; first | (refine Keeps.cut (s0 := s0) (x := x) ?_ ?_ <;> (first | (clear_value x; intro hx) | subst x)) | (subst x; try dsimp -zeta only))
    | with_reducible (refine accessErr_keeps ?_)
    | with_reducible (refine wrB_keeps ?_)
    | split
    | lift_lets
    | (fail_if_no_progress with_reducible refine Keeps.mk' ?_ rfl rfl rfl rfl))

theorem execSb0CmdDone_keeps {a0} (h : Keeps s0 s) : Keeps s0 (after (execSb0CmdDone a0 s) s) := by
  delta execSb0CmdDone
  repeat' (first
    | with_reducible assumption
    | (refine fun (_ : Keeps _ _) => ?_)
    | (intro x; first | (refine Keeps.cut (s0 := s0) (x := x) ?_ ?_ <;> (first | (clear_value x; intro hx) | subst x)) | (subst x; try dsimp -zeta only))
    | with_reducible refine next_keeps ?_
    | with_reducible (refine settle_keeps ?_)
    | with_reducible (refine sb0Done_keeps ?_)
    | split
    | lift_lets
    | (fail_if_no_progress with_reducible refine Keeps.mk' ?_ rfl rfl rfl rfl))

theorem execSb0ProtocolError_keeps (h : Keeps s0 s) : Keeps s0 (after (execSb0ProtocolError s) s) := by
  delta execSb0ProtocolError
  repeat' (first
    | with_reducible assumption
    | (refine fun (_ : Keeps _ _) => ?_)
    | (intro x; first | (refine Keeps.cut (s0 := s0) (x := x) ?_ ?_ <;> (first | (clear_value x; intro hx) | subst x)) | (subst x; try dsimp -zeta only))
    | with_reducible refine next_keeps ?_
    | with_reducible (refine settle_keeps ?_)
    | with_reducible (refine sb0Error_keeps ?_)
    | with_reducible (refine sb0Nack_keeps ?_)
    | split
    | lift_lets
    | (fail_if_no_progress with_reducible refine Keeps.mk' ?_ rfl rfl rfl rfl))

theorem execSb0Timeout_keeps (h : Keeps s0 s) : Keeps s0 (after (execSb0Timeout s) s) := by
  delta execSb0Timeout
  repeat' (first
    | with_reducible assumption
    | (refine fun (_ : Keeps _ _) => ?_)
    | (intro x; first | (refine Keeps.cut (s0 := s0) (x := x) ?_ ?_ <;> (first | (clear_value x; intro hx) | subst x)) | (subst x; try dsimp -zeta only))
    | with_reducible refine next_keeps ?_
    | with_reducible (refine settle_keeps ?_)
    | with_reducible (refine sb0Error_keeps ?_)
    | with_reducible (refine sb0Nack_keeps ?_)
    | split
    | lift_lets
    | (fail_if_no_progress with_reducible refine Keeps.mk' ?_ rfl rfl rfl rfl))

theorem execSb0WakeStart_keeps (h : Keeps s0 s) : Keeps s0 (after (execSb0WakeStart s) s) := by
  delta execSb0WakeStart
  repeat' (first
    | with_reducible assumption
    | (refine fun (_ : Keeps _ _) => ?_)
    | (intro x; first | (refine Keeps.cut (s0 := s0) (x := x) ?_ ?_ <;> (first | (clear_value x; intro hx) | subst x)) | (subst x; try dsimp -zeta only))
    | with_reducible refine next_keeps ?_
    | with_reducible (refine settle_keeps ?_)
    | with_reducible (refine domReq_keeps ?_)
    | with_reducible (refine icu_keeps ?_)
    | with_reducible (refine addSat_keeps ?_)
    | with_reducible (refine startPowerUp_keeps ?_)
    | with_reducible (refine latchOn_keeps ?_)
    | split
    | lift_lets
    | (fail_if_no_progress with_reducible refine Keeps.mk' ?_ rfl rfl rfl rfl))

theorem busEnd_keeps {a0} (h : Keeps s0 s) : Keeps s0 (busEnd s a0) := by
  delta busEnd
  repeat' (first
    | with_reducible assumption
    | (refine fun (_ : Keeps _ _) => ?_)
    | (intro x; first | (refine Keeps.cut (s0 := s0) (x := x) ?_ ?_ <;> (first | (clear_value x; intro hx) | subst x)) | (subst x; try dsimp -zeta only))
    | with_reducible (refine report_keeps ?_)
    | with_reducible (refine addSat_keeps ?_)
    | split
    | lift_lets
    | (fail_if_no_progress with_reducible refine Keeps.mk' ?_ rfl rfl rfl rfl))

theorem execSb1HoldupStatusPoll_keeps {a0 a1} (h : Keeps s0 s) : Keeps s0 (after (execSb1HoldupStatusPoll a0 a1 s) s) := by
  delta execSb1HoldupStatusPoll
  repeat' (first
    | with_reducible assumption
    | (refine fun (_ : Keeps _ _) => ?_)
    | (intro x; first | (refine Keeps.cut (s0 := s0) (x := x) ?_ ?_ <;> (first | (clear_value x; intro hx) | subst x)) | (subst x; try dsimp -zeta only))
    | with_reducible refine next_keeps ?_
    | with_reducible (refine settle_keeps ?_)
    | with_reducible (refine busEnd_keeps ?_)
    | with_reducible (refine icu_keeps ?_)
    | split
    | lift_lets
    | (fail_if_no_progress with_reducible refine Keeps.mk' ?_ rfl rfl rfl rfl))

theorem execSb1ChargerCurrentWrite_keeps {a0 a1} (h : Keeps s0 s) : Keeps s0 (after (execSb1ChargerCurrentWrite a0 a1 s) s) := by
  delta execSb1ChargerCurrentWrite
  repeat' (first
    | with_reducible assumption
    | (refine fun (_ : Keeps _ _) => ?_)
    | (intro x; first | (refine Keeps.cut (s0 := s0) (x := x) ?_ ?_ <;> (first | (clear_value x; intro hx) | subst x)) | (subst x; try dsimp -zeta only))
    | with_reducible refine next_keeps ?_
    | with_reducible (refine settle_keeps ?_)
    | with_reducible (refine busEnd_keeps ?_)
    | split
    | lift_lets
    | (fail_if_no_progress with_reducible refine Keeps.mk' ?_ rfl rfl rfl rfl))

theorem execSb1ChargerVoltageWrite_keeps {a0 a1} (h : Keeps s0 s) : Keeps s0 (after (execSb1ChargerVoltageWrite a0 a1 s) s) := by
  delta execSb1ChargerVoltageWrite
  repeat' (first
    | with_reducible assumption
    | (refine fun (_ : Keeps _ _) => ?_)
    | (intro x; first | (refine Keeps.cut (s0 := s0) (x := x) ?_ ?_ <;> (first | (clear_value x; intro hx) | subst x)) | (subst x; try dsimp -zeta only))
    | with_reducible refine next_keeps ?_
    | with_reducible (refine settle_keeps ?_)
    | with_reducible (refine busEnd_keeps ?_)
    | split
    | lift_lets
    | (fail_if_no_progress with_reducible refine Keeps.mk' ?_ rfl rfl rfl rfl))

theorem chargerAnswer_keeps {a0} (h : Keeps s0 s) : Keeps s0 (chargerAnswer s a0) := by
  delta chargerAnswer
  repeat' (first
    | with_reducible assumption
    | (refine fun (_ : Keeps _ _) => ?_)
    | (intro x; first | (refine Keeps.cut (s0 := s0) (x := x) ?_ ?_ <;> (first | (clear_value x; intro hx) | subst x)) | (subst x; try dsimp -zeta only))
    | with_reducible (refine report_keeps ?_)
    | with_reducible (refine setChgEn_keeps ?_)
    | with_reducible (refine recomputeBudget_keeps ?_)
    | with_reducible (refine judgeEnergy_keeps ?_)
    | split
    | lift_lets
    | (fail_if_no_progress with_reducible refine Keeps.mk' ?_ rfl rfl rfl rfl))

theorem chargerMiss_keeps (h : Keeps s0 s) : Keeps s0 (chargerMiss s) := by
  delta chargerMiss
  repeat' (first
    | with_reducible assumption
    | (refine fun (_ : Keeps _ _) => ?_)
    | (intro x; first | (refine Keeps.cut (s0 := s0) (x := x) ?_ ?_ <;> (first | (clear_value x; intro hx) | subst x)) | (subst x; try dsimp -zeta only))
    | with_reducible (refine report_keeps ?_)
    | with_reducible (refine chargerGone_keeps ?_)
    | with_reducible (refine icu_keeps ?_)
    | split
    | lift_lets
    | (fail_if_no_progress with_reducible refine Keeps.mk' ?_ rfl rfl rfl rfl))

theorem execSb1ChargerPhaseRead_keeps {a0 a1} (h : Keeps s0 s) : Keeps s0 (after (execSb1ChargerPhaseRead a0 a1 s) s) := by
  delta execSb1ChargerPhaseRead
  repeat' (first
    | with_reducible assumption
    | (refine fun (_ : Keeps _ _) => ?_)
    | (intro x; first | (refine Keeps.cut (s0 := s0) (x := x) ?_ ?_ <;> (first | (clear_value x; intro hx) | subst x)) | (subst x; try dsimp -zeta only))
    | with_reducible refine next_keeps ?_
    | with_reducible (refine settle_keeps ?_)
    | with_reducible (refine busEnd_keeps ?_)
    | with_reducible (refine chargerAnswer_keeps ?_)
    | with_reducible (refine chargerMiss_keeps ?_)
    | split
    | lift_lets
    | (fail_if_no_progress with_reducible refine Keeps.mk' ?_ rfl rfl rfl rfl))

theorem execSb1PmicPoll_keeps {a0 a1 a2} (h : Keeps s0 s) : Keeps s0 (after (execSb1PmicPoll a0 a1 a2 s) s) := by
  delta execSb1PmicPoll
  repeat' (first
    | with_reducible assumption
    | (refine fun (_ : Keeps _ _) => ?_)
    | (intro x; first | (refine Keeps.cut (s0 := s0) (x := x) ?_ ?_ <;> (first | (clear_value x; intro hx) | subst x)) | (subst x; try dsimp -zeta only))
    | with_reducible refine next_keeps ?_
    | with_reducible (refine settle_keeps ?_)
    | with_reducible (refine busEnd_keeps ?_)
    | with_reducible (refine icu_keeps ?_)
    | split
    | lift_lets
    | (fail_if_no_progress with_reducible refine Keeps.mk' ?_ rfl rfl rfl rfl))

theorem packChanged_keeps (h : Keeps s0 s) : Keeps s0 (packChanged s) := by
  delta packChanged
  repeat' (first
    | with_reducible assumption
    | (refine fun (_ : Keeps _ _) => ?_)
    | (intro x; first | (refine Keeps.cut (s0 := s0) (x := x) ?_ ?_ <;> (first | (clear_value x; intro hx) | subst x)) | (subst x; try dsimp -zeta only))
    | with_reducible (refine wrF_keeps ?_)
    | with_reducible (refine recomputeBudget_keeps ?_)
    | with_reducible (refine judgeEnergy_keeps ?_)
    | with_reducible (refine icu_keeps ?_)
    | with_reducible (refine report_keeps ?_)
    | split
    | lift_lets
    | (fail_if_no_progress with_reducible refine Keeps.mk' ?_ rfl rfl rfl rfl))

theorem execSb1PackIdRead_keeps {a0 a1} (h : Keeps s0 s) : Keeps s0 (after (execSb1PackIdRead a0 a1 s) s) := by
  delta execSb1PackIdRead
  repeat' (first
    | with_reducible assumption
    | (refine fun (_ : Keeps _ _) => ?_)
    | (intro x; first | (refine Keeps.cut (s0 := s0) (x := x) ?_ ?_ <;> (first | (clear_value x; intro hx) | subst x)) | (subst x; try dsimp -zeta only))
    | with_reducible refine next_keeps ?_
    | with_reducible (refine settle_keeps ?_)
    | with_reducible (refine busEnd_keeps ?_)
    | with_reducible (refine packChanged_keeps ?_)
    | split
    | lift_lets
    | (fail_if_no_progress with_reducible refine Keeps.mk' ?_ rfl rfl rfl rfl))

theorem sb1Go_keeps {a0} (h : Keeps s0 s) : Keeps s0 (sb1Go s a0) := by
  delta sb1Go
  repeat' (first
    | with_reducible assumption
    | (refine fun (_ : Keeps _ _) => ?_)
    | (intro x; first | (refine Keeps.cut (s0 := s0) (x := x) ?_ ?_ <;> (first | (clear_value x; intro hx) | subst x)) | (subst x; try dsimp -zeta only))
    | with_reducible (refine accessErr_keeps ?_)
    | with_reducible (refine wr_keeps ?_)
    | with_reducible (refine xferEnd_keeps ?_)
    | split
    | lift_lets
    | (fail_if_no_progress with_reducible refine Keeps.mk' ?_ rfl rfl rfl rfl))

theorem execSb1XferGo_keeps {a0} (h : Keeps s0 s) : Keeps s0 (after (execSb1XferGo a0 s) s) := by
  delta execSb1XferGo
  repeat' (first
    | with_reducible assumption
    | (refine fun (_ : Keeps _ _) => ?_)
    | (intro x; first | (refine Keeps.cut (s0 := s0) (x := x) ?_ ?_ <;> (first | (clear_value x; intro hx) | subst x)) | (subst x; try dsimp -zeta only))
    | with_reducible refine next_keeps ?_
    | with_reducible (refine settle_keeps ?_)
    | with_reducible (refine sb1Go_keeps ?_)
    | split
    | lift_lets
    | (fail_if_no_progress with_reducible refine Keeps.mk' ?_ rfl rfl rfl rfl))

theorem fillBuf_keeps {a0} (h : Keeps s0 s) : Keeps s0 (fillBuf s a0) := by
  delta fillBuf
  repeat' (first
    | with_reducible assumption
    | (refine fun (_ : Keeps _ _) => ?_)
    | (intro x; first | (refine Keeps.cut (s0 := s0) (x := x) ?_ ?_ <;> (first | (clear_value x; intro hx) | subst x)) | (subst x; try dsimp -zeta only))
    | with_reducible (refine wrF_keeps ?_)
    | with_reducible (refine forEach_keeps ?_ fun s a hs => ?_)
    | split
    | lift_lets
    | (fail_if_no_progress with_reducible refine Keeps.mk' ?_ rfl rfl rfl rfl))

theorem execSb1XferDone_keeps {a0 a1 a2} (h : Keeps s0 s) : Keeps s0 (after (execSb1XferDone a0 a1 a2 s) s) := by
  delta execSb1XferDone
  repeat' (first
    | with_reducible assumption
    | (refine fun (_ : Keeps _ _) => ?_)
    | (intro x; first | (refine Keeps.cut (s0 := s0) (x := x) ?_ ?_ <;> (first | (clear_value x; intro hx) | subst x)) | (subst x; try dsimp -zeta only))
    | with_reducible refine next_keeps ?_
    | with_reducible (refine settle_keeps ?_)
    | with_reducible (refine busEnd_keeps ?_)
    | with_reducible (refine fillBuf_keeps ?_)
    | with_reducible (refine xferEnd_keeps ?_)
    | split
    | lift_lets
    | (fail_if_no_progress with_reducible refine Keeps.mk' ?_ rfl rfl rfl rfl))

theorem execSb1ArbLostRetry_keeps (h : Keeps s0 s) : Keeps s0 (after (execSb1ArbLostRetry s) s) := by
  delta execSb1ArbLostRetry
  repeat' (first
    | with_reducible assumption
    | (refine fun (_ : Keeps _ _) => ?_)
    | (intro x; first | (refine Keeps.cut (s0 := s0) (x := x) ?_ ?_ <;> (first | (clear_value x; intro hx) | subst x)) | (subst x; try dsimp -zeta only))
    | with_reducible refine next_keeps ?_
    | split
    | lift_lets
    | (fail_if_no_progress with_reducible refine Keeps.mk' ?_ rfl rfl rfl rfl))

theorem execSb1SdaStuck_keeps (h : Keeps s0 s) : Keeps s0 (after (execSb1SdaStuck s) s) := by
  delta execSb1SdaStuck
  repeat' (first
    | with_reducible assumption
    | (refine fun (_ : Keeps _ _) => ?_)
    | (intro x; first | (refine Keeps.cut (s0 := s0) (x := x) ?_ ?_ <;> (first | (clear_value x; intro hx) | subst x)) | (subst x; try dsimp -zeta only))
    | with_reducible refine next_keeps ?_
    | with_reducible (refine settle_keeps ?_)
    | with_reducible (refine icu_keeps ?_)
    | with_reducible (refine addSat_keeps ?_)
    | split
    | lift_lets
    | (fail_if_no_progress with_reducible refine Keeps.mk' ?_ rfl rfl rfl rfl))

theorem execSb1StuckRecoveryCheck_keeps {a0} (h : Keeps s0 s) : Keeps s0 (after (execSb1StuckRecoveryCheck a0 s) s) := by
  delta execSb1StuckRecoveryCheck
  repeat' (first
    | with_reducible assumption
    | (refine fun (_ : Keeps _ _) => ?_)
    | (intro x; first | (refine Keeps.cut (s0 := s0) (x := x) ?_ ?_ <;> (first | (clear_value x; intro hx) | subst x)) | (subst x; try dsimp -zeta only))
    | with_reducible refine next_keeps ?_
    | with_reducible (refine settle_keeps ?_)
    | with_reducible (refine report_keeps ?_)
    | split
    | lift_lets
    | (fail_if_no_progress with_reducible refine Keeps.mk' ?_ rfl rfl rfl rfl))

theorem restartUnder_keeps {a0} (h : Keeps s0 s) : Keeps s0 (restartUnder s a0) := by
  delta restartUnder
  repeat' (first
    | with_reducible assumption
    | (refine fun (_ : Keeps _ _) => ?_)
    | (intro x; first | (refine Keeps.cut (s0 := s0) (x := x) ?_ ?_ <;> (first | (clear_value x; intro hx) | subst x)) | (subst x; try dsimp -zeta only))
    | with_reducible (refine icu_keeps ?_)
    | with_reducible (refine restartPair_keeps ?_)
    | with_reducible (refine report_keeps ?_)
    | with_reducible (refine updOnRestart_keeps ?_)
    | split
    | lift_lets
    | (fail_if_no_progress with_reducible refine Keeps.mk' ?_ rfl rfl rfl rfl))

theorem execLockstepDivergence_keeps {a0} (h : Keeps s0 s) : Keeps s0 (after (execLockstepDivergence a0 s) s) := by
  delta execLockstepDivergence
  repeat' (first
    | with_reducible assumption
    | (refine fun (_ : Keeps _ _) => ?_)
    | (intro x; first | (refine Keeps.cut (s0 := s0) (x := x) ?_ ?_ <;> (first | (clear_value x; intro hx) | subst x)) | (subst x; try dsimp -zeta only))
    | with_reducible refine next_keeps ?_
    | with_reducible (refine settle_keeps ?_)
    | with_reducible (refine restartUnder_keeps ?_)
    | with_reducible (refine report_keeps ?_)
    | with_reducible (refine addSat_keeps ?_)
    | with_reducible (refine wr_keeps ?_)
    | split
    | lift_lets
    | (fail_if_no_progress with_reducible refine Keeps.mk' ?_ rfl rfl rfl rfl))

theorem execWatchdogExpiry_keeps {a0} (h : Keeps s0 s) : Keeps s0 (after (execWatchdogExpiry a0 s) s) := by
  delta execWatchdogExpiry
  repeat' (first
    | with_reducible assumption
    | (refine fun (_ : Keeps _ _) => ?_)
    | (intro x; first | (refine Keeps.cut (s0 := s0) (x := x) ?_ ?_ <;> (first | (clear_value x; intro hx) | subst x)) | (subst x; try dsimp -zeta only))
    | with_reducible refine next_keeps ?_
    | with_reducible (refine settle_keeps ?_)
    | with_reducible (refine restartUnder_keeps ?_)
    | with_reducible (refine report_keeps ?_)
    | with_reducible (refine addSat_keeps ?_)
    | with_reducible (refine wr_keeps ?_)
    | split
    | lift_lets
    | (fail_if_no_progress with_reducible refine Keeps.mk' ?_ rfl rfl rfl rfl))

theorem wdtKick_keeps {a0} (h : Keeps s0 s) : Keeps s0 (wdtKick s a0) := by
  delta wdtKick
  repeat' (first
    | with_reducible assumption
    | (refine fun (_ : Keeps _ _) => ?_)
    | (intro x; first | (refine Keeps.cut (s0 := s0) (x := x) ?_ ?_ <;> (first | (clear_value x; intro hx) | subst x)) | (subst x; try dsimp -zeta only))
    | split
    | lift_lets
    | (fail_if_no_progress with_reducible refine Keeps.mk' ?_ rfl rfl rfl rfl))

theorem execWatchdogKick_keeps {a0} (h : Keeps s0 s) : Keeps s0 (after (execWatchdogKick a0 s) s) := by
  delta execWatchdogKick
  repeat' (first
    | with_reducible assumption
    | (refine fun (_ : Keeps _ _) => ?_)
    | (intro x; first | (refine Keeps.cut (s0 := s0) (x := x) ?_ ?_ <;> (first | (clear_value x; intro hx) | subst x)) | (subst x; try dsimp -zeta only))
    | with_reducible refine next_keeps ?_
    | with_reducible (refine wdtKick_keeps ?_)
    | split
    | lift_lets
    | (fail_if_no_progress with_reducible refine Keeps.mk' ?_ rfl rfl rfl rfl))

theorem execWatchdogHalfTimeout_keeps (h : Keeps s0 s) : Keeps s0 (after (execWatchdogHalfTimeout s) s) := by
  delta execWatchdogHalfTimeout
  repeat' (first
    | with_reducible assumption
    | (refine fun (_ : Keeps _ _) => ?_)
    | (intro x; first | (refine Keeps.cut (s0 := s0) (x := x) ?_ ?_ <;> (first | (clear_value x; intro hx) | subst x)) | (subst x; try dsimp -zeta only))
    | with_reducible refine next_keeps ?_
    | with_reducible (refine settle_keeps ?_)
    | with_reducible (refine icu_keeps ?_)
    | split
    | lift_lets
    | (fail_if_no_progress with_reducible refine Keeps.mk' ?_ rfl rfl rfl rfl))

theorem execJtagReset_keeps (h : Keeps s0 s) : Keeps s0 (after (execJtagReset s) s) := by
  delta execJtagReset
  repeat' (first
    | with_reducible assumption
    | (refine fun (_ : Keeps _ _) => ?_)
    | (intro x; first | (refine Keeps.cut (s0 := s0) (x := x) ?_ ?_ <;> (first | (clear_value x; intro hx) | subst x)) | (subst x; try dsimp -zeta only))
    | with_reducible refine next_keeps ?_
    | with_reducible (refine settle_keeps ?_)
    | with_reducible (refine restartPair_keeps ?_)
    | split
    | lift_lets
    | (fail_if_no_progress with_reducible refine Keeps.mk' ?_ rfl rfl rfl rfl))

theorem execSramUncorrectable_keeps {a0} (h : Keeps s0 s) : Keeps s0 (after (execSramUncorrectable a0 s) s) := by
  delta execSramUncorrectable
  repeat' (first
    | with_reducible assumption
    | (refine fun (_ : Keeps _ _) => ?_)
    | (intro x; first | (refine Keeps.cut (s0 := s0) (x := x) ?_ ?_ <;> (first | (clear_value x; intro hx) | subst x)) | (subst x; try dsimp -zeta only))
    | with_reducible refine next_keeps ?_
    | with_reducible (refine settle_keeps ?_)
    | with_reducible (refine wr_keeps ?_)
    | with_reducible (refine report_keeps ?_)
    | with_reducible (refine addSat_keeps ?_)
    | split
    | lift_lets
    | (fail_if_no_progress with_reducible refine Keeps.mk' ?_ rfl rfl rfl rfl))

theorem execTickCompare_keeps (h : Keeps s0 s) : Keeps s0 (after (execTickCompare s) s) := by
  delta execTickCompare
  repeat' (first
    | with_reducible assumption
    | (refine fun (_ : Keeps _ _) => ?_)
    | (intro x; first | (refine Keeps.cut (s0 := s0) (x := x) ?_ ?_ <;> (first | (clear_value x; intro hx) | subst x)) | (subst x; try dsimp -zeta only))
    | with_reducible refine next_keeps ?_
    | with_reducible (refine settle_keeps ?_)
    | with_reducible (refine icu_keeps ?_)
    | split
    | lift_lets
    | (fail_if_no_progress with_reducible refine Keeps.mk' ?_ rfl rfl rfl rfl))

theorem samples_keeps (h : Keeps s0 s) : Keeps s0 (samples s) := by
  delta samples
  repeat' (first
    | with_reducible assumption
    | (refine fun (_ : Keeps _ _) => ?_)
    | (intro x; first | (refine Keeps.cut (s0 := s0) (x := x) ?_ ?_ <;> (first | (clear_value x; intro hx) | subst x)) | (subst x; try dsimp -zeta only))
    | with_reducible (refine histAdd_keeps ?_)
    | split
    | lift_lets
    | (fail_if_no_progress with_reducible refine Keeps.mk' ?_ rfl rfl rfl rfl))

theorem execOperatingSecond_keeps (h : Keeps s0 s) : Keeps s0 (after (execOperatingSecond s) s) := by
  delta execOperatingSecond
  repeat' (first
    | with_reducible assumption
    | (refine fun (_ : Keeps _ _) => ?_)
    | (intro x; first | (refine Keeps.cut (s0 := s0) (x := x) ?_ ?_ <;> (first | (clear_value x; intro hx) | subst x)) | (subst x; try dsimp -zeta only))
    | with_reducible refine next_keeps ?_
    | with_reducible (refine settle_keeps ?_)
    | with_reducible (refine wr_keeps ?_)
    | with_reducible (refine addWrap_keeps ?_)
    | with_reducible (refine samples_keeps ?_)
    | with_reducible (refine icu_keeps ?_)
    | split
    | lift_lets
    | (fail_if_no_progress with_reducible refine Keeps.mk' ?_ rfl rfl rfl rfl))

end Sys2Proof.Machine
end

