-- ==== Sys2Proof/Laws/KeepsUpd.lean ====
section
/-! SUPPORT. Frame lemmas of the operations of Machine/Upd, Machine/Evr, Machine/Gen: each keeps the queue and every
invariant of `Keeps`. -/

set_option linter.unusedTactic false
set_option linter.unreachableTactic false

namespace Sys2Proof.Machine

open Bits

variable {s0 s : State}

theorem fwBusy_keeps {a0} (h : Keeps s0 s) : Keeps s0 (fwBusy s a0) := by
  delta fwBusy
  repeat' (first
    | with_reducible assumption
    | (refine fun (_ : Keeps _ _) => ?_)
    | (intro x; first | (refine Keeps.cut (s0 := s0) (x := x) ?_ ?_ <;> (first | (clear_value x; intro hx) | subst x)) | (subst x; try dsimp -zeta only))
    | with_reducible (refine reply_keeps ?_)
    | with_reducible (refine noteRefusal_keeps ?_)
    | split
    | lift_lets
    | (fail_if_no_progress with_reducible refine Keeps.mk' ?_ rfl rfl rfl rfl))

theorem fwInvalid_keeps {a0 a1} (h : Keeps s0 s) : Keeps s0 (fwInvalid s a0 a1) := by
  delta fwInvalid
  repeat' (first
    | with_reducible assumption
    | (refine fun (_ : Keeps _ _) => ?_)
    | (intro x; first | (refine Keeps.cut (s0 := s0) (x := x) ?_ ?_ <;> (first | (clear_value x; intro hx) | subst x)) | (subst x; try dsimp -zeta only))
    | with_reducible (refine abandonTransfer_keeps ?_)
    | with_reducible (refine replyBad_keeps ?_)
    | split
    | lift_lets
    | (fail_if_no_progress with_reducible refine Keeps.mk' ?_ rfl rfl rfl rfl))

theorem storeBlock_keeps {a0 a1} (h : Keeps s0 s) : Keeps s0 (storeBlock s a0 a1) := by
  delta storeBlock
  repeat' (first
    | with_reducible assumption
    | (refine fun (_ : Keeps _ _) => ?_)
    | (intro x; first | (refine Keeps.cut (s0 := s0) (x := x) ?_ ?_ <;> (first | (clear_value x; intro hx) | subst x)) | (subst x; try dsimp -zeta only))
    | with_reducible (refine cflProgram_keeps ?_)
    | split
    | lift_lets
    | (fail_if_no_progress with_reducible refine Keeps.mk' ?_ rfl rfl rfl rfl))

theorem fwStart_keeps {a0 a1} (h : Keeps s0 s) : Keeps s0 (fwStart s a0 a1).1 := by
  delta fwStart
  repeat' (first
    | with_reducible assumption
    | (refine fun (_ : Keeps _ _) => ?_)
    | (intro x; first | (refine Keeps.cut (s0 := s0) (x := x) ?_ ?_ <;> (first | (clear_value x; intro hx) | subst x)) | (subst x; try dsimp -zeta only))
    | with_reducible (refine reply_keeps ?_)
    | with_reducible (refine fwBusy_keeps ?_)
    | with_reducible (refine fwInvalid_keeps ?_)
    | with_reducible (refine replyBad_keeps ?_)
    | with_reducible (refine cflErase_keeps ?_)
    | with_reducible (refine storeBlock_keeps ?_)
    | split
    | lift_lets
    | (fail_if_no_progress with_reducible refine Keeps.mk' ?_ rfl rfl rfl rfl))

theorem fwEnd_keeps {a0} (h : Keeps s0 s) : Keeps s0 (fwEnd s a0) := by
  delta fwEnd
  repeat' (first
    | with_reducible assumption
    | (refine fun (_ : Keeps _ _) => ?_)
    | (intro x; first | (refine Keeps.cut (s0 := s0) (x := x) ?_ ?_ <;> (first | (clear_value x; intro hx) | subst x)) | (subst x; try dsimp -zeta only))
    | with_reducible (refine fwBusy_keeps ?_)
    | with_reducible (refine startBg_keeps ?_ (fun s hs => ?_))
    | split
    | lift_lets
    | (fail_if_no_progress with_reducible refine Keeps.mk' ?_ rfl rfl rfl rfl))

theorem fwOpen_keeps {ld : Nat} {i : List Byte} {f : State → State} (h : Keeps s0 s)
    (hf : ∀ t, Keeps s0 t → Keeps s0 (f t)) : Keeps s0 (fwOpen s ld i f) := by
  unfold fwOpen
  repeat' split
  all_goals first | exact hf _ h | exact replyBad_keeps h | exact reply_keeps h

theorem mbFwFull_keeps {a0 a1} (h : Keeps s0 s) : Keeps s0 (mbFwFull a0 a1 s) := by
  delta mbFwFull
  repeat' (first
    | with_reducible assumption
    | (refine fun (_ : Keeps _ _) => ?_)
    | (intro x; first | (refine Keeps.cut (s0 := s0) (x := x) ?_ ?_ <;> (first | (clear_value x; intro hx) | subst x)) | (subst x; try dsimp -zeta only))
    | with_reducible (refine fwStart_keeps ?_)
    | with_reducible (refine fwEnd_keeps ?_)
    | with_reducible (refine fwOpen_keeps ?_ (fun s hs => ?_))
    | split
    | lift_lets
    | (fail_if_no_progress with_reducible refine Keeps.mk' ?_ rfl rfl rfl rfl))

theorem mbFwInitiate_keeps {a0 a1} (h : Keeps s0 s) : Keeps s0 (mbFwInitiate a0 a1 s) := by
  delta mbFwInitiate
  repeat' (first
    | with_reducible assumption
    | (refine fun (_ : Keeps _ _) => ?_)
    | (intro x; first | (refine Keeps.cut (s0 := s0) (x := x) ?_ ?_ <;> (first | (clear_value x; intro hx) | subst x)) | (subst x; try dsimp -zeta only))
    | with_reducible (refine fwStart_keeps ?_)
    | with_reducible (refine replyOk_keeps ?_)
    | with_reducible (refine fwOpen_keeps ?_ (fun s hs => ?_))
    | split
    | lift_lets
    | (fail_if_no_progress with_reducible refine Keeps.mk' ?_ rfl rfl rfl rfl))

theorem fwBlock_keeps {a0 a1} (h : Keeps s0 s) : Keeps s0 (fwBlock s a0 a1).1 := by
  delta fwBlock
  repeat' (first
    | with_reducible assumption
    | (refine fun (_ : Keeps _ _) => ?_)
    | (intro x; first | (refine Keeps.cut (s0 := s0) (x := x) ?_ ?_ <;> (first | (clear_value x; intro hx) | subst x)) | (subst x; try dsimp -zeta only))
    | with_reducible (refine reply_keeps ?_)
    | with_reducible (refine fwInvalid_keeps ?_)
    | with_reducible (refine replyBad_keeps ?_)
    | with_reducible (refine storeBlock_keeps ?_)
    | split
    | lift_lets
    | (fail_if_no_progress with_reducible refine Keeps.mk' ?_ rfl rfl rfl rfl))

theorem mbFwContinue_keeps {a0 a1} (h : Keeps s0 s) : Keeps s0 (mbFwContinue a0 a1 s) := by
  delta mbFwContinue
  repeat' (first
    | with_reducible assumption
    | (refine fun (_ : Keeps _ _) => ?_)
    | (intro x; first | (refine Keeps.cut (s0 := s0) (x := x) ?_ ?_ <;> (first | (clear_value x; intro hx) | subst x)) | (subst x; try dsimp -zeta only))
    | with_reducible (refine fwBlock_keeps ?_)
    | with_reducible (refine replyOk_keeps ?_)
    | with_reducible (refine fwOpen_keeps ?_ (fun s hs => ?_))
    | split
    | lift_lets
    | (fail_if_no_progress with_reducible refine Keeps.mk' ?_ rfl rfl rfl rfl))

theorem mbFwEnd_keeps {a0 a1} (h : Keeps s0 s) : Keeps s0 (mbFwEnd a0 a1 s) := by
  delta mbFwEnd
  repeat' (first
    | with_reducible assumption
    | (refine fun (_ : Keeps _ _) => ?_)
    | (intro x; first | (refine Keeps.cut (s0 := s0) (x := x) ?_ ?_ <;> (first | (clear_value x; intro hx) | subst x)) | (subst x; try dsimp -zeta only))
    | with_reducible (refine reply_keeps ?_)
    | with_reducible (refine fwEnd_keeps ?_)
    | with_reducible (refine fwBlock_keeps ?_)
    | with_reducible (refine fwOpen_keeps ?_ (fun s hs => ?_))
    | split
    | lift_lets
    | (fail_if_no_progress with_reducible refine Keeps.mk' ?_ rfl rfl rfl rfl))

theorem mbFwAbort_keeps {a0 a1} (h : Keeps s0 s) : Keeps s0 (mbFwAbort a0 a1 s) := by
  delta mbFwAbort
  repeat' (first
    | with_reducible assumption
    | (refine fun (_ : Keeps _ _) => ?_)
    | (intro x; first | (refine Keeps.cut (s0 := s0) (x := x) ?_ ?_ <;> (first | (clear_value x; intro hx) | subst x)) | (subst x; try dsimp -zeta only))
    | with_reducible (refine replyOk_keeps ?_)
    | with_reducible (refine abandonTransfer_keeps ?_)
    | with_reducible (refine fwOpen_keeps ?_ (fun s hs => ?_))
    | split
    | lift_lets
    | (fail_if_no_progress with_reducible refine Keeps.mk' ?_ rfl rfl rfl rfl))

theorem execTransferFwFull_keeps {a0 a1} (h : Keeps s0 s) : Keeps s0 (after (execTransferFwFull a0 a1 s) s) := by
  delta execTransferFwFull
  repeat' (first
    | with_reducible assumption
    | (refine fun (_ : Keeps _ _) => ?_)
    | (intro x; first | (refine Keeps.cut (s0 := s0) (x := x) ?_ ?_ <;> (first | (clear_value x; intro hx) | subst x)) | (subst x; try dsimp -zeta only))
    | with_reducible refine next_keeps ?_
    | with_reducible (refine settle_keeps ?_)
    | with_reducible (refine mbFwFull_keeps ?_)
    | split
    | lift_lets
    | (fail_if_no_progress with_reducible refine Keeps.mk' ?_ rfl rfl rfl rfl))

theorem execTransferFwInitiate_keeps {a0 a1} (h : Keeps s0 s) : Keeps s0 (after (execTransferFwInitiate a0 a1 s) s) := by
  delta execTransferFwInitiate
  repeat' (first
    | with_reducible assumption
    | (refine fun (_ : Keeps _ _) => ?_)
    | (intro x; first | (refine Keeps.cut (s0 := s0) (x := x) ?_ ?_ <;> (first | (clear_value x; intro hx) | subst x)) | (subst x; try dsimp -zeta only))
    | with_reducible refine next_keeps ?_
    | with_reducible (refine settle_keeps ?_)
    | with_reducible (refine mbFwInitiate_keeps ?_)
    | split
    | lift_lets
    | (fail_if_no_progress with_reducible refine Keeps.mk' ?_ rfl rfl rfl rfl))

theorem execTransferFwContinue_keeps {a0 a1} (h : Keeps s0 s) : Keeps s0 (after (execTransferFwContinue a0 a1 s) s) := by
  delta execTransferFwContinue
  repeat' (first
    | with_reducible assumption
    | (refine fun (_ : Keeps _ _) => ?_)
    | (intro x; first | (refine Keeps.cut (s0 := s0) (x := x) ?_ ?_ <;> (first | (clear_value x; intro hx) | subst x)) | (subst x; try dsimp -zeta only))
    | with_reducible refine next_keeps ?_
    | with_reducible (refine settle_keeps ?_)
    | with_reducible (refine mbFwContinue_keeps ?_)
    | split
    | lift_lets
    | (fail_if_no_progress with_reducible refine Keeps.mk' ?_ rfl rfl rfl rfl))

theorem execTransferFwEnd_keeps {a0 a1} (h : Keeps s0 s) : Keeps s0 (after (execTransferFwEnd a0 a1 s) s) := by
  delta execTransferFwEnd
  repeat' (first
    | with_reducible assumption
    | (refine fun (_ : Keeps _ _) => ?_)
    | (intro x; first | (refine Keeps.cut (s0 := s0) (x := x) ?_ ?_ <;> (first | (clear_value x; intro hx) | subst x)) | (subst x; try dsimp -zeta only))
    | with_reducible refine next_keeps ?_
    | with_reducible (refine settle_keeps ?_)
    | with_reducible (refine mbFwEnd_keeps ?_)
    | split
    | lift_lets
    | (fail_if_no_progress with_reducible refine Keeps.mk' ?_ rfl rfl rfl rfl))

theorem execTransferFwAbort_keeps {a0 a1} (h : Keeps s0 s) : Keeps s0 (after (execTransferFwAbort a0 a1 s) s) := by
  delta execTransferFwAbort
  repeat' (first
    | with_reducible assumption
    | (refine fun (_ : Keeps _ _) => ?_)
    | (intro x; first | (refine Keeps.cut (s0 := s0) (x := x) ?_ ?_ <;> (first | (clear_value x; intro hx) | subst x)) | (subst x; try dsimp -zeta only))
    | with_reducible refine next_keeps ?_
    | with_reducible (refine settle_keeps ?_)
    | with_reducible (refine mbFwAbort_keeps ?_)
    | split
    | lift_lets
    | (fail_if_no_progress with_reducible refine Keeps.mk' ?_ rfl rfl rfl rfl))

theorem execTransferFwTimeout_keeps (h : Keeps s0 s) : Keeps s0 (after (execTransferFwTimeout s) s) := by
  delta execTransferFwTimeout
  repeat' (first
    | with_reducible assumption
    | (refine fun (_ : Keeps _ _) => ?_)
    | (intro x; first | (refine Keeps.cut (s0 := s0) (x := x) ?_ ?_ <;> (first | (clear_value x; intro hx) | subst x)) | (subst x; try dsimp -zeta only))
    | with_reducible refine next_keeps ?_
    | with_reducible (refine settle_keeps ?_)
    | with_reducible (refine abandonTransfer_keeps ?_)
    | split
    | lift_lets
    | (fail_if_no_progress with_reducible refine Keeps.mk' ?_ rfl rfl rfl rfl))

theorem mbTransferFw_keeps {a0 a1} (h : Keeps s0 s) : Keeps s0 (mbTransferFw a0 a1 s) := by
  delta mbTransferFw
  repeat' (first
    | with_reducible assumption
    | (refine fun (_ : Keeps _ _) => ?_)
    | (intro x; first | (refine Keeps.cut (s0 := s0) (x := x) ?_ ?_ <;> (first | (clear_value x; intro hx) | subst x)) | (subst x; try dsimp -zeta only))
    | with_reducible (refine mbFwFull_keeps ?_)
    | with_reducible (refine mbFwInitiate_keeps ?_)
    | with_reducible (refine mbFwContinue_keeps ?_)
    | with_reducible (refine mbFwEnd_keeps ?_)
    | with_reducible (refine mbFwAbort_keeps ?_)
    | with_reducible (refine replyBad_keeps ?_)
    | split
    | lift_lets
    | (fail_if_no_progress with_reducible refine Keeps.mk' ?_ rfl rfl rfl rfl))

theorem execReconstruction_keeps {a0} (h : Keeps s0 s) : Keeps s0 (after (execReconstruction a0 s) s) := by
  delta execReconstruction
  repeat' (first
    | with_reducible assumption
    | (refine fun (_ : Keeps _ _) => ?_)
    | (intro x; first | (refine Keeps.cut (s0 := s0) (x := x) ?_ ?_ <;> (first | (clear_value x; intro hx) | subst x)) | (subst x; try dsimp -zeta only))
    | with_reducible refine next_keeps ?_
    | with_reducible (refine settle_keeps ?_)
    | with_reducible (refine cflReadUse_keeps ?_)
    | with_reducible (refine cflProgram_keeps ?_)
    | with_reducible (refine updEnd_keeps ?_)
    | with_reducible (refine endBg_keeps ?_)
    | with_reducible (refine slotInvalid_keeps ?_)
    | with_reducible (refine report_keeps ?_)
    | split
    | lift_lets
    | (fail_if_no_progress with_reducible refine Keeps.mk' ?_ rfl rfl rfl rfl))

theorem activateOpen_keeps {ld : Nat} {i : List Byte} {f : State → State} (h : Keeps s0 s)
    (hf : ∀ t, Keeps s0 t → Keeps s0 (f t)) : Keeps s0 (activateOpen s ld i f) := by
  unfold activateOpen
  repeat' split
  all_goals first | exact hf _ h | exact replyBad_keeps h | exact reply_keeps h | exact fwBusy_keeps h

theorem mbActivateOnline_keeps {a0 a1} (h : Keeps s0 s) : Keeps s0 (mbActivateOnline a0 a1 s) := by
  delta mbActivateOnline
  repeat' (first
    | with_reducible assumption
    | (refine fun (_ : Keeps _ _) => ?_)
    | (intro x; first | (refine Keeps.cut (s0 := s0) (x := x) ?_ ?_ <;> (first | (clear_value x; intro hx) | subst x)) | (subst x; try dsimp -zeta only))
    | with_reducible (refine activateOpen_keeps ?_ (fun s hs => ?_))
    | with_reducible (refine startBg_keeps ?_ (fun s hs => ?_))
    | split
    | lift_lets
    | (fail_if_no_progress with_reducible refine Keeps.mk' ?_ rfl rfl rfl rfl))

theorem mbActivateCold_keeps {a0 a1} (h : Keeps s0 s) : Keeps s0 (mbActivateCold a0 a1 s) := by
  delta mbActivateCold
  repeat' (first
    | with_reducible assumption
    | (refine fun (_ : Keeps _ _) => ?_)
    | (intro x; first | (refine Keeps.cut (s0 := s0) (x := x) ?_ ?_ <;> (first | (clear_value x; intro hx) | subst x)) | (subst x; try dsimp -zeta only))
    | with_reducible (refine reply_keeps ?_)
    | with_reducible (refine replyOk_keeps ?_)
    | with_reducible (refine appendBoot_keeps ?_)
    | with_reducible (refine activateOpen_keeps ?_ (fun s hs => ?_))
    | split
    | lift_lets
    | (fail_if_no_progress with_reducible refine Keeps.mk' ?_ rfl rfl rfl rfl))

theorem execActivateFwOnline_keeps {a0 a1} (h : Keeps s0 s) : Keeps s0 (after (execActivateFwOnline a0 a1 s) s) := by
  delta execActivateFwOnline
  repeat' (first
    | with_reducible assumption
    | (refine fun (_ : Keeps _ _) => ?_)
    | (intro x; first | (refine Keeps.cut (s0 := s0) (x := x) ?_ ?_ <;> (first | (clear_value x; intro hx) | subst x)) | (subst x; try dsimp -zeta only))
    | with_reducible refine next_keeps ?_
    | with_reducible (refine settle_keeps ?_)
    | with_reducible (refine mbActivateOnline_keeps ?_)
    | split
    | lift_lets
    | (fail_if_no_progress with_reducible refine Keeps.mk' ?_ rfl rfl rfl rfl))

theorem execActivateFwCold_keeps {a0 a1} (h : Keeps s0 s) : Keeps s0 (after (execActivateFwCold a0 a1 s) s) := by
  delta execActivateFwCold
  repeat' (first
    | with_reducible assumption
    | (refine fun (_ : Keeps _ _) => ?_)
    | (intro x; first | (refine Keeps.cut (s0 := s0) (x := x) ?_ ?_ <;> (first | (clear_value x; intro hx) | subst x)) | (subst x; try dsimp -zeta only))
    | with_reducible refine next_keeps ?_
    | with_reducible (refine settle_keeps ?_)
    | with_reducible (refine mbActivateCold_keeps ?_)
    | split
    | lift_lets
    | (fail_if_no_progress with_reducible refine Keeps.mk' ?_ rfl rfl rfl rfl))

theorem mbActivateFw_keeps {a0 a1} (h : Keeps s0 s) : Keeps s0 (mbActivateFw a0 a1 s) := by
  delta mbActivateFw
  repeat' (first
    | with_reducible assumption
    | (refine fun (_ : Keeps _ _) => ?_)
    | (intro x; first | (refine Keeps.cut (s0 := s0) (x := x) ?_ ?_ <;> (first | (clear_value x; intro hx) | subst x)) | (subst x; try dsimp -zeta only))
    | with_reducible (refine mbActivateOnline_keeps ?_)
    | with_reducible (refine mbActivateCold_keeps ?_)
    | with_reducible (refine replyBad_keeps ?_)
    | split
    | lift_lets
    | (fail_if_no_progress with_reducible refine Keeps.mk' ?_ rfl rfl rfl rfl))

theorem beginHandover_keeps (h : Keeps s0 s) : Keeps s0 (beginHandover s) := by
  delta beginHandover
  repeat' (first
    | with_reducible assumption
    | (refine fun (_ : Keeps _ _) => ?_)
    | (intro x; first | (refine Keeps.cut (s0 := s0) (x := x) ?_ ?_ <;> (first | (clear_value x; intro hx) | subst x)) | (subst x; try dsimp -zeta only))
    | with_reducible (refine endBg_keeps ?_)
    | with_reducible (refine noteRefusal_keeps ?_)
    | with_reducible (refine appendBoot_keeps ?_)
    | with_reducible (refine restartPair_keeps ?_)
    | with_reducible (refine wr_keeps ?_)
    | split
    | lift_lets
    | (fail_if_no_progress with_reducible refine Keeps.mk' ?_ rfl rfl rfl rfl))

theorem updCmdWrite_keeps {a0} (h : Keeps s0 s) : Keeps s0 (updCmdWrite s a0) := by
  delta updCmdWrite
  repeat' (first
    | with_reducible assumption
    | (refine fun (_ : Keeps _ _) => ?_)
    | (intro x; first | (refine Keeps.cut (s0 := s0) (x := x) ?_ ?_ <;> (first | (clear_value x; intro hx) | subst x)) | (subst x; try dsimp -zeta only))
    | with_reducible (refine accessErr_keeps ?_)
    | with_reducible (refine beginHandover_keeps ?_)
    | with_reducible (refine confirmTrial_keeps ?_)
    | with_reducible (refine failTrial_keeps ?_)
    | with_reducible (refine abandonTransfer_keeps ?_)
    | split
    | lift_lets
    | (fail_if_no_progress with_reducible refine Keeps.mk' ?_ rfl rfl rfl rfl))

theorem execUpdActivate_keeps {a0} (h : Keeps s0 s) : Keeps s0 (after (execUpdActivate a0 s) s) := by
  delta execUpdActivate
  repeat' (first
    | with_reducible assumption
    | (refine fun (_ : Keeps _ _) => ?_)
    | (intro x; first | (refine Keeps.cut (s0 := s0) (x := x) ?_ ?_ <;> (first | (clear_value x; intro hx) | subst x)) | (subst x; try dsimp -zeta only))
    | with_reducible refine next_keeps ?_
    | with_reducible (refine settle_keeps ?_)
    | with_reducible (refine updCmdWrite_keeps ?_)
    | split
    | lift_lets
    | (fail_if_no_progress with_reducible refine Keeps.mk' ?_ rfl rfl rfl rfl))

theorem execUpdHoAck_keeps {a0 a1 a2} (h : Keeps s0 s) : Keeps s0 (after (execUpdHoAck a0 a1 a2 s) s) := by
  delta execUpdHoAck
  repeat' (first
    | with_reducible assumption
    | (refine fun (_ : Keeps _ _) => ?_)
    | (intro x; first | (refine Keeps.cut (s0 := s0) (x := x) ?_ ?_ <;> (first | (clear_value x; intro hx) | subst x)) | (subst x; try dsimp -zeta only))
    | with_reducible refine next_keeps ?_
    | with_reducible (refine settle_keeps ?_)
    | with_reducible (refine writeArea_keeps ?_)
    | with_reducible (refine appendBoot_keeps ?_)
    | with_reducible (refine updEnd_keeps ?_)
    | with_reducible (refine endBg_keeps ?_)
    | with_reducible (refine handoverFail_keeps ?_)
    | split
    | lift_lets
    | (fail_if_no_progress with_reducible refine Keeps.mk' ?_ rfl rfl rfl rfl))

theorem execHandoverTimeout_keeps (h : Keeps s0 s) : Keeps s0 (after (execHandoverTimeout s) s) := by
  delta execHandoverTimeout
  repeat' (first
    | with_reducible assumption
    | (refine fun (_ : Keeps _ _) => ?_)
    | (intro x; first | (refine Keeps.cut (s0 := s0) (x := x) ?_ ?_ <;> (first | (clear_value x; intro hx) | subst x)) | (subst x; try dsimp -zeta only))
    | with_reducible refine next_keeps ?_
    | with_reducible (refine settle_keeps ?_)
    | with_reducible (refine handoverFail_keeps ?_)
    | split
    | lift_lets
    | (fail_if_no_progress with_reducible refine Keeps.mk' ?_ rfl rfl rfl rfl))

theorem execTrialExpiry_keeps (h : Keeps s0 s) : Keeps s0 (after (execTrialExpiry s) s) := by
  delta execTrialExpiry
  repeat' (first
    | with_reducible assumption
    | (refine fun (_ : Keeps _ _) => ?_)
    | (intro x; first | (refine Keeps.cut (s0 := s0) (x := x) ?_ ?_ <;> (first | (clear_value x; intro hx) | subst x)) | (subst x; try dsimp -zeta only))
    | with_reducible refine next_keeps ?_
    | with_reducible (refine settle_keeps ?_)
    | with_reducible (refine confirmTrial_keeps ?_)
    | with_reducible (refine failTrial_keeps ?_)
    | split
    | lift_lets
    | (fail_if_no_progress with_reducible refine Keeps.mk' ?_ rfl rfl rfl rfl))

theorem updOpen_keeps {ld l : Nat} {i : List Byte} {f : State → State} (h : Keeps s0 s)
    (hf : ∀ t, Keeps s0 t → Keeps s0 (f t)) : Keeps s0 (updOpen s ld l i f) := by
  unfold updOpen
  repeat' split
  · exact replyBad_keeps h
  · exact hf _ h
  · exact replyCode_keeps h

theorem mbConfirmUpdate_keeps {a0 a1} (h : Keeps s0 s) : Keeps s0 (mbConfirmUpdate a0 a1 s) := by
  delta mbConfirmUpdate
  repeat' (first
    | with_reducible assumption
    | (refine fun (_ : Keeps _ _) => ?_)
    | (intro x; first | (refine Keeps.cut (s0 := s0) (x := x) ?_ ?_ <;> (first | (clear_value x; intro hx) | subst x)) | (subst x; try dsimp -zeta only))
    | with_reducible (refine replyCode_keeps ?_)
    | with_reducible (refine confirmTrial_keeps ?_)
    | with_reducible (refine updOpen_keeps ?_ (fun s hs => ?_))
    | split
    | lift_lets
    | (fail_if_no_progress with_reducible refine Keeps.mk' ?_ rfl rfl rfl rfl))

theorem execConfirmUpdate_keeps {a0 a1} (h : Keeps s0 s) : Keeps s0 (after (execConfirmUpdate a0 a1 s) s) := by
  delta execConfirmUpdate
  repeat' (first
    | with_reducible assumption
    | (refine fun (_ : Keeps _ _) => ?_)
    | (intro x; first | (refine Keeps.cut (s0 := s0) (x := x) ?_ ?_ <;> (first | (clear_value x; intro hx) | subst x)) | (subst x; try dsimp -zeta only))
    | with_reducible refine next_keeps ?_
    | with_reducible (refine settle_keeps ?_)
    | with_reducible (refine mbConfirmUpdate_keeps ?_)
    | split
    | lift_lets
    | (fail_if_no_progress with_reducible refine Keeps.mk' ?_ rfl rfl rfl rfl))

theorem mbFallBack_keeps {a0 a1} (h : Keeps s0 s) : Keeps s0 (mbFallBack a0 a1 s) := by
  delta mbFallBack
  repeat' (first
    | with_reducible assumption
    | (refine fun (_ : Keeps _ _) => ?_)
    | (intro x; first | (refine Keeps.cut (s0 := s0) (x := x) ?_ ?_ <;> (first | (clear_value x; intro hx) | subst x)) | (subst x; try dsimp -zeta only))
    | with_reducible (refine replyCode_keeps ?_)
    | with_reducible (refine failTrial_keeps ?_)
    | with_reducible (refine updOpen_keeps ?_ (fun s hs => ?_))
    | split
    | lift_lets
    | (fail_if_no_progress with_reducible refine Keeps.mk' ?_ rfl rfl rfl rfl))

theorem execFallBack_keeps {a0 a1} (h : Keeps s0 s) : Keeps s0 (after (execFallBack a0 a1 s) s) := by
  delta execFallBack
  repeat' (first
    | with_reducible assumption
    | (refine fun (_ : Keeps _ _) => ?_)
    | (intro x; first | (refine Keeps.cut (s0 := s0) (x := x) ?_ ?_ <;> (first | (clear_value x; intro hx) | subst x)) | (subst x; try dsimp -zeta only))
    | with_reducible refine next_keeps ?_
    | with_reducible (refine settle_keeps ?_)
    | with_reducible (refine mbFallBack_keeps ?_)
    | split
    | lift_lets
    | (fail_if_no_progress with_reducible refine Keeps.mk' ?_ rfl rfl rfl rfl))

theorem execFallBackDeferredRun_keeps (h : Keeps s0 s) : Keeps s0 (after (execFallBackDeferredRun s) s) := by
  delta execFallBackDeferredRun
  repeat' (first
    | with_reducible assumption
    | (refine fun (_ : Keeps _ _) => ?_)
    | (intro x; first | (refine Keeps.cut (s0 := s0) (x := x) ?_ ?_ <;> (first | (clear_value x; intro hx) | subst x)) | (subst x; try dsimp -zeta only))
    | with_reducible refine next_keeps ?_
    | with_reducible (refine settle_keeps ?_)
    | with_reducible (refine runFallBack_keeps ?_)
    | split
    | lift_lets
    | (fail_if_no_progress with_reducible refine Keeps.mk' ?_ rfl rfl rfl rfl))

theorem mbSetOwnerLock_keeps {a0 a1} (h : Keeps s0 s) : Keeps s0 (mbSetOwnerLock a0 a1 s) := by
  delta mbSetOwnerLock
  repeat' (first
    | with_reducible assumption
    | (refine fun (_ : Keeps _ _) => ?_)
    | (intro x; first | (refine Keeps.cut (s0 := s0) (x := x) ?_ ?_ <;> (first | (clear_value x; intro hx) | subst x)) | (subst x; try dsimp -zeta only))
    | with_reducible (refine replyCode_keeps ?_)
    | with_reducible (refine appendBoot_keeps ?_)
    | with_reducible (refine replyBad_keeps ?_)
    | with_reducible (refine updOpen_keeps ?_ (fun s hs => ?_))
    | split
    | lift_lets
    | (fail_if_no_progress with_reducible refine Keeps.mk' ?_ rfl rfl rfl rfl))

theorem execSetOwnerLock_keeps {a0 a1} (h : Keeps s0 s) : Keeps s0 (after (execSetOwnerLock a0 a1 s) s) := by
  delta execSetOwnerLock
  repeat' (first
    | with_reducible assumption
    | (refine fun (_ : Keeps _ _) => ?_)
    | (intro x; first | (refine Keeps.cut (s0 := s0) (x := x) ?_ ?_ <;> (first | (clear_value x; intro hx) | subst x)) | (subst x; try dsimp -zeta only))
    | with_reducible refine next_keeps ?_
    | with_reducible (refine settle_keeps ?_)
    | with_reducible (refine mbSetOwnerLock_keeps ?_)
    | split
    | lift_lets
    | (fail_if_no_progress with_reducible refine Keeps.mk' ?_ rfl rfl rfl rfl))

theorem mbGetUpdateStatus_keeps {a0 a1} (h : Keeps s0 s) : Keeps s0 (mbGetUpdateStatus a0 a1 s) := by
  delta mbGetUpdateStatus
  repeat' (first
    | with_reducible assumption
    | (refine fun (_ : Keeps _ _) => ?_)
    | (intro x; first | (refine Keeps.cut (s0 := s0) (x := x) ?_ ?_ <;> (first | (clear_value x; intro hx) | subst x)) | (subst x; try dsimp -zeta only))
    | with_reducible (refine replyBad_keeps ?_)
    | with_reducible (refine replyOk_keeps ?_)
    | split
    | lift_lets
    | (fail_if_no_progress with_reducible refine Keeps.mk' ?_ rfl rfl rfl rfl))

theorem execGetUpdateStatus_keeps {a0 a1} (h : Keeps s0 s) : Keeps s0 (after (execGetUpdateStatus a0 a1 s) s) := by
  delta execGetUpdateStatus
  repeat' (first
    | with_reducible assumption
    | (refine fun (_ : Keeps _ _) => ?_)
    | (intro x; first | (refine Keeps.cut (s0 := s0) (x := x) ?_ ?_ <;> (first | (clear_value x; intro hx) | subst x)) | (subst x; try dsimp -zeta only))
    | with_reducible refine next_keeps ?_
    | with_reducible (refine mbGetUpdateStatus_keeps ?_)
    | split
    | lift_lets
    | (fail_if_no_progress with_reducible refine Keeps.mk' ?_ rfl rfl rfl rfl))

theorem mbGetFwInfo_keeps {a0 a1} (h : Keeps s0 s) : Keeps s0 (mbGetFwInfo a0 a1 s) := by
  delta mbGetFwInfo
  repeat' (first
    | with_reducible assumption
    | (refine fun (_ : Keeps _ _) => ?_)
    | (intro x; first | (refine Keeps.cut (s0 := s0) (x := x) ?_ ?_ <;> (first | (clear_value x; intro hx) | subst x)) | (subst x; try dsimp -zeta only))
    | with_reducible (refine replyBad_keeps ?_)
    | with_reducible (refine replyOk_keeps ?_)
    | split
    | lift_lets
    | (fail_if_no_progress with_reducible refine Keeps.mk' ?_ rfl rfl rfl rfl))

theorem execGetFwInfo_keeps {a0 a1} (h : Keeps s0 s) : Keeps s0 (after (execGetFwInfo a0 a1 s) s) := by
  delta execGetFwInfo
  repeat' (first
    | with_reducible assumption
    | (refine fun (_ : Keeps _ _) => ?_)
    | (intro x; first | (refine Keeps.cut (s0 := s0) (x := x) ?_ ?_ <;> (first | (clear_value x; intro hx) | subst x)) | (subst x; try dsimp -zeta only))
    | with_reducible refine next_keeps ?_
    | with_reducible (refine mbGetFwInfo_keeps ?_)
    | split
    | lift_lets
    | (fail_if_no_progress with_reducible refine Keeps.mk' ?_ rfl rfl rfl rfl))

theorem execUpdCmdConfirm_keeps {a0} (h : Keeps s0 s) : Keeps s0 (after (execUpdCmdConfirm a0 s) s) := by
  delta execUpdCmdConfirm
  repeat' (first
    | with_reducible assumption
    | (refine fun (_ : Keeps _ _) => ?_)
    | (intro x; first | (refine Keeps.cut (s0 := s0) (x := x) ?_ ?_ <;> (first | (clear_value x; intro hx) | subst x)) | (subst x; try dsimp -zeta only))
    | with_reducible refine next_keeps ?_
    | with_reducible (refine settle_keeps ?_)
    | with_reducible (refine updCmdWrite_keeps ?_)
    | split
    | lift_lets
    | (fail_if_no_progress with_reducible refine Keeps.mk' ?_ rfl rfl rfl rfl))

theorem execUpdCmdFallBack_keeps {a0} (h : Keeps s0 s) : Keeps s0 (after (execUpdCmdFallBack a0 s) s) := by
  delta execUpdCmdFallBack
  repeat' (first
    | with_reducible assumption
    | (refine fun (_ : Keeps _ _) => ?_)
    | (intro x; first | (refine Keeps.cut (s0 := s0) (x := x) ?_ ?_ <;> (first | (clear_value x; intro hx) | subst x)) | (subst x; try dsimp -zeta only))
    | with_reducible refine next_keeps ?_
    | with_reducible (refine settle_keeps ?_)
    | with_reducible (refine updCmdWrite_keeps ?_)
    | split
    | lift_lets
    | (fail_if_no_progress with_reducible refine Keeps.mk' ?_ rfl rfl rfl rfl))

theorem execUpdCmdFail_keeps {a0} (h : Keeps s0 s) : Keeps s0 (after (execUpdCmdFail a0 s) s) := by
  delta execUpdCmdFail
  repeat' (first
    | with_reducible assumption
    | (refine fun (_ : Keeps _ _) => ?_)
    | (intro x; first | (refine Keeps.cut (s0 := s0) (x := x) ?_ ?_ <;> (first | (clear_value x; intro hx) | subst x)) | (subst x; try dsimp -zeta only))
    | with_reducible refine next_keeps ?_
    | with_reducible (refine settle_keeps ?_)
    | with_reducible (refine updCmdWrite_keeps ?_)
    | split
    | lift_lets
    | (fail_if_no_progress with_reducible refine Keeps.mk' ?_ rfl rfl rfl rfl))

theorem execUpdCmdAbort_keeps {a0} (h : Keeps s0 s) : Keeps s0 (after (execUpdCmdAbort a0 s) s) := by
  delta execUpdCmdAbort
  repeat' (first
    | with_reducible assumption
    | (refine fun (_ : Keeps _ _) => ?_)
    | (intro x; first | (refine Keeps.cut (s0 := s0) (x := x) ?_ ?_ <;> (first | (clear_value x; intro hx) | subst x)) | (subst x; try dsimp -zeta only))
    | with_reducible refine next_keeps ?_
    | with_reducible (refine settle_keeps ?_)
    | with_reducible (refine updCmdWrite_keeps ?_)
    | split
    | lift_lets
    | (fail_if_no_progress with_reducible refine Keeps.mk' ?_ rfl rfl rfl rfl))

theorem execUpdKeyRetire_keeps {a0} (h : Keeps s0 s) : Keeps s0 (after (execUpdKeyRetire a0 s) s) := by
  delta execUpdKeyRetire
  repeat' (first
    | with_reducible assumption
    | (refine fun (_ : Keeps _ _) => ?_)
    | (intro x; first | (refine Keeps.cut (s0 := s0) (x := x) ?_ ?_ <;> (first | (clear_value x; intro hx) | subst x)) | (subst x; try dsimp -zeta only))
    | with_reducible refine next_keeps ?_
    | with_reducible (refine settle_keeps ?_)
    | with_reducible (refine accessErr_keeps ?_)
    | split
    | lift_lets
    | (fail_if_no_progress with_reducible refine Keeps.mk' ?_ rfl rfl rfl rfl))

theorem execEventAdmission_keeps (h : Keeps s0 s) : Keeps s0 (after (execEventAdmission s) s) := by
  delta execEventAdmission
  repeat' (first
    | with_reducible assumption
    | (refine fun (_ : Keeps _ _) => ?_)
    | (intro x; first | (refine Keeps.cut (s0 := s0) (x := x) ?_ ?_ <;> (first | (clear_value x; intro hx) | subst x)) | (subst x; try dsimp -zeta only))
    | with_reducible refine next_keeps ?_
    | with_reducible (refine settle_keeps ?_)
    | with_reducible (refine admitEvent_keeps ?_)
    | split
    | lift_lets
    | (fail_if_no_progress with_reducible refine Keeps.mk' ?_ rfl rfl rfl rfl))

theorem execEvrFlushTimer_keeps (h : Keeps s0 s) : Keeps s0 (after (execEvrFlushTimer s) s) := by
  delta execEvrFlushTimer
  repeat' (first
    | with_reducible assumption
    | (refine fun (_ : Keeps _ _) => ?_)
    | (intro x; first | (refine Keeps.cut (s0 := s0) (x := x) ?_ ?_ <;> (first | (clear_value x; intro hx) | subst x)) | (subst x; try dsimp -zeta only))
    | with_reducible refine next_keeps ?_
    | with_reducible (refine settle_keeps ?_)
    | with_reducible (refine evrPump_keeps ?_)
    | with_reducible (refine closeBuf_keeps ?_)
    | split
    | lift_lets
    | (fail_if_no_progress with_reducible refine Keeps.mk' ?_ rfl rfl rfl rfl))

theorem execEvrPageDurable_keeps {a0} (h : Keeps s0 s) : Keeps s0 (after (execEvrPageDurable a0 s) s) := by
  delta execEvrPageDurable
  repeat' (first
    | with_reducible assumption
    | (refine fun (_ : Keeps _ _) => ?_)
    | (intro x; first | (refine Keeps.cut (s0 := s0) (x := x) ?_ ?_ <;> (first | (clear_value x; intro hx) | subst x)) | (subst x; try dsimp -zeta only))
    | with_reducible refine next_keeps ?_
    | with_reducible (refine settle_keeps ?_)
    | with_reducible (refine pageDone_keeps ?_)
    | with_reducible (refine evrPump_keeps ?_)
    | split
    | lift_lets
    | (fail_if_no_progress with_reducible refine Keeps.mk' ?_ rfl rfl rfl rfl))

theorem execEvrMount_keeps {a0 a1} (h : Keeps s0 s) : Keeps s0 (after (execEvrMount a0 a1 s) s) := by
  delta execEvrMount
  repeat' (first
    | with_reducible assumption
    | (refine fun (_ : Keeps _ _) => ?_)
    | (intro x; first | (refine Keeps.cut (s0 := s0) (x := x) ?_ ?_ <;> (first | (clear_value x; intro hx) | subst x)) | (subst x; try dsimp -zeta only))
    | with_reducible refine next_keeps ?_
    | with_reducible (refine settle_keeps ?_)
    | with_reducible (refine mountLog_keeps ?_)
    | split
    | lift_lets
    | (fail_if_no_progress with_reducible refine Keeps.mk' ?_ rfl rfl rfl rfl))

theorem evrCmdWrite_keeps {a0 a1 a2} (h : Keeps s0 s) : Keeps s0 (evrCmdWrite s a0 a1 a2) := by
  delta evrCmdWrite
  repeat' (first
    | with_reducible assumption
    | (refine fun (_ : Keeps _ _) => ?_)
    | (intro x; first | (refine Keeps.cut (s0 := s0) (x := x) ?_ ?_ <;> (first | (clear_value x; intro hx) | subst x)) | (subst x; try dsimp -zeta only))
    | with_reducible (refine evrFreeze_keeps ?_)
    | with_reducible (refine evrUnfreeze_keeps ?_)
    | with_reducible (refine evrFlush_keeps ?_)
    | with_reducible (refine startClear_keeps ?_)
    | with_reducible (refine writeSummary_keeps ?_)
    | split
    | lift_lets
    | (fail_if_no_progress with_reducible refine Keeps.mk' ?_ rfl rfl rfl rfl))

theorem execEvrFreeze_keeps {a0} (h : Keeps s0 s) : Keeps s0 (after (execEvrFreeze a0 s) s) := by
  delta execEvrFreeze
  repeat' (first
    | with_reducible assumption
    | (refine fun (_ : Keeps _ _) => ?_)
    | (intro x; first | (refine Keeps.cut (s0 := s0) (x := x) ?_ ?_ <;> (first | (clear_value x; intro hx) | subst x)) | (subst x; try dsimp -zeta only))
    | with_reducible refine next_keeps ?_
    | with_reducible (refine settle_keeps ?_)
    | with_reducible (refine evrCmdWrite_keeps ?_)
    | split
    | lift_lets
    | (fail_if_no_progress with_reducible refine Keeps.mk' ?_ rfl rfl rfl rfl))

theorem execEvrUnfreeze_keeps {a0} (h : Keeps s0 s) : Keeps s0 (after (execEvrUnfreeze a0 s) s) := by
  delta execEvrUnfreeze
  repeat' (first
    | with_reducible assumption
    | (refine fun (_ : Keeps _ _) => ?_)
    | (intro x; first | (refine Keeps.cut (s0 := s0) (x := x) ?_ ?_ <;> (first | (clear_value x; intro hx) | subst x)) | (subst x; try dsimp -zeta only))
    | with_reducible refine next_keeps ?_
    | with_reducible (refine settle_keeps ?_)
    | with_reducible (refine evrCmdWrite_keeps ?_)
    | split
    | lift_lets
    | (fail_if_no_progress with_reducible refine Keeps.mk' ?_ rfl rfl rfl rfl))

theorem execEvrFlush_keeps {a0} (h : Keeps s0 s) : Keeps s0 (after (execEvrFlush a0 s) s) := by
  delta execEvrFlush
  repeat' (first
    | with_reducible assumption
    | (refine fun (_ : Keeps _ _) => ?_)
    | (intro x; first | (refine Keeps.cut (s0 := s0) (x := x) ?_ ?_ <;> (first | (clear_value x; intro hx) | subst x)) | (subst x; try dsimp -zeta only))
    | with_reducible refine next_keeps ?_
    | with_reducible (refine settle_keeps ?_)
    | with_reducible (refine evrCmdWrite_keeps ?_)
    | split
    | lift_lets
    | (fail_if_no_progress with_reducible refine Keeps.mk' ?_ rfl rfl rfl rfl))

theorem execEvrClear_keeps {a0} (h : Keeps s0 s) : Keeps s0 (after (execEvrClear a0 s) s) := by
  delta execEvrClear
  repeat' (first
    | with_reducible assumption
    | (refine fun (_ : Keeps _ _) => ?_)
    | (intro x; first | (refine Keeps.cut (s0 := s0) (x := x) ?_ ?_ <;> (first | (clear_value x; intro hx) | subst x)) | (subst x; try dsimp -zeta only))
    | with_reducible refine next_keeps ?_
    | with_reducible (refine settle_keeps ?_)
    | with_reducible (refine evrCmdWrite_keeps ?_)
    | split
    | lift_lets
    | (fail_if_no_progress with_reducible refine Keeps.mk' ?_ rfl rfl rfl rfl))

theorem execEvrSummaryCmd_keeps {a0 a1 a2} (h : Keeps s0 s) : Keeps s0 (after (execEvrSummaryCmd a0 a1 a2 s) s) := by
  delta execEvrSummaryCmd
  repeat' (first
    | with_reducible assumption
    | (refine fun (_ : Keeps _ _) => ?_)
    | (intro x; first | (refine Keeps.cut (s0 := s0) (x := x) ?_ ?_ <;> (first | (clear_value x; intro hx) | subst x)) | (subst x; try dsimp -zeta only))
    | with_reducible refine next_keeps ?_
    | with_reducible (refine settle_keeps ?_)
    | with_reducible (refine evrCmdWrite_keeps ?_)
    | split
    | lift_lets
    | (fail_if_no_progress with_reducible refine Keeps.mk' ?_ rfl rfl rfl rfl))

theorem execSummaryInterval_keeps {a0 a1} (h : Keeps s0 s) : Keeps s0 (after (execSummaryInterval a0 a1 s) s) := by
  delta execSummaryInterval
  repeat' (first
    | with_reducible assumption
    | (refine fun (_ : Keeps _ _) => ?_)
    | (intro x; first | (refine Keeps.cut (s0 := s0) (x := x) ?_ ?_ <;> (first | (clear_value x; intro hx) | subst x)) | (subst x; try dsimp -zeta only))
    | with_reducible refine next_keeps ?_
    | with_reducible (refine settle_keeps ?_)
    | with_reducible (refine writeSummary_keeps ?_)
    | split
    | lift_lets
    | (fail_if_no_progress with_reducible refine Keeps.mk' ?_ rfl rfl rfl rfl))

theorem execClearLogDone_keeps (h : Keeps s0 s) : Keeps s0 (after (execClearLogDone s) s) := by
  delta execClearLogDone
  repeat' (first
    | with_reducible assumption
    | (refine fun (_ : Keeps _ _) => ?_)
    | (intro x; first | (refine Keeps.cut (s0 := s0) (x := x) ?_ ?_ <;> (first | (clear_value x; intro hx) | subst x)) | (subst x; try dsimp -zeta only))
    | with_reducible refine next_keeps ?_
    | with_reducible (refine settle_keeps ?_)
    | with_reducible (refine endClear_keeps ?_)
    | split
    | lift_lets
    | (fail_if_no_progress with_reducible refine Keeps.mk' ?_ rfl rfl rfl rfl))

theorem execEvrFwGo_keeps {a0} (h : Keeps s0 s) : Keeps s0 (after (execEvrFwGo a0 s) s) := by
  delta execEvrFwGo
  repeat' (first
    | with_reducible assumption
    | (refine fun (_ : Keeps _ _) => ?_)
    | (intro x; first | (refine Keeps.cut (s0 := s0) (x := x) ?_ ?_ <;> (first | (clear_value x; intro hx) | subst x)) | (subst x; try dsimp -zeta only))
    | with_reducible refine next_keeps ?_
    | with_reducible (refine settle_keeps ?_)
    | with_reducible (refine accessErr_keeps ?_)
    | with_reducible (refine event_keeps ?_)
    | with_reducible (refine wrB_keeps ?_)
    | split
    | lift_lets
    | (fail_if_no_progress with_reducible refine Keeps.mk' ?_ rfl rfl rfl rfl))

theorem mbGetLogInfo_keeps {a0 a1} (h : Keeps s0 s) : Keeps s0 (mbGetLogInfo a0 a1 s) := by
  delta mbGetLogInfo
  repeat' (first
    | with_reducible assumption
    | (refine fun (_ : Keeps _ _) => ?_)
    | (intro x; first | (refine Keeps.cut (s0 := s0) (x := x) ?_ ?_ <;> (first | (clear_value x; intro hx) | subst x)) | (subst x; try dsimp -zeta only))
    | with_reducible (refine replyBad_keeps ?_)
    | with_reducible (refine replyOk_keeps ?_)
    | split
    | lift_lets
    | (fail_if_no_progress with_reducible refine Keeps.mk' ?_ rfl rfl rfl rfl))

theorem execGetLogInfo_keeps {a0 a1} (h : Keeps s0 s) : Keeps s0 (after (execGetLogInfo a0 a1 s) s) := by
  delta execGetLogInfo
  repeat' (first
    | with_reducible assumption
    | (refine fun (_ : Keeps _ _) => ?_)
    | (intro x; first | (refine Keeps.cut (s0 := s0) (x := x) ?_ ?_ <;> (first | (clear_value x; intro hx) | subst x)) | (subst x; try dsimp -zeta only))
    | with_reducible refine next_keeps ?_
    | with_reducible (refine mbGetLogInfo_keeps ?_)
    | split
    | lift_lets
    | (fail_if_no_progress with_reducible refine Keeps.mk' ?_ rfl rfl rfl rfl))

theorem mbReadLog_keeps {a0 a1} (h : Keeps s0 s) : Keeps s0 (mbReadLog a0 a1 s) := by
  delta mbReadLog
  repeat' (first
    | with_reducible assumption
    | (refine fun (_ : Keeps _ _) => ?_)
    | (intro x; first | (refine Keeps.cut (s0 := s0) (x := x) ?_ ?_ <;> (first | (clear_value x; intro hx) | subst x)) | (subst x; try dsimp -zeta only))
    | with_reducible (refine replyBad_keeps ?_)
    | with_reducible (refine replyOk_keeps ?_)
    | split
    | lift_lets
    | (fail_if_no_progress with_reducible refine Keeps.mk' ?_ rfl rfl rfl rfl))

theorem execReadLog_keeps {a0 a1} (h : Keeps s0 s) : Keeps s0 (after (execReadLog a0 a1 s) s) := by
  delta execReadLog
  repeat' (first
    | with_reducible assumption
    | (refine fun (_ : Keeps _ _) => ?_)
    | (intro x; first | (refine Keeps.cut (s0 := s0) (x := x) ?_ ?_ <;> (first | (clear_value x; intro hx) | subst x)) | (subst x; try dsimp -zeta only))
    | with_reducible refine next_keeps ?_
    | with_reducible (refine mbReadLog_keeps ?_)
    | split
    | lift_lets
    | (fail_if_no_progress with_reducible refine Keeps.mk' ?_ rfl rfl rfl rfl))

theorem mbGetSummary_keeps {a0 a1} (h : Keeps s0 s) : Keeps s0 (mbGetSummary a0 a1 s) := by
  delta mbGetSummary
  repeat' (first
    | with_reducible assumption
    | (refine fun (_ : Keeps _ _) => ?_)
    | (intro x; first | (refine Keeps.cut (s0 := s0) (x := x) ?_ ?_ <;> (first | (clear_value x; intro hx) | subst x)) | (subst x; try dsimp -zeta only))
    | with_reducible (refine replyBad_keeps ?_)
    | with_reducible (refine replyOk_keeps ?_)
    | split
    | lift_lets
    | (fail_if_no_progress with_reducible refine Keeps.mk' ?_ rfl rfl rfl rfl))

theorem execGetSummary_keeps {a0 a1} (h : Keeps s0 s) : Keeps s0 (after (execGetSummary a0 a1 s) s) := by
  delta execGetSummary
  repeat' (first
    | with_reducible assumption
    | (refine fun (_ : Keeps _ _) => ?_)
    | (intro x; first | (refine Keeps.cut (s0 := s0) (x := x) ?_ ?_ <;> (first | (clear_value x; intro hx) | subst x)) | (subst x; try dsimp -zeta only))
    | with_reducible refine next_keeps ?_
    | with_reducible (refine mbGetSummary_keeps ?_)
    | split
    | lift_lets
    | (fail_if_no_progress with_reducible refine Keeps.mk' ?_ rfl rfl rfl rfl))

theorem mbFreezeLog_keeps {a0 a1} (h : Keeps s0 s) : Keeps s0 (mbFreezeLog a0 a1 s) := by
  delta mbFreezeLog
  repeat' (first
    | with_reducible assumption
    | (refine fun (_ : Keeps _ _) => ?_)
    | (intro x; first | (refine Keeps.cut (s0 := s0) (x := x) ?_ ?_ <;> (first | (clear_value x; intro hx) | subst x)) | (subst x; try dsimp -zeta only))
    | with_reducible (refine replyBad_keeps ?_)
    | with_reducible (refine replyCode_keeps ?_)
    | with_reducible (refine evrFreeze_keeps ?_)
    | split
    | lift_lets
    | (fail_if_no_progress with_reducible refine Keeps.mk' ?_ rfl rfl rfl rfl))

theorem execFreezeLog_keeps {a0 a1} (h : Keeps s0 s) : Keeps s0 (after (execFreezeLog a0 a1 s) s) := by
  delta execFreezeLog
  repeat' (first
    | with_reducible assumption
    | (refine fun (_ : Keeps _ _) => ?_)
    | (intro x; first | (refine Keeps.cut (s0 := s0) (x := x) ?_ ?_ <;> (first | (clear_value x; intro hx) | subst x)) | (subst x; try dsimp -zeta only))
    | with_reducible refine next_keeps ?_
    | with_reducible (refine settle_keeps ?_)
    | with_reducible (refine mbFreezeLog_keeps ?_)
    | split
    | lift_lets
    | (fail_if_no_progress with_reducible refine Keeps.mk' ?_ rfl rfl rfl rfl))

theorem mbUnfreezeLog_keeps {a0 a1} (h : Keeps s0 s) : Keeps s0 (mbUnfreezeLog a0 a1 s) := by
  delta mbUnfreezeLog
  repeat' (first
    | with_reducible assumption
    | (refine fun (_ : Keeps _ _) => ?_)
    | (intro x; first | (refine Keeps.cut (s0 := s0) (x := x) ?_ ?_ <;> (first | (clear_value x; intro hx) | subst x)) | (subst x; try dsimp -zeta only))
    | with_reducible (refine replyBad_keeps ?_)
    | with_reducible (refine replyCode_keeps ?_)
    | with_reducible (refine evrUnfreeze_keeps ?_)
    | split
    | lift_lets
    | (fail_if_no_progress with_reducible refine Keeps.mk' ?_ rfl rfl rfl rfl))

theorem execUnfreezeLog_keeps {a0 a1} (h : Keeps s0 s) : Keeps s0 (after (execUnfreezeLog a0 a1 s) s) := by
  delta execUnfreezeLog
  repeat' (first
    | with_reducible assumption
    | (refine fun (_ : Keeps _ _) => ?_)
    | (intro x; first | (refine Keeps.cut (s0 := s0) (x := x) ?_ ?_ <;> (first | (clear_value x; intro hx) | subst x)) | (subst x; try dsimp -zeta only))
    | with_reducible refine next_keeps ?_
    | with_reducible (refine settle_keeps ?_)
    | with_reducible (refine mbUnfreezeLog_keeps ?_)
    | split
    | lift_lets
    | (fail_if_no_progress with_reducible refine Keeps.mk' ?_ rfl rfl rfl rfl))

theorem mbClearLog_keeps {a0 a1} (h : Keeps s0 s) : Keeps s0 (mbClearLog a0 a1 s) := by
  delta mbClearLog
  repeat' (first
    | with_reducible assumption
    | (refine fun (_ : Keeps _ _) => ?_)
    | (intro x; first | (refine Keeps.cut (s0 := s0) (x := x) ?_ ?_ <;> (first | (clear_value x; intro hx) | subst x)) | (subst x; try dsimp -zeta only))
    | with_reducible (refine replyBad_keeps ?_)
    | with_reducible (refine replyCode_keeps ?_)
    | with_reducible (refine startClear_keeps ?_)
    | with_reducible (refine startBg_keeps ?_ (fun s hs => ?_))
    | split
    | lift_lets
    | (fail_if_no_progress with_reducible refine Keeps.mk' ?_ rfl rfl rfl rfl))

theorem execClearLog_keeps {a0 a1} (h : Keeps s0 s) : Keeps s0 (after (execClearLog a0 a1 s) s) := by
  delta execClearLog
  repeat' (first
    | with_reducible assumption
    | (refine fun (_ : Keeps _ _) => ?_)
    | (intro x; first | (refine Keeps.cut (s0 := s0) (x := x) ?_ ?_ <;> (first | (clear_value x; intro hx) | subst x)) | (subst x; try dsimp -zeta only))
    | with_reducible refine next_keeps ?_
    | with_reducible (refine settle_keeps ?_)
    | with_reducible (refine mbClearLog_keeps ?_)
    | split
    | lift_lets
    | (fail_if_no_progress with_reducible refine Keeps.mk' ?_ rfl rfl rfl rfl))

theorem mbSetLogPolicy_keeps {a0 a1} (h : Keeps s0 s) : Keeps s0 (mbSetLogPolicy a0 a1 s) := by
  delta mbSetLogPolicy
  repeat' (first
    | with_reducible assumption
    | (refine fun (_ : Keeps _ _) => ?_)
    | (intro x; first | (refine Keeps.cut (s0 := s0) (x := x) ?_ ?_ <;> (first | (clear_value x; intro hx) | subst x)) | (subst x; try dsimp -zeta only))
    | with_reducible (refine replyBad_keeps ?_)
    | with_reducible (refine replyCode_keeps ?_)
    | with_reducible (refine wrF_keeps ?_)
    | split
    | lift_lets
    | (fail_if_no_progress with_reducible refine Keeps.mk' ?_ rfl rfl rfl rfl))

theorem execSetLogPolicy_keeps {a0 a1} (h : Keeps s0 s) : Keeps s0 (after (execSetLogPolicy a0 a1 s) s) := by
  delta execSetLogPolicy
  repeat' (first
    | with_reducible assumption
    | (refine fun (_ : Keeps _ _) => ?_)
    | (intro x; first | (refine Keeps.cut (s0 := s0) (x := x) ?_ ?_ <;> (first | (clear_value x; intro hx) | subst x)) | (subst x; try dsimp -zeta only))
    | with_reducible refine next_keeps ?_
    | with_reducible (refine mbSetLogPolicy_keeps ?_)
    | split
    | lift_lets
    | (fail_if_no_progress with_reducible refine Keeps.mk' ?_ rfl rfl rfl rfl))

theorem execTackDoorbell_keeps {a0 a1} (h : Keeps s0 s) : Keeps s0 (after (execTackDoorbell a0 a1 s) s) := by
  delta execTackDoorbell
  repeat' (first
    | with_reducible assumption
    | (refine fun (_ : Keeps _ _) => ?_)
    | (intro x; first | (refine Keeps.cut (s0 := s0) (x := x) ?_ ?_ <;> (first | (clear_value x; intro hx) | subst x)) | (subst x; try dsimp -zeta only))
    | with_reducible refine next_keeps ?_
    | with_reducible (refine settle_keeps ?_)
    | with_reducible (refine tack_keeps ?_)
    | with_reducible (refine accessErr_keeps ?_)
    | with_reducible (refine hlCount_keeps ?_)
    | split
    | lift_lets
    | (fail_if_no_progress with_reducible refine Keeps.mk' ?_ rfl rfl rfl rfl))

theorem tackSet_keeps {a0 a1 a2} (h : Keeps s0 s) : Keeps s0 (tackSet s a0 a1 a2).1 := by
  delta tackSet
  repeat' (first
    | with_reducible assumption
    | (refine fun (_ : Keeps _ _) => ?_)
    | (intro x; first | (refine Keeps.cut (s0 := s0) (x := x) ?_ ?_ <;> (first | (clear_value x; intro hx) | subst x)) | (subst x; try dsimp -zeta only))
    | with_reducible (refine tack_keeps ?_)
    | with_reducible (refine forEach_keeps ?_ fun s a hs => ?_)
    | split
    | lift_lets
    | (fail_if_no_progress with_reducible refine Keeps.mk' ?_ rfl rfl rfl rfl))

theorem mbTackGroups_keeps {a0 a1} (h : Keeps s0 s) : Keeps s0 (mbTackGroups a0 a1 s) := by
  delta mbTackGroups
  repeat' (first
    | with_reducible assumption
    | (refine fun (_ : Keeps _ _) => ?_)
    | (intro x; first | (refine Keeps.cut (s0 := s0) (x := x) ?_ ?_ <;> (first | (clear_value x; intro hx) | subst x)) | (subst x; try dsimp -zeta only))
    | with_reducible (refine replyBad_keeps ?_)
    | with_reducible (refine reply_keeps ?_)
    | with_reducible (refine tackSet_keeps ?_)
    | with_reducible (refine replyOk_keeps ?_)
    | split
    | lift_lets
    | (fail_if_no_progress with_reducible refine Keeps.mk' ?_ rfl rfl rfl rfl))

theorem execTackGroups_keeps {a0 a1} (h : Keeps s0 s) : Keeps s0 (after (execTackGroups a0 a1 s) s) := by
  delta execTackGroups
  repeat' (first
    | with_reducible assumption
    | (refine fun (_ : Keeps _ _) => ?_)
    | (intro x; first | (refine Keeps.cut (s0 := s0) (x := x) ?_ ?_ <;> (first | (clear_value x; intro hx) | subst x)) | (subst x; try dsimp -zeta only))
    | with_reducible refine next_keeps ?_
    | with_reducible (refine settle_keeps ?_)
    | with_reducible (refine mbTackGroups_keeps ?_)
    | split
    | lift_lets
    | (fail_if_no_progress with_reducible refine Keeps.mk' ?_ rfl rfl rfl rfl))

theorem execGenTackMaskGo_keeps {a0} (h : Keeps s0 s) : Keeps s0 (after (execGenTackMaskGo a0 s) s) := by
  delta execGenTackMaskGo
  repeat' (first
    | with_reducible assumption
    | (refine fun (_ : Keeps _ _) => ?_)
    | (intro x; first | (refine Keeps.cut (s0 := s0) (x := x) ?_ ?_ <;> (first | (clear_value x; intro hx) | subst x)) | (subst x; try dsimp -zeta only))
    | with_reducible refine next_keeps ?_
    | with_reducible (refine settle_keeps ?_)
    | with_reducible (refine accessErr_keeps ?_)
    | with_reducible (refine tackSet_keeps ?_)
    | with_reducible (refine wr_keeps ?_)
    | split
    | lift_lets
    | (fail_if_no_progress with_reducible refine Keeps.mk' ?_ rfl rfl rfl rfl))

theorem arm_keeps {a0 a1 a2} (h : Keeps s0 s) : Keeps s0 (arm s a0 a1 a2) := by
  delta arm
  repeat' (first
    | with_reducible assumption
    | (refine fun (_ : Keeps _ _) => ?_)
    | (intro x; first | (refine Keeps.cut (s0 := s0) (x := x) ?_ ?_ <;> (first | (clear_value x; intro hx) | subst x)) | (subst x; try dsimp -zeta only))
    | with_reducible (refine disarm_keeps ?_)
    | with_reducible (refine setGrp_keeps ?_)
    | with_reducible (refine forEach_keeps ?_ fun s a hs => ?_)
    | split
    | lift_lets
    | (fail_if_no_progress with_reducible refine Keeps.mk' ?_ rfl rfl rfl rfl))

theorem mbArmSyncTack_keeps {a0 a1} (h : Keeps s0 s) : Keeps s0 (mbArmSyncTack a0 a1 s) := by
  delta mbArmSyncTack
  repeat' (first
    | with_reducible assumption
    | (refine fun (_ : Keeps _ _) => ?_)
    | (intro x; first | (refine Keeps.cut (s0 := s0) (x := x) ?_ ?_ <;> (first | (clear_value x; intro hx) | subst x)) | (subst x; try dsimp -zeta only))
    | with_reducible (refine replyBad_keeps ?_)
    | with_reducible (refine reply_keeps ?_)
    | with_reducible (refine replyOk_keeps ?_)
    | with_reducible (refine arm_keeps ?_)
    | split
    | lift_lets
    | (fail_if_no_progress with_reducible refine Keeps.mk' ?_ rfl rfl rfl rfl))

theorem execArmSyncTack_keeps {a0 a1} (h : Keeps s0 s) : Keeps s0 (after (execArmSyncTack a0 a1 s) s) := by
  delta execArmSyncTack
  repeat' (first
    | with_reducible assumption
    | (refine fun (_ : Keeps _ _) => ?_)
    | (intro x; first | (refine Keeps.cut (s0 := s0) (x := x) ?_ ?_ <;> (first | (clear_value x; intro hx) | subst x)) | (subst x; try dsimp -zeta only))
    | with_reducible refine next_keeps ?_
    | with_reducible (refine settle_keeps ?_)
    | with_reducible (refine mbArmSyncTack_keeps ?_)
    | split
    | lift_lets
    | (fail_if_no_progress with_reducible refine Keeps.mk' ?_ rfl rfl rfl rfl))

theorem fireSync_keeps (h : Keeps s0 s) : Keeps s0 (fireSync s) := by
  delta fireSync
  repeat' (first
    | with_reducible assumption
    | (refine fun (_ : Keeps _ _) => ?_)
    | (intro x; first | (refine Keeps.cut (s0 := s0) (x := x) ?_ ?_ <;> (first | (clear_value x; intro hx) | subst x)) | (subst x; try dsimp -zeta only))
    | split
    | lift_lets
    | (fail_if_no_progress with_reducible refine Keeps.mk' ?_ rfl rfl rfl rfl))

theorem syncCtrlWrite_keeps {a0} (h : Keeps s0 s) : Keeps s0 (syncCtrlWrite s a0) := by
  delta syncCtrlWrite
  repeat' (first
    | with_reducible assumption
    | (refine fun (_ : Keeps _ _) => ?_)
    | (intro x; first | (refine Keeps.cut (s0 := s0) (x := x) ?_ ?_ <;> (first | (clear_value x; intro hx) | subst x)) | (subst x; try dsimp -zeta only))
    | with_reducible (refine accessErr_keeps ?_)
    | with_reducible (refine wrF_keeps ?_)
    | with_reducible (refine wrB_keeps ?_)
    | with_reducible (refine postOutcome_keeps ?_)
    | with_reducible (refine arm_keeps ?_)
    | with_reducible (refine disarm_keeps ?_)
    | with_reducible (refine fireSync_keeps ?_)
    | with_reducible (refine forEach_keeps ?_ fun s a hs => ?_)
    | split
    | lift_lets
    | (fail_if_no_progress with_reducible refine Keeps.mk' ?_ rfl rfl rfl rfl))

theorem execGenSyncArm_keeps {a0} (h : Keeps s0 s) : Keeps s0 (after (execGenSyncArm a0 s) s) := by
  delta execGenSyncArm
  repeat' (first
    | with_reducible assumption
    | (refine fun (_ : Keeps _ _) => ?_)
    | (intro x; first | (refine Keeps.cut (s0 := s0) (x := x) ?_ ?_ <;> (first | (clear_value x; intro hx) | subst x)) | (subst x; try dsimp -zeta only))
    | with_reducible refine next_keeps ?_
    | with_reducible (refine settle_keeps ?_)
    | with_reducible (refine syncCtrlWrite_keeps ?_)
    | split
    | lift_lets
    | (fail_if_no_progress with_reducible refine Keeps.mk' ?_ rfl rfl rfl rfl))

theorem execGenSyncFire_keeps {a0} (h : Keeps s0 s) : Keeps s0 (after (execGenSyncFire a0 s) s) := by
  delta execGenSyncFire
  repeat' (first
    | with_reducible assumption
    | (refine fun (_ : Keeps _ _) => ?_)
    | (intro x; first | (refine Keeps.cut (s0 := s0) (x := x) ?_ ?_ <;> (first | (clear_value x; intro hx) | subst x)) | (subst x; try dsimp -zeta only))
    | with_reducible refine next_keeps ?_
    | with_reducible (refine settle_keeps ?_)
    | with_reducible (refine syncCtrlWrite_keeps ?_)
    | split
    | lift_lets
    | (fail_if_no_progress with_reducible refine Keeps.mk' ?_ rfl rfl rfl rfl))

theorem mbDisarmSyncTack_keeps {a0 a1} (h : Keeps s0 s) : Keeps s0 (mbDisarmSyncTack a0 a1 s) := by
  delta mbDisarmSyncTack
  repeat' (first
    | with_reducible assumption
    | (refine fun (_ : Keeps _ _) => ?_)
    | (intro x; first | (refine Keeps.cut (s0 := s0) (x := x) ?_ ?_ <;> (first | (clear_value x; intro hx) | subst x)) | (subst x; try dsimp -zeta only))
    | with_reducible (refine replyBad_keeps ?_)
    | with_reducible (refine reply_keeps ?_)
    | with_reducible (refine replyCode_keeps ?_)
    | with_reducible (refine disarm_keeps ?_)
    | split
    | lift_lets
    | (fail_if_no_progress with_reducible refine Keeps.mk' ?_ rfl rfl rfl rfl))

theorem execDisarmSyncTack_keeps {a0 a1} (h : Keeps s0 s) : Keeps s0 (after (execDisarmSyncTack a0 a1 s) s) := by
  delta execDisarmSyncTack
  repeat' (first
    | with_reducible assumption
    | (refine fun (_ : Keeps _ _) => ?_)
    | (intro x; first | (refine Keeps.cut (s0 := s0) (x := x) ?_ ?_ <;> (first | (clear_value x; intro hx) | subst x)) | (subst x; try dsimp -zeta only))
    | with_reducible refine next_keeps ?_
    | with_reducible (refine settle_keeps ?_)
    | with_reducible (refine mbDisarmSyncTack_keeps ?_)
    | split
    | lift_lets
    | (fail_if_no_progress with_reducible refine Keeps.mk' ?_ rfl rfl rfl rfl))

theorem mbFireSyncTack_keeps {a0 a1} (h : Keeps s0 s) : Keeps s0 (mbFireSyncTack a0 a1 s) := by
  delta mbFireSyncTack
  repeat' (first
    | with_reducible assumption
    | (refine fun (_ : Keeps _ _) => ?_)
    | (intro x; first | (refine Keeps.cut (s0 := s0) (x := x) ?_ ?_ <;> (first | (clear_value x; intro hx) | subst x)) | (subst x; try dsimp -zeta only))
    | with_reducible (refine replyBad_keeps ?_)
    | with_reducible (refine reply_keeps ?_)
    | with_reducible (refine replyCode_keeps ?_)
    | with_reducible (refine fireSync_keeps ?_)
    | split
    | lift_lets
    | (fail_if_no_progress with_reducible refine Keeps.mk' ?_ rfl rfl rfl rfl))

theorem execFireSyncTack_keeps {a0 a1} (h : Keeps s0 s) : Keeps s0 (after (execFireSyncTack a0 a1 s) s) := by
  delta execFireSyncTack
  repeat' (first
    | with_reducible assumption
    | (refine fun (_ : Keeps _ _) => ?_)
    | (intro x; first | (refine Keeps.cut (s0 := s0) (x := x) ?_ ?_ <;> (first | (clear_value x; intro hx) | subst x)) | (subst x; try dsimp -zeta only))
    | with_reducible refine next_keeps ?_
    | with_reducible (refine settle_keeps ?_)
    | with_reducible (refine mbFireSyncTack_keeps ?_)
    | split
    | lift_lets
    | (fail_if_no_progress with_reducible refine Keeps.mk' ?_ rfl rfl rfl rfl))

theorem execTackSyncRelease_keeps (h : Keeps s0 s) : Keeps s0 (after (execTackSyncRelease s) s) := by
  delta execTackSyncRelease
  repeat' (first
    | with_reducible assumption
    | (refine fun (_ : Keeps _ _) => ?_)
    | (intro x; first | (refine Keeps.cut (s0 := s0) (x := x) ?_ ?_ <;> (first | (clear_value x; intro hx) | subst x)) | (subst x; try dsimp -zeta only))
    | with_reducible refine next_keeps ?_
    | split
    | lift_lets
    | (fail_if_no_progress with_reducible refine Keeps.mk' ?_ rfl rfl rfl rfl))

theorem execTackSyncFireEdge_keeps (h : Keeps s0 s) : Keeps s0 (after (execTackSyncFireEdge s) s) := by
  delta execTackSyncFireEdge
  repeat' (first
    | with_reducible assumption
    | (refine fun (_ : Keeps _ _) => ?_)
    | (intro x; first | (refine Keeps.cut (s0 := s0) (x := x) ?_ ?_ <;> (first | (clear_value x; intro hx) | subst x)) | (subst x; try dsimp -zeta only))
    | with_reducible refine next_keeps ?_
    | with_reducible (refine settle_keeps ?_)
    | with_reducible (refine disarm_keeps ?_)
    | with_reducible (refine tack_keeps ?_)
    | with_reducible (refine wrB_keeps ?_)
    | with_reducible (refine icu_keeps ?_)
    | with_reducible (refine addWrap_keeps ?_)
    | with_reducible (refine forEach_keeps ?_ fun s a hs => ?_)
    | split
    | lift_lets
    | (fail_if_no_progress with_reducible refine Keeps.mk' ?_ rfl rfl rfl rfl))

theorem execSyncExpiry_keeps (h : Keeps s0 s) : Keeps s0 (after (execSyncExpiry s) s) := by
  delta execSyncExpiry
  repeat' (first
    | with_reducible assumption
    | (refine fun (_ : Keeps _ _) => ?_)
    | (intro x; first | (refine Keeps.cut (s0 := s0) (x := x) ?_ ?_ <;> (first | (clear_value x; intro hx) | subst x)) | (subst x; try dsimp -zeta only))
    | with_reducible refine next_keeps ?_
    | with_reducible (refine settle_keeps ?_)
    | with_reducible (refine icu_keeps ?_)
    | with_reducible (refine wrB_keeps ?_)
    | with_reducible (refine disarm_keeps ?_)
    | split
    | lift_lets
    | (fail_if_no_progress with_reducible refine Keeps.mk' ?_ rfl rfl rfl rfl))

theorem execSyncStuck_keeps (h : Keeps s0 s) : Keeps s0 (after (execSyncStuck s) s) := by
  delta execSyncStuck
  repeat' (first
    | with_reducible assumption
    | (refine fun (_ : Keeps _ _) => ?_)
    | (intro x; first | (refine Keeps.cut (s0 := s0) (x := x) ?_ ?_ <;> (first | (clear_value x; intro hx) | subst x)) | (subst x; try dsimp -zeta only))
    | with_reducible refine next_keeps ?_
    | with_reducible (refine settle_keeps ?_)
    | with_reducible (refine addSat_keeps ?_)
    | with_reducible (refine report_keeps ?_)
    | split
    | lift_lets
    | (fail_if_no_progress with_reducible refine Keeps.mk' ?_ rfl rfl rfl rfl))

theorem execSyncLineRearm_keeps (h : Keeps s0 s) : Keeps s0 (after (execSyncLineRearm s) s) := by
  delta execSyncLineRearm
  repeat' (first
    | with_reducible assumption
    | (refine fun (_ : Keeps _ _) => ?_)
    | (intro x; first | (refine Keeps.cut (s0 := s0) (x := x) ?_ ?_ <;> (first | (clear_value x; intro hx) | subst x)) | (subst x; try dsimp -zeta only))
    | with_reducible refine next_keeps ?_
    | split
    | lift_lets
    | (fail_if_no_progress with_reducible refine Keeps.mk' ?_ rfl rfl rfl rfl))

theorem mbGetGenerationList_keeps {a0 a1} (h : Keeps s0 s) : Keeps s0 (mbGetGenerationList a0 a1 s) := by
  delta mbGetGenerationList
  repeat' (first
    | with_reducible assumption
    | (refine fun (_ : Keeps _ _) => ?_)
    | (intro x; first | (refine Keeps.cut (s0 := s0) (x := x) ?_ ?_ <;> (first | (clear_value x; intro hx) | subst x)) | (subst x; try dsimp -zeta only))
    | with_reducible (refine replyBad_keeps ?_)
    | with_reducible (refine replyCode_keeps ?_)
    | with_reducible (refine replyOk_keeps ?_)
    | split
    | lift_lets
    | (fail_if_no_progress with_reducible refine Keeps.mk' ?_ rfl rfl rfl rfl))

theorem execGetGenerationList_keeps {a0 a1} (h : Keeps s0 s) : Keeps s0 (after (execGetGenerationList a0 a1 s) s) := by
  delta execGetGenerationList
  repeat' (first
    | with_reducible assumption
    | (refine fun (_ : Keeps _ _) => ?_)
    | (intro x; first | (refine Keeps.cut (s0 := s0) (x := x) ?_ ?_ <;> (first | (clear_value x; intro hx) | subst x)) | (subst x; try dsimp -zeta only))
    | with_reducible refine next_keeps ?_
    | with_reducible (refine settle_keeps ?_)
    | with_reducible (refine mbGetGenerationList_keeps ?_)
    | split
    | lift_lets
    | (fail_if_no_progress with_reducible refine Keeps.mk' ?_ rfl rfl rfl rfl))

theorem pin_keeps {a0 a1 a2 a3} (h : Keeps s0 s) : Keeps s0 (pin s a0 a1 a2 a3) := by
  delta pin
  repeat' (first
    | with_reducible assumption
    | (refine fun (_ : Keeps _ _) => ?_)
    | (intro x; first | (refine Keeps.cut (s0 := s0) (x := x) ?_ ?_ <;> (first | (clear_value x; intro hx) | subst x)) | (subst x; try dsimp -zeta only))
    | with_reducible (refine finishCode_keeps ?_)
    | with_reducible (refine addRec_keeps ?_)
    | split
    | lift_lets
    | (fail_if_no_progress with_reducible refine Keeps.mk' ?_ rfl rfl rfl rfl))

theorem mbPinGeneration_keeps {a0 a1} (h : Keeps s0 s) : Keeps s0 (mbPinGeneration a0 a1 s) := by
  delta mbPinGeneration
  repeat' (first
    | with_reducible assumption
    | (refine fun (_ : Keeps _ _) => ?_)
    | (intro x; first | (refine Keeps.cut (s0 := s0) (x := x) ?_ ?_ <;> (first | (clear_value x; intro hx) | subst x)) | (subst x; try dsimp -zeta only))
    | with_reducible (refine replyBad_keeps ?_)
    | with_reducible (refine reply_keeps ?_)
    | with_reducible (refine replyCode_keeps ?_)
    | with_reducible (refine pin_keeps ?_)
    | split
    | lift_lets
    | (fail_if_no_progress with_reducible refine Keeps.mk' ?_ rfl rfl rfl rfl))

theorem execPinGeneration_keeps {a0 a1} (h : Keeps s0 s) : Keeps s0 (after (execPinGeneration a0 a1 s) s) := by
  delta execPinGeneration
  repeat' (first
    | with_reducible assumption
    | (refine fun (_ : Keeps _ _) => ?_)
    | (intro x; first | (refine Keeps.cut (s0 := s0) (x := x) ?_ ?_ <;> (first | (clear_value x; intro hx) | subst x)) | (subst x; try dsimp -zeta only))
    | with_reducible refine next_keeps ?_
    | with_reducible (refine settle_keeps ?_)
    | with_reducible (refine mbPinGeneration_keeps ?_)
    | split
    | lift_lets
    | (fail_if_no_progress with_reducible refine Keeps.mk' ?_ rfl rfl rfl rfl))

theorem quiesce_keeps {a0 a1} (h : Keeps s0 s) : Keeps s0 (quiesce s a0 a1) := by
  delta quiesce
  repeat' (first
    | with_reducible assumption
    | (refine fun (_ : Keeps _ _) => ?_)
    | (intro x; first | (refine Keeps.cut (s0 := s0) (x := x) ?_ ?_ <;> (first | (clear_value x; intro hx) | subst x)) | (subst x; try dsimp -zeta only))
    | with_reducible (refine finishCode_keeps ?_)
    | with_reducible (refine beginQuiesce_keeps ?_)
    | split
    | lift_lets
    | (fail_if_no_progress with_reducible refine Keeps.mk' ?_ rfl rfl rfl rfl))

theorem mbQuiesceGroup_keeps {a0 a1} (h : Keeps s0 s) : Keeps s0 (mbQuiesceGroup a0 a1 s) := by
  delta mbQuiesceGroup
  repeat' (first
    | with_reducible assumption
    | (refine fun (_ : Keeps _ _) => ?_)
    | (intro x; first | (refine Keeps.cut (s0 := s0) (x := x) ?_ ?_ <;> (first | (clear_value x; intro hx) | subst x)) | (subst x; try dsimp -zeta only))
    | with_reducible (refine replyBad_keeps ?_)
    | with_reducible (refine reply_keeps ?_)
    | with_reducible (refine replyCode_keeps ?_)
    | with_reducible (refine quiesce_keeps ?_)
    | split
    | lift_lets
    | (fail_if_no_progress with_reducible refine Keeps.mk' ?_ rfl rfl rfl rfl))

theorem execQuiesceGroup_keeps {a0 a1} (h : Keeps s0 s) : Keeps s0 (after (execQuiesceGroup a0 a1 s) s) := by
  delta execQuiesceGroup
  repeat' (first
    | with_reducible assumption
    | (refine fun (_ : Keeps _ _) => ?_)
    | (intro x; first | (refine Keeps.cut (s0 := s0) (x := x) ?_ ?_ <;> (first | (clear_value x; intro hx) | subst x)) | (subst x; try dsimp -zeta only))
    | with_reducible refine next_keeps ?_
    | with_reducible (refine settle_keeps ?_)
    | with_reducible (refine mbQuiesceGroup_keeps ?_)
    | split
    | lift_lets
    | (fail_if_no_progress with_reducible refine Keeps.mk' ?_ rfl rfl rfl rfl))

theorem execQuiesceDrained_keeps {a0} (h : Keeps s0 s) : Keeps s0 (after (execQuiesceDrained a0 s) s) := by
  delta execQuiesceDrained
  repeat' (first
    | with_reducible assumption
    | (refine fun (_ : Keeps _ _) => ?_)
    | (intro x; first | (refine Keeps.cut (s0 := s0) (x := x) ?_ ?_ <;> (first | (clear_value x; intro hx) | subst x)) | (subst x; try dsimp -zeta only))
    | with_reducible refine next_keeps ?_
    | with_reducible (refine settle_keeps ?_)
    | with_reducible (refine icu_keeps ?_)
    | with_reducible (refine finishCode_keeps ?_)
    | with_reducible (refine setGrp_keeps ?_)
    | split
    | lift_lets
    | (fail_if_no_progress with_reducible refine Keeps.mk' ?_ rfl rfl rfl rfl))

theorem execQuiesceLimitExpiry_keeps {a0} (h : Keeps s0 s) : Keeps s0 (after (execQuiesceLimitExpiry a0 s) s) := by
  delta execQuiesceLimitExpiry
  repeat' (first
    | with_reducible assumption
    | (refine fun (_ : Keeps _ _) => ?_)
    | (intro x; first | (refine Keeps.cut (s0 := s0) (x := x) ?_ ?_ <;> (first | (clear_value x; intro hx) | subst x)) | (subst x; try dsimp -zeta only))
    | with_reducible refine next_keeps ?_
    | with_reducible (refine settle_keeps ?_)
    | with_reducible (refine endQuiesce_keeps ?_)
    | split
    | lift_lets
    | (fail_if_no_progress with_reducible refine Keeps.mk' ?_ rfl rfl rfl rfl))

theorem unpick_keeps {a0 a1 a2} (h : Keeps s0 s) : Keeps s0 (unpick s a0 a1 a2) := by
  delta unpick
  repeat' (first
    | with_reducible assumption
    | (refine fun (_ : Keeps _ _) => ?_)
    | (intro x; first | (refine Keeps.cut (s0 := s0) (x := x) ?_ ?_ <;> (first | (clear_value x; intro hx) | subst x)) | (subst x; try dsimp -zeta only))
    | with_reducible (refine intentFlushAll_keeps ?_)
    | with_reducible (refine setGrp_keeps ?_)
    | with_reducible (refine finish_keeps ?_)
    | split
    | lift_lets
    | (fail_if_no_progress with_reducible refine Keeps.mk' ?_ rfl rfl rfl rfl))

theorem mbUnpickGroup_keeps {a0 a1} (h : Keeps s0 s) : Keeps s0 (mbUnpickGroup a0 a1 s) := by
  delta mbUnpickGroup
  repeat' (first
    | with_reducible assumption
    | (refine fun (_ : Keeps _ _) => ?_)
    | (intro x; first | (refine Keeps.cut (s0 := s0) (x := x) ?_ ?_ <;> (first | (clear_value x; intro hx) | subst x)) | (subst x; try dsimp -zeta only))
    | with_reducible (refine replyBad_keeps ?_)
    | with_reducible (refine reply_keeps ?_)
    | with_reducible (refine replyOk_keeps ?_)
    | with_reducible (refine unpick_keeps ?_)
    | split
    | lift_lets
    | (fail_if_no_progress with_reducible refine Keeps.mk' ?_ rfl rfl rfl rfl))

theorem execUnpickGroup_keeps {a0 a1} (h : Keeps s0 s) : Keeps s0 (after (execUnpickGroup a0 a1 s) s) := by
  delta execUnpickGroup
  repeat' (first
    | with_reducible assumption
    | (refine fun (_ : Keeps _ _) => ?_)
    | (intro x; first | (refine Keeps.cut (s0 := s0) (x := x) ?_ ?_ <;> (first | (clear_value x; intro hx) | subst x)) | (subst x; try dsimp -zeta only))
    | with_reducible refine next_keeps ?_
    | with_reducible (refine settle_keeps ?_)
    | with_reducible (refine mbUnpickGroup_keeps ?_)
    | split
    | lift_lets
    | (fail_if_no_progress with_reducible refine Keeps.mk' ?_ rfl rfl rfl rfl))

theorem redirectFetches_keeps {a0} (h : Keeps s0 s) : Keeps s0 (redirectFetches s a0) := by
  delta redirectFetches
  repeat' (first
    | with_reducible assumption
    | (refine fun (_ : Keeps _ _) => ?_)
    | (intro x; first | (refine Keeps.cut (s0 := s0) (x := x) ?_ ?_ <;> (first | (clear_value x; intro hx) | subst x)) | (subst x; try dsimp -zeta only))
    | split
    | lift_lets
    | (fail_if_no_progress with_reducible refine Keeps.mk' ?_ rfl rfl rfl rfl))

theorem commitUnpick_keeps {a0 a1} (h : Keeps s0 s) : Keeps s0 (commitUnpick s a0 a1) := by
  delta commitUnpick
  repeat' (first
    | with_reducible assumption
    | (refine fun (_ : Keeps _ _) => ?_)
    | (intro x; first | (refine Keeps.cut (s0 := s0) (x := x) ?_ ?_ <;> (first | (clear_value x; intro hx) | subst x)) | (subst x; try dsimp -zeta only))
    | with_reducible (refine unpickDiscard_keeps ?_)
    | with_reducible (refine resweep_keeps ?_)
    | with_reducible (refine redirectFetches_keeps ?_)
    | with_reducible (refine markAbsent_keeps ?_)
    | with_reducible (refine setGrp_keeps ?_)
    | with_reducible (refine finish_keeps ?_)
    | with_reducible (refine freeUnused_keeps ?_)
    | with_reducible (refine trimRing_keeps ?_)
    | with_reducible (refine icu_keeps ?_)
    | with_reducible (refine pace_keeps ?_)
    | with_reducible (refine retrySlots_keeps ?_)
    | with_reducible (refine endQuiesce_keeps ?_)
    | split
    | lift_lets
    | (fail_if_no_progress with_reducible refine Keeps.mk' ?_ rfl rfl rfl rfl))

theorem execUnpickCommit_keeps {a0 a1 a2} (h : Keeps s0 s) : Keeps s0 (after (execUnpickCommit a0 a1 a2 s) s) := by
  delta execUnpickCommit
  repeat' (first
    | with_reducible assumption
    | (refine fun (_ : Keeps _ _) => ?_)
    | (intro x; first | (refine Keeps.cut (s0 := s0) (x := x) ?_ ?_ <;> (first | (clear_value x; intro hx) | subst x)) | (subst x; try dsimp -zeta only))
    | with_reducible refine next_keeps ?_
    | with_reducible (refine settle_keeps ?_)
    | with_reducible (refine programAt_keeps ?_)
    | with_reducible (refine commitUnpick_keeps ?_)
    | with_reducible (refine modGen_keeps ?_)
    | with_reducible (refine programFailed_keeps ?_)
    | split
    | lift_lets
    | (fail_if_no_progress with_reducible refine Keeps.mk' ?_ rfl rfl rfl rfl))

theorem execUnpickRebuildDone_keeps {a0} (h : Keeps s0 s) : Keeps s0 (after (execUnpickRebuildDone a0 s) s) := by
  delta execUnpickRebuildDone
  repeat' (first
    | with_reducible assumption
    | (refine fun (_ : Keeps _ _) => ?_)
    | (intro x; first | (refine Keeps.cut (s0 := s0) (x := x) ?_ ?_ <;> (first | (clear_value x; intro hx) | subst x)) | (subst x; try dsimp -zeta only))
    | with_reducible refine next_keeps ?_
    | with_reducible (refine settle_keeps ?_)
    | with_reducible (refine rebuildLoc_keeps ?_)
    | with_reducible (refine setGrp_keeps ?_)
    | with_reducible (refine retryWaits_keeps ?_)
    | split
    | lift_lets
    | (fail_if_no_progress with_reducible refine Keeps.mk' ?_ rfl rfl rfl rfl))

theorem release_keeps {a0 a1} (h : Keeps s0 s) : Keeps s0 (release s a0 a1) := by
  delta release
  repeat' (first
    | with_reducible assumption
    | (refine fun (_ : Keeps _ _) => ?_)
    | (intro x; first | (refine Keeps.cut (s0 := s0) (x := x) ?_ ?_ <;> (first | (clear_value x; intro hx) | subst x)) | (subst x; try dsimp -zeta only))
    | with_reducible (refine finishCode_keeps ?_)
    | with_reducible (refine endQuiesce_keeps ?_)
    | with_reducible (refine setGrp_keeps ?_)
    | with_reducible (refine icu_keeps ?_)
    | split
    | lift_lets
    | (fail_if_no_progress with_reducible refine Keeps.mk' ?_ rfl rfl rfl rfl))

theorem mbReleaseGroup_keeps {a0 a1} (h : Keeps s0 s) : Keeps s0 (mbReleaseGroup a0 a1 s) := by
  delta mbReleaseGroup
  repeat' (first
    | with_reducible assumption
    | (refine fun (_ : Keeps _ _) => ?_)
    | (intro x; first | (refine Keeps.cut (s0 := s0) (x := x) ?_ ?_ <;> (first | (clear_value x; intro hx) | subst x)) | (subst x; try dsimp -zeta only))
    | with_reducible (refine replyBad_keeps ?_)
    | with_reducible (refine reply_keeps ?_)
    | with_reducible (refine replyCode_keeps ?_)
    | with_reducible (refine release_keeps ?_)
    | split
    | lift_lets
    | (fail_if_no_progress with_reducible refine Keeps.mk' ?_ rfl rfl rfl rfl))

theorem execReleaseGroup_keeps {a0 a1} (h : Keeps s0 s) : Keeps s0 (after (execReleaseGroup a0 a1 s) s) := by
  delta execReleaseGroup
  repeat' (first
    | with_reducible assumption
    | (refine fun (_ : Keeps _ _) => ?_)
    | (intro x; first | (refine Keeps.cut (s0 := s0) (x := x) ?_ ?_ <;> (first | (clear_value x; intro hx) | subst x)) | (subst x; try dsimp -zeta only))
    | with_reducible refine next_keeps ?_
    | with_reducible (refine settle_keeps ?_)
    | with_reducible (refine mbReleaseGroup_keeps ?_)
    | split
    | lift_lets
    | (fail_if_no_progress with_reducible refine Keeps.mk' ?_ rfl rfl rfl rfl))

theorem execGenGenCmd_keeps {a0} (h : Keeps s0 s) : Keeps s0 (after (execGenGenCmd a0 s) s) := by
  delta execGenGenCmd
  repeat' (first
    | with_reducible assumption
    | (refine fun (_ : Keeps _ _) => ?_)
    | (intro x; first | (refine Keeps.cut (s0 := s0) (x := x) ?_ ?_ <;> (first | (clear_value x; intro hx) | subst x)) | (subst x; try dsimp -zeta only))
    | with_reducible refine next_keeps ?_
    | with_reducible (refine settle_keeps ?_)
    | with_reducible (refine accessErr_keeps ?_)
    | with_reducible (refine wrB_keeps ?_)
    | with_reducible (refine quiesce_keeps ?_)
    | with_reducible (refine unpick_keeps ?_)
    | with_reducible (refine release_keeps ?_)
    | with_reducible (refine pin_keeps ?_)
    | split
    | lift_lets
    | (fail_if_no_progress with_reducible refine Keeps.mk' ?_ rfl rfl rfl rfl))

theorem keyWait_keeps {a0} (h : Keeps s0 s) : Keeps s0 (keyWait s a0) := by
  delta keyWait
  repeat' (first
    | with_reducible assumption
    | (refine fun (_ : Keeps _ _) => ?_)
    | (intro x; first | (refine Keeps.cut (s0 := s0) (x := x) ?_ ?_ <;> (first | (clear_value x; intro hx) | subst x)) | (subst x; try dsimp -zeta only))
    | split
    | lift_lets
    | (fail_if_no_progress with_reducible refine Keeps.mk' ?_ rfl rfl rfl rfl))

theorem mbSetGroupKeyMode_keeps {a0 a1} (h : Keeps s0 s) : Keeps s0 (mbSetGroupKeyMode a0 a1 s) := by
  delta mbSetGroupKeyMode
  repeat' (first
    | with_reducible assumption
    | (refine fun (_ : Keeps _ _) => ?_)
    | (intro x; first | (refine Keeps.cut (s0 := s0) (x := x) ?_ ?_ <;> (first | (clear_value x; intro hx) | subst x)) | (subst x; try dsimp -zeta only))
    | with_reducible (refine replyBad_keeps ?_)
    | with_reducible (refine replyCode_keeps ?_)
    | with_reducible (refine keyWait_keeps ?_)
    | with_reducible (refine setGrp_keeps ?_)
    | with_reducible (refine badSecret_keeps ?_)
    | split
    | lift_lets
    | (fail_if_no_progress with_reducible refine Keeps.mk' ?_ rfl rfl rfl rfl))

theorem execSetGroupKeyMode_keeps {a0 a1} (h : Keeps s0 s) : Keeps s0 (after (execSetGroupKeyMode a0 a1 s) s) := by
  delta execSetGroupKeyMode
  repeat' (first
    | with_reducible assumption
    | (refine fun (_ : Keeps _ _) => ?_)
    | (intro x; first | (refine Keeps.cut (s0 := s0) (x := x) ?_ ?_ <;> (first | (clear_value x; intro hx) | subst x)) | (subst x; try dsimp -zeta only))
    | with_reducible refine next_keeps ?_
    | with_reducible (refine settle_keeps ?_)
    | with_reducible (refine mbSetGroupKeyMode_keeps ?_)
    | split
    | lift_lets
    | (fail_if_no_progress with_reducible refine Keeps.mk' ?_ rfl rfl rfl rfl))

theorem runPending_keeps {a0} (h : Keeps s0 s) : Keeps s0 (runPending s a0) := by
  delta runPending
  repeat' (first
    | with_reducible assumption
    | (refine fun (_ : Keeps _ _) => ?_)
    | (intro x; first | (refine Keeps.cut (s0 := s0) (x := x) ?_ ?_ <;> (first | (clear_value x; intro hx) | subst x)) | (subst x; try dsimp -zeta only))
    | with_reducible (refine intentFlushAll_keeps ?_)
    | with_reducible (refine setGrp_keeps ?_)
    | with_reducible (refine icu_keeps ?_)
    | with_reducible (refine endQuiesce_keeps ?_)
    | split
    | lift_lets
    | (fail_if_no_progress with_reducible refine Keeps.mk' ?_ rfl rfl rfl rfl))

theorem unwrapKey_keeps {a0} (h : Keeps s0 s) : Keeps s0 (unwrapKey s a0) := by
  delta unwrapKey
  repeat' (first
    | with_reducible assumption
    | (refine fun (_ : Keeps _ _) => ?_)
    | (intro x; first | (refine Keeps.cut (s0 := s0) (x := x) ?_ ?_ <;> (first | (clear_value x; intro hx) | subst x)) | (subst x; try dsimp -zeta only))
    | with_reducible (refine bringOnline_keeps ?_)
    | with_reducible (refine runPending_keeps ?_)
    | with_reducible (refine setGrp_keeps ?_)
    | split
    | lift_lets
    | (fail_if_no_progress with_reducible refine Keeps.mk' ?_ rfl rfl rfl rfl))

theorem mbUnlockGroup_keeps {a0 a1} (h : Keeps s0 s) : Keeps s0 (mbUnlockGroup a0 a1 s) := by
  delta mbUnlockGroup
  repeat' (first
    | with_reducible assumption
    | (refine fun (_ : Keeps _ _) => ?_)
    | (intro x; first | (refine Keeps.cut (s0 := s0) (x := x) ?_ ?_ <;> (first | (clear_value x; intro hx) | subst x)) | (subst x; try dsimp -zeta only))
    | with_reducible (refine replyOk_keeps ?_)
    | with_reducible (refine replyBad_keeps ?_)
    | with_reducible (refine keyWait_keeps ?_)
    | with_reducible (refine setGrp_keeps ?_)
    | with_reducible (refine unwrapKey_keeps ?_)
    | with_reducible (refine badSecret_keeps ?_)
    | split
    | lift_lets
    | (fail_if_no_progress with_reducible refine Keeps.mk' ?_ rfl rfl rfl rfl))

theorem execUnlockGroup_keeps {a0 a1} (h : Keeps s0 s) : Keeps s0 (after (execUnlockGroup a0 a1 s) s) := by
  delta execUnlockGroup
  repeat' (first
    | with_reducible assumption
    | (refine fun (_ : Keeps _ _) => ?_)
    | (intro x; first | (refine Keeps.cut (s0 := s0) (x := x) ?_ ?_ <;> (first | (clear_value x; intro hx) | subst x)) | (subst x; try dsimp -zeta only))
    | with_reducible refine next_keeps ?_
    | with_reducible (refine settle_keeps ?_)
    | with_reducible (refine mbUnlockGroup_keeps ?_)
    | split
    | lift_lets
    | (fail_if_no_progress with_reducible refine Keeps.mk' ?_ rfl rfl rfl rfl))

theorem mbEraseGroup_keeps {a0 a1} (h : Keeps s0 s) : Keeps s0 (mbEraseGroup a0 a1 s) := by
  delta mbEraseGroup
  repeat' (first
    | with_reducible assumption
    | (refine fun (_ : Keeps _ _) => ?_)
    | (intro x; first | (refine Keeps.cut (s0 := s0) (x := x) ?_ ?_ <;> (first | (clear_value x; intro hx) | subst x)) | (subst x; try dsimp -zeta only))
    | with_reducible (refine replyBad_keeps ?_)
    | with_reducible (refine replyCode_keeps ?_)
    | with_reducible (refine keyWait_keeps ?_)
    | with_reducible (refine bringOnline_keeps ?_)
    | with_reducible (refine eraseGroup_keeps ?_)
    | with_reducible (refine retrySlots_keeps ?_)
    | with_reducible (refine retryWaits_keeps ?_)
    | split
    | lift_lets
    | (fail_if_no_progress with_reducible refine Keeps.mk' ?_ rfl rfl rfl rfl))

theorem execEraseGroup_keeps {a0 a1} (h : Keeps s0 s) : Keeps s0 (after (execEraseGroup a0 a1 s) s) := by
  delta execEraseGroup
  repeat' (first
    | with_reducible assumption
    | (refine fun (_ : Keeps _ _) => ?_)
    | (intro x; first | (refine Keeps.cut (s0 := s0) (x := x) ?_ ?_ <;> (first | (clear_value x; intro hx) | subst x)) | (subst x; try dsimp -zeta only))
    | with_reducible refine next_keeps ?_
    | with_reducible (refine settle_keeps ?_)
    | with_reducible (refine mbEraseGroup_keeps ?_)
    | split
    | lift_lets
    | (fail_if_no_progress with_reducible refine Keeps.mk' ?_ rfl rfl rfl rfl))

theorem execGenRingCfgWrite_keeps {a0} (h : Keeps s0 s) : Keeps s0 (after (execGenRingCfgWrite a0 s) s) := by
  delta execGenRingCfgWrite
  repeat' (first
    | with_reducible assumption
    | (refine fun (_ : Keeps _ _) => ?_)
    | (intro x; first | (refine Keeps.cut (s0 := s0) (x := x) ?_ ?_ <;> (first | (clear_value x; intro hx) | subst x)) | (subst x; try dsimp -zeta only))
    | with_reducible refine next_keeps ?_
    | with_reducible (refine settle_keeps ?_)
    | with_reducible (refine accessErr_keeps ?_)
    | with_reducible (refine trimRing_keeps ?_)
    | with_reducible (refine setGrp_keeps ?_)
    | split
    | lift_lets
    | (fail_if_no_progress with_reducible refine Keeps.mk' ?_ rfl rfl rfl rfl))

theorem execKeySelftest_keeps {a0} (h : Keeps s0 s) : Keeps s0 (after (execKeySelftest a0 s) s) := by
  delta execKeySelftest
  repeat' (first
    | with_reducible assumption
    | (refine fun (_ : Keeps _ _) => ?_)
    | (intro x; first | (refine Keeps.cut (s0 := s0) (x := x) ?_ ?_ <;> (first | (clear_value x; intro hx) | subst x)) | (subst x; try dsimp -zeta only))
    | with_reducible refine next_keeps ?_
    | with_reducible (refine wrB_keeps ?_)
    | split
    | lift_lets
    | (fail_if_no_progress with_reducible refine Keeps.mk' ?_ rfl rfl rfl rfl))

theorem runKeyWait_keeps {a0} (h : Keeps s0 s) : Keeps s0 (runKeyWait s a0) := by
  delta runKeyWait
  repeat' (first
    | with_reducible assumption
    | (refine fun (_ : Keeps _ _) => ?_)
    | (intro x; first | (refine Keeps.cut (s0 := s0) (x := x) ?_ ?_ <;> (first | (clear_value x; intro hx) | subst x)) | (subst x; try dsimp -zeta only))
    | with_reducible (refine mbSetGroupKeyMode_keeps ?_)
    | with_reducible (refine mbUnlockGroup_keeps ?_)
    | with_reducible (refine mbEraseGroup_keeps ?_)
    | split
    | lift_lets
    | (fail_if_no_progress with_reducible refine Keeps.mk' ?_ rfl rfl rfl rfl))

theorem execKeySelftestDone_keeps {a0 a1 a2} (h : Keeps s0 s) : Keeps s0 (after (execKeySelftestDone a0 a1 a2 s) s) := by
  delta execKeySelftestDone
  repeat' (first
    | with_reducible assumption
    | (refine fun (_ : Keeps _ _) => ?_)
    | (intro x; first | (refine Keeps.cut (s0 := s0) (x := x) ?_ ?_ <;> (first | (clear_value x; intro hx) | subst x)) | (subst x; try dsimp -zeta only))
    | with_reducible refine next_keeps ?_
    | with_reducible (refine settle_keeps ?_)
    | with_reducible (refine wr_keeps ?_)
    | with_reducible (refine drawKey_keeps ?_)
    | with_reducible (refine unwrapKey_keeps ?_)
    | with_reducible (refine report_keeps ?_)
    | with_reducible (refine setGrp_keeps ?_)
    | with_reducible (refine noteReasons_keeps ?_)
    | with_reducible (refine runKeyWait_keeps ?_)
    | with_reducible (refine forEach_keeps ?_ fun s a hs => ?_)
    | split
    | lift_lets
    | (fail_if_no_progress with_reducible refine Keeps.mk' ?_ rfl rfl rfl rfl))

end Sys2Proof.Machine
end

