-- ==== Sys2Proof/Laws/KeepsDram.lean ====
section
/-! SUPPORT. Frame lemmas of the operations of Machine/Dram, Machine/Pool, Machine/Common, Machine/Mem, Machine/Serve, Machine/Tick: each keeps the queue and every
invariant of `Keeps`. -/

set_option linter.unusedTactic false
set_option linter.unreachableTactic false

namespace Sys2Proof.Machine

open Bits

variable {s0 s : State}

theorem replayNext_keeps {a0 a1} (h : Keeps s0 s) : Keeps s0 (replayNext s a0 a1) := by
  delta replayNext
  repeat' (first
    | with_reducible assumption
    | (refine fun (_ : Keeps _ _) => ?_)
    | (intro x; first | (refine Keeps.cut (s0 := s0) (x := x) ?_ ?_ <;> (first | (clear_value x; intro hx) | subst x)) | (subst x; try dsimp -zeta only))
    | with_reducible (refine setDch_keeps ?_)
    | split
    | lift_lets
    | (fail_if_no_progress with_reducible refine Keeps.mk' ?_ rfl rfl rfl rfl))

theorem rmwRead_keeps {a0 a1 a2 a3} (h : Keeps s0 s) : Keeps s0 (rmwRead s a0 a1 a2 a3) := by
  delta rmwRead
  repeat' (first
    | with_reducible assumption
    | (refine fun (_ : Keeps _ _) => ?_)
    | (intro x; first | (refine Keeps.cut (s0 := s0) (x := x) ?_ ?_ <;> (first | (clear_value x; intro hx) | subst x)) | (subst x; try dsimp -zeta only))
    | with_reducible (refine setDch_keeps ?_)
    | with_reducible (refine activate_keeps ?_)
    | with_reducible (refine retryPush_keeps ?_)
    | with_reducible (refine corrected_keeps ?_)
    | with_reducible (refine uncorrectable_keeps ?_)
    | with_reducible (refine writeLine_keeps ?_)
    | split
    | lift_lets
    | (fail_if_no_progress with_reducible refine Keeps.mk' ?_ rfl rfl rfl rfl))

theorem served_keeps {a0 a1 a2 a3} (h : Keeps s0 s) : Keeps s0 (served s a0 a1 a2 a3) := by
  delta served
  repeat' (first
    | with_reducible assumption
    | (refine fun (_ : Keeps _ _) => ?_)
    | (intro x; first | (refine Keeps.cut (s0 := s0) (x := x) ?_ ?_ <;> (first | (clear_value x; intro hx) | subst x)) | (subst x; try dsimp -zeta only))
    | with_reducible (refine dropAccess_keeps ?_)
    | with_reducible (refine releaseBuffers_keeps ?_)
    | with_reducible (refine respond_keeps ?_)
    | with_reducible (refine corrected_keeps ?_)
    | with_reducible (refine freeBytes_keeps ?_)
    | with_reducible (refine mediaEvent_keeps ?_)
    | with_reducible (refine uncorrectable_keeps ?_)
    | split
    | lift_lets
    | (fail_if_no_progress with_reducible refine Keeps.mk' ?_ rfl rfl rfl rfl))

theorem execDramAccessComplete_keeps {a0 a1 a2 a3} (h : Keeps s0 s) : Keeps s0 (after (execDramAccessComplete a0 a1 a2 a3 s) s) := by
  delta execDramAccessComplete
  repeat' (first
    | with_reducible assumption
    | (refine fun (_ : Keeps _ _) => ?_)
    | (intro x; first | (refine Keeps.cut (s0 := s0) (x := x) ?_ ?_ <;> (first | (clear_value x; intro hx) | subst x)) | (subst x; try dsimp -zeta only))
    | with_reducible refine next_keeps ?_
    | with_reducible (refine settle_keeps ?_)
    | with_reducible (refine replayNext_keeps ?_)
    | with_reducible (refine rmwRead_keeps ?_)
    | with_reducible (refine served_keeps ?_)
    | with_reducible (refine retryWaits_keeps ?_)
    | split
    | lift_lets
    | (fail_if_no_progress with_reducible refine Keeps.mk' ?_ rfl rfl rfl rfl))

theorem execRefreshDue_keeps {a0 a1} (h : Keeps s0 s) : Keeps s0 (after (execRefreshDue a0 a1 s) s) := by
  delta execRefreshDue
  repeat' (first
    | with_reducible assumption
    | (refine fun (_ : Keeps _ _) => ?_)
    | (intro x; first | (refine Keeps.cut (s0 := s0) (x := x) ?_ ?_ <;> (first | (clear_value x; intro hx) | subst x)) | (subst x; try dsimp -zeta only))
    | with_reducible refine next_keeps ?_
    | with_reducible (refine refreshRaa_keeps ?_)
    | with_reducible (refine addSat_keeps ?_)
    | with_reducible (refine setDebt_keeps ?_)
    | split
    | lift_lets
    | (fail_if_no_progress with_reducible refine Keeps.mk' ?_ rfl rfl rfl rfl))

theorem execRefreshDebtIssue_keeps {a0 a1} (h : Keeps s0 s) : Keeps s0 (after (execRefreshDebtIssue a0 a1 s) s) := by
  delta execRefreshDebtIssue
  repeat' (first
    | with_reducible assumption
    | (refine fun (_ : Keeps _ _) => ?_)
    | (intro x; first | (refine Keeps.cut (s0 := s0) (x := x) ?_ ?_ <;> (first | (clear_value x; intro hx) | subst x)) | (subst x; try dsimp -zeta only))
    | with_reducible refine next_keeps ?_
    | with_reducible (refine refreshRaa_keeps ?_)
    | with_reducible (refine setDebt_keeps ?_)
    | split
    | lift_lets
    | (fail_if_no_progress with_reducible refine Keeps.mk' ?_ rfl rfl rfl rfl))

theorem execDrfmIssue_keeps {a0} (h : Keeps s0 s) : Keeps s0 (after (execDrfmIssue a0 s) s) := by
  unfold execDrfmIssue
  refine next_keeps ?_
  dsimp only
  split
  · exact h
  · exact addSat_keeps (setDch_keeps h)

theorem execRfmIssue_keeps {a0} (h : Keeps s0 s) : Keeps s0 (after (execRfmIssue a0 s) s) := by
  delta execRfmIssue
  repeat' (first
    | with_reducible assumption
    | (refine fun (_ : Keeps _ _) => ?_)
    | (intro x; first | (refine Keeps.cut (s0 := s0) (x := x) ?_ ?_ <;> (first | (clear_value x; intro hx) | subst x)) | (subst x; try dsimp -zeta only))
    | with_reducible refine next_keeps ?_
    | with_reducible (refine addSat_keeps ?_)
    | with_reducible (refine setDch_keeps ?_)
    | split
    | lift_lets
    | (fail_if_no_progress with_reducible refine Keeps.mk' ?_ rfl rfl rfl rfl))

theorem endInterval_keeps {a0} (h : Keeps s0 s) : Keeps s0 (endInterval s a0) := by
  delta endInterval
  repeat' (first
    | with_reducible assumption
    | (refine fun (_ : Keeps _ _) => ?_)
    | (intro x; first | (refine Keeps.cut (s0 := s0) (x := x) ?_ ?_ <;> (first | (clear_value x; intro hx) | subst x)) | (subst x; try dsimp -zeta only))
    | with_reducible (refine setWin_keeps ?_)
    | with_reducible (refine updateRates_keeps ?_)
    | split
    | lift_lets
    | (fail_if_no_progress with_reducible refine Keeps.mk' ?_ rfl rfl rfl rfl))

theorem execRowTrackerClear_keeps (h : Keeps s0 s) : Keeps s0 (after (execRowTrackerClear s) s) := by
  delta execRowTrackerClear
  repeat' (first
    | with_reducible assumption
    | (refine fun (_ : Keeps _ _) => ?_)
    | (intro x; first | (refine Keeps.cut (s0 := s0) (x := x) ?_ ?_ <;> (first | (clear_value x; intro hx) | subst x)) | (subst x; try dsimp -zeta only))
    | with_reducible refine next_keeps ?_
    | with_reducible (refine settle_keeps ?_)
    | with_reducible (refine setDch_keeps ?_)
    | with_reducible (refine endInterval_keeps ?_)
    | with_reducible (refine forEach_keeps ?_ fun s a hs => ?_)
    | split
    | lift_lets
    | (fail_if_no_progress with_reducible refine Keeps.mk' ?_ rfl rfl rfl rfl))

theorem startReplay_keeps {a0} (h : Keeps s0 s) : Keeps s0 (startReplay s a0) := by
  delta startReplay
  repeat' (first
    | with_reducible assumption
    | (refine fun (_ : Keeps _ _) => ?_)
    | (intro x; first | (refine Keeps.cut (s0 := s0) (x := x) ?_ ?_ <;> (first | (clear_value x; intro hx) | subst x)) | (subst x; try dsimp -zeta only))
    | with_reducible (refine setDch_keeps ?_)
    | split
    | lift_lets
    | (fail_if_no_progress with_reducible refine Keeps.mk' ?_ rfl rfl rfl rfl))

theorem execDramAlert_keeps {a0 a1 a2} (h : Keeps s0 s) : Keeps s0 (after (execDramAlert a0 a1 a2 s) s) := by
  delta execDramAlert
  repeat' (first
    | with_reducible assumption
    | (refine fun (_ : Keeps _ _) => ?_)
    | (intro x; first | (refine Keeps.cut (s0 := s0) (x := x) ?_ ?_ <;> (first | (clear_value x; intro hx) | subst x)) | (subst x; try dsimp -zeta only))
    | with_reducible refine next_keeps ?_
    | with_reducible (refine settle_keeps ?_)
    | with_reducible (refine setDch_keeps ?_)
    | with_reducible (refine wrF_keeps ?_)
    | with_reducible (refine wrB_keeps ?_)
    | with_reducible (refine report_keeps ?_)
    | with_reducible (refine addSat_keeps ?_)
    | with_reducible (refine startReplay_keeps ?_)
    | split
    | lift_lets
    | (fail_if_no_progress with_reducible refine Keeps.mk' ?_ rfl rfl rfl rfl))

theorem execAlertWindowClose_keeps {a0} (h : Keeps s0 s) : Keeps s0 (after (execAlertWindowClose a0 s) s) := by
  delta execAlertWindowClose
  repeat' (first
    | with_reducible assumption
    | (refine fun (_ : Keeps _ _) => ?_)
    | (intro x; first | (refine Keeps.cut (s0 := s0) (x := x) ?_ ?_ <;> (first | (clear_value x; intro hx) | subst x)) | (subst x; try dsimp -zeta only))
    | with_reducible refine next_keeps ?_
    | with_reducible (refine wrF_keeps ?_)
    | with_reducible (refine setDch_keeps ?_)
    | split
    | lift_lets
    | (fail_if_no_progress with_reducible refine Keeps.mk' ?_ rfl rfl rfl rfl))

theorem execTsetRequest_keeps {a0 a1} (h : Keeps s0 s) : Keeps s0 (after (execTsetRequest a0 a1 s) s) := by
  delta execTsetRequest
  repeat' (first
    | with_reducible assumption
    | (refine fun (_ : Keeps _ _) => ?_)
    | (intro x; first | (refine Keeps.cut (s0 := s0) (x := x) ?_ ?_ <;> (first | (clear_value x; intro hx) | subst x)) | (subst x; try dsimp -zeta only))
    | with_reducible refine next_keeps ?_
    | with_reducible (refine settle_keeps ?_)
    | with_reducible (refine updateTset_keeps ?_)
    | with_reducible (refine setCfgField_keeps ?_)
    | split
    | lift_lets
    | (fail_if_no_progress with_reducible refine Keeps.mk' ?_ rfl rfl rfl rfl))

theorem execTimingSetSwitchDone_keeps {a0} (h : Keeps s0 s) : Keeps s0 (after (execTimingSetSwitchDone a0 s) s) := by
  delta execTimingSetSwitchDone
  repeat' (first
    | with_reducible assumption
    | (refine fun (_ : Keeps _ _) => ?_)
    | (intro x; first | (refine Keeps.cut (s0 := s0) (x := x) ?_ ?_ <;> (first | (clear_value x; intro hx) | subst x)) | (subst x; try dsimp -zeta only))
    | with_reducible refine next_keeps ?_
    | with_reducible (refine settle_keeps ?_)
    | with_reducible (refine tsetDone_keeps ?_)
    | split
    | lift_lets
    | (fail_if_no_progress with_reducible refine Keeps.mk' ?_ rfl rfl rfl rfl))

theorem execDphFullSweep_keeps {a0} (h : Keeps s0 s) : Keeps s0 (after (execDphFullSweep a0 s) s) := by
  delta execDphFullSweep
  repeat' (first
    | with_reducible assumption
    | (refine fun (_ : Keeps _ _) => ?_)
    | (intro x; first | (refine Keeps.cut (s0 := s0) (x := x) ?_ ?_ <;> (first | (clear_value x; intro hx) | subst x)) | (subst x; try dsimp -zeta only))
    | with_reducible refine next_keeps ?_
    | with_reducible (refine settle_keeps ?_)
    | with_reducible (refine startSweep_keeps ?_)
    | with_reducible (refine accessErr_keeps ?_)
    | split
    | lift_lets
    | (fail_if_no_progress with_reducible refine Keeps.mk' ?_ rfl rfl rfl rfl))

theorem startSliced_keeps {a0} (h : Keeps s0 s) : Keeps s0 (startSliced s a0) := by
  delta startSliced
  repeat' (first
    | with_reducible assumption
    | (refine fun (_ : Keeps _ _) => ?_)
    | (intro x; first | (refine Keeps.cut (s0 := s0) (x := x) ?_ ?_ <;> (first | (clear_value x; intro hx) | subst x)) | (subst x; try dsimp -zeta only))
    | with_reducible (refine wrF_keeps ?_)
    | with_reducible (refine setDch_keeps ?_)
    | with_reducible (refine report_keeps ?_)
    | split
    | lift_lets
    | (fail_if_no_progress with_reducible refine Keeps.mk' ?_ rfl rfl rfl rfl))

theorem execDphSlicedSweep_keeps {a0} (h : Keeps s0 s) : Keeps s0 (after (execDphSlicedSweep a0 s) s) := by
  delta execDphSlicedSweep
  repeat' (first
    | with_reducible assumption
    | (refine fun (_ : Keeps _ _) => ?_)
    | (intro x; first | (refine Keeps.cut (s0 := s0) (x := x) ?_ ?_ <;> (first | (clear_value x; intro hx) | subst x)) | (subst x; try dsimp -zeta only))
    | with_reducible refine next_keeps ?_
    | with_reducible (refine settle_keeps ?_)
    | with_reducible (refine startSliced_keeps ?_)
    | split
    | lift_lets
    | (fail_if_no_progress with_reducible refine Keeps.mk' ?_ rfl rfl rfl rfl))

theorem freeLanes_keeps {a0} (h : Keeps s0 s) : Keeps s0 (freeLanes s a0) := by
  delta freeLanes
  repeat' (first
    | with_reducible assumption
    | (refine fun (_ : Keeps _ _) => ?_)
    | (intro x; first | (refine Keeps.cut (s0 := s0) (x := x) ?_ ?_ <;> (first | (clear_value x; intro hx) | subst x)) | (subst x; try dsimp -zeta only))
    | with_reducible (refine freeVal_keeps ?_)
    | with_reducible (refine wr_keeps ?_)
    | with_reducible (refine forEach_keeps ?_ fun s a hs => ?_)
    | split
    | lift_lets
    | (fail_if_no_progress with_reducible refine Keeps.mk' ?_ rfl rfl rfl rfl))

theorem startTrained_keeps {a0} (h : Keeps s0 s) : Keeps s0 (startTrained s a0) := by
  delta startTrained
  repeat' (first
    | with_reducible assumption
    | (refine fun (_ : Keeps _ _) => ?_)
    | (intro x; first | (refine Keeps.cut (s0 := s0) (x := x) ?_ ?_ <;> (first | (clear_value x; intro hx) | subst x)) | (subst x; try dsimp -zeta only))
    | with_reducible (refine setDch_keeps ?_)
    | with_reducible (refine wr_keeps ?_)
    | with_reducible (refine wrB_keeps ?_)
    | split
    | lift_lets
    | (fail_if_no_progress with_reducible refine Keeps.mk' ?_ rfl rfl rfl rfl))

theorem execTrainingSweepDone_keeps {a0 a1 a2 a3 a4 a5 a6} (h : Keeps s0 s) : Keeps s0 (after (execTrainingSweepDone a0 a1 a2 a3 a4 a5 a6 s) s) := by
  delta execTrainingSweepDone
  repeat' (first
    | with_reducible assumption
    | (refine fun (_ : Keeps _ _) => ?_)
    | (intro x; first | (refine Keeps.cut (s0 := s0) (x := x) ?_ ?_ <;> (first | (clear_value x; intro hx) | subst x)) | (subst x; try dsimp -zeta only))
    | with_reducible refine next_keeps ?_
    | with_reducible (refine settle_keeps ?_)
    | with_reducible (refine setDch_keeps ?_)
    | with_reducible (refine wr_keeps ?_)
    | with_reducible (refine freeLanes_keeps ?_)
    | with_reducible (refine startTrained_keeps ?_)
    | with_reducible (refine report_keeps ?_)
    | with_reducible (refine noteReasons_keeps ?_)
    | with_reducible (refine fixLayout_keeps ?_)
    | with_reducible (refine fixLining_keeps ?_)
    | split
    | lift_lets
    | (fail_if_no_progress with_reducible refine Keeps.mk' ?_ rfl rfl rfl rfl))

theorem adjustLanes_keeps {a0 a1} (h : Keeps s0 s) : Keeps s0 (adjustLanes s a0 a1) := by
  delta adjustLanes
  repeat' (first
    | with_reducible assumption
    | (refine fun (_ : Keeps _ _) => ?_)
    | (intro x; first | (refine Keeps.cut (s0 := s0) (x := x) ?_ ?_ <;> (first | (clear_value x; intro hx) | subst x)) | (subst x; try dsimp -zeta only))
    | with_reducible (refine freeVal_keeps ?_)
    | with_reducible (refine wr_keeps ?_)
    | with_reducible (refine forEach_keeps ?_ fun s a hs => ?_)
    | split
    | lift_lets
    | (fail_if_no_progress with_reducible refine Keeps.mk' ?_ rfl rfl rfl rfl))

theorem execRetrainPause_keeps {a0 a1 a2} (h : Keeps s0 s) : Keeps s0 (after (execRetrainPause a0 a1 a2 s) s) := by
  delta execRetrainPause
  repeat' (first
    | with_reducible assumption
    | (refine fun (_ : Keeps _ _) => ?_)
    | (intro x; first | (refine Keeps.cut (s0 := s0) (x := x) ?_ ?_ <;> (first | (clear_value x; intro hx) | subst x)) | (subst x; try dsimp -zeta only))
    | with_reducible refine next_keeps ?_
    | with_reducible (refine settle_keeps ?_)
    | with_reducible (refine adjustLanes_keeps ?_)
    | with_reducible (refine addWrap_keeps ?_)
    | with_reducible (refine raiseTo_keeps ?_)
    | with_reducible (refine startSliced_keeps ?_)
    | split
    | lift_lets
    | (fail_if_no_progress with_reducible refine Keeps.mk' ?_ rfl rfl rfl rfl))

theorem execSweepSlice_keeps {a0 a1 a2} (h : Keeps s0 s) : Keeps s0 (after (execSweepSlice a0 a1 a2 s) s) := by
  delta execSweepSlice
  repeat' (first
    | with_reducible assumption
    | (refine fun (_ : Keeps _ _) => ?_)
    | (intro x; first | (refine Keeps.cut (s0 := s0) (x := x) ?_ ?_ <;> (first | (clear_value x; intro hx) | subst x)) | (subst x; try dsimp -zeta only))
    | with_reducible refine next_keeps ?_
    | with_reducible (refine settle_keeps ?_)
    | with_reducible (refine addSat_keeps ?_)
    | with_reducible (refine wrF_keeps ?_)
    | with_reducible (refine setDch_keeps ?_)
    | with_reducible (refine wrB_keeps ?_)
    | with_reducible (refine freeLanes_keeps ?_)
    | with_reducible (refine wr_keeps ?_)
    | with_reducible (refine icu_keeps ?_)
    | with_reducible (refine report_keeps ?_)
    | split
    | lift_lets
    | (fail_if_no_progress with_reducible refine Keeps.mk' ?_ rfl rfl rfl rfl))

theorem execPllUnlock_keeps {a0} (h : Keeps s0 s) : Keeps s0 (after (execPllUnlock a0 s) s) := by
  delta execPllUnlock
  repeat' (first
    | with_reducible assumption
    | (refine fun (_ : Keeps _ _) => ?_)
    | (intro x; first | (refine Keeps.cut (s0 := s0) (x := x) ?_ ?_ <;> (first | (clear_value x; intro hx) | subst x)) | (subst x; try dsimp -zeta only))
    | with_reducible refine next_keeps ?_
    | with_reducible (refine settle_keeps ?_)
    | with_reducible (refine report_keeps ?_)
    | with_reducible (refine wrB_keeps ?_)
    | split
    | lift_lets
    | (fail_if_no_progress with_reducible refine Keeps.mk' ?_ rfl rfl rfl rfl))

theorem scrubAdvance_keeps {a0} (h : Keeps s0 s) : Keeps s0 (scrubAdvance s a0) := by
  delta scrubAdvance
  repeat' (first
    | with_reducible assumption
    | (refine fun (_ : Keeps _ _) => ?_)
    | (intro x; first | (refine Keeps.cut (s0 := s0) (x := x) ?_ ?_ <;> (first | (clear_value x; intro hx) | subst x)) | (subst x; try dsimp -zeta only))
    | with_reducible (refine wrF_keeps ?_)
    | with_reducible (refine setDch_keeps ?_)
    | with_reducible (refine icu_keeps ?_)
    | with_reducible (refine addSat_keeps ?_)
    | split
    | lift_lets
    | (fail_if_no_progress with_reducible refine Keeps.mk' ?_ rfl rfl rfl rfl))

theorem scrubBad_keeps {a0 a1} (h : Keeps s0 s) : Keeps s0 (scrubBad s a0 a1) := by
  delta scrubBad
  repeat' (first
    | with_reducible assumption
    | (refine fun (_ : Keeps _ _) => ?_)
    | (intro x; first | (refine Keeps.cut (s0 := s0) (x := x) ?_ ?_ <;> (first | (clear_value x; intro hx) | subst x)) | (subst x; try dsimp -zeta only))
    | with_reducible (refine writeLine_keeps ?_)
    | with_reducible (refine uncorrectable_keeps ?_)
    | with_reducible (refine mapFault_keeps ?_)
    | split
    | lift_lets
    | (fail_if_no_progress with_reducible refine Keeps.mk' ?_ rfl rfl rfl rfl))

theorem execPatrolScrub_keeps {a0 a1} (h : Keeps s0 s) : Keeps s0 (after (execPatrolScrub a0 a1 s) s) := by
  delta execPatrolScrub
  repeat' (first
    | with_reducible assumption
    | (refine fun (_ : Keeps _ _) => ?_)
    | (intro x; first | (refine Keeps.cut (s0 := s0) (x := x) ?_ ?_ <;> (first | (clear_value x; intro hx) | subst x)) | (subst x; try dsimp -zeta only))
    | with_reducible refine next_keeps ?_
    | with_reducible (refine settle_keeps ?_)
    | with_reducible (refine activate_keeps ?_)
    | with_reducible (refine corrected_keeps ?_)
    | with_reducible (refine scrubBad_keeps ?_)
    | with_reducible (refine scrubAdvance_keeps ?_)
    | split
    | lift_lets
    | (fail_if_no_progress with_reducible refine Keeps.mk' ?_ rfl rfl rfl rfl))

theorem execPoolGrant_keeps {a0 a1} (h : Keeps s0 s) : Keeps s0 (after (execPoolGrant a0 a1 s) s) := by
  delta execPoolGrant
  repeat' (first
    | with_reducible assumption
    | (refine fun (_ : Keeps _ _) => ?_)
    | (intro x; first | (refine Keeps.cut (s0 := s0) (x := x) ?_ ?_ <;> (first | (clear_value x; intro hx) | subst x)) | (subst x; try dsimp -zeta only))
    | with_reducible refine next_keeps ?_
    | with_reducible (refine settle_keeps ?_)
    | with_reducible (refine takeBuffers_keeps ?_)
    | with_reducible (refine waitAtMax_keeps ?_)
    | split
    | lift_lets
    | (fail_if_no_progress with_reducible refine Keeps.mk' ?_ rfl rfl rfl rfl))

theorem execPoolGrantAfterWait_keeps (h : Keeps s0 s) : Keeps s0 (after (execPoolGrantAfterWait s) s) := by
  delta execPoolGrantAfterWait
  repeat' (first
    | with_reducible assumption
    | (refine fun (_ : Keeps _ _) => ?_)
    | (intro x; first | (refine Keeps.cut (s0 := s0) (x := x) ?_ ?_ <;> (first | (clear_value x; intro hx) | subst x)) | (subst x; try dsimp -zeta only))
    | with_reducible refine next_keeps ?_
    | with_reducible (refine settle_keeps ?_)
    | with_reducible (refine takeBuffers_keeps ?_)
    | split
    | lift_lets
    | (fail_if_no_progress with_reducible refine Keeps.mk' ?_ rfl rfl rfl rfl))

theorem execPoolQuotaWrite_keeps {a0 a1} (h : Keeps s0 s) : Keeps s0 (after (execPoolQuotaWrite a0 a1 s) s) := by
  delta execPoolQuotaWrite
  repeat' (first
    | with_reducible assumption
    | (refine fun (_ : Keeps _ _) => ?_)
    | (intro x; first | (refine Keeps.cut (s0 := s0) (x := x) ?_ ?_ <;> (first | (clear_value x; intro hx) | subst x)) | (subst x; try dsimp -zeta only))
    | with_reducible refine next_keeps ?_
    | with_reducible (refine settle_keeps ?_)
    | with_reducible (refine accessErr_keeps ?_)
    | with_reducible (refine updateScale_keeps ?_)
    | with_reducible (refine wr_keeps ?_)
    | split
    | lift_lets
    | (fail_if_no_progress with_reducible refine Keeps.mk' ?_ rfl rfl rfl rfl))

theorem errClear_keeps {a0 a1 a2} (h : Keeps s0 s) : Keeps s0 (errClear s a0 a1 a2) := by
  delta errClear
  repeat' (first
    | with_reducible assumption
    | (refine fun (_ : Keeps _ _) => ?_)
    | (intro x; first | (refine Keeps.cut (s0 := s0) (x := x) ?_ ?_ <;> (first | (clear_value x; intro hx) | subst x)) | (subst x; try dsimp -zeta only))
    | with_reducible (refine detect_keeps ?_)
    | with_reducible (refine handled_keeps ?_)
    | with_reducible (refine wr_keeps ?_)
    | with_reducible (refine forEach_keeps ?_ fun s a hs => ?_)
    | split
    | lift_lets
    | (fail_if_no_progress with_reducible refine Keeps.mk' ?_ rfl rfl rfl rfl))

theorem injectUnit_keeps {a0 a1} (h : Keeps s0 s) : Keeps s0 (injectUnit s a0 a1).2 := by
  delta injectUnit
  repeat' (first
    | with_reducible assumption
    | (refine fun (_ : Keeps _ _) => ?_)
    | (intro x; first | (refine Keeps.cut (s0 := s0) (x := x) ?_ ?_ <;> (first | (clear_value x; intro hx) | subst x)) | (subst x; try dsimp -zeta only))
    | with_reducible (refine freeVal_keeps ?_)
    | split
    | lift_lets
    | (fail_if_no_progress with_reducible refine Keeps.mk' ?_ rfl rfl rfl rfl))

theorem inject_keeps {a0 a1} (h : Keeps s0 s) : Keeps s0 (inject s a0 a1) := by
  delta inject
  repeat' (first
    | with_reducible assumption
    | (refine fun (_ : Keeps _ _) => ?_)
    | (intro x; first | (refine Keeps.cut (s0 := s0) (x := x) ?_ ?_ <;> (first | (clear_value x; intro hx) | subst x)) | (subst x; try dsimp -zeta only))
    | with_reducible (refine accessErr_keeps ?_)
    | with_reducible (refine injectUnit_keeps ?_)
    | with_reducible (refine detect_keeps ?_)
    | with_reducible (refine forEach_keeps ?_ fun s a hs => ?_)
    | split
    | lift_lets
    | (fail_if_no_progress with_reducible refine Keeps.mk' ?_ rfl rfl rfl rfl))

theorem lockWrite_keeps {a0 a1} (h : Keeps s0 s) : Keeps s0 (lockWrite s a0 a1) := by
  delta lockWrite
  repeat' (first
    | with_reducible assumption
    | (refine fun (_ : Keeps _ _) => ?_)
    | (intro x; first | (refine Keeps.cut (s0 := s0) (x := x) ?_ ?_ <;> (first | (clear_value x; intro hx) | subst x)) | (subst x; try dsimp -zeta only))
    | with_reducible (refine wr_keeps ?_)
    | split
    | lift_lets
    | (fail_if_no_progress with_reducible refine Keeps.mk' ?_ rfl rfl rfl rfl))

theorem execErrStatusClear_keeps {a0 a1 a2} (h : Keeps s0 s) : Keeps s0 (after (execErrStatusClear a0 a1 a2 s) s) := by
  delta execErrStatusClear
  repeat' (first
    | with_reducible assumption
    | (refine fun (_ : Keeps _ _) => ?_)
    | (intro x; first | (refine Keeps.cut (s0 := s0) (x := x) ?_ ?_ <;> (first | (clear_value x; intro hx) | subst x)) | (subst x; try dsimp -zeta only))
    | with_reducible refine next_keeps ?_
    | with_reducible (refine settle_keeps ?_)
    | with_reducible (refine errClear_keeps ?_)
    | split
    | lift_lets
    | (fail_if_no_progress with_reducible refine Keeps.mk' ?_ rfl rfl rfl rfl))

theorem execErrInject_keeps {a0 a1} (h : Keeps s0 s) : Keeps s0 (after (execErrInject a0 a1 s) s) := by
  delta execErrInject
  repeat' (first
    | with_reducible assumption
    | (refine fun (_ : Keeps _ _) => ?_)
    | (intro x; first | (refine Keeps.cut (s0 := s0) (x := x) ?_ ?_ <;> (first | (clear_value x; intro hx) | subst x)) | (subst x; try dsimp -zeta only))
    | with_reducible refine next_keeps ?_
    | with_reducible (refine settle_keeps ?_)
    | with_reducible (refine inject_keeps ?_)
    | split
    | lift_lets
    | (fail_if_no_progress with_reducible refine Keeps.mk' ?_ rfl rfl rfl rfl))

theorem execLockSet_keeps {a0 a1} (h : Keeps s0 s) : Keeps s0 (after (execLockSet a0 a1 s) s) := by
  delta execLockSet
  repeat' (first
    | with_reducible assumption
    | (refine fun (_ : Keeps _ _) => ?_)
    | (intro x; first | (refine Keeps.cut (s0 := s0) (x := x) ?_ ?_ <;> (first | (clear_value x; intro hx) | subst x)) | (subst x; try dsimp -zeta only))
    | with_reducible refine next_keeps ?_
    | with_reducible (refine lockWrite_keeps ?_)
    | split
    | lift_lets
    | (fail_if_no_progress with_reducible refine Keeps.mk' ?_ rfl rfl rfl rfl))

theorem execPowerReq_keeps {a0 a1} (h : Keeps s0 s) : Keeps s0 (after (execPowerReq a0 a1 s) s) := by
  delta execPowerReq
  repeat' (first
    | with_reducible assumption
    | (refine fun (_ : Keeps _ _) => ?_)
    | (intro x; first | (refine Keeps.cut (s0 := s0) (x := x) ?_ ?_ <;> (first | (clear_value x; intro hx) | subst x)) | (subst x; try dsimp -zeta only))
    | with_reducible refine next_keeps ?_
    | with_reducible (refine settle_keeps ?_)
    | with_reducible (refine ctrlWrite_keeps ?_)
    | split
    | lift_lets
    | (fail_if_no_progress with_reducible refine Keeps.mk' ?_ rfl rfl rfl rfl))

theorem execSoftReset_keeps {a0 a1} (h : Keeps s0 s) : Keeps s0 (after (execSoftReset a0 a1 s) s) := by
  delta execSoftReset
  repeat' (first
    | with_reducible assumption
    | (refine fun (_ : Keeps _ _) => ?_)
    | (intro x; first | (refine Keeps.cut (s0 := s0) (x := x) ?_ ?_ <;> (first | (clear_value x; intro hx) | subst x)) | (subst x; try dsimp -zeta only))
    | with_reducible refine next_keeps ?_
    | with_reducible (refine settle_keeps ?_)
    | with_reducible (refine ctrlWrite_keeps ?_)
    | split
    | lift_lets
    | (fail_if_no_progress with_reducible refine Keeps.mk' ?_ rfl rfl rfl rfl))

theorem execSoftResetTakeEffect_keeps {a0} (h : Keeps s0 s) : Keeps s0 (after (execSoftResetTakeEffect a0 s) s) := by
  delta execSoftResetTakeEffect
  repeat' (first
    | with_reducible assumption
    | (refine fun (_ : Keeps _ _) => ?_)
    | (intro x; first | (refine Keeps.cut (s0 := s0) (x := x) ?_ ?_ <;> (first | (clear_value x; intro hx) | subst x)) | (subst x; try dsimp -zeta only))
    | with_reducible refine next_keeps ?_
    | with_reducible (refine settle_keeps ?_)
    | with_reducible (refine softReset_keeps ?_)
    | split
    | lift_lets
    | (fail_if_no_progress with_reducible refine Keeps.mk' ?_ rfl rfl rfl rfl))

theorem domainOn_keeps {a0} (h : Keeps s0 s) : Keeps s0 (domainOn s a0) := by
  delta domainOn
  repeat' (first
    | with_reducible assumption
    | (refine fun (_ : Keeps _ _) => ?_)
    | (intro x; first | (refine Keeps.cut (s0 := s0) (x := x) ?_ ?_ <;> (first | (clear_value x; intro hx) | subst x)) | (subst x; try dsimp -zeta only))
    | with_reducible (refine updateScale_keeps ?_)
    | split
    | lift_lets
    | (fail_if_no_progress with_reducible refine Keeps.mk' ?_ rfl rfl rfl rfl))

theorem domainOff_keeps {a0} (h : Keeps s0 s) : Keeps s0 (domainOff s a0) := by
  unfold domainOff
  repeat' split
  · exact h
  · exact Keeps.stk h fun _ => Nat.zero_le 16
  · exact Keeps.sram h filter_wf
  · exact evrLost_keeps h
  · exact linkDomOff_keeps h
  · exact updateScale_keeps h
  · exact h

theorem domainDone_keeps {a0} (h : Keeps s0 s) : Keeps s0 (domainDone s a0) := by
  have k : ∀ v : Dom, v.credit = (domOf s a0).credit → Keeps s0 (setDom s a0 v) := fun v hv =>
    setDom_keeps h fun hc => hv ▸ dom_le hc a0
  unfold domainDone
  dsimp only
  split
  · refine startWaiting_keeps ?_
    split
    · exact startOff_keeps (domainOn_keeps (k _ rfl))
    · exact domainOn_keeps (k _ rfl)
  · split
    · split
      · exact startOn_keeps (domainOff_keeps (k _ rfl))
      · exact domainOff_keeps (k _ rfl)
    · exact h

theorem execDomainSwitchDone_keeps {a0} (h : Keeps s0 s) : Keeps s0 (after (execDomainSwitchDone a0 s) s) := by
  delta execDomainSwitchDone
  repeat' (first
    | with_reducible assumption
    | (refine fun (_ : Keeps _ _) => ?_)
    | (intro x; first | (refine Keeps.cut (s0 := s0) (x := x) ?_ ?_ <;> (first | (clear_value x; intro hx) | subst x)) | (subst x; try dsimp -zeta only))
    | with_reducible refine next_keeps ?_
    | with_reducible (refine settle_keeps ?_)
    | with_reducible (refine domainDone_keeps ?_)
    | split
    | lift_lets
    | (fail_if_no_progress with_reducible refine Keeps.mk' ?_ rfl rfl rfl rfl))

theorem gainCredit_keeps {a0} (h : Keeps s0 s) : Keeps s0 (gainCredit s a0) := by
  have k : Keeps s0 (setDom s a0 { domOf s a0 with credit := min 8 ((domOf s a0).credit + 1) }) :=
    setDom_keeps h fun _ => Nat.min_le_left 8 _
  unfold gainCredit
  dsimp only
  split
  · exact startOff_keeps k
  · exact k

theorem execGatingCreditGain_keeps (h : Keeps s0 s) : Keeps s0 (after (execGatingCreditGain s) s) := by
  delta execGatingCreditGain
  repeat' (first
    | with_reducible assumption
    | (refine fun (_ : Keeps _ _) => ?_)
    | (intro x; first | (refine Keeps.cut (s0 := s0) (x := x) ?_ ?_ <;> (first | (clear_value x; intro hx) | subst x)) | (subst x; try dsimp -zeta only))
    | with_reducible refine next_keeps ?_
    | with_reducible (refine settle_keeps ?_)
    | with_reducible (refine gainCredit_keeps ?_)
    | with_reducible (refine forEach_keeps ?_ fun s a hs => ?_)
    | split
    | lift_lets
    | (fail_if_no_progress with_reducible refine Keeps.mk' ?_ rfl rfl rfl rfl))

theorem execStrobeDelayCheck_keeps {a0 a1} (h : Keeps s0 s) : Keeps s0 (after (execStrobeDelayCheck a0 a1 s) s) := by
  delta execStrobeDelayCheck
  repeat' (first
    | with_reducible assumption
    | (refine fun (_ : Keeps _ _) => ?_)
    | (intro x; first | (refine Keeps.cut (s0 := s0) (x := x) ?_ ?_ <;> (first | (clear_value x; intro hx) | subst x)) | (subst x; try dsimp -zeta only))
    | with_reducible refine next_keeps ?_
    | with_reducible (refine setFch_keeps ?_)
    | split
    | lift_lets
    | (fail_if_no_progress with_reducible refine Keeps.mk' ?_ rfl rfl rfl rfl))

theorem execStrobeRecalibrate_keeps {a0 a1 a2 a3} (h : Keeps s0 s) : Keeps s0 (after (execStrobeRecalibrate a0 a1 a2 a3 s) s) := by
  delta execStrobeRecalibrate
  repeat' (first
    | with_reducible assumption
    | (refine fun (_ : Keeps _ _) => ?_)
    | (intro x; first | (refine Keeps.cut (s0 := s0) (x := x) ?_ ?_ <;> (first | (clear_value x; intro hx) | subst x)) | (subst x; try dsimp -zeta only))
    | with_reducible refine next_keeps ?_
    | with_reducible (refine settle_keeps ?_)
    | with_reducible (refine wr_keeps ?_)
    | with_reducible (refine icu_keeps ?_)
    | with_reducible (refine setFch_keeps ?_)
    | with_reducible (refine report_keeps ?_)
    | split
    | lift_lets
    | (fail_if_no_progress with_reducible refine Keeps.mk' ?_ rfl rfl rfl rfl))

theorem execHandshakeWatchdog_keeps {a0 a1} (h : Keeps s0 s) : Keeps s0 (after (execHandshakeWatchdog a0 a1 s) s) := by
  delta execHandshakeWatchdog
  repeat' (first
    | with_reducible assumption
    | (refine fun (_ : Keeps _ _) => ?_)
    | (intro x; first | (refine Keeps.cut (s0 := s0) (x := x) ?_ ?_ <;> (first | (clear_value x; intro hx) | subst x)) | (subst x; try dsimp -zeta only))
    | with_reducible refine next_keeps ?_
    | with_reducible (refine settle_keeps ?_)
    | with_reducible (refine detect_keeps ?_)
    | split
    | lift_lets
    | (fail_if_no_progress with_reducible refine Keeps.mk' ?_ rfl rfl rfl rfl))

theorem storedEffect_keeps {a0} (h : Keeps s0 s) : Keeps s0 (storedEffect s a0) := by
  delta storedEffect
  repeat' (first
    | with_reducible assumption
    | (refine fun (_ : Keeps _ _) => ?_)
    | (intro x; first | (refine Keeps.cut (s0 := s0) (x := x) ?_ ?_ <;> (first | (clear_value x; intro hx) | subst x)) | (subst x; try dsimp -zeta only))
    | with_reducible (refine spaceFreed_keeps ?_)
    | with_reducible (refine recomputeBudget_keeps ?_)
    | with_reducible (refine judgeEnergy_keeps ?_)
    | with_reducible (refine freeLevels_keeps ?_)
    | with_reducible (refine updateRegime_keeps ?_)
    | with_reducible (refine applyPower_keeps ?_)
    | with_reducible (refine updateScale_keeps ?_)
    | split
    | lift_lets
    | (fail_if_no_progress with_reducible refine Keeps.mk' ?_ rfl rfl rfl rfl))

theorem storeFields_keeps {a0 a1 a2} (h : Keeps s0 s) : Keeps s0 (storeFields s a0 a1 a2) := by
  delta storeFields
  repeat' (first
    | with_reducible assumption
    | (refine fun (_ : Keeps _ _) => ?_)
    | (intro x; first | (refine Keeps.cut (s0 := s0) (x := x) ?_ ?_ <;> (first | (clear_value x; intro hx) | subst x)) | (subst x; try dsimp -zeta only))
    | with_reducible (refine accessErr_keeps ?_)
    | with_reducible (refine wr_keeps ?_)
    | split
    | lift_lets
    | (fail_if_no_progress with_reducible refine Keeps.mk' ?_ rfl rfl rfl rfl))

theorem plainWrite_keeps {a0 a1} (h : Keeps s0 s) : Keeps s0 (plainWrite s a0 a1) := by
  delta plainWrite
  repeat' (first
    | with_reducible assumption
    | (refine fun (_ : Keeps _ _) => ?_)
    | (intro x; first | (refine Keeps.cut (s0 := s0) (x := x) ?_ ?_ <;> (first | (clear_value x; intro hx) | subst x)) | (subst x; try dsimp -zeta only))
    | with_reducible (refine accessErr_keeps ?_)
    | with_reducible (refine storedEffect_keeps ?_)
    | with_reducible (refine storeFields_keeps ?_)
    | split
    | lift_lets
    | (fail_if_no_progress with_reducible refine Keeps.mk' ?_ rfl rfl rfl rfl))

theorem powerWrite_keeps {a0 a1} (h : Keeps s0 s) : Keeps s0 (powerWrite s a0 a1) := by
  delta powerWrite
  repeat' (first
    | with_reducible assumption
    | (refine fun (_ : Keeps _ _) => ?_)
    | (intro x; first | (refine Keeps.cut (s0 := s0) (x := x) ?_ ?_ <;> (first | (clear_value x; intro hx) | subst x)) | (subst x; try dsimp -zeta only))
    | with_reducible (refine accessErr_keeps ?_)
    | with_reducible (refine plainWrite_keeps ?_)
    | split
    | lift_lets
    | (fail_if_no_progress with_reducible refine Keeps.mk' ?_ rfl rfl rfl rfl))

theorem execBlockDomainPowerWrite_keeps {a0 a1} (h : Keeps s0 s) : Keeps s0 (after (execBlockDomainPowerWrite a0 a1 s) s) := by
  delta execBlockDomainPowerWrite
  repeat' (first
    | with_reducible assumption
    | (refine fun (_ : Keeps _ _) => ?_)
    | (intro x; first | (refine Keeps.cut (s0 := s0) (x := x) ?_ ?_ <;> (first | (clear_value x; intro hx) | subst x)) | (subst x; try dsimp -zeta only))
    | with_reducible refine next_keeps ?_
    | with_reducible (refine settle_keeps ?_)
    | with_reducible (refine powerWrite_keeps ?_)
    | split
    | lift_lets
    | (fail_if_no_progress with_reducible refine Keeps.mk' ?_ rfl rfl rfl rfl))

theorem cflCmdWrite_keeps {a0} (h : Keeps s0 s) : Keeps s0 (cflCmdWrite s a0) := by
  delta cflCmdWrite
  repeat' (first
    | with_reducible assumption
    | (refine fun (_ : Keeps _ _) => ?_)
    | (intro x; first | (refine Keeps.cut (s0 := s0) (x := x) ?_ ?_ <;> (first | (clear_value x; intro hx) | subst x)) | (subst x; try dsimp -zeta only))
    | with_reducible (refine freeVal_keeps ?_)
    | with_reducible (refine cflStart_keeps ?_)
    | split
    | lift_lets
    | (fail_if_no_progress with_reducible refine Keeps.mk' ?_ rfl rfl rfl rfl))

theorem hemCmdWrite_keeps {a0} (h : Keeps s0 s) : Keeps s0 (hemCmdWrite s a0) := by
  delta hemCmdWrite
  repeat' (first
    | with_reducible assumption
    | (refine fun (_ : Keeps _ _) => ?_)
    | (intro x; first | (refine Keeps.cut (s0 := s0) (x := x) ?_ ?_ <;> (first | (clear_value x; intro hx) | subst x)) | (subst x; try dsimp -zeta only))
    | with_reducible (refine after_keeps ?_)
    | with_reducible (refine execGenHemCmdHem_keeps ?_)
    | with_reducible (refine freeVal_keeps ?_)
    | with_reducible (refine execGenHemCmdResume_keeps ?_)
    | split
    | lift_lets
    | (fail_if_no_progress with_reducible refine Keeps.mk' ?_ rfl rfl rfl rfl))

theorem hoAckWrite_keeps {a0} (h : Keeps s0 s) : Keeps s0 (hoAckWrite s a0) := by
  delta hoAckWrite
  repeat' (first
    | with_reducible assumption
    | (refine fun (_ : Keeps _ _) => ?_)
    | (intro x; first | (refine Keeps.cut (s0 := s0) (x := x) ?_ ?_ <;> (first | (clear_value x; intro hx) | subst x)) | (subst x; try dsimp -zeta only))
    | with_reducible (refine freeVal_keeps ?_)
    | with_reducible (refine freeBytes_keeps ?_)
    | with_reducible (refine after_keeps ?_)
    | with_reducible (refine execUpdHoAck_keeps ?_)
    | split
    | lift_lets
    | (fail_if_no_progress with_reducible refine Keeps.mk' ?_ rfl rfl rfl rfl))

theorem evrCmd_keeps {a0} (h : Keeps s0 s) : Keeps s0 (evrCmd s a0) := by
  delta evrCmd
  repeat' (first
    | with_reducible assumption
    | (refine fun (_ : Keeps _ _) => ?_)
    | (intro x; first | (refine Keeps.cut (s0 := s0) (x := x) ?_ ?_ <;> (first | (clear_value x; intro hx) | subst x)) | (subst x; try dsimp -zeta only))
    | with_reducible (refine freeVal_keeps ?_)
    | with_reducible (refine evrCmdWrite_keeps ?_)
    | split
    | lift_lets
    | (fail_if_no_progress with_reducible refine Keeps.mk' ?_ rfl rfl rfl rfl))

theorem trainCtrlWrite_keeps {a0 a1} (h : Keeps s0 s) : Keeps s0 (trainCtrlWrite s a0 a1) := by
  delta trainCtrlWrite
  repeat' (first
    | with_reducible assumption
    | (refine fun (_ : Keeps _ _) => ?_)
    | (intro x; first | (refine Keeps.cut (s0 := s0) (x := x) ?_ ?_ <;> (first | (clear_value x; intro hx) | subst x)) | (subst x; try dsimp -zeta only))
    | with_reducible (refine after_keeps ?_)
    | with_reducible (refine execDphFullSweep_keeps ?_)
    | with_reducible (refine startSliced_keeps ?_)
    | split
    | lift_lets
    | (fail_if_no_progress with_reducible refine Keeps.mk' ?_ rfl rfl rfl rfl))

theorem errMaskWrite_keeps {a0 a1} (h : Keeps s0 s) : Keeps s0 (errMaskWrite s a0 a1) := by
  delta errMaskWrite
  repeat' (first
    | with_reducible assumption
    | (refine fun (_ : Keeps _ _) => ?_)
    | (intro x; first | (refine Keeps.cut (s0 := s0) (x := x) ?_ ?_ <;> (first | (clear_value x; intro hx) | subst x)) | (subst x; try dsimp -zeta only))
    | with_reducible (refine accessErr_keeps ?_)
    | with_reducible (refine wr_keeps ?_)
    | split
    | lift_lets
    | (fail_if_no_progress with_reducible refine Keeps.mk' ?_ rfl rfl rfl rfl))

theorem ownWrite_keeps {a0 a1} (h : Keeps s0 s) : ∀ t, ownWrite s a0 a1 = some t → Keeps s0 t := by
  unfold ownWrite
  refine ite_keeps (execTackDoorbell_keeps h) ?_
  refine ite_keeps (execGenTackMaskGo_keeps h) ?_
  refine ite_keeps (syncCtrlWrite_keeps h) ?_
  refine ite_keeps (execGenRingCfgWrite_keeps h) ?_
  refine ite_keeps (execGenGenCmd_keeps h) ?_
  refine ite_keeps (hemCmdWrite_keeps h) ?_
  refine ite_keeps (execKeySelftest_keeps h) ?_
  refine ite_keeps (execHlPwrWrite_keeps h) ?_
  refine ite_keeps (execHlPwrWrite_keeps h) ?_
  refine ite_keeps (execPoolQuotaWrite_keeps h) ?_
  refine ite_keeps (psqCmd_keeps h) ?_
  refine ite_keeps (execPsqRstCtrlWrite_keeps h) ?_
  refine ite_keeps (learnCtrl_keeps h) ?_
  refine ite_keeps (wdtKick_keeps h) ?_
  refine ite_keeps (powerWrite_keeps h) ?_
  refine ite_keeps (execIcuDoorbell_keeps h) ?_
  refine ite_keeps (execIcuDone_keeps h) ?_
  refine ite_keeps (execIcuPrioSet_keeps h) ?_
  refine ite_keeps (execIcuEnset_keeps h) ?_
  refine ite_keeps (execIcuEnclr_keeps h) ?_
  refine ite_keeps (execIcuPendclr_keeps h) ?_
  refine ite_keeps (cflCmdWrite_keeps h) ?_
  refine ite_keeps (evrCmd_keeps h) ?_
  refine ite_keeps (execEvrFwGo_keeps h) ?_
  refine ite_keeps (updCmdWrite_keeps h) ?_
  refine ite_keeps (hoAckWrite_keeps h) ?_
  refine ite_keeps (execUpdKeyRetire_keeps h) ?_
  refine ite_keeps (sb0Done_keeps h) ?_
  refine ite_keeps (sb1Go_keeps h) ?_
  refine ite_keeps (fenceCmd_keeps h) ?_
  refine ite_keeps (execFltStickyClr_keeps h) ?_
  refine ite_keeps (dumpCmd_keeps h) ?_
  exact fun t ht => by cases ht

theorem regWrite_keeps {a0 a1} (h : Keeps s0 s) : Keeps s0 (regWrite s a0 a1) := by
  have own : ∀ t, ownWrite s a0 a1 = some t → Keeps s0 t := ownWrite_keeps h
  unfold regWrite
  dsimp only
  repeat' with_reducible refine iteS_keeps ?_ ?_
  · exact h
  · exact ctrlWrite_keeps h
  · exact errClear_keeps h
  · exact errMaskWrite_keeps h
  · exact inject_keeps h
  · exact lockWrite_keeps h
  · exact h
  · exact execTsetRequest_keeps h
  · exact trainCtrlWrite_keeps h
  · split
    · exact own _ (by assumption)
    · exact plainWrite_keeps h

theorem thrWrite_keeps {a0 a1} (h : Keeps s0 s) : Keeps s0 (thrWrite s a0 a1) := by
  delta thrWrite
  repeat' (first
    | with_reducible assumption
    | (refine fun (_ : Keeps _ _) => ?_)
    | (intro x; first | (refine Keeps.cut (s0 := s0) (x := x) ?_ ?_ <;> (first | (clear_value x; intro hx) | subst x)) | (subst x; try dsimp -zeta only))
    | split
    | lift_lets
    | (fail_if_no_progress with_reducible refine Keeps.mk' ?_ rfl rfl rfl rfl))

theorem tableWrite_keeps {a0 a1} (h : Keeps s0 s) : Keeps s0 (tableWrite s a0 a1) := by
  delta tableWrite
  repeat' (first
    | with_reducible assumption
    | (refine fun (_ : Keeps _ _) => ?_)
    | (intro x; first | (refine Keeps.cut (s0 := s0) (x := x) ?_ ?_ <;> (first | (clear_value x; intro hx) | subst x)) | (subst x; try dsimp -zeta only))
    | with_reducible (refine after_keeps ?_)
    | with_reducible (refine execWindowEntryWrite_keeps ?_)
    | with_reducible (refine execGroupEntryWrite_keeps ?_)
    | with_reducible (refine thrWrite_keeps ?_)
    | split
    | lift_lets
    | (fail_if_no_progress with_reducible refine Keeps.mk' ?_ rfl rfl rfl rfl))

theorem execRegisterWrite_keeps {a0 a1 a2} (h : Keeps s0 s) : Keeps s0 (after (execRegisterWrite a0 a1 a2 s) s) := by
  delta execRegisterWrite
  repeat' (first
    | with_reducible assumption
    | (refine fun (_ : Keeps _ _) => ?_)
    | (intro x; first | (refine Keeps.cut (s0 := s0) (x := x) ?_ ?_ <;> (first | (clear_value x; intro hx) | subst x)) | (subst x; try dsimp -zeta only))
    | with_reducible refine next_keeps ?_
    | with_reducible (refine settle_keeps ?_)
    | with_reducible (refine regWrite_keeps ?_)
    | with_reducible (refine accessErr_keeps ?_)
    | with_reducible (refine tableWrite_keeps ?_)
    | with_reducible (refine sramStore_keeps ?_)
    | split
    | lift_lets
    | (fail_if_no_progress with_reducible refine Keeps.mk' ?_ rfl rfl rfl rfl))

theorem rcClear_keeps {a0 a1 a2} (h : Keeps s0 s) : Keeps s0 (rcClear s a0 a1 a2) := by
  delta rcClear
  repeat' (first
    | with_reducible assumption
    | (refine fun (_ : Keeps _ _) => ?_)
    | (intro x; first | (refine Keeps.cut (s0 := s0) (x := x) ?_ ?_ <;> (first | (clear_value x; intro hx) | subst x)) | (subst x; try dsimp -zeta only))
    | with_reducible (refine setClient_keeps ?_)
    | with_reducible (refine wr_keeps ?_)
    | with_reducible (refine wrB_keeps ?_)
    | split
    | lift_lets
    | (fail_if_no_progress with_reducible refine Keeps.mk' ?_ rfl rfl rfl rfl))

theorem mgmtRead_keeps {a0 a1 a2} (h : Keeps s0 s) : Keeps s0 (mgmtRead s a0 a1 a2) := by
  delta mgmtRead
  repeat' (first
    | with_reducible assumption
    | (refine fun (_ : Keeps _ _) => ?_)
    | (intro x; first | (refine Keeps.cut (s0 := s0) (x := x) ?_ ?_ <;> (first | (clear_value x; intro hx) | subst x)) | (subst x; try dsimp -zeta only))
    | with_reducible (refine accessErr_keeps ?_)
    | with_reducible (refine rcClear_keeps ?_)
    | with_reducible (refine cflReadUse_keeps ?_)
    | split
    | lift_lets
    | (fail_if_no_progress with_reducible refine Keeps.mk' ?_ rfl rfl rfl rfl))

theorem execRcRead_keeps {a0 a1 a2} (h : Keeps s0 s) : Keeps s0 (after (execRcRead a0 a1 a2 s) s) := by
  delta execRcRead
  repeat' (first
    | with_reducible assumption
    | (refine fun (_ : Keeps _ _) => ?_)
    | (intro x; first | (refine Keeps.cut (s0 := s0) (x := x) ?_ ?_ <;> (first | (clear_value x; intro hx) | subst x)) | (subst x; try dsimp -zeta only))
    | with_reducible refine next_keeps ?_
    | with_reducible (refine settle_keeps ?_)
    | with_reducible (refine mgmtRead_keeps ?_)
    | split
    | lift_lets
    | (fail_if_no_progress with_reducible refine Keeps.mk' ?_ rfl rfl rfl rfl))

theorem execMgmtUnmappedAccess_keeps {a0 a1} (h : Keeps s0 s) : Keeps s0 (after (execMgmtUnmappedAccess a0 a1 s) s) := by
  delta execMgmtUnmappedAccess
  repeat' (first
    | with_reducible assumption
    | (refine fun (_ : Keeps _ _) => ?_)
    | (intro x; first | (refine Keeps.cut (s0 := s0) (x := x) ?_ ?_ <;> (first | (clear_value x; intro hx) | subst x)) | (subst x; try dsimp -zeta only))
    | with_reducible refine next_keeps ?_
    | with_reducible (refine settle_keeps ?_)
    | with_reducible (refine accessErr_keeps ?_)
    | split
    | lift_lets
    | (fail_if_no_progress with_reducible refine Keeps.mk' ?_ rfl rfl rfl rfl))

theorem execCxlmemRead_keeps {a0 a1 a2} (h : Keeps s0 s) : Keeps s0 (after (execCxlmemRead a0 a1 a2 s) s) := by
  delta execCxlmemRead
  repeat' (first
    | with_reducible assumption
    | (refine fun (_ : Keeps _ _) => ?_)
    | (intro x; first | (refine Keeps.cut (s0 := s0) (x := x) ?_ ?_ <;> (first | (clear_value x; intro hx) | subst x)) | (subst x; try dsimp -zeta only))
    | with_reducible refine next_keeps ?_
    | with_reducible (refine settle_keeps ?_)
    | with_reducible (refine readEntry_keeps ?_)
    | with_reducible (refine route_keeps ?_ (fun w d => ?_))
    | split
    | lift_lets
    | (fail_if_no_progress with_reducible refine Keeps.mk' ?_ rfl rfl rfl rfl))

theorem poisonRx_keeps {a0 a1} (h : Keeps s0 s) : Keeps s0 (poisonRx s a0 a1) := by
  delta poisonRx
  repeat' (first
    | with_reducible assumption
    | (refine fun (_ : Keeps _ _) => ?_)
    | (intro x; first | (refine Keeps.cut (s0 := s0) (x := x) ?_ ?_ <;> (first | (clear_value x; intro hx) | subst x)) | (subst x; try dsimp -zeta only))
    | with_reducible (refine report_keeps ?_)
    | split
    | lift_lets
    | (fail_if_no_progress with_reducible refine Keeps.mk' ?_ rfl rfl rfl rfl))

theorem hostWriteReq_keeps {a0 a1 a2 a3 a4 a5} (h : Keeps s0 s) : Keeps s0 (hostWriteReq s a0 a1 a2 a3 a4 a5) := by
  delta hostWriteReq
  repeat' (first
    | with_reducible assumption
    | (refine fun (_ : Keeps _ _) => ?_)
    | (intro x; first | (refine Keeps.cut (s0 := s0) (x := x) ?_ ?_ <;> (first | (clear_value x; intro hx) | subst x)) | (subst x; try dsimp -zeta only))
    | with_reducible (refine poisonRx_keeps ?_)
    | with_reducible (refine serveWrite_keeps ?_)
    | with_reducible (refine route_keeps ?_ (fun w d => ?_))
    | split
    | lift_lets
    | (fail_if_no_progress with_reducible refine Keeps.mk' ?_ rfl rfl rfl rfl))

theorem execCxlmemWrite_keeps {a0 a1 a2 a3 a4} (h : Keeps s0 s) : Keeps s0 (after (execCxlmemWrite a0 a1 a2 a3 a4 s) s) := by
  delta execCxlmemWrite
  repeat' (first
    | with_reducible assumption
    | (refine fun (_ : Keeps _ _) => ?_)
    | (intro x; first | (refine Keeps.cut (s0 := s0) (x := x) ?_ ?_ <;> (first | (clear_value x; intro hx) | subst x)) | (subst x; try dsimp -zeta only))
    | with_reducible refine next_keeps ?_
    | with_reducible (refine settle_keeps ?_)
    | with_reducible (refine hostWriteReq_keeps ?_)
    | split
    | lift_lets
    | (fail_if_no_progress with_reducible refine Keeps.mk' ?_ rfl rfl rfl rfl))

theorem execCxlmemWritePartial_keeps {a0 a1 a2 a3 a4 a5} (h : Keeps s0 s) : Keeps s0 (after (execCxlmemWritePartial a0 a1 a2 a3 a4 a5 s) s) := by
  delta execCxlmemWritePartial
  repeat' (first
    | with_reducible assumption
    | (refine fun (_ : Keeps _ _) => ?_)
    | (intro x; first | (refine Keeps.cut (s0 := s0) (x := x) ?_ ?_ <;> (first | (clear_value x; intro hx) | subst x)) | (subst x; try dsimp -zeta only))
    | with_reducible refine next_keeps ?_
    | with_reducible (refine settle_keeps ?_)
    | with_reducible (refine hostWriteReq_keeps ?_)
    | split
    | lift_lets
    | (fail_if_no_progress with_reducible refine Keeps.mk' ?_ rfl rfl rfl rfl))

theorem execCxlmemSpecRead_keeps {a0 a1} (h : Keeps s0 s) : Keeps s0 (after (execCxlmemSpecRead a0 a1 s) s) := by
  delta execCxlmemSpecRead
  repeat' (first
    | with_reducible assumption
    | (refine fun (_ : Keeps _ _) => ?_)
    | (intro x; first | (refine Keeps.cut (s0 := s0) (x := x) ?_ ?_ <;> (first | (clear_value x; intro hx) | subst x)) | (subst x; try dsimp -zeta only))
    | with_reducible refine next_keeps ?_
    | split
    | lift_lets
    | (fail_if_no_progress with_reducible refine Keeps.mk' ?_ rfl rfl rfl rfl))

theorem execCxlmemMalformed_keeps {a0 a1 a2} (h : Keeps s0 s) : Keeps s0 (after (execCxlmemMalformed a0 a1 a2 s) s) := by
  delta execCxlmemMalformed
  repeat' (first
    | with_reducible assumption
    | (refine fun (_ : Keeps _ _) => ?_)
    | (intro x; first | (refine Keeps.cut (s0 := s0) (x := x) ?_ ?_ <;> (first | (clear_value x; intro hx) | subst x)) | (subst x; try dsimp -zeta only))
    | with_reducible refine next_keeps ?_
    | with_reducible (refine settle_keeps ?_)
    | with_reducible (refine report_keeps ?_)
    | with_reducible (refine respond_keeps ?_)
    | split
    | lift_lets
    | (fail_if_no_progress with_reducible refine Keeps.mk' ?_ rfl rfl rfl rfl))

theorem execHeldWriteRelease_keeps {a0 a1} (h : Keeps s0 s) : Keeps s0 (after (execHeldWriteRelease a0 a1 s) s) := by
  delta execHeldWriteRelease
  repeat' (first
    | with_reducible assumption
    | (refine fun (_ : Keeps _ _) => ?_)
    | (intro x; first | (refine Keeps.cut (s0 := s0) (x := x) ?_ ?_ <;> (first | (clear_value x; intro hx) | subst x)) | (subst x; try dsimp -zeta only))
    | with_reducible refine next_keeps ?_
    | with_reducible (refine settle_keeps ?_)
    | with_reducible (refine fillBucket_keeps ?_)
    | with_reducible (refine setWin_keeps ?_)
    | with_reducible (refine creditResume_keeps ?_)
    | with_reducible (refine writeEntry_keeps ?_)
    | with_reducible (refine releaseBuffers_keeps ?_)
    | split
    | lift_lets
    | (fail_if_no_progress with_reducible refine Keeps.mk' ?_ rfl rfl rfl rfl))

theorem enforceWin_keeps {a0} (h : Keeps s0 s) : Keeps s0 (enforceWin s a0) := by
  delta enforceWin
  repeat' (first
    | with_reducible assumption
    | (refine fun (_ : Keeps _ _) => ?_)
    | (intro x; first | (refine Keeps.cut (s0 := s0) (x := x) ?_ ?_ <;> (first | (clear_value x; intro hx) | subst x)) | (subst x; try dsimp -zeta only))
    | with_reducible (refine setWin_keeps ?_)
    | with_reducible (refine icu_keeps ?_)
    | with_reducible (refine updateRates_keeps ?_)
    | split
    | lift_lets
    | (fail_if_no_progress with_reducible refine Keeps.mk' ?_ rfl rfl rfl rfl))

theorem judgePace_keeps {a0} (h : Keeps s0 s) : Keeps s0 (judgePace s a0) := by
  delta judgePace
  repeat' (first
    | with_reducible assumption
    | (refine fun (_ : Keeps _ _) => ?_)
    | (intro x; first | (refine Keeps.cut (s0 := s0) (x := x) ?_ ?_ <;> (first | (clear_value x; intro hx) | subst x)) | (subst x; try dsimp -zeta only))
    | with_reducible (refine enforce_keeps ?_)
    | with_reducible (refine enforceWin_keeps ?_)
    | with_reducible (refine forEach_keeps ?_ fun s a hs => ?_)
    | split
    | lift_lets
    | (fail_if_no_progress with_reducible refine Keeps.mk' ?_ rfl rfl rfl rfl))

theorem execPacingGraceExpiry_keeps {a0} (h : Keeps s0 s) : Keeps s0 (after (execPacingGraceExpiry a0 s) s) := by
  delta execPacingGraceExpiry
  repeat' (first
    | with_reducible assumption
    | (refine fun (_ : Keeps _ _) => ?_)
    | (intro x; first | (refine Keeps.cut (s0 := s0) (x := x) ?_ ?_ <;> (first | (clear_value x; intro hx) | subst x)) | (subst x; try dsimp -zeta only))
    | with_reducible refine next_keeps ?_
    | with_reducible (refine settle_keeps ?_)
    | with_reducible (refine setGrp_keeps ?_)
    | with_reducible (refine setWin_keeps ?_)
    | with_reducible (refine judgePace_keeps ?_)
    | with_reducible (refine forEach_keeps ?_ fun s a hs => ?_)
    | split
    | lift_lets
    | (fail_if_no_progress with_reducible refine Keeps.mk' ?_ rfl rfl rfl rfl))

theorem execPacingAverage_keeps (h : Keeps s0 s) : Keeps s0 (after (execPacingAverage s) s) := by
  delta execPacingAverage
  repeat' (first
    | with_reducible assumption
    | (refine fun (_ : Keeps _ _) => ?_)
    | (intro x; first | (refine Keeps.cut (s0 := s0) (x := x) ?_ ?_ <;> (first | (clear_value x; intro hx) | subst x)) | (subst x; try dsimp -zeta only))
    | with_reducible refine next_keeps ?_
    | with_reducible (refine settle_keeps ?_)
    | with_reducible (refine judgePace_keeps ?_)
    | with_reducible (refine setGrp_keeps ?_)
    | with_reducible (refine setWin_keeps ?_)
    | with_reducible (refine pace_keeps ?_)
    | with_reducible (refine updateRates_keeps ?_)
    | with_reducible (refine forEach_keeps ?_ fun s a hs => ?_)
    | split
    | lift_lets
    | (fail_if_no_progress with_reducible refine Keeps.mk' ?_ rfl rfl rfl rfl))

theorem serveCxl_keeps {a0 a1 a2} (h : Keeps s0 s) : Keeps s0 (serveCxl s a0 a1 a2) := by
  delta serveCxl
  repeat' (first
    | with_reducible assumption
    | (refine fun (_ : Keeps _ _) => ?_)
    | (intro x; first | (refine Keeps.cut (s0 := s0) (x := x) ?_ ?_ <;> (first | (clear_value x; intro hx) | subst x)) | (subst x; try dsimp -zeta only))
    | with_reducible (refine mbIdentify_keeps ?_)
    | with_reducible (refine mbBackgroundStatus_keeps ?_)
    | with_reducible (refine mbGetEventRecords_keeps ?_)
    | with_reducible (refine mbClearEventRecords_keeps ?_)
    | with_reducible (refine mbGetEventPolicy_keeps ?_)
    | with_reducible (refine mbSetEventPolicy_keeps ?_)
    | with_reducible (refine mbGetFwInfo_keeps ?_)
    | with_reducible (refine mbTransferFw_keeps ?_)
    | with_reducible (refine mbActivateFw_keeps ?_)
    | with_reducible (refine mbGetTimestamp_keeps ?_)
    | with_reducible (refine mbSetTimestamp_keeps ?_)
    | with_reducible (refine mbGetSupportedLogs_keeps ?_)
    | with_reducible (refine mbGetLog_keeps ?_)
    | with_reducible (refine mbIdentifyMemory_keeps ?_)
    | with_reducible (refine mbGetHealthInfo_keeps ?_)
    | with_reducible (refine mbUnsupported_keeps ?_)
    | split
    | lift_lets
    | (fail_if_no_progress with_reducible refine Keeps.mk' ?_ rfl rfl rfl rfl))

theorem serveLow_keeps {a0 a1 a2} (h : Keeps s0 s) : Keeps s0 (serveLow s a0 a1 a2) := by
  delta serveLow
  repeat' (first
    | with_reducible assumption
    | (refine fun (_ : Keeps _ _) => ?_)
    | (intro x; first | (refine Keeps.cut (s0 := s0) (x := x) ?_ ?_ <;> (first | (clear_value x; intro hx) | subst x)) | (subst x; try dsimp -zeta only))
    | with_reducible (refine mbGetWindow_keeps ?_)
    | with_reducible (refine mbSetWindow_keeps ?_)
    | with_reducible (refine mbGetGroupConfig_keeps ?_)
    | with_reducible (refine mbSetGroupConfig_keeps ?_)
    | with_reducible (refine mbGetPacing_keeps ?_)
    | with_reducible (refine mbGetLinkCounters_keeps ?_)
    | with_reducible (refine mbTackGroups_keeps ?_)
    | with_reducible (refine mbArmSyncTack_keeps ?_)
    | with_reducible (refine mbFireSyncTack_keeps ?_)
    | with_reducible (refine mbDisarmSyncTack_keeps ?_)
    | with_reducible (refine mbGetGenerationList_keeps ?_)
    | with_reducible (refine mbPinGeneration_keeps ?_)
    | with_reducible (refine mbQuiesceGroup_keeps ?_)
    | with_reducible (refine mbUnpickGroup_keeps ?_)
    | with_reducible (refine mbReleaseGroup_keeps ?_)
    | with_reducible (refine mbSetGroupKeyMode_keeps ?_)
    | with_reducible (refine mbUnlockGroup_keeps ?_)
    | with_reducible (refine mbEraseGroup_keeps ?_)
    | with_reducible (refine mbHemNow_keeps ?_)
    | with_reducible (refine freeVal_keeps ?_)
    | with_reducible (refine mbResumeMemory_keeps ?_)
    | with_reducible (refine mbGetHemStatus_keeps ?_)
    | with_reducible (refine mbSetRestoreMode_keeps ?_)
    | with_reducible (refine mbUnsupported_keeps ?_)
    | split
    | lift_lets
    | (fail_if_no_progress with_reducible refine Keeps.mk' ?_ rfl rfl rfl rfl))

theorem serveHigh_keeps {a0 a1 a2} (h : Keeps s0 s) : Keeps s0 (serveHigh s a0 a1 a2) := by
  delta serveHigh
  repeat' (first
    | with_reducible assumption
    | (refine fun (_ : Keeps _ _) => ?_)
    | (intro x; first | (refine Keeps.cut (s0 := s0) (x := x) ?_ ?_ <;> (first | (clear_value x; intro hx) | subst x)) | (subst x; try dsimp -zeta only))
    | with_reducible (refine mbGetLogInfo_keeps ?_)
    | with_reducible (refine mbReadLog_keeps ?_)
    | with_reducible (refine mbGetSummary_keeps ?_)
    | with_reducible (refine mbFreezeLog_keeps ?_)
    | with_reducible (refine mbUnfreezeLog_keeps ?_)
    | with_reducible (refine mbClearLog_keeps ?_)
    | with_reducible (refine mbSetLogPolicy_keeps ?_)
    | with_reducible (refine mbGetUpdateStatus_keeps ?_)
    | with_reducible (refine mbConfirmUpdate_keeps ?_)
    | with_reducible (refine mbFallBack_keeps ?_)
    | with_reducible (refine mbSetOwnerLock_keeps ?_)
    | with_reducible (refine mbGetFaultStatus_keeps ?_)
    | with_reducible (refine mbTakeDump_keeps ?_)
    | with_reducible (refine mbReadDump_keeps ?_)
    | with_reducible (refine mbClearDump_keeps ?_)
    | with_reducible (refine mbClearSticky_keeps ?_)
    | with_reducible (refine mbGetBatteryStatus_keeps ?_)
    | with_reducible (refine mbRequestLearningCycle_keeps ?_)
    | with_reducible (refine mbArmShipMode_keeps ?_)
    | with_reducible (refine mbDisarmShipMode_keeps ?_)
    | with_reducible (refine mbGetThermalStatus_keeps ?_)
    | with_reducible (refine mbUnsupported_keeps ?_)
    | split
    | lift_lets
    | (fail_if_no_progress with_reducible refine Keeps.mk' ?_ rfl rfl rfl rfl))

theorem serve_keeps {a0 a1 a2} (h : Keeps s0 s) : Keeps s0 (serve s a0 a1 a2) := by
  delta serve
  repeat' (first
    | with_reducible assumption
    | (refine fun (_ : Keeps _ _) => ?_)
    | (intro x; first | (refine Keeps.cut (s0 := s0) (x := x) ?_ ?_ <;> (first | (clear_value x; intro hx) | subst x)) | (subst x; try dsimp -zeta only))
    | with_reducible (refine serveCxl_keeps ?_)
    | with_reducible (refine serveLow_keeps ?_)
    | with_reducible (refine serveHigh_keeps ?_)
    | split
    | lift_lets
    | (fail_if_no_progress with_reducible refine Keeps.mk' ?_ rfl rfl rfl rfl))

theorem execMailboxCommandServe_keeps (h : Keeps s0 s) : Keeps s0 (after (execMailboxCommandServe s) s) := by
  delta execMailboxCommandServe
  repeat' (first
    | with_reducible assumption
    | (refine fun (_ : Keeps _ _) => ?_)
    | (intro x; first | (refine Keeps.cut (s0 := s0) (x := x) ?_ ?_ <;> (first | (clear_value x; intro hx) | subst x)) | (subst x; try dsimp -zeta only))
    | with_reducible refine next_keeps ?_
    | with_reducible (refine settle_keeps ?_)
    | with_reducible (refine setLd_keeps ?_)
    | with_reducible (refine serve_keeps ?_)
    | split
    | lift_lets
    | (fail_if_no_progress with_reducible refine Keeps.mk' ?_ rfl rfl rfl rfl))

theorem tick_keeps (h : Keeps s0 s) : Keeps s0 (tick s) := by
  delta tick
  repeat' (first
    | with_reducible assumption
    | (refine fun (_ : Keeps _ _) => ?_)
    | (intro x; first | (refine Keeps.cut (s0 := s0) (x := x) ?_ ?_ <;> (first | (clear_value x; intro hx) | subst x)) | (subst x; try dsimp -zeta only))
    | with_reducible (refine wrF_keeps ?_)
    | split
    | lift_lets
    | (fail_if_no_progress with_reducible refine Keeps.mk' ?_ rfl rfl rfl rfl))

end Sys2Proof.Machine
end

