-- ==== Sys2Proof/Laws/Errors.lean ====
section
/-! SUPPORT. Errors that are detected or injected set their bit and keep the others. -/

namespace Sys2Proof.Machine

open Bits

/-- A pass that changes the state at one element only is that element's effect. -/
theorem forEach_single {α : Type} {l : List α} {s : State} {f : State → α → State} {a : α} (hl : l.Nodup) (ha : a ∈ l)
    (h : ∀ t x, x ≠ a → f t x = t) : forEach l s f = f s a := by
  unfold forEach
  induction l generalizing s with
  | nil => cases ha
  | cons x l ih =>
    rw [List.foldl_cons]
    rw [List.nodup_cons] at hl
    by_cases hx : x = a
    · subst hx
      have : ∀ t, l.foldl f t = t := by
        intro t
        have hn := hl.1
        clear ih hl ha
        induction l generalizing t with
        | nil => rfl
        | cons y l ih =>
          rw [List.foldl_cons, h t y (by rintro rfl; exact hn (by simp))]
          exact ih _ (fun hm => hn (by simp [hm]))
      exact this _
    · rw [h s x hx]
      exact ih hl.2 (by simpa [Ne.symm hx] using ha)

/-- A pass whose every step keeps the registers keeps them. -/
theorem forEach_regs {α : Type} {l : List α} {f : State → α → State} {s : State} (h : ∀ t x, (f t x).regs = t.regs) :
    (forEach l s f).regs = s.regs := by
  unfold forEach
  induction l generalizing s with
  | nil => rfl
  | cons x l ih => rw [List.foldl_cons, ih, h]

/-- Noting the reasons of windows clears no error bit. -/
theorem hasErr_noteReasons {s : State} {p b : Nat} (hw : s.memWf = true) (k : hasErr s p b = true) :
    hasErr (noteReasons s) p b = true := by
  unfold noteReasons
  dsimp only
  split
  · refine hasErr_icu (by omega) ?_ ?_
    · exact (forEach_keeps (Keeps.refl s) fun t x ht => setWin_keeps ht).mem hw
    · exact hasErr_regs (forEach_regs fun t x => rfl) k
  · exact k

/-- A register that is no ERR_STATUS counts without touching an error bit. -/
theorem hasErr_addSat {s : State} {a lo w n p b : Nat} (h : 0x100 ≤ a % 0x1000 ∨ a % 0x1000 = 40)
    (k : hasErr s p b = true) :
    hasErr (addSat s a lo w n) p b = true := hasErr_wr h k

/-- What a holder does about a lost buffer touches no register and no byte memory but DRAM's. -/
theorem bufferLost_regs {s : State} {c i : Nat} : (bufferLost s c i).regs = s.regs := by
  unfold bufferLost writeLine
  dsimp only
  repeat' split
  all_goals rfl

/-- An uncorrectable buffer clears no error bit (R312). -/
theorem hasErr_bufferUe {s : State} {k p b : Nat} (hw : s.memWf = true) (h : hasErr s p b = true) :
    hasErr (bufferUe s k) p b = true := by
  have k2 : ∀ v, hasErr (wr (freeVal s).2 Reg.poolUeLast v) p b = true := fun v => hasErr_wr (by decide) (hasErr_regs rfl h)
  have w2 : ∀ v, (wr (freeVal s).2 Reg.poolUeLast v).memWf = true := fun v =>
    (wr_keeps (Keeps.mk' (f := s.free + 1) (Keeps.refl s) rfl rfl rfl rfl)).mem hw
  unfold bufferUe
  dsimp only
  split
  · exact hasErr_report_other (w2 _) (hasErr_regs rfl (k2 _))
  · exact hasErr_regs rfl (k2 _)

/-- What follows a detected error leaves every error bit set. -/
theorem hasErr_detected {s : State} {q c p b u : Nat} (hw : s.memWf = true) (k : hasErr s p b = true) :
    hasErr (detected s q c u) p b = true := by
  have ks : hasErr (addSat s Reg.sysSramEcc 0 16 1) p b = true := hasErr_addSat (by decide) k
  have kc : hasErr (addSat s Reg.cflEcc 0 16 1) p b = true := hasErr_addSat (by decide) k
  unfold detected
  dsimp only
  repeat' split
  all_goals first
    | with_reducible exact k
    | with_reducible exact ks
    | with_reducible exact kc
    | skip
  · exact hasErr_icu (by omega) ((addSat_keeps (Keeps.refl s)).mem hw) ks
  · exact hasErr_regs bufferLost_regs (hasErr_bufferUe hw k)
  · exact hasErr_regs bufferLost_regs k
  · exact hasErr_report_other hw k
  · exact hasErr_regs rfl k
  · exact hasErr_noteReasons ((refreshGroup_keeps (Keeps.mk' (Keeps.refl s) rfl rfl rfl rfl)).mem hw) (hasErr_regs rfl k)
  · exact hasErr_noteReasons hw (hasErr_regs rfl k)

/-- A detected error sets its bit (R33, R541). -/
theorem hasErr_detect {s : State} {p b u : Nat} (h1 : isPage p = true) (h2 : classOf p b ≠ 0)
    (h3 : coreUp s = true) (hw : s.memWf = true) (hb : b < 32) : hasErr (detect s p b u) p b = true := by
  unfold detect
  rw [if_neg (by simp [h1, h2, h3])]
  exact hasErr_detected ((report_keeps (Keeps.refl s)).mem hw) (hasErr_report hw hb)

end Sys2Proof.Machine
end

