-- ==== Sys2Proof/Laws/Interrupts.lean ====
section
/-! SUPPORT. The interrupt controller's registers after one source is written, and which source arbitration takes (R414). -/

namespace Sys2Proof.Machine

open Bits

variable {s : State}

/-- The pending bit of a source after one source's was stored. -/
theorem isPending_setPending {n k : Nat} {b : Bool} (hw : s.memWf = true) :
    isPending (setPending s n b) k = if k = n then b else isPending s k := by
  unfold isPending setPending rb wrB wrF
  by_cases hr : Reg.icuPend (k / 32) = Reg.icuPend (n / 32)
  · rw [hr, rd_wr_self hw]
    have hk : k / 32 = n / 32 := by unfold Reg.icuPend at hr; omega
    by_cases h : k = n
    · subst h; rw [if_pos rfl, bit_setBit_self (by omega)]
    · rw [if_neg h, bit_setBit_ne (by omega) (by omega)]
  · rw [rd_wr_ne hr]
    have : k ≠ n := fun h => hr (by rw [h])
    rw [if_neg this]

/-- Writing a register that holds no pending bit. -/
theorem isPending_of_rd {t : State} {k : Nat} (h : rd t (Reg.icuPend (k / 32)) = rd s (Reg.icuPend (k / 32))) :
    isPending t k = isPending s k := by unfold isPending rb; rw [h]

/-- The lost counter of a source after one event of a source was lost. -/
theorem lostOf_bumpLost {n k : Nat} (hw : s.memWf = true) :
    lostOf (bumpLost s n) k = if k = n then min 255 (lostOf s n + 1) else lostOf s k := by
  unfold lostOf bumpLost addSat rf
  by_cases hr : Reg.icuLost (k / 4) = Reg.icuLost (n / 4)
  · rw [hr, rd_wr_self hw]
    have hk : k / 4 = n / 4 := by unfold Reg.icuLost at hr; omega
    by_cases h : k = n
    · subst h; rw [if_pos rfl, fld_incFld (by omega)]; omega
    · rw [if_neg h, fld_incFld_ne (by omega) (by omega)]
  · rw [rd_wr_ne hr]
    have : k ≠ n := fun h => hr (by rw [h])
    rw [if_neg this]

theorem lostOf_of_rd {t : State} {k : Nat} (h : rd t (Reg.icuLost (k / 4)) = rd s (Reg.icuLost (k / 4))) :
    lostOf t k = lostOf s k := by unfold lostOf rf; rw [h]

/-- Recording an error of the ICU leaves its block-specific registers alone. -/
theorem rd_lostErr_high {a : Nat} (ha : 0x100 ≤ a % 0x1000) (hb : a ≠ Reg.fltCorrCount) : rd (lostErr s) a = rd s a := by
  unfold lostErr
  dsimp only
  split
  · exact rd_errSet (.inr ha)
  · exact (rd_wr_ne hb).trans (rd_errSet (.inr ha))

/-- The pending list holds exactly the pending sources. -/
theorem mem_pendingList {k : Nat} : k ∈ pendingList s ↔ k < 512 ∧ isPending s k = true := by
  unfold pendingList isPending rb
  simp only [List.mem_flatMap, List.mem_range]
  constructor
  · rintro ⟨a, ha, hm⟩
    split at hm
    · cases hm
    · simp only [List.mem_filterMap, List.mem_range] at hm
      obtain ⟨b, hb, hm⟩ := hm
      split at hm
      · rename_i hbit
        cases hm
        refine ⟨by omega, ?_⟩
        rw [show (32 * a + b) / 32 = a by omega, show (32 * a + b) % 32 = b by omega]
        exact hbit
      · cases hm
  · rintro ⟨hk, hb⟩
    refine ⟨k / 32, by omega, ?_⟩
    rw [if_neg]
    · simp only [List.mem_filterMap, List.mem_range]
      refine ⟨k % 32, by omega, ?_⟩
      rw [if_pos hb]
      congr 1
      omega
    · intro h
      rw [h] at hb
      simp [bit] at hb

/-- The pending list rises. -/
theorem pendingList_sorted : (pendingList s).Pairwise (· < ·) := by
  unfold pendingList
  rw [List.pairwise_flatMap]
  refine ⟨?_, ?_⟩
  · intro a _
    dsimp only
    split
    · exact List.Pairwise.nil
    · rw [List.pairwise_filterMap]
      refine List.Pairwise.imp ?_ List.pairwise_lt_range
      intro x y hxy b hb c hc
      split at hb <;> cases hb
      split at hc <;> cases hc
      omega
  · refine List.Pairwise.imp ?_ List.pairwise_lt_range
    intro a b hab x hx y hy
    have key : ∀ c z, z ∈ (if rd s (Reg.icuPend c) = 0#32 then [] else
        (List.range 32).filterMap fun b => if bit (rd s (Reg.icuPend c)) b then some (32 * c + b) else none) → z / 32 = c := by
      intro c z hz
      split at hz
      · cases hz
      · simp only [List.mem_filterMap, List.mem_range] at hz
        obtain ⟨w, hw, hz⟩ := hz
        split at hz <;> cases hz
        omega
    have h1 := key a x hx
    have h2 := key b y hy
    omega

/-- What is least: nothing is below it, and nothing equal comes before it. -/
theorem minBy_spec {l : List Nat} {f : Nat → Nat} (hl : l.Pairwise (· < ·)) {a : Nat}
    (h : minBy (fun a b => decide (f a < f b)) l = some a) : a ∈ l ∧ ∀ b ∈ l, f a < f b ∨ f a = f b ∧ a ≤ b := by
  induction l generalizing a with
  | nil => cases h
  | cons x l ih =>
    rw [List.pairwise_cons] at hl
    unfold minBy at h
    split at h
    · rename_i hn
      cases h
      refine ⟨List.mem_cons_self .., ?_⟩
      have : l = [] := by
        cases l with
        | nil => rfl
        | cons y l => unfold minBy at hn; split at hn <;> [cases hn; (split at hn <;> cases hn)]
      subst this
      intro b hb
      cases hb with
      | head => exact .inr ⟨rfl, Nat.le_refl _⟩
      | tail _ h => cases h
    · rename_i y hy
      obtain ⟨hm, hmin⟩ := ih hl.2 hy
      split at h
      · rename_i hlt
        cases h
        simp only [decide_eq_true_eq] at hlt
        refine ⟨List.mem_cons_of_mem _ hm, ?_⟩
        intro b hb
        cases hb with
        | head => exact .inl hlt
        | tail _ hb => exact hmin b hb
      · rename_i hlt
        cases h
        simp only [decide_eq_true_eq] at hlt
        refine ⟨List.mem_cons_self .., ?_⟩
        intro b hb
        cases hb with
        | head => exact .inr ⟨rfl, Nat.le_refl _⟩
        | tail _ hb =>
          have := hmin b hb
          have := hl.1 b hb
          omega

theorem minBy_none {α : Type} {lt : α → α → Bool} {l : List α} (h : minBy lt l = none) : l = [] := by
  cases l with
  | nil => rfl
  | cons y l => unfold minBy at h; split at h <;> [cases h; (split at h <;> cases h)]

/-- The source that arbitration takes (R414): takeable, pending, and first of all such by priority and number. -/
theorem bestSource_spec {stk : List (Nat × Nat)} {a : Nat} (h : bestSource s stk = some a) :
    a < 512 ∧ isPending s a = true ∧ takeable s stk a = true ∧ ∀ b, b < 512 → isPending s b = true →
      takeable s stk b = true → prioOf s a < prioOf s b ∨ prioOf s a = prioOf s b ∧ a ≤ b := by
  have hs : ((pendingList s).filter (takeable s stk)).Pairwise (· < ·) := pendingList_sorted.filter _
  obtain ⟨hm, hmin⟩ := minBy_spec hs h
  rw [List.mem_filter, mem_pendingList] at hm
  refine ⟨hm.1.1, hm.1.2, hm.2, ?_⟩
  intro b hb hp ht
  exact hmin b (by rw [List.mem_filter, mem_pendingList]; exact ⟨⟨hb, hp⟩, ht⟩)

/-- Where arbitration takes none, no pending source can be taken. -/
theorem bestSource_none {stk : List (Nat × Nat)} :
    bestSource s stk = none ↔ ∀ b, b < 512 → isPending s b = true → takeable s stk b = false := by
  constructor
  · intro h b hb hp
    have := minBy_none h
    rw [List.filter_eq_nil_iff] at this
    have := this b (mem_pendingList.mpr ⟨hb, hp⟩)
    simpa using this
  · intro h
    have : (pendingList s).filter (takeable s stk) = [] := by
      rw [List.filter_eq_nil_iff]
      intro b hb
      obtain ⟨h1, h2⟩ := mem_pendingList.mp hb
      simp [h b h1 h2]
    unfold bestSource
    rw [this]
    rfl

/-- The one source that R414 names is the one that arbitration takes. -/
theorem bestSource_eq {stk : List (Nat × Nat)} {a : Nat} (h1 : a < 512) (h2 : isPending s a = true)
    (h3 : takeable s stk a = true) (h4 : ∀ b, b < 512 → isPending s b = true → takeable s stk b = true →
      prioOf s a < prioOf s b ∨ prioOf s a = prioOf s b ∧ a ≤ b) : bestSource s stk = some a := by
  cases h : bestSource s stk with
  | none => rw [bestSource_none] at h; rw [h a h1 h2] at h3; cases h3
  | some c =>
    obtain ⟨c1, c2, c3, c4⟩ := bestSource_spec h
    have x := c4 a h1 h2 h3
    have y := h4 c c1 c2 c3
    congr 1
    omega

/-- When a source can be taken (R414, R415). -/
theorem takeable_iff {s : State} {src : Nat} : takeable s s.icu.stack src = true ↔ isEnabled s src = true ∧
      rb s Reg.icuCfg 0 = true ∧ (∀ e rest, s.icu.stack = e :: rest → tier s (prioOf s src) < tier s e.2) ∧
      tier s (prioOf s src) < tier s (rf s Reg.icuAdmit 0 8) ∧ s.icu.stack.length < 16 ∧ prioOf s src ≠ 0xFF := by
  unfold takeable aboveTop
  cases h : s.icu.stack with
  | nil => simp; tauto
  | cons e r => simp; tauto

end Sys2Proof.Machine
end

