-- ==== Sys2Proof/WellFormed.lean ====
section
/-! DEFINITION. Which commands are well formed: every operand lies in the range its rule gives it. The meanings
answer for every command; a statement that needs a range takes it from here. -/

namespace Sys2Proof.WellFormed

/-- Logical device: 16 on each of the four ports (R179). -/
def ldOk (ld : Nat) : Bool := decide (ld < 64)

/-- Errors of a burst name devices 0 to 9 and 1 to 4 of their symbols (R253). -/
def errsOk (l : BurstErrs) : Bool := l.all fun e => decide (e.1 < 10) && decide (1 ≤ e.2) && decide (e.2 ≤ 4)

/-- A mailbox payload holds at most 2,048 bytes (R199). -/
def payloadOk (inp : List Byte) : Bool := decide (inp.length ≤ 2048)

/-- A page index of the table (R26). -/
def pageOk (p : Nat) : Bool := decide (p < 0x12) || (decide (0x20 ≤ p) && decide (p ≤ 0x60))

/-- A mailbox command: its logical device and its payload. -/
def mboxOk (ld : Nat) (inp : List Byte) : Bool := ldOk ld && payloadOk inp

/-- The source of a tack doorbell (R47). -/
def tackSrcOk : TackSrc → Bool
  | .host ld => ldOk ld
  | .mgmt => true

end Sys2Proof.WellFormed

namespace Sys2Proof

open WellFormed

/-- Whether a command is well formed. -/
def Instr.wf : Instr → Bool
  | .registerWrite _ _ _ => true
  | .mgmtUnmappedAccess _ _ => true
  | .rcRead _ _ _ => true
  | .errStatusClear page _ _ => pageOk page
  | .errInject page _ => pageOk page
  | .lockSet page _ => pageOk page
  | .powerReq page _ => pageOk page
  | .softReset page _ => pageOk page
  | .softResetTakeEffect page => pageOk page
  | .domainSwitchDone dom => decide (dom < 112)
  | .gatingCreditGain => true
  | .strobeDelayCheck ch _ => decide (ch < 32)
  | .strobeRecalibrate ch _ _ _ => decide (ch < 32)
  | .handshakeWatchdog page unit => pageOk page && decide (unit < 4096)
  | .bar0ReservedAccess ld off _ => ldOk ld && decide (off < 0x10000)
  | .tackDoorbell src _ => tackSrcOk src
  | .tackGroups ld inp => mboxOk ld inp
  | .genTackMaskGo _ => true
  | .armSyncTack ld inp => mboxOk ld inp
  | .genSyncArm _ => true
  | .disarmSyncTack ld inp => mboxOk ld inp
  | .fireSyncTack ld inp => mboxOk ld inp
  | .genSyncFire _ => true
  | .tackSyncRelease => true
  | .tackSyncFireEdge => true
  | .syncExpiry => true
  | .syncStuck => true
  | .syncLineRearm => true
  | .getGenerationList ld inp => mboxOk ld inp
  | .pinGeneration ld inp => mboxOk ld inp
  | .quiesceGroup ld inp => mboxOk ld inp
  | .quiesceDrained g => decide (g < 256)
  | .quiesceLimitExpiry g => decide (g < 256)
  | .unpickGroup ld inp => mboxOk ld inp
  | .unpickCommit g _ _ => decide (g < 256)
  | .unpickRebuildDone g => decide (g < 256)
  | .releaseGroup ld inp => mboxOk ld inp
  | .setGroupKeyMode ld inp => mboxOk ld inp
  | .unlockGroup ld inp => mboxOk ld inp
  | .eraseGroup ld inp => mboxOk ld inp
  | .genRingCfgWrite _ => true
  | .keySelftest _ => true
  | .keySelftestDone _ _ _ => true
  | .cxlmemRead ld hpa _ => ldOk ld && decide (hpa % 64 = 0)
  | .cxlmemWrite ld hpa _ data _ => ldOk ld && decide (hpa % 64 = 0) && decide (data.length = 64)
  | .cxlmemWritePartial ld hpa _ data mask _ => ldOk ld && decide (hpa % 64 = 0) && decide (data.length = 64) && decide (mask.length = 64)
  | .cxlmemSpecRead ld hpa => ldOk ld && decide (hpa % 64 = 0)
  | .cxlmemMalformed ld _ _ => ldOk ld
  | .heldWriteRelease win _ => decide (win < 4096)
  | .pacingGraceExpiry g => decide (g < 256)
  | .pacingAverage => true
  | .bastingStart g => decide (g < 256)
  | .capture c => decide (c.slice < 8)
  | .reliefStart => true
  | .reliefProgramDone _ _ => true
  | .flashProgramComplete _ _ _ => true
  | .deltaReadback g part _ _ => decide (g < 256) && decide (part.gen < 2 ^ 48)
  | .sealReadback g _ _ _ => decide (g < 256)
  | .sealRetry g => decide (g < 256)
  | .verifyPass g gen _ => decide (g < 256) && decide (gen < 2 ^ 48)
  | .verifySweep e => decide (e.pct ≤ 100)
  | .inputLoss => true
  | .siblingFault => true
  | .hemNow ld inp => mboxOk ld inp
  | .genHemCmdHem _ => true
  | .hemSealWrite => true
  | .hemSealReadback g gen _ _ => decide (g ≤ 256) && decide (gen < 2 ^ 48)
  | .keepAliveStart => true
  | .keepAliveTimeExpiry => true
  | .resumeMemory ld inp _ _ => ldOk ld && payloadOk inp
  | .genHemCmdResume _ _ _ => true
  | .getHemStatus ld inp => mboxOk ld inp
  | .setRestoreMode ld inp => mboxOk ld inp
  | .restoreStart => true
  | .restoreRebuildDone _ _ => true
  | .onTouchFetchDone swatch _ _ => decide (swatch < 2 ^ 31)
  | .restoreSweepFetch slice _ => decide (slice < 8)
  | .foldHemGeneration g gen _ => decide (g < 256) && decide (gen < 2 ^ 48)
  | .windowEntryWrite off _ => decide (off < 0x20000)
  | .groupEntryWrite off _ => decide (off < 0x4000)
  | .getWindow ld inp => mboxOk ld inp
  | .setWindow ld inp => mboxOk ld inp
  | .getGroupConfig ld inp => mboxOk ld inp
  | .setGroupConfig ld inp => mboxOk ld inp
  | .getPacing ld inp => mboxOk ld inp
  | .getLinkCounters ld inp => mboxOk ld inp
  | .identify ld inp => mboxOk ld inp
  | .backgroundOperationStatus ld inp => mboxOk ld inp
  | .getEventRecords ld inp => mboxOk ld inp
  | .clearEventRecords ld inp => mboxOk ld inp
  | .getEventInterruptPolicy ld inp => mboxOk ld inp
  | .setEventInterruptPolicy ld inp => mboxOk ld inp
  | .getFwInfo ld inp => mboxOk ld inp
  | .getTimestamp ld inp => mboxOk ld inp
  | .setTimestamp ld inp => mboxOk ld inp
  | .getSupportedLogs ld inp => mboxOk ld inp
  | .getLog ld inp => mboxOk ld inp
  | .identifyMemoryDevice ld inp => mboxOk ld inp
  | .getHealthInfo ld inp => mboxOk ld inp
  | .unsupportedOpcode ld opcode => ldOk ld && decide (opcode < 65536)
  | .mailboxDoorbell ld opcode inp => ldOk ld && decide (opcode < 65536) && payloadOk inp
  | .mailboxCommandServe => true
  | .statusMirrorRefresh => true
  | .conventionalReset port => decide (port < 4)
  | .hotReset port => decide (port < 4)
  | .linkDown port => decide (port < 4)
  | .linkUp port _ _ _ => decide (port < 4)
  | .functionLevelReset ld => ldOk ld
  | .l0pRequest port _ => decide (port < 4)
  | .ideFail port => decide (port < 4)
  | .hlPwrWrite link _ => decide (link < 2)
  | .dramAccessComplete ch _ _ errs => decide (ch < 16) && errsOk errs
  | .refreshDue ch rank => decide (ch < 16) && decide (rank < 2)
  | .refreshDebtIssue ch rank => decide (ch < 16) && decide (rank < 2)
  | .drfmIssue ch => decide (ch < 16)
  | .rfmIssue ch => decide (ch < 16)
  | .rowTrackerClear => true
  | .dramAlert ch _ _ => decide (ch < 16)
  | .alertWindowClose ch => decide (ch < 16)
  | .tsetRequest ch _ => decide (ch < 16)
  | .timingSetSwitchDone e => decide (e.ch < 16)
  | .dphFullSweep ch => decide (ch < 16)
  | .dphSlicedSweep ch => decide (ch < 16)
  | .trainingSweepDone ch _ _ _ _ _ _ => decide (ch < 16)
  | .retrainPause ch _ _ => decide (ch < 16)
  | .sweepSlice ch _ _ => decide (ch < 16)
  | .patrolScrub ch errs => decide (ch < 16) && errsOk errs
  | .dramTempRead ch _ _ => decide (ch < 16)
  | .flashMount ch _ _ _ => decide (ch < 32)
  | .flashEraseComplete _ _ => true
  | .flashReadComplete _ _ => true
  | .stuckTargetTimeout ch target => decide (ch < 32) && decide (target < 16)
  | .eraseResume ch target lun => decide (ch < 32) && decide (target < 16) && decide (lun < 8)
  | .intentPageDurable ch => decide (ch < 32)
  | .validCountRecount => true
  | .relocation target lun _ _ => decide (target < 16) && decide (lun < 8)
  | .nandTempRead ch _ target => decide (ch < 32) && decide (target < 16)
  | .poolGrant client _ => decide (client < 12)
  | .poolGrantAfterWait => true
  | .poolQuotaWrite client _ => decide (client < 12)
  | .powerUp _ _ => true
  | .railUp rail _ => decide (rail < 24)
  | .railRampTimeout rail => decide (rail < 24)
  | .railPgFall rail => decide (rail < 24)
  | .scanRead input _ _ => decide (input < 32)
  | .psqCmdOn _ => true
  | .psqCmdOff _ => true
  | .railDischarged rail _ => decide (rail < 24)
  | .dischargeTimeout rail => decide (rail < 24)
  | .minOffTimeExpiry => true
  | .inputPresent _ _ => true
  | .powerCycle => true
  | .vaoReset => true
  | .holdPgRise _ => true
  | .holdPgLimitExpiry => true
  | .holdPgFall => true
  | .psqHoldTest _ => true
  | .holdTestEnd => true
  | .psqTraceFreeze _ => true
  | .psqTraceUnfreeze _ => true
  | .traceSample input => decide (input < 32)
  | .resetStretchExpiry k => decide (k < 8)
  | .psqRstCtrlWrite _ => true
  | .trigger2Arm => true
  | .latchOpenChange _ => true
  | .vidStep _ => true
  | .batSecond => true
  | .restPauseEnd => true
  | .hibEstimatorTick _ => true
  | .batEnableTableCheck _ => true
  | .batLearnRequest _ => true
  | .getBatteryStatus ld inp => mboxOk ld inp
  | .requestLearningCycle ld inp => mboxOk ld inp
  | .armShipMode ld inp => mboxOk ld inp
  | .disarmShipMode ld inp => mboxOk ld inp
  | .diodeRead _ => true
  | .thmCheck => true
  | .getThermalStatus ld inp => mboxOk ld inp
  | .lockstepDivergence _ => true
  | .watchdogExpiry _ => true
  | .watchdogKick _ => true
  | .sramUncorrectable off => decide (off < 0x100000)
  | .cflProgramPage _ _ => true
  | .cflEraseSector _ _ => true
  | .cflBlankCheck _ _ => true
  | .cflOperationDone bank _ => decide (bank < 4)
  | .cflReadSuspend bank => decide (bank < 4)
  | .cflEraseResume bank => decide (bank < 4)
  | .icuMessage src => decide (src < 500)
  | .icuDoorbell _ => true
  | .icuEntry ctx => decide (ctx.length = 18)
  | .icuDone _ => true
  | .icuExit => true
  | .icuPendclr _ => true
  | .icuEnset _ => true
  | .icuEnclr _ => true
  | .icuPrioSet _ => true
  | .wfiSleep => true
  | .sleepWake => true
  | .thimbleWake src => decide (src < 500)
  | .operatingSecond => true
  | .tickCompare => true
  | .eventAdmission => true
  | .evrFlushTimer => true
  | .evrPageDurable _ => true
  | .evrMount _ _ => true
  | .evrFreeze _ => true
  | .evrUnfreeze _ => true
  | .evrFlush _ => true
  | .evrClear _ => true
  | .evrSummaryCmd _ _ _ => true
  | .summaryInterval _ _ => true
  | .clearLogDone => true
  | .evrFwGo _ => true
  | .getLogInfo ld inp => mboxOk ld inp
  | .readLog ld inp => mboxOk ld inp
  | .getSummary ld inp => mboxOk ld inp
  | .freezeLog ld inp => mboxOk ld inp
  | .unfreezeLog ld inp => mboxOk ld inp
  | .clearLog ld inp => mboxOk ld inp
  | .setLogPolicy ld inp => mboxOk ld inp
  | .transferFwFull ld inp => mboxOk ld inp
  | .transferFwInitiate ld inp => mboxOk ld inp
  | .transferFwContinue ld inp => mboxOk ld inp
  | .transferFwEnd ld inp => mboxOk ld inp
  | .transferFwAbort ld inp => mboxOk ld inp
  | .transferFwTimeout => true
  | .reconstruction _ => true
  | .activateFwOnline ld inp => mboxOk ld inp
  | .activateFwCold ld inp => mboxOk ld inp
  | .updActivate _ => true
  | .updHoAck _ _ _ => true
  | .handoverTimeout => true
  | .trialExpiry => true
  | .confirmUpdate ld inp => mboxOk ld inp
  | .fallBack ld inp => mboxOk ld inp
  | .fallBackDeferredRun => true
  | .setOwnerLock ld inp => mboxOk ld inp
  | .getUpdateStatus ld inp => mboxOk ld inp
  | .updCmdConfirm _ => true
  | .updCmdFallBack _ => true
  | .updCmdFail _ => true
  | .updCmdAbort _ => true
  | .updKeyRetire _ => true
  | .sb0ReadIdentity => true
  | .sb0ReadLevel => true
  | .sb0ReadTj => true
  | .sb0ReadEnergy => true
  | .sb0ReadHem => true
  | .sb0ReadEventSeq => true
  | .sb0SetWindow _ _ => true
  | .sb0ReadMirror => true
  | .sb0PowerOff _ _ => true
  | .sb0ReadResult => true
  | .sb0UnknownCommand _ => true
  | .sb0CmdDone _ => true
  | .sb0ProtocolError => true
  | .sb0Timeout => true
  | .sb0WakeStart => true
  | .sb1HoldupStatusPoll _ _ => true
  | .sb1ChargerCurrentWrite _ _ => true
  | .sb1ChargerVoltageWrite _ _ => true
  | .sb1ChargerPhaseRead _ _ => true
  | .sb1PmicPoll k _ _ => decide (k < 8)
  | .sb1PackIdRead _ _ => true
  | .sb1XferGo _ => true
  | .sb1XferDone _ _ _ => true
  | .sb1ArbLostRetry => true
  | .sb1SdaStuck => true
  | .sb1StuckRecoveryCheck _ => true
  | .errorReport page bit unit => pageOk page && decide (bit < 32) && decide (unit < 65536)
  | .handlingTimeout page unit => pageOk page && decide (unit < 4096)
  | .fltFence _ => true
  | .fltLift _ => true
  | .dumpWindowExpiry => true
  | .fltDumpTake _ => true
  | .fltDumpDone _ => true
  | .fltDumpClear _ => true
  | .fltStickyClr _ => true
  | .getFaultStatus ld inp => mboxOk ld inp
  | .takeDump ld inp => mboxOk ld inp
  | .readDump ld inp => mboxOk ld inp
  | .clearDump ld inp => mboxOk ld inp
  | .clearDumpDone => true
  | .clearSticky ld inp => mboxOk ld inp
  | .genGenCmd _ => true
  | .blockDomainPowerWrite _ _ => true
  | .hdmDecoderCommit ld _ _ _ _ _ _ _ => ldOk ld
  | .doeRequest ld _ _ => ldOk ld
  | .pllUnlock ch => decide (ch < 16)
  | .watchdogHalfTimeout => true
  | .codeFlashUncorrectable _ => true
  | .jtagReset => true
  | .vaoResetRelease strap => decide (strap < 8)

end Sys2Proof
end

