-- ==== Sys2Proof/Tests/Slice0.lean ====
section
/-! SUPPORT. Tests: a command that each check of WellFormed refuses; the worked examples of the spec and single steps; and
for every statement with hypotheses states and operands that meet those of each clause. -/

namespace Sys2Proof.Tests

open Sys2Proof Sys2Proof.Machine Sys2Proof.Bits

set_option Elab.async false

/-- The state after reset. -/
def r : State := State.reset

/-- A page enabled. -/
def en (p : Nat) (s : State) : State := wr s (ctrlA p) 1#32

/-- A powered-up, restored device at level 3 whose core pair runs, with the pages that most commands need enabled and one
bank of the buffer pool on. -/
def up : State :=
  forEach [Pg.gen, Pg.genm, Pg.key, Pg.pool, Pg.hl0, Pg.hl1, Pg.upd, Pg.fst]
    (setDom
      { r with
        psq := { r.psq with
          st := 2
          input := true
          restoreBegun := true
          level := 3
          rails := [(0, { enabled := true, up := true, pg := true }), (2, { enabled := true, up := true, pg := true })] }
        icu := { r.icu with core := .running }
        gen := { r.gen with restore := { r.gen.restore with phase := 6 } } }
      64 { st := 2 })
    fun s p => en p s

/-- A payload of `n` bytes that begins with `l`. -/
def pad (n : Nat) (l : List Byte) : List Byte := l ++ List.replicate (n - l.length) 0

/-- A logical device made the administrator. -/
def adm (ld : Nat) (s : State) : State := wr s Reg.winAdmin (wd (256 + ld))

/-- Group `g` enabled, with every logical device in its masks. -/
def withGrp (g : Nat) (v : Group) (s : State) : State :=
  setGrp (forEach [2, 3, 4, 5, 6, 7] (setGrpWord s g 0 1#32) fun s k => setGrpWord s g k 0xFFFFFFFF#32) g v

/-- Window `w` valid, of logical device `ld` and group `g`, 1 GiB at 0 of each. -/
def withWin (w ld g : Nat) (s : State) : State :=
  setWinWord (setWinWord s w 0 (wd (1 + ld * 65536 + g * 2 ^ 24))) w 2 1#32

/-- Group 255 in service with its key. -/
def grpUp (v : Group) : State := withGrp 255 { v with key := some 7, online := true } up

-- parts of a state

def onPsq (f : Psq → Psq) (s : State) : State := { s with psq := f s.psq }
def onGen (f : Gen → Gen) (s : State) : State := { s with gen := f s.gen }
def onHl (f : Hl → Hl) (s : State) : State := { s with hl := f s.hl }
def onDram (f : Dram → Dram) (s : State) : State := { s with dram := f s.dram }
def onFst (f : Fst → Fst) (s : State) : State := { s with fst := f s.fst }
def onIcu (f : Icu → Icu) (s : State) : State := { s with icu := f s.icu }
def onUpd (f : Upd → Upd) (s : State) : State := { s with upd := f s.upd }
def onEvr (f : Evr → Evr) (s : State) : State := { s with evr := f s.evr }
def onFlt (f : Flt → Flt) (s : State) : State := { s with flt := f s.flt }
def onBat (f : Bat → Bat) (s : State) : State := { s with bat := f s.bat }
def onThm (f : Thm → Thm) (s : State) : State := { s with thm := f s.thm }
def onSb (f : Sb → Sb) (s : State) : State := { s with sb := f s.sb }
def onPool (f : Pool → Pool) (s : State) : State := { s with pool := f s.pool }
def onCfl (f : Cfl → Cfl) (s : State) : State := { s with cfl := f s.cfl }
def onHem (f : Hem → Hem) : State → State := onGen fun g => { g with hem := f g.hem }
def onSync (f : Sync → Sync) : State → State := onGen fun g => { g with sync := f g.sync }
def onRest (f : Restore → Restore) : State → State := onGen fun g => { g with restore := f g.restore }
def withCh (c : Nat) (v : DCh) (s : State) : State := setDch s c v

-- states for single chapters

/-- Keep-alive is allowed: on for a minute, with a record. -/
def keepAlive (s : State) : State :=
  onBat ({ · with energy := 1000 }) (onHem ({ · with kaNonce := some (1, 0) })
    (wr (wr (wr s Reg.genHemCfg 4#32) Reg.genKaTime 60#32) Reg.genKaPower 1#32))

/-- Hemmed, with everything of the warm check as the hem left it and no channel in use. -/
def warm (s : State) : State :=
  onHem ({ · with st := 5, kaNonce := some (1, 0), railsHeld := true, resetsHeld := true
                  record := some { nonce := 1, mask := 0, chunks := [], poison := 0 } }) s

def dumpHead : List Byte := leBytes 4 0x504D5544 ++ zeros 248

/-- A dump is held, complete and with no valid entry. -/
def dumped : State :=
  let bs := dumpHead ++ leBytes 4 (crc32c dumpHead).toNat
  onCfl ({ · with mem := Sparse.setList cflBlank (Sparse.set cflBlank [] dumpBase 0#8) (dumpBase + 0x100) bs }) r

/-- A write waits for a slot of group 255. -/
def slotWait (s : State) : State :=
  onHl ({ · with waits := [{ ld := 0, tag := 0, write := true, addr := 0, win := 0, g := 255, why := .slot }] })
    (setGrp s 255 { slots := [{ n := 0, swatch := 262143, page := {} }] })

def prog : Prog := { id := 3, g := 255, gen := 1, swatch := 0, idx := 0, page := {}, use := 0 }

/-- The banks of the buffer pool on. -/
def banks : State := forEach (List.range 16) up fun s b => setDom s (64 + b) { st := 2 }

def mounted : State := wr up (Reg.fchMount 31) 1#32

/-- Flash channel 31 mounted and serving, in an open write window. -/
def fl (s : State) : State := wr (en (Pg.fch 31) (wr s (Reg.fchMount 31) 1#32)) Reg.fstWindow 1#32

def geom1 : FlashGeom :=
  { pageKib := 16, qlc := false, noSlc := false, targets := 1, luns := 1, planes := 1, blocks := 4, pages := 64, tReadUs := 50
    capacityGib := 1, ratedCycles := 3000, declaresTemp := false, spare := 0 }

/-- Source `n` pending and enabled at priority 3, with everything admitted. -/
def src (n : Nat) : State :=
  setPending (wr (wr (wr (wr up Reg.icuCfg 1#32) Reg.icuAdmit 0xFF#32) (Reg.icuEn (n / 32)) 0xFFFFFFFF#32)
    (Reg.icuPrio (n / 4)) 0x03030303#32) n true

/-- The event recorder on. -/
def rec : State := en Pg.evr (setDom up 109 { st := 2 })

/-- No update is refused. -/
def upd1 : State := adm 63 (wr (onBat ({ · with valid := true }) up) Reg.genmEnergy 0xFFFFFF#32)

/-- The first block of a transfer to slot B: a container's header. -/
def boxed : List Byte := [0#8, 2#8] ++ zeros 250 ++ leBytes 4 (crc32c (zeros 124)).toNat

def sb0 : State := en Pg.sb0 (setDom up 107 { st := 2 })
def sb1 : State := en Pg.sb1 (setDom up 108 { st := 2 })

/-- Link 1 and its quads on. -/
def lanes : State := forEach [81, 86, 87, 88, 89] up fun s k => setDom s k { st := 2 }

/-- The last bank of management SRAM on. -/
def ram : State := setDom r 104 { st := 2 }

/-- Logical device 0 reaches DPA 0 through its decoder 0, as does the host at address 0. -/
def hdm (s : State) : State :=
  setLd s 63 { hdm := [{ dec := 0, base := 0, size := 2 ^ 30, ways := 1, gran := 256, pos := 0, skip := 0 }] }

/-- Window 4095 online, in group 255, with a slot free. -/
def served (v : Group) : State :=
  let s := forEach [81, 86, 87, 88, 89] (hdm (withWin 4095 63 255 (grpUp v))) fun s k => setDom s k { st := 2 }
  let s := onDram ({ · with liningBase := 2 ^ 31 }) (onGen ({ · with slotTotal := 64 }) s)
  setPort (onHl ({ · with bif1 := true }) s) 3 { up := true, width := 5, lds := 16, flit256 := true }

/-- Channel 15 alone holds the memory. -/
def dram1 (s : State) : State := en (Pg.dch 15) (onDram ({ · with layout := [15], chBytes := 2 ^ 30 }) s)

theorem crc_read (bs : List Byte) : ofLe (leBytes 4 (crc32c bs).toNat) = (crc32c bs).toNat :=
  ofLe_leBytes.trans (Nat.mod_eq_of_lt (crc32c bs).isLt)

theorem boxed_crc : leAt (boxed.drop 128) 124 4 = (crc32c ((boxed.drop 128).take 124)).toNat := crc_read (zeros 124)

/-- A key that no entry has reads as its default. -/
theorem get_unlisted {d : Nat → Byte} {m : List (Nat × Byte)} {k : Nat} (h : ∀ e ∈ m, e.1 ≠ k) : Sparse.get d m k = d k := by
  induction m with
  | nil => rfl
  | cons e m ih =>
    rw [Sparse.get, if_neg (h e (List.mem_cons_self ..))]
    exact ih fun x hx => h x (List.mem_cons_of_mem _ hx)

theorem dumped_mem : dumped.cfl.mem = Sparse.setList cflBlank (Sparse.set cflBlank [] dumpBase 0#8) (dumpBase + 0x100)
    (dumpHead ++ leBytes 4 (crc32c dumpHead).toNat) := by
  simp only [dumped, onCfl]

theorem dumped_complete : dumpComplete dumped = true := by
  have h : cflBytes dumped (dumpBase + 0x100) 256 = dumpHead ++ leBytes 4 (crc32c dumpHead).toNat :=
    by
    have k := getList_setList (d := cflBlank) (vs := dumpHead ++ leBytes 4 (crc32c dumpHead).toNat)
      (m := Sparse.set cflBlank [] dumpBase 0#8) (k := dumpBase + 0x100) (set_wf rfl)
    rw [List.length_append, leBytes_length, show dumpHead.length = 252 by decide +kernel] at k
    simp only [cflBytes, dumped_mem]
    exact k
  have l : dumpHead.length = 252 := by decide +kernel
  have e : ∀ x : List Byte, x.length = 4 → (List.range 8).all (fun i => decide (byteAt ((dumpHead ++ x).drop (32 + 16 * i)) 0 = 0)) = true := by
    intro x _; rfl
  have c : leAt (dumpHead ++ leBytes 4 (crc32c dumpHead).toNat) 252 4 = (crc32c dumpHead).toNat := by
    unfold leAt
    rw [List.drop_left' l, List.take_of_length_le (by simp [leBytes_length])]
    exact crc_read _
  have z : leAt (dumpHead ++ leBytes 4 (crc32c dumpHead).toNat) 0 4 = 0x504D5544 := by rfl
  unfold dumpComplete
  simp only [h, c, z, List.take_left' l, decide_true, Bool.true_and]
  have e := e _ (leBytes_length (n := 4) (v := (crc32c dumpHead).toNat))
  simp only [List.all_eq_true] at e ⊢
  intro i hi
  rw [e i hi, Bool.true_or]

theorem dumped_state : dumpState dumped = 1 := by
  have b : cflIsBlank dumped dumpBase 256 = false := by
    cases h : cflIsBlank dumped dumpBase 256 with
    | false => rfl
    | true =>
      unfold cflIsBlank at h
      simp only [Bool.and_eq_true, List.all_eq_true] at h
      have g : Sparse.get cflBlank dumped.cfl.mem dumpBase = 0#8 := by
        have k := get_setList_out (d := cflBlank) (vs := dumpHead ++ leBytes 4 (crc32c dumpHead).toNat)
          (m := Sparse.set cflBlank [] dumpBase 0#8) (k := dumpBase + 0x100) (j := dumpBase) (.inl (by decide))
        rw [dumped_mem]
        exact k
      rw [get_unlisted] at g
      · exact absurd g (by decide)
      · intro x hx hk
        have := h.1 x hx
        simp [hk] at this
  unfold dumpState
  rw [if_neg (by decide), b, dumped_complete]
  rfl

/-- Where the transfer of `boxed` stands. -/
def opened : State :=
  let s := cflErase (cflErase upd1 stageBase stageSize) (slotBase true) 0
  storeBlock { s with upd := { s.upd with st := 1, staged := false, aborted := false, targetLen := 0 } } 0 (boxed.drop 128)

theorem boxed_starts : fwStart upd1 63 boxed = (opened, true) := by
  unfold fwStart
  rw [if_neg (by decide +kernel), if_neg (by decide +kernel), if_neg (by decide +kernel), if_neg (by decide +kernel),
    if_neg (by decide +kernel), if_neg (by rw [boxed_crc]; exact fun h => h.elim (by decide +kernel) fun h => h rfl), if_neg (by decide +kernel), if_neg (by decide +kernel)]
  rfl

/-- A handover record without records of its own, in management SRAM. -/
def handHead : List Byte := leBytes 4 0x4F485351 ++ zeros 56

def handed : State :=
  onUpd ({ · with st := 5 })
    { r with sram := Sparse.setList (fun _ => 0#8) [] 0xF0000 (handHead ++ leBytes 4 (crc32c handHead).toNat) }

theorem handed_ok : handoverOk handed = true := by
  have h : sramBytes handed 0xF0000 64 = handHead ++ leBytes 4 (crc32c handHead).toNat := by
    have k := getList_setList (d := fun _ => 0#8) (vs := handHead ++ leBytes 4 (crc32c handHead).toNat) (m := []) (k := 0xF0000) rfl
    rw [List.length_append, leBytes_length, show handHead.length = 60 by decide +kernel] at k
    exact k
  have l : handHead.length = 60 := by decide +kernel
  have c : leAt (handHead ++ leBytes 4 (crc32c handHead).toNat) 60 4 = (crc32c handHead).toNat := by
    unfold leAt
    rw [List.drop_left' l, List.take_of_length_le (by simp [leBytes_length])]
    exact crc_read _
  have z : leAt (handHead ++ leBytes 4 (crc32c handHead).toNat) 0 4 = 0x4F485351 := by rfl
  have n : leAt (handHead ++ leBytes 4 (crc32c handHead).toNat) 12 4 = 0 := by rfl
  have m : leAt (handHead ++ leBytes 4 (crc32c handHead).toNat) 16 4 = 0 := by rfl
  have e : sramBytes handed 0xF0040 0 = [] := rfl
  unfold handoverOk
  simp only [h, c, z, n, m, List.take_left' l, e, List.append_nil]
  decide

-- ill-formed commands, one for each check

theorem test_wf_page_low : (Instr.lockSet 0x12 0#32).wf = false := by decide
theorem test_wf_page_high : (Instr.lockSet 0x61 0#32).wf = false := by decide
theorem test_wf_page_last : (Instr.lockSet 0x60 0#32).wf = true := by decide
theorem test_wf_ld : (Instr.functionLevelReset 64).wf = false := by decide
theorem test_wf_payload : (Instr.identify 0 (List.replicate 2049 0#8)).wf = false := by decide +kernel
theorem test_wf_mbox_ld : (Instr.identify 64 []).wf = false := by decide
theorem test_wf_tack_source : (Instr.tackDoorbell (.host 64) 0#32).wf = false := by decide
theorem test_wf_opcode : (Instr.mailboxDoorbell 0 65536 []).wf = false := by decide
theorem test_wf_unit : (Instr.handshakeWatchdog 0 4096).wf = false := by decide
theorem test_wf_bit : (Instr.errorReport 0 32 0).wf = false := by decide
theorem test_wf_dram_channel : (Instr.pllUnlock 16).wf = false := by decide
theorem test_wf_flash_channel : (Instr.intentPageDurable 32).wf = false := by decide
theorem test_wf_target : (Instr.eraseResume 0 16 0).wf = false := by decide
theorem test_wf_lun : (Instr.eraseResume 0 0 8).wf = false := by decide
theorem test_wf_rank : (Instr.refreshDue 0 2).wf = false := by decide
theorem test_wf_slice : (Instr.capture ⟨8, true⟩).wf = false := by decide
theorem test_wf_domain : (Instr.domainSwitchDone 112).wf = false := by decide
theorem test_wf_rail : (Instr.railDischarged 24 0).wf = false := by decide
theorem test_wf_port : (Instr.linkDown 4).wf = false := by decide
theorem test_wf_window : (Instr.heldWriteRelease 4096 0).wf = false := by decide
theorem test_wf_group : (Instr.quiesceDrained 256).wf = false := by decide
theorem test_wf_generation : (Instr.verifyPass 0 (2 ^ 48) []).wf = false := by decide
theorem test_wf_source : (Instr.icuMessage 500).wf = false := by decide
theorem test_wf_line : (Instr.cxlmemRead 0 1 0).wf = false := by decide
theorem test_wf_data : (Instr.cxlmemWrite 0 0 0 [] false).wf = false := by decide
theorem test_wf_mask : (Instr.cxlmemWritePartial 0 0 0 (List.replicate 64 0#8) [] false).wf = false := by decide
theorem test_wf_client : (Instr.poolGrant 12 1).wf = false := by decide
theorem test_wf_reset_line : (Instr.resetStretchExpiry 8).wf = false := by decide
theorem test_wf_offset : (Instr.bar0ReservedAccess 0 0x10000 false).wf = false := by decide
theorem test_wf_swatch : (Instr.onTouchFetchDone (2 ^ 31) .retry 0).wf = false := by decide
theorem test_wf_strap : (Instr.vaoResetRelease 8).wf = false := by decide
theorem test_wf_percent : (Instr.verifySweep ⟨101, []⟩).wf = false := by decide
theorem test_wf_hem_record : (Instr.hemSealReadback 257 0 true 0).wf = false := by decide
theorem test_wf_window_offset : (Instr.windowEntryWrite 0x20000 0#32).wf = false := by decide
theorem test_wf_group_offset : (Instr.groupEntryWrite 0x4000 0#32).wf = false := by decide
theorem test_wf_device : (Instr.patrolScrub 0 [(10, 1)]).wf = false := by decide
theorem test_wf_symbols_none : (Instr.patrolScrub 0 [(9, 0)]).wf = false := by decide
theorem test_wf_symbols_many : (Instr.patrolScrub 0 [(9, 5)]).wf = false := by decide
theorem test_wf_sram_offset : (Instr.sramUncorrectable 0x100000).wf = false := by decide
theorem test_wf_bank : (Instr.cflReadSuspend 4).wf = false := by decide
theorem test_wf_context : (Instr.icuEntry (List.replicate 17 0#32)).wf = false := by decide
theorem test_wf_link : (Instr.hlPwrWrite 2 0#32).wf = false := by decide
theorem test_wf_scan_input : (Instr.traceSample 32).wf = false := by decide
theorem test_wf_error_unit : (Instr.errorReport 0 0 65536).wf = false := by decide

-- the spec's worked examples and tables, and single steps

/-- What a part of the state holds after a command. -/
def after {α : Type} (c : Instr) (s : State) (f : State → α) : Option α :=
  match exec c s with
  | .next t => some (f t)
  | _ => none

-- the check value of CRC-32C (log entry 5)
theorem test_crc32c : crc32c (leBytes 9 0x393837363534333231) = 0xE3069283#32 := by decide +kernel

-- 06, the example under R225's sets: channel 9 of 16 has failed training
theorem test_sets_of_fifteen : layoutSets ((List.range 16).filter (· != 9)) =
    [[0, 1, 2, 3, 4, 5, 6, 7], [8, 10, 11, 12], [13, 14], [15]] := by decide +kernel

-- 07, the example of a location: channel 17, target 9, LUN 1, block 0x1_2345, page 0x3A7, codeword 2
theorem test_location : (locCh 0x3A7091A2998A, blkTarget (locBlk 0x3A7091A2998A), blkLun (locBlk 0x3A7091A2998A),
    locBlk 0x3A7091A2998A / 4096, locPage 0x3A7091A2998A, 0x3A7091A2998A % 8) = (17, 9, 1, 0x12345, 0x3A7, 2) := by decide +kernel

-- 03, the budget at 3,600 J, 1,900 J and 1,000 J; 10, at 1,221 J
theorem test_budget : ([3600, 1900, 1000, 1221].map fun e => energyGib (wr r Reg.genmEnergy (wd e))) = [789, 372, 151, 206] := by
  decide +kernel

-- 14, the energy an activation needs with 200 GiB and with 210 GiB unsewn
theorem test_need : needJ (setGrp r 0 { openCount := 200 * 262144 }) = 1196 ∧
    ([200, 210].map fun n => decide (needNum (setGrp r 0 { openCount := n * 262144 }) ≤ 1221 * needDen r)) = [true, false] := by
  decide +kernel

/-- Group 3 of the unpick example (02). -/
def group3 : Group :=
  { openGen := 2012, highest := 2012, base := 2010
    gens := (List.range 9).map (fun i => { num := 2001 + i, prev := 2000 + i, st := if i = 8 then 4 else 5, pinned := i == 5 }) ++
      [{ num := 2010, prev := 2009, st := 4 }, { num := 2011, prev := 2010, st := 2 }] }

theorem test_unpick_discards : discarded group3 2004 = 7 := by decide +kernel
theorem test_unpick_keeps : ((grp (unpickDiscard (setGrp r 3 group3) 3 2004) 3).gens.map (·.num)) = [2001, 2002, 2003, 2004, 2006] := by
  decide +kernel
theorem test_unpick_opens : (grp (unpickDiscard (setGrp r 3 group3) 3 2004) 3).openGen = 2013 ∧
    (grp (unpickDiscard (setGrp r 3 group3) 3 2004) 3).lineage = 1 := by decide +kernel

-- 02, the example of tacks while generation 118 is unsewn
theorem test_tack_queued : after (.tackDoorbell .mgmt 0x22FF#32) (grpUp { gens := [{ num := 118, st := 2 }], openGen := 119 })
    (fun t => ((grp t 255).outcome, (grp t 255).tag)) = some (0x01, 0x22) := by decide +kernel
theorem test_tack_busy : after (.tackDoorbell .mgmt 0x23FF#32)
    (grpUp { gens := [{ num := 118, st := 2 }], openGen := 119, queued := some { path := .mgmt, tag := 0x22 } })
    (fun t => ((grp t 255).outcome, (grp t 255).tag)) = some (0x02, 0x23) := by decide +kernel
theorem test_tack_taken : after (.tackDoorbell .mgmt 0x22FF#32) (grpUp { openGen := 119, highest := 119 })
    (fun t => ((grp t 255).outcome, (grp t 255).openGen)) = some (0x00, 120) := by decide +kernel

-- 12, the example of a late arrival: split 5, source 60 at 0x80, source 305 at 0x20
def late : State :=
  let s := wr (wr (wr up Reg.icuCfg 0x501#32) Reg.icuAdmit 0xFF#32) (Reg.icuPrio 15) 0x80#32
  let s := wr (wr (wr s (Reg.icuPrio 76) 0x2000#32) (Reg.icuEn 1) 0xFFFFFFFF#32) (Reg.icuEn 9) 0xFFFFFFFF#32
  setPending (setPending s 60 true) 305 true

theorem test_icu_tier : (tier late 0x80, tier late 0x20, tier late 0xFF) = (4, 1, 7) := by decide +kernel
theorem test_icu_entry : after (.icuEntry []) late (fun t => (t.icu.stack, isPending t 60, isPending t 305)) =
    some ([(305, 0x20)], true, false) := by decide +kernel
theorem test_icu_lost : after (.icuMessage 305) (onIcu ({ · with stack := [(305, 0x20)] }) up) (lostOf · 305) = some 1 := by decide +kernel
theorem test_icu_done : after (.icuDone 305#32) (onIcu ({ · with stack := [(305, 0x20)] }) up) (·.icu.stack) = some [] := by decide +kernel

-- R36: a locked configuration register keeps its value, and the access is an error
theorem test_lock : after (.registerWrite (wd (0x40000000 + Reg.sysWdt)) .word 0x10064#32) (wr up (lockA Pg.sys) 1#32)
    (fun t => (rd t Reg.sysWdt == rd r Reg.sysWdt, hasErr t Pg.sys 3)) = some (true, true) := by decide +kernel
-- R22: a byte write of a register is refused
theorem test_byte_write : after (.registerWrite (wd (0x40000000 + Reg.sysWdt)) .byte 1#32) up
    (fun t => (rd t Reg.sysWdt == rd r Reg.sysWdt, hasErr t Pg.sys 3)) = some (true, true) := by decide +kernel
-- R17: a switch-off without a credit is deferred
theorem test_no_credit : after (.powerReq 0x25 0#32) (setDom up 5 { st := 2, credit := 0 }) (fun t => ((domOf t 5).st, (domOf t 5).deferred)) =
    some (2, true) := by decide +kernel
-- R34: a second error does not change ERR_FIRST
theorem test_first_error : after (.errorReport 0x25 3 0) (wr (wr up (errStatusA 0x25) 2#32) (errFirstA 0x25) 0x21#32)
    (fun t => (rd t (errFirstA 0x25), rd t (errStatusA 0x25))) = some (0x21#32, 0xA#32) := by decide +kernel
-- R414: a request reaches the front of the queue first
theorem test_queue : (match step { r with pending := [.syncLineRearm, .syncExpiry] } with
    | .next t => t.pending == [.syncExpiry]
    | _ => false) = true := by decide +kernel
-- R484: the address straps
theorem test_straps : after (.vaoResetRelease 5) (onPsq ({ · with vao := false }) r) (·.sb.strap) = some 5 := by decide +kernel
-- R223: the 64-byte line and its neighbours stay apart
theorem test_line : decodeLocal 2 0 false 64 ≠ decodeLocal 2 0 false 0 := by decide +kernel

-- witnesses: the hypotheses of every clause can be met

/-- When a source can be taken, as the statement of arbitration says it. -/
def can (s : State) (src : Nat) : Prop :=
  src < 512 ∧ isPending s src = true ∧ isEnabled s src = true ∧
    rb s Reg.icuCfg 0 = true ∧ (∀ e rest, s.icu.stack = e :: rest → tier s (prioOf s src) < tier s e.2) ∧
    tier s (prioOf s src) < tier s (rf s Reg.icuAdmit 0 8) ∧ s.icu.stack.length < 16 ∧ prioOf s src ≠ 0xFF

theorem only_499 : ∀ b < 512, isPending (src 499) b = true → b = 499 := by decide +kernel

theorem none_pending : ∀ b < 512, isPending r b = false := by decide +kernel

theorem witness_Arbitration :
    (∃ n, ∃ s : State, s.icu.core = .running ∧ can s n ∧
      (∀ b, can s b → prioOf s n < prioOf s b ∨ prioOf s n = prioOf s b ∧ n ≤ b) ∧ handlerOk (handlerAddr s n) = true) ∧
    (∃ s : State, ∀ n, ¬ can s n) ∧
    (∃ n, ∃ s : State, s.icu.core = .deepSleep ∧ coreUp s = true ∧ watched s n = true ∧ isPending s n = true) := by
  refine ⟨⟨499, src 499, rfl, ⟨by decide +kernel, by decide +kernel, by decide +kernel, by decide +kernel, ?_, by decide +kernel⟩, ?_,
    by decide +kernel⟩, ⟨r, ?_⟩, ?_⟩
  · intro e rest h
    have k : (src 499).icu.stack = [] := by decide +kernel
    rw [k] at h
    cases h
  · intro b hb
    rw [only_499 b hb.1 hb.2.1]
    exact .inr ⟨rfl, Nat.le_refl _⟩
  · intro n h
    exact absurd h.2.1 (by rw [none_pending n h.1]; decide)
  · exact ⟨499, onIcu ({ · with core := .deepSleep }) (wr (src 499) (Reg.icuThimble 15) 0x81F30000#32), by decide +kernel⟩

theorem witness_CommonPageCommands :
    (∃ page, isPage page = true) ∧
    (∃ page, ∃ val, isPage page = true ∧ bit val 1 = false) ∧
    (∃ page, ∃ s : State, isPage page = true ∧ softRefused s page = false) ∧
    (∃ page, ∃ val, ∃ s : State, s.resets = [(page, val)]) ∧
    (∃ addr : Word, ∃ val : Word, ∃ s : State, ∃ a, addr.toNat = 0x40000000 + a ∧ a ∈ [Reg.genSlicePwr, Reg.poolBankPwr, Reg.genmCacheCtrl, Reg.sysSramPwr, Reg.sysDebug] ∧ (a ≠ Reg.sysSramPwr ∨ bit val 0 = true ∨ (domOf s 100).st = 0)) ∧
    (∃ addr : Word, ∃ val : Word, ∃ s : State, addr.toNat = 0x40000000 + Reg.sysSramPwr ∧ bit val 0 = false ∧ (domOf s 100).st ≠ 0) := by
  refine ⟨?_, ?_, ?_, ?_, ?_, ?_⟩
  · exact ⟨0x60, by decide +kernel⟩
  · exact ⟨0x60, 0xFFFFFFFD#32, by decide +kernel⟩
  · exact ⟨0x60, r, by decide +kernel⟩
  · exact ⟨0x60, 1#32, { r with resets := [(0x60, 1#32)] }, by decide +kernel⟩
  · exact ⟨(wd (0x40000000 + Reg.poolBankPwr)), 0#32, r, Reg.poolBankPwr, by decide +kernel⟩
  · exact ⟨(wd (0x40000000 + Reg.sysSramPwr)), 0#32, setDom r 100 { st := 2 }, by decide +kernel⟩

theorem witness_ErrorCommands :
    (∃ page, ∃ s : State, isPage page = true ∧ s.memWf = true) ∧
    (∃ page, ∃ b, ∃ s : State, isPage page = true ∧ classOf page b ≠ 0 ∧ coreUp s = true ∧ s.memWf = true ∧ b < 32) ∧
    (∃ page, ∃ s : State, isPage page = true ∧ coreUp s = true ∧ s.memWf = true) ∧
    (∃ addr : Word, ∃ s : State, regionOf (BitVec.toNat addr) = .unmapped ∧ s.memWf = true) ∧
    (∃ addr : Word, ∃ a, (regionOf (BitVec.toNat addr) = .page a ∨ regionOf (BitVec.toNat addr) = .table a)) ∧
    (∃ page, ∃ b, ∃ s : State, isPage page = true ∧ classOf page b ≠ 0 ∧ coreUp s = true ∧ s.memWf = true ∧ b < 32 ∧ injectLocked s page = false) := by
  refine ⟨?_, ?_, ?_, ?_, ?_, ?_⟩
  · exact ⟨0x60, r, by decide +kernel⟩
  · exact ⟨0x60, 4, up, by decide +kernel⟩
  · exact ⟨0x60, up, by decide +kernel⟩
  · exact ⟨0x41050000#32, r, by decide +kernel⟩
  · exact ⟨(wd (0x40000000 + Reg.sysWdt)), Reg.sysWdt, by decide +kernel⟩
  · exact ⟨0x60, 4, up, by decide +kernel⟩

theorem witness_FaultManagerCommands :
    (∃ val : Word, fld val 24 8 = 0x46 ∧ fenceable (fld val 0 7) = true ∧ fld val 8 4 < unitsOf (fld val 0 7) ∧ bit val 16 = true) ∧
    (∃ val : Word, ∃ s : State, ∃ k, fld val 24 8 = 0x46 ∧ fenceable (fld val 0 7) = true ∧ fld val 8 4 < unitsOf (fld val 0 7) ∧ bit val 16 = false ∧ unitKey (fld val 0 7) (fld val 8 4) = k ∧ s.flt.fences = [{ page := k.1, unit := k.2, hw := false }]) ∧
    (∃ val : Word, ∃ s : State, ∃ k, fld val 24 8 = 0x46 ∧ fenceable (fld val 0 7) = true ∧ fld val 8 4 < unitsOf (fld val 0 7) ∧ bit val 16 = false ∧ unitKey (fld val 0 7) (fld val 8 4) = k ∧ s.flt.fences = [{ page := k.1, unit := k.2, hw := true }]) ∧
    (∃ s : State, s.flt.state = 3) ∧
    (∃ s : State, s.flt.state ≠ 3 ∧ canDump s = true) ∧
    (∃ s : State, ∃ k, s.flt.state ≠ 3 ∧ s.flt.dump = some k) ∧
    (∃ s : State, s.flt.erasing = false ∧ s.flt.dump = none) := by
  refine ⟨?_, ?_, ?_, ?_, ?_, ?_, ?_⟩
  · exact ⟨0x46010F0B#32, by decide +kernel⟩
  · exact ⟨0x46000040#32, onFlt ({ · with fences := [{ page := 0x40, unit := 0, hw := false }] }) r, (0x40, 0), by decide +kernel⟩
  · exact ⟨0x46000040#32, onFlt ({ · with fences := [{ page := 0x40, unit := 0, hw := true }] }) r, (0x40, 0), by decide +kernel⟩
  · exact ⟨onFlt ({ · with state := 3 }) r, by decide +kernel⟩
  · exact ⟨up, by decide +kernel⟩
  · exact ⟨onFlt ({ · with dump := some 1 }) r, 1, by decide +kernel⟩
  · exact ⟨r, by decide +kernel⟩

theorem witness_FaultMailboxCommands :
    (∃ ld, ∃ s : State, isAdmin s ld = true ∧ canDump s = true) ∧
    (∃ s : State, ∃ off, ∃ n, off % 4 = 0 ∧ 4 ≤ n ∧ n ≤ 2040 ∧ off + n ≤ dumpSize ∧ dumpState s = 1) ∧
    (∃ ld, ∃ s : State, isAdmin s ld = true ∧ s.flt.erasing = false ∧ s.flt.dump = none) ∧
    (∃ ld, ∃ s : State, isAdmin s ld = true) ∧
    (∃ ld, ∃ s : State, s.flt.erasing = true ∧ (s.hl.lds.find? fun e => e.2.bg == some 0xC063).map Prod.fst = ld) := by
  refine ⟨?_, ?_, ?_, ?_, ?_⟩
  · exact ⟨63, adm 63 up, by decide +kernel⟩
  · exact ⟨dumped, dumpSize - 2040, 2040, by decide +kernel, by decide +kernel, by decide +kernel, by decide +kernel, dumped_state⟩
  · exact ⟨63, adm 63 r, by decide +kernel⟩
  · exact ⟨63, adm 63 r, by decide +kernel⟩
  · exact ⟨some 63, setLd (onFlt ({ · with erasing := true }) r) 63 { bg := some 0xC063 }, by decide +kernel⟩

theorem witness_PowerWalkCommands :
    (∃ s : State, s.psq.vao = true ∧ s.psq.st = 0 ∧ s.psq.minOff = true ∧ s.psq.input = true ∧ onAllowed s = true) ∧
    (∃ rail, ∃ s : State, rail < 24 ∧ rail ≠ 22 ∧ (railOf s rail).enabled = true ∧ (railOf s rail).up = false ∧ (railOf s rail).failed = false) ∧
    (∃ rail, ∃ s : State, rail < 24 ∧ rail ≠ 22 ∧ (railOf s rail).enabled = true ∧ (railOf s rail).up = false ∧ (railOf s rail).failed = false) ∧
    (∃ rail, ∃ s : State, rail < 24 ∧ rail ≠ 22 ∧ (railOf s rail).enabled = true ∧ (railOf s rail).up = true) ∧
    (∃ input, ∃ s : State, coreUp s = true ∧ input < 32) ∧
    (∃ input, (input = 29 ∨ input = 30)) := by
  refine ⟨?_, ?_, ?_, ?_, ?_, ?_⟩
  · exact ⟨onPsq ({ · with input := true }) r, by decide +kernel⟩
  · exact ⟨21, setRail r 21 { enabled := true }, by decide +kernel⟩
  · exact ⟨21, setRail r 21 { enabled := true }, by decide +kernel⟩
  · exact ⟨21, setRail r 21 { enabled := true, up := true }, by decide +kernel⟩
  · exact ⟨31, up, by decide +kernel⟩
  · exact ⟨29, by decide +kernel⟩

theorem witness_SequencerCommands :
    (∃ s : State, enabled s Pg.psq = true ∧ (s.psq.st = 3 ∨ s.psq.st = 4) ∧ s.psq.shutdown = false ∧ s.psq.heldInReset = false) ∧
    (∃ s : State, enabled s Pg.psq = true) ∧
    (∃ s : State, enabled s Pg.psq = true ∧ s.psq.st = 2 ∧ s.psq.input = true ∧ hemBusy s = false ∧ s.psq.holdTest = false) ∧
    (∃ s : State, s.psq.holdTest = true) ∧
    (∃ s : State, enabled s Pg.psq = true) ∧
    (∃ s : State, enabled s Pg.psq = true) := by
  refine ⟨?_, ?_, ?_, ?_, ?_, ?_⟩
  · exact ⟨en Pg.psq (onPsq ({ · with st := 3 }) r), by decide +kernel⟩
  · exact ⟨en Pg.psq r, by decide +kernel⟩
  · exact ⟨en Pg.psq up, by decide +kernel⟩
  · exact ⟨onPsq ({ · with holdTest := true }) r, by decide +kernel⟩
  · exact ⟨en Pg.psq r, by decide +kernel⟩
  · exact ⟨en Pg.psq r, by decide +kernel⟩

theorem witness_PowerOffCommands :
    (∃ rail, ∃ s : State, (railOf s rail).discharging = true) ∧
    (∃ rail, ∃ s : State, (railOf s rail).discharging = true ∧ coreUp s = false) ∧
    (∃ rail, ∃ s : State, (railOf s rail).discharging = true ∧ coreUp s = true ∧ s.memWf = true) ∧
    (∃ s : State, s.psq.minOff = false ∧ coreUp s = false ∧ s.psq.st = 5 ∧ s.psq.onLatched = false) ∧
    (∃ s : State, s.psq.minOff = false ∧ coreUp s = false ∧ s.psq.st = 5 ∧ s.psq.onLatched = true ∧ s.psq.input = true ∧ onAllowed s = true) ∧
    (∃ s : State, s.psq.input = false ∧ s.psq.vao = true ∧ s.gen.hem.active = false ∧ s.gen.hem.st = 0 ∧ (s.psq.st = 3 ∨ s.psq.st = 4 ∨ s.psq.st = 5) ∧ onAllowed s = true) ∧
    (∃ s : State, s.psq.input = false ∧ s.psq.vao = true ∧ s.gen.hem.active = true ∧ s.psq.st = 2) ∧
    (∃ s : State, s.psq.input = false ∧ s.psq.vao = true ∧ s.gen.hem.active = false ∧ s.gen.hem.st = 4 ∧ (s.psq.st = 6 ∨ s.psq.st = 4)) ∧
    (∃ s : State, s.psq.input = false) ∧
    (∃ s : State, s.psq.vao = false) := by
  refine ⟨?_, ?_, ?_, ?_, ?_, ?_, ?_, ?_, ?_, ?_⟩
  · exact ⟨21, setRail r 21 { discharging := true }, by decide +kernel⟩
  · exact ⟨21, setRail r 21 { discharging := true }, by decide +kernel⟩
  · exact ⟨21, setRail up 21 { discharging := true }, by decide +kernel⟩
  · exact ⟨onPsq ({ · with minOff := false, st := 5 }) r, by decide +kernel⟩
  · exact ⟨onPsq ({ · with minOff := false, st := 5, onLatched := true, input := true }) r, by decide +kernel⟩
  · exact ⟨onPsq ({ · with st := 5 }) r, by decide +kernel⟩
  · exact ⟨onHem ({ · with active := true, st := 0 }) (onPsq ({ · with st := 2 }) r), by decide +kernel⟩
  · exact ⟨onHem ({ · with active := false, st := 4 }) (onPsq ({ · with st := 6 }) r), by decide +kernel⟩
  · exact ⟨r, by decide +kernel⟩
  · exact ⟨onPsq ({ · with vao := false }) r, by decide +kernel⟩

theorem witness_SupervisionCommands :
    (∃ t, ∃ s : State, s.psq.holdEn = true ∧ t ≤ rf s Reg.psqHoldCfg 0 8) ∧
    (∃ s : State, s.psq.holdEn = true ∧ (railOf s 22).pg = false) ∧
    (∃ s : State, s.psq.holdEn = true ∧ (railOf s 22).pg = true) ∧
    (∃ k, ∃ s : State, k < 8 ∧ (railOf s (6 + k)).up = true ∧ rb s Reg.psqRstCtrl k = false ∧ s.psq.heldInReset = false) ∧
    (∃ s : State, locked s Pg.psq = false) ∧
    (∃ s : State, s.psq.faultDriven = none ∧ s.psq.restoreBegun = true ∧ s.psq.armed = false) ∧
    (∃ target, ∃ s : State, coreUp s = true ∧ s.gen.hem.active = false ∧ switchingOn s = 0 ∧ s.psq.vid < max 8 (min 25 target)) ∧
    (∃ target, ∃ s : State, coreUp s = true ∧ s.gen.hem.active = false ∧ switchingOn s = 0 ∧ max 8 (min 25 target) < s.psq.vid) := by
  refine ⟨?_, ?_, ?_, ?_, ?_, ?_, ?_, ?_⟩
  · exact ⟨0, onPsq ({ · with holdEn := true }) r, by decide +kernel⟩
  · exact ⟨onPsq ({ · with holdEn := true }) r, by decide +kernel⟩
  · exact ⟨setRail (onPsq ({ · with holdEn := true }) r) 22 { pg := true }, by decide +kernel⟩
  · exact ⟨7, setRail r 13 { up := true }, by decide +kernel⟩
  · exact ⟨r, by decide +kernel⟩
  · exact ⟨up, by decide +kernel⟩
  · exact ⟨25, up, by decide +kernel⟩
  · exact ⟨8, onPsq ({ · with vid := 25 }) up, by decide +kernel⟩

theorem witness_TackCommands :
    (∃ s : State, enabled s Pg.gen = true) ∧
    (∃ ld, ∃ val : Word, ∃ s : State, enabled s (Pg.hl0 + ld / 32) = true ∧ tackOk s (fld val 0 8) ld = true) ∧
    (∃ ld, ∃ val : Word, ∃ s : State, enabled s (Pg.hl0 + ld / 32) = true ∧ tackOk s (fld val 0 8) ld = false) ∧
    (∃ val : Word, ∃ s : State, enabled s Pg.gen = true ∧ tackOutcome s (fld val 0 8) = oTAKEN) ∧
    (∃ ld, ∃ g, ∃ inp : List Byte, ∃ s : State, inp.length = 36 ∧ enabled s Pg.gen = true ∧ groupsOf (inp.take 32) = [g] ∧ byteAt inp 32 % 2 = 0 ∧ tackOk s g ld = true ∧ tackOutcome s g = oTAKEN) ∧
    (∃ ld, ∃ inp : List Byte, ∃ s : State, ∃ os, inp.length = 36 ∧ enabled s Pg.gen = true ∧ os = setOutcomes s (groupsOf (inp.take 32)) (fun g => tackOk s g ld) ∧ (os.all fun o => o.2 == oTAKEN) = true) ∧
    (∃ g, ∃ s : State, enabled s Pg.gen = true ∧ regGroups s Reg.genTackMask = [g] ∧ tackOutcome s g = oTAKEN) := by
  refine ⟨?_, ?_, ?_, ?_, ?_, ?_, ?_⟩
  · exact ⟨up, by decide +kernel⟩
  · exact ⟨63, 255#32, grpUp {}, by decide +kernel⟩
  · exact ⟨63, 255#32, up, by decide +kernel⟩
  · exact ⟨255#32, grpUp {}, by decide +kernel⟩
  · exact ⟨63, 255, pad 36 (zeros 31 ++ [128#8]), grpUp {}, by decide +kernel⟩
  · exact ⟨63, pad 36 (zeros 31 ++ [128#8]), grpUp {}, _, by decide +kernel, by decide +kernel, rfl, by decide +kernel⟩
  · exact ⟨255, wr (grpUp {}) (Reg.genTackMask 7) 0x80000000#32, by decide +kernel⟩

theorem witness_SyncCommands :
    (∃ ld, ∃ inp : List Byte, ∃ s : State, inp.length = 36 ∧ pay inp 32 2 ≠ 0 ∧ pay inp 32 2 ≤ 60000 ∧ enabled s Pg.gen = true ∧ (groupsOf (inp.take 32)).all (fun g => tackOk s g ld) = true ∧ armRefusal s (groupsOf (inp.take 32)) = none) ∧
    (∃ s : State, enabled s Pg.gen = true ∧ locked s Pg.gen = false ∧ armRefusal s (regGroups s Reg.genSyncMask) = none) ∧
    (∃ ld, ∃ s : State, enabled s Pg.gen = true ∧ anyTack s ld = true) ∧
    (∃ ld, ∃ s : State, enabled s Pg.gen = true ∧ anyTack s ld = true) ∧
    (∃ val : Word, ∃ s : State, enabled s Pg.gen = true ∧ bit val 1 = true) ∧
    (∃ s : State, s.gen.sync.armed = true ∧ s.gen.sync.stuck = false) ∧
    (∃ s : State, s.gen.sync.armed = true) ∧
    (∃ s : State, s.memWf = true) := by
  refine ⟨?_, ?_, ?_, ?_, ?_, ?_, ?_, ?_⟩
  · exact ⟨63, zeros 31 ++ [128#8, 0x60#8, 0xEA#8, 0#8, 0#8], grpUp {}, by decide +kernel⟩
  · exact ⟨wr (grpUp {}) (Reg.genSyncMask 7) 0x80000000#32, by decide +kernel⟩
  · exact ⟨63, grpUp {}, by decide +kernel⟩
  · exact ⟨63, grpUp {}, by decide +kernel⟩
  · exact ⟨2#32, up, by decide +kernel⟩
  · exact ⟨onSync ({ · with armed := true }) r, by decide +kernel⟩
  · exact ⟨onSync ({ · with armed := true }) r, by decide +kernel⟩
  · exact ⟨r, by decide +kernel⟩

theorem witness_UnpickCommands :
    (∃ ld, ∃ inp : List Byte, ∃ s : State, inp.length = 12 ∧ pay inp 2 2 ≠ 0 ∧ pay inp 2 2 ≤ 85 ∧ ldSees s ld (byteAt inp 0) = true ∧ grpEnabled s (byteAt inp 0) = true) ∧
    (∃ ld, ∃ inp : List Byte, ∃ s : State, inp.length = 12 ∧ enabled s Pg.gen = true ∧ byteAt inp 2 ≤ 1 ∧ manageOk s (byteAt inp 0) ld = true ∧ pinRefusal s (byteAt inp 0) (pay inp 4 6) (byteAt inp 2 == 1) = none) ∧
    (∃ ld, ∃ inp : List Byte, ∃ s : State, inp.length = 4 ∧ enabled s Pg.gen = true ∧ manageOk s (byteAt inp 0) ld = true ∧ groupRefusal s (byteAt inp 0) = none ∧ (grp s (byteAt inp 0)).quiesced = false ∧ (grp s (byteAt inp 0)).unpick = none) ∧
    (∃ g, ∃ s : State, (grp s g).quiesced = true ∧ (grp s g).quiesceDrained = false ∧ (s.hl.waits.any fun r => r.write && r.g == g && r.why != .quiesce) = false) ∧
    (∃ g, ∃ s : State, (grp s g).quiesced = true ∧ (grp s g).unpick = none) ∧
    (∃ ld, ∃ inp : List Byte, ∃ s : State, inp.length = 12 ∧ enabled s Pg.gen = true ∧ manageOk s (byteAt inp 0) ld = true ∧ unpickRefusal s (byteAt inp 0) (pay inp 4 6) = none) ∧
    (∃ g, ∃ loc, ∃ u, ∃ s : State, (grp s g).unpick = some u ∧ u.phase = 1 ∧ placeOk s loc 1 = true) ∧
    (∃ g, ∃ u, ∃ s : State, (grp s g).unpick = some u ∧ u.phase = 2) ∧
    (∃ ld, ∃ inp : List Byte, ∃ s : State, inp.length = 4 ∧ enabled s Pg.gen = true ∧ manageOk s (byteAt inp 0) ld = true ∧ groupRefusal s (byteAt inp 0) = none ∧ (grp s (byteAt inp 0)).quiesced = true ∧ ((grp s (byteAt inp 0)).unpick.any fun u => u.phase != 0) = false) ∧
    (∃ val : Word, ∃ s : State, ∃ b, ∃ g, rb s Reg.genGenStatus 0 = false ∧ enabled s Pg.gen = true ∧ 1 ≤ fld val 0 3 ∧ fld val 0 3 ≤ 5 ∧ b = wrB s Reg.genGenStatus 0 true ∧ g = rf s Reg.genGroupSel 0 8) := by
  refine ⟨?_, ?_, ?_, ?_, ?_, ?_, ?_, ?_, ?_, ?_⟩
  · exact ⟨63, [255#8, 0#8, 85#8] ++ zeros 9, grpUp {}, by decide +kernel⟩
  · exact ⟨63, [255#8, 0#8, 1#8, 0#8, 1#8] ++ zeros 7, grpUp { gens := [{ num := 1, st := 4 }] }, by decide +kernel⟩
  · exact ⟨63, pad 4 [255#8], grpUp {}, by decide +kernel⟩
  · exact ⟨255, grpUp { quiesced := true }, by decide +kernel⟩
  · exact ⟨255, grpUp { quiesced := true }, by decide +kernel⟩
  · exact ⟨63, [255#8, 0#8, 0#8, 0#8, 1#8] ++ zeros 7, grpUp { quiesced := true, gens := [{ num := 1, st := 4 }] }, by decide +kernel⟩
  · exact ⟨255, 2 ^ 48 + 248, { target := 1, phase := 1 }, fl (grpUp { unpick := some { target := 1, phase := 1 } }), by decide +kernel⟩
  · exact ⟨255, { target := 1, phase := 2 }, grpUp { unpick := some { target := 1, phase := 2 } }, by decide +kernel⟩
  · exact ⟨63, pad 4 [255#8], grpUp { quiesced := true }, by decide +kernel⟩
  · exact ⟨5#32, up, _, _, by decide +kernel, by decide +kernel, by decide +kernel, by decide +kernel, rfl, rfl⟩

theorem witness_KeyCommands :
    (∃ ld, ∃ inp : List Byte, ∃ s : State, ∃ k, inp.length = 68 ∧ byteAt inp 1 ≤ 1 ∧ keyOk s (byteAt inp 0) ld = true ∧ grpEnabled s (byteAt inp 0) = true ∧ keysBusy s = false ∧ keyHealthy s = true ∧ (grp s (byteAt inp 0)).key = some k ∧ (grp s (byteAt inp 0)).hostMode = false) ∧
    (∃ ld, ∃ inp : List Byte, ∃ s : State, inp.length = 36 ∧ keyOk s (byteAt inp 0) ld = true ∧ grpEnabled s (byteAt inp 0) = true ∧ keysBusy s = false ∧ keyHealthy s = true ∧ (grp s (byteAt inp 0)).hostMode = true ∧ (grp s (byteAt inp 0)).lockout = false ∧ ((grp s (byteAt inp 0)).wrapped.map (·.wrap)) = some (wrapOf ((inp.drop 4).take 32))) ∧
    (∃ ld, ∃ inp : List Byte, ∃ s : State, inp.length = 8 ∧ pay inp 4 4 = 0x45524153 ∧ keyOk s (byteAt inp 0) ld = true ∧ grpEnabled s (byteAt inp 0) = true ∧ hemActive s = false ∧ keysBusy s = false ∧ keyHealthy s = true ∧ (grp s (byteAt inp 0)).quiesced = true ∧ ((grp s (byteAt inp 0)).unpick.any fun u => u.phase != 0) = false) ∧
    (∃ val : Word, ∃ s : State, fld val 0 16 ≠ 0 ∧ locked s Pg.gen = false ∧ ((grp s (rf s Reg.genGroupSel 0 8)).gens.filter (·.pinned)).length + 1 ≤ fld val 0 16) ∧
    (∃ s : State, s.gen.selftestBusy = false ∧ enabled s Pg.key = true) ∧
    (∃ s : State, ∃ t, s.gen.selftestBusy = true ∧ s.gen.keyWaits = [] ∧ enabledGroups s = [] ∧ s.memWf = true ∧ t = wr { s with gen := { s.gen with selftestBusy := false } } Reg.keyModuleStatus 7#32) ∧
    (∃ s : State, s.gen.selftestBusy = true ∧ s.gen.keyWaits = [] ∧ enabledGroups s = [] ∧ s.memWf = true) := by
  refine ⟨?_, ?_, ?_, ?_, ?_, ?_, ?_⟩
  · exact ⟨63, pad 68 [255#8], wr (grpUp {}) Reg.keyModuleStatus 7#32, 7, by decide +kernel⟩
  · exact ⟨63, pad 36 [255#8], wr (grpUp { hostMode := true, wrapped := some { key := 7, wrap := wrapOf (zeros 32) } }) Reg.keyModuleStatus 7#32, by decide +kernel, by decide +kernel, by decide +kernel, by decide +kernel, by decide +kernel, by decide +kernel, by decide +kernel, rfl⟩
  · exact ⟨63, [255#8, 0#8, 0#8, 0#8, 0x53#8, 0x41#8, 0x52#8, 0x45#8], wr (grpUp { quiesced := true }) Reg.keyModuleStatus 7#32, by decide +kernel⟩
  · exact ⟨1#32, r, by decide +kernel⟩
  · exact ⟨up, by decide +kernel⟩
  · exact ⟨onGen ({ · with selftestBusy := true }) r, _, by decide +kernel, by decide +kernel, by decide +kernel, by decide +kernel, rfl⟩
  · exact ⟨onGen ({ · with selftestBusy := true }) r, by decide +kernel⟩

theorem witness_HemCommands :
    (∃ s : State, s.psq.input = true ∧ s.psq.st = 2 ∧ s.psq.restoreBegun = true ∧ s.gen.hem.active = false ∧ s.gen.hem.st = 0) ∧
    (∃ s : State, s.psq.armed = true ∧ rb s Reg.genHemCfg 0 = true ∧ s.psq.faultDriven = none) ∧
    (∃ s : State, (s.psq.armed = false ∨ rb s Reg.genHemCfg 0 = false ∨ s.psq.faultDriven ≠ none)) ∧
    (∃ ld, ∃ s : State, isAdmin s ld = true ∧ rb s Reg.genHemCfg 1 = true ∧ hemBusy s = false ∧ s.gen.restore.phase = 6 ∧ hemCan s = true) ∧
    (∃ s : State, hemCan s = true) ∧
    (∃ s : State, (s.gen.hem.active = true ∨ s.gen.hem.st = 5)) ∧
    (∃ s : State, s.gen.hem.active = true ∧ s.gen.hem.st = 2 ∧ (s.gen.progs.any fun p => p.use == 1) = false ∧ fchCount s ≠ 0 ∧ hemSeals s ≠ []) ∧
    (∃ s : State, s.gen.hem.active = true ∧ s.gen.hem.st = 2 ∧ (s.gen.progs.any fun p => p.use == 1) = false ∧ fchCount s ≠ 0 ∧ hemSeals s = []) ∧
    (∃ g, ∃ gen, ∃ loc, ∃ x, ∃ s : State, ∃ t, s.gen.hem.seals = [x] ∧ x.g = g ∧ x.gen = gen ∧ g ≠ 256 ∧ hemPartsDone s = true ∧ placeOk s loc 3 = true ∧ t = sewnHem (modGen (programAt s loc 3) g gen fun r => { r with locs := r.locs ++ [loc] }) g gen) ∧
    (∃ loc, ∃ s : State, s.gen.hem.recLeft = [(1, 0)] ∧ placeOk s loc 3 = true) ∧
    (∃ s : State, s.gen.hem.active = true ∧ s.gen.hem.step6 = true ∧ s.gen.hem.thenStop = false ∧ s.gen.hem.thenHold = false ∧ s.gen.hem.thenOff = false ∧ (s.gen.hem.trigger = 4 ∨ s.gen.hem.trigger = 5) ∧ s.psq.input = true) ∧
    (∃ s : State, s.gen.hem.active = true ∧ s.gen.hem.step6 = true ∧ s.gen.hem.returned = false ∧ s.psq.input = false ∧ kaAllowed s = true) ∧
    (∃ s : State, s.gen.hem.active = true ∧ s.gen.hem.step6 = true ∧ s.gen.hem.thenStop = false ∧ s.gen.hem.thenHold = false ∧ s.gen.hem.thenOff = false ∧ s.gen.hem.returned = false ∧ s.psq.input = false ∧ kaAllowed s = false) ∧
    (∃ s : State, s.gen.hem.st = 4 ∧ s.psq.st = 6) ∧
    (∃ ld, ∃ s : State, isAdmin s ld = true ∧ s.gen.hem.st = 5 ∧ warmFailed s true = 0) ∧
    (∃ ld, ∃ s : State, isAdmin s ld = true ∧ s.gen.hem.st = 5) ∧
    (∃ s : State, s.gen.hem.st = 5 ∧ warmFailed s true = 0) ∧
    (∃ s : State, s.gen.hem.st = 5) := by
  refine ⟨?_, ?_, ?_, ?_, ?_, ?_, ?_, ?_, ?_, ?_, ?_, ?_, ?_, ?_, ?_, ?_, ?_, ?_⟩
  · exact ⟨up, by decide +kernel⟩
  · exact ⟨wr (onPsq ({ · with armed := true }) r) Reg.genHemCfg 1#32, by decide +kernel⟩
  · exact ⟨r, by decide +kernel⟩
  · exact ⟨63, wr (adm 63 up) Reg.genHemCfg 2#32, by decide +kernel⟩
  · exact ⟨up, by decide +kernel⟩
  · exact ⟨onHem ({ · with st := 5 }) r, by decide +kernel⟩
  · exact ⟨onHem ({ · with active := true, st := 2 }) (fl (grpUp {})), by decide +kernel⟩
  · exact ⟨onHem ({ · with active := true, st := 2 }) (fl up), by decide +kernel⟩
  · exact ⟨255, 1, 2 ^ 48 + 248, { g := 255, gen := 1, pass := 2 }, onHem ({ · with active := true, st := 2, seals := [{ g := 255, gen := 1, pass := 2 }] }) (fl (grpUp { gens := [{ num := 1, st := 3 }] })), _, by decide +kernel, by decide +kernel, by decide +kernel, by decide +kernel, by decide +kernel, by decide +kernel, rfl⟩
  · exact ⟨2 ^ 48 + 248, onHem ({ · with active := true, st := 2, recLeft := [(1, 0)] }) (fl up), by decide +kernel⟩
  · exact ⟨onHem ({ · with active := true, step6 := true, trigger := 4 }) up, by decide +kernel⟩
  · exact ⟨keepAlive (onHem ({ · with active := true, step6 := true, trigger := 4 }) r), by decide +kernel⟩
  · exact ⟨onHem ({ · with active := true, step6 := true, trigger := 4 }) r, by decide +kernel⟩
  · exact ⟨onHem ({ · with st := 4 }) (onPsq ({ · with st := 6 }) r), by decide +kernel⟩
  · exact ⟨63, adm 63 (warm up), by decide +kernel⟩
  · exact ⟨63, onHem ({ · with st := 5 }) (adm 63 r), by decide +kernel⟩
  · exact ⟨warm up, by decide +kernel⟩
  · exact ⟨onHem ({ · with st := 5 }) r, by decide +kernel⟩

theorem witness_RestoreCommands :
    (∃ ld, ∃ inp : List Byte, ∃ s : State, inp.length = 33 ∧ isAdmin s ld = true ∧ 1 ≤ byteAt inp 32 ∧ byteAt inp 32 ≤ 8) ∧
    (∃ s : State, s.psq.st = 2 ∧ s.psq.restoreBegun = false ∧ s.dram.layout ≠ [] ∧ hemBusy s = false) ∧
    (∃ s : State, s.gen.restore.phase = 2 ∧ hemBusy s = false) ∧
    (∃ s : State, s.gen.restore.phase = 3 ∧ stillSealing s = false ∧ hemBusy s = false) ∧
    (∃ sw, ∃ w, ∃ f, ∃ s : State, (s.gen.restore.fetches.find? fun f => f.swatch == sw && f.onTouch) = some f ∧ swatchWin s sw = some w) ∧
    (∃ sl, ∃ sw, ∃ g, ∃ s : State, 4 ≤ s.gen.restore.phase ∧ hemBusy s = false ∧ nextAbsent s sl = some (sw, g)) ∧
    (∃ g, ∃ n, ∃ r, ∃ es, ∃ data : List Nat, ∃ rest : List Nat, ∃ locs, ∃ s : State, genOf (grp s g) n = some r ∧ mayFold s g r = true ∧ hemEntries s r = es ∧ locs = data ++ rest ∧ data.length = es.length ∧ rest.length = partsOf r.delta.length + 1 ∧ placesOk (data.map (fun l => (l, 0)) ++ rest.map fun l => (l, 1)) s = true) := by
  refine ⟨?_, ?_, ?_, ?_, ?_, ?_, ?_⟩
  · exact ⟨63, pad 33 (zeros 32 ++ [8#8]), adm 63 r, by decide +kernel⟩
  · exact ⟨onPsq ({ · with restoreBegun := false }) (onDram ({ · with layout := [15] }) up), by decide +kernel⟩
  · exact ⟨onRest ({ · with phase := 2 }) r, by decide +kernel⟩
  · exact ⟨onRest ({ · with phase := 3 }) r, by decide +kernel⟩
  · exact ⟨262143, 4095, { swatch := 262143, onTouch := true }, onRest ({ · with fetches := [{ swatch := 262143, onTouch := true }] }) (withWin 4095 63 255 r), by decide +kernel⟩
  · exact ⟨7, 262143, 255, setEntry (onRest ({ · with phase := 7 }) (withWin 4095 63 255 (grpUp {}))) 262143 8#4, by decide +kernel⟩
  · exact ⟨255, 1, { num := 1, st := 4, hem := true, delta := [{ idx := 262143, loc := 2 ^ 48 + 8 * (31 + 2 ^ 17), crc := 0 }] }, [{ idx := 262143, loc := 2 ^ 48 + 8 * (31 + 2 ^ 17), crc := 0 }], [248], [2 ^ 48 + 8 * (31 + 2 ^ 18), 2 ^ 48 + 8 * (31 + 2 ^ 18) + 1], _, setBlk (fl (grpUp { online := true, gens := [{ num := 1, st := 4, hem := true, delta := [{ idx := 262143, loc := 2 ^ 48 + 8 * (31 + 2 ^ 17), crc := 0 }] }] })) (31 + 2 ^ 17) { stream := 3 }, by decide +kernel, by decide +kernel, by decide +kernel, rfl, by decide +kernel, by decide +kernel, by decide +kernel⟩

theorem witness_BastingCommands :
    (∃ g, ∃ r, ∃ s : State, tackedGen (grp s g) = some r ∧ r.st = 1 ∧ noBaste s g = false ∧ hemBusy s = false ∧ enabled s Pg.genm = true) ∧
    (∃ sl, ∃ g, ∃ left, ∃ sw, ∃ rest, ∃ r, ∃ s : State, nextGroup s sl = some (g, left) ∧ mayTake s 6 16 = true ∧ captureList s sl g = sw :: rest ∧ tackedGen (grp s g) = some r) ∧
    (∃ s : State, ∃ x, s.gen.relief = none ∧ hemBusy s = false ∧ enabled s Pg.genm = true ∧ reliefSlot s = some x ∧ reliefRoom s = true) ∧
    (∃ s : State, ∃ x, s.gen.relief = none ∧ hemBusy s = false ∧ enabled s Pg.genm = true ∧ reliefSlot s = some x ∧ reliefRoom s = false) ∧
    (∃ g, ∃ x, ∃ loc, ∃ s : State, ∃ t, s.gen.relief = some (g, x) ∧ t = suspendErase s (lunOfBlk (locBlk loc)) false ∧ placeOk t loc 3 = true) ∧
    (∃ p, ∃ loc, ∃ s : State, s.gen.progs = [p] ∧ p.use = 0 ∧ hemBusy s = false ∧ placeOk s loc 0 = true) ∧
    (∃ p, ∃ loc, ∃ s : State, s.gen.progs = [p] ∧ p.use = 1 ∧ placeOk s loc 3 = true) ∧
    (∃ p, ∃ loc, ∃ s : State, s.gen.progs = [p] ∧ placeOk s loc (if p.use = 1 then 3 else 0) = true) := by
  refine ⟨?_, ?_, ?_, ?_, ?_, ?_, ?_, ?_⟩
  · exact ⟨255, { num := 1 }, fl (grpUp { gens := [{ num := 1 }] }), by decide +kernel⟩
  · exact ⟨7, 255, 256, 262143, [], { num := 1, st := 2 }, setEntry (withWin 4095 63 255 (fl (grpUp { gens := [{ num := 1, st := 2 }] }))) 262143 2#4, by decide +kernel⟩
  · exact ⟨onFst ({ · with hemSize := 1 }) (slotWait up), (255, { n := 0, swatch := 262143, page := {} }), by decide +kernel⟩
  · exact ⟨onGen ({ · with reliefPages := 2 ^ 26 }) (slotWait up), (255, { n := 0, swatch := 262143, page := {} }), by decide +kernel⟩
  · exact ⟨255, { n := 0, swatch := 262143, page := {} }, 2 ^ 48 + 248, onGen ({ · with relief := some (255, { n := 0, swatch := 262143, page := {} }) }) (fl up), _, by decide +kernel, rfl, by decide +kernel⟩
  · exact ⟨prog, 248, onGen ({ · with progs := [prog] }) (fl up), by decide +kernel⟩
  · exact ⟨{ prog with use := 1 }, 2 ^ 48 + 248, onGen ({ · with progs := [{ prog with use := 1 }] }) (fl up), by decide +kernel⟩
  · exact ⟨prog, 248, onGen ({ · with progs := [prog] }) (fl up), by decide +kernel⟩

theorem witness_SealCommands :
    (∃ g, ∃ part, ∃ loc, ∃ r, ∃ s : State, hemBusy s = false ∧ tackedGen (grp s g) = some r ∧ part < writtenParts r ∧ placeOk s loc 1 = true) ∧
    (∃ g, ∃ part, ∃ loc, ∃ r, ∃ s : State, hemBusy s = false ∧ tackedGen (grp s g) = some r ∧ part < writtenParts r ∧ placeOk s loc 1 = true) ∧
    (∃ g, ∃ n, ∃ part, ∃ loc, ∃ x, ∃ r, ∃ s : State, hemBusy s = true ∧ (s.gen.hem.seals.find? fun x => x.g == g && x.gen == n) = some x ∧ genOf (grp s g) n = some r ∧ part < r.parts ∧ placeOk s loc 3 = true) ∧
    (∃ g, ∃ loc, ∃ r, ∃ s : State, tackedGen (grp s g) = some r ∧ r.st = 3 ∧ r.sealWritten = true ∧ (grp s g).mapBad = false ∧ placeOk s loc 1 = true) ∧
    (∃ g, ∃ loc, ∃ r, ∃ s : State, ∃ t, (grp s g).recs = [r] ∧ r.kind = 4 ∧ placeOk s loc 1 = true ∧ t = programAt s loc 1) ∧
    (∃ g, ∃ ld, ∃ loc, ∃ r, ∃ s : State, ∃ t, (grp s g).recs = [r] ∧ r.kind = 3 ∧ r.arg = 1 ∧ r.ld = some ld ∧ placeOk s loc 1 = true ∧ t = modGen (setGrp (programAt s loc 1) g { grp (programAt s loc 1) g with recs := (grp (programAt s loc 1) g).recs.erase r }) g r.gen (fun x => { x with recLocs := x.recLocs ++ [loc] }) ∧ recOutcome t g r = oTAKEN) ∧
    (∃ g, ∃ loc, ∃ s : State, (grp s g).keyPending = true ∧ placeOk s loc 1 = true) ∧
    (∃ g, ∃ s : State, (grp s g).sealExhausted = true) ∧
    (∃ g, ∃ n, ∃ s : State, ((genOf (grp s g) n).any durable) = true ∧ grpLocked s g = false) ∧
    (∃ pct, ∃ s : State, rb s Reg.genmVerifyCtrl 0 = true ∧ enabled s Pg.genm = true ∧ rb s Reg.genmVerifyStatus 0 = false ∧ pct < 100) ∧
    (∃ pct, ∃ s : State, rb s Reg.genmVerifyCtrl 0 = true ∧ enabled s Pg.genm = true ∧ 100 ≤ pct) := by
  refine ⟨?_, ?_, ?_, ?_, ?_, ?_, ?_, ?_, ?_, ?_, ?_⟩
  · exact ⟨255, 0, 2 ^ 48 + 248, { num := 1, st := 3, lastPart := true, parts := 1, delta := [{ idx := 0, loc := 0, crc := 0 }] }, fl (grpUp { gens := [{ num := 1, st := 3, lastPart := true, parts := 1, delta := [{ idx := 0, loc := 0, crc := 0 }] }] }), by decide +kernel⟩
  · exact ⟨255, 0, 2 ^ 48 + 248, { num := 1, st := 3, lastPart := true, parts := 1, delta := [{ idx := 0, loc := 0, crc := 0 }] }, fl (grpUp { gens := [{ num := 1, st := 3, lastPart := true, parts := 1, delta := [{ idx := 0, loc := 0, crc := 0 }] }] }), by decide +kernel⟩
  · exact ⟨255, 1, 0, 2 ^ 48 + 248, { g := 255, gen := 1, pass := 2 }, { num := 1, st := 3, lastPart := true, parts := 1, delta := [{ idx := 0, loc := 0, crc := 0 }] }, onHem ({ · with active := true, st := 2, seals := [{ g := 255, gen := 1, pass := 2 }] }) (fl (grpUp { gens := [{ num := 1, st := 3, lastPart := true, parts := 1, delta := [{ idx := 0, loc := 0, crc := 0 }] }] })), by decide +kernel⟩
  · exact ⟨255, 2 ^ 48 + 248, { num := 1, st := 3, sealWritten := true }, fl (grpUp { gens := [{ num := 1, st := 3, sealWritten := true }] }), by decide +kernel⟩
  · exact ⟨255, 2 ^ 48 + 248, { kind := 4, gen := 1, arg := 262143 }, fl (grpUp { recs := [{ kind := 4, gen := 1, arg := 262143 }] }), _, by decide +kernel, by decide +kernel, by decide +kernel, rfl⟩
  · exact ⟨255, 63, 2 ^ 48 + 248, { kind := 3, gen := 1, arg := 1, ld := some 63 }, fl (grpUp { gens := [{ num := 1, st := 4 }], recs := [{ kind := 3, gen := 1, arg := 1, ld := some 63 }] }), _, by decide +kernel, by decide +kernel, by decide +kernel, by decide +kernel, by decide +kernel, rfl, by decide +kernel⟩
  · exact ⟨255, 2 ^ 48 + 248, fl (grpUp { keyPending := true }), by decide +kernel⟩
  · exact ⟨255, grpUp { sealExhausted := true }, by decide +kernel⟩
  · exact ⟨255, 1, grpUp { gens := [{ num := 1, st := 4 }] }, by decide +kernel⟩
  · exact ⟨99, wr up Reg.genmVerifyCtrl 1#32, by decide +kernel⟩
  · exact ⟨100, wr up Reg.genmVerifyCtrl 1#32, by decide +kernel⟩

theorem witness_MemoryRequests :
    (∃ ld, ∃ hpa, ∃ dpa, ∃ w, ∃ line, ∃ s : State, line = winDram s w dpa / 64 * 64 ∧ takes s ld false = true ∧ hdmDpa (ldOf s ld).hdm hpa = some dpa ∧ winFor s ld dpa = some w ∧ winOnline s w = true ∧ queueWaits s line false = false ∧ lineBit s (line / 4096 / 128) = false ∧ stOf s (winGroup s w) (line / 4096) ≠ .absent ∧ stOf s (winGroup s w) (line / 4096) ≠ .bad) ∧
    (∃ ld, ∃ hpa, ∃ dpa, ∃ w, ∃ line, ∃ ch, ∃ x, ∃ s : State, line = winDram s w dpa / 64 * 64 ∧ takes s ld false = true ∧ hdmDpa (ldOf s ld).hdm hpa = some dpa ∧ winFor s ld dpa = some w ∧ winOnline s w = true ∧ queueWaits s line false = false ∧ lineBit s (line / 4096 / 128) = false ∧ stOf s (winGroup s w) (line / 4096) ≠ .absent ∧ stOf s (winGroup s w) (line / 4096) ≠ .bad ∧ dramPlace s line = some (ch, x) ∧ ((subQueue (dchOf s ch) (localOf s ch x).sub).any fun e => e.write && e.line == line / 64) = true) ∧
    (∃ ld, ∃ hpa, ∃ dpa, ∃ w, ∃ line, ∃ ch, ∃ x, ∃ s : State, line = winDram s w dpa / 64 * 64 ∧ takes s ld false = true ∧ hdmDpa (ldOf s ld).hdm hpa = some dpa ∧ winFor s ld dpa = some w ∧ winOnline s w = true ∧ queueWaits s line false = false ∧ lineBit s (line / 4096 / 128) = false ∧ stOf s (winGroup s w) (line / 4096) ≠ .absent ∧ stOf s (winGroup s w) (line / 4096) ≠ .bad ∧ dramPlace s line = some (ch, x) ∧ ((subQueue (dchOf s ch) (localOf s ch x).sub).any fun e => e.write && e.line == line / 64) = false) ∧
    (∃ ld, ∃ hpa, ∃ dpa, ∃ w, ∃ line, ∃ s : State, line = winDram s w dpa / 64 * 64 ∧ takes s ld false = true ∧ hdmDpa (ldOf s ld).hdm hpa = some dpa ∧ winFor s ld dpa = some w ∧ winOnline s w = true ∧ queueWaits s line false = false ∧ lineBit s (line / 4096 / 128) = false ∧ stOf s (winGroup s w) (line / 4096) = .absent ∧ (grp s (winGroup s w)).unpick = none) ∧
    (∃ ld, ∃ hpa, ∃ poison, ∃ dpa, ∃ w, ∃ line, ∃ s : State, ∃ t : State, ∃ u, t = poisonRx s ld poison ∧ u = mapAccess (fillBucket t w) ∧ line = winDram t w dpa / 64 * 64 ∧ takes s ld true = true ∧ hdmDpa (ldOf t ld).hdm hpa = some dpa ∧ winFor t ld dpa = some w ∧ winOnline t w = true ∧ (grp t (winGroup t w)).quiesced = false ∧ winEnforced t w = false ∧ heldOf t w = 0 ∧ queueWaits t line true = false ∧ lineBit t (line / 4096 / 128) = false ∧ slotAhead t (line / 4096) = false ∧ stOf t (winGroup t w) (line / 4096) ∈ [.opened, .both, .clean]) ∧
    (∃ ld, ∃ hpa, ∃ mask : List Bool, ∃ poison, ∃ dpa, ∃ w, ∃ line, ∃ s : State, ∃ t : State, ∃ u, mask.length = 64 ∧ t = poisonRx s ld poison ∧ u = mapAccess (fillBucket t w) ∧ line = winDram t w dpa / 64 * 64 ∧ takes s ld true = true ∧ hdmDpa (ldOf t ld).hdm hpa = some dpa ∧ winFor t ld dpa = some w ∧ winOnline t w = true ∧ (grp t (winGroup t w)).quiesced = false ∧ winEnforced t w = false ∧ heldOf t w = 0 ∧ queueWaits t line true = false ∧ lineBit t (line / 4096 / 128) = false ∧ slotAhead t (line / 4096) = false ∧ stOf t (winGroup t w) (line / 4096) ∈ [.opened, .both, .clean]) ∧
    (∃ s : State, s.memWf = true) ∧
    (∃ w, ∃ r, ∃ s : State, ∃ v, v = fillBucket s w ∧ (v.hl.waits.find? fun r => r.why == .hold && r.win == w) = some r ∧ winEnforced v w = true ∧ 64 ≤ (winOf v w).bucket) ∧
    (∃ w, ∃ r, ∃ s : State, ∃ v, v = fillBucket s w ∧ (v.hl.waits.find? fun r => r.why == .hold && r.win == w) = some r ∧ winEnforced v w = false) ∧
    (∃ g, ∃ e, ∃ s : State, ∃ f : PaceReq → PaceReq, minBy (fun a b => decide (a.posted < b.posted)) (inGrace s g) = some e ∧ f = (fun r : PaceReq => if r.posted = e.posted then { r with graceOver := true } else r)) ∧
    (∃ s : State, ∃ t, ∃ u, t = forEach (Sparse.keys s.gen.groups) (forEach (Sparse.keys s.gen.groups) s judgePace) (fun s g => setGrp s g { grp s g with newBytes := shift100 (grp s g).newBytes, wrBytes := shiftMs (grp s g).wrBytes, bastBytes := shiftMs (grp s g).bastBytes, bothBytes := shiftMs (grp s g).bothBytes }) ∧ u = forEach (Sparse.keys t.hl.wins) t (fun s w => setWin s w { winOf s w with wr := shiftMs (winOf s w).wr })) := by
  refine ⟨?_, ?_, ?_, ?_, ?_, ?_, ?_, ?_, ?_, ?_, ?_⟩
  · exact ⟨63, 0x3FFFFFFF, 0x3FFFFFFF, 4095, _, served {}, rfl, by decide +kernel, by decide +kernel, by decide +kernel, by decide +kernel, by decide +kernel, by decide +kernel, by decide +kernel, by decide +kernel⟩
  · exact ⟨63, 0x3FFFFFFF, 0x3FFFFFFF, 4095, _, 15, 0x3FFFFFC0, withCh 15 { qa := [{ line := 0xFFFFFF, write := true, cls := 6 }], qb := [{ line := 0xFFFFFF, write := true, cls := 6 }] } (dram1 (served {})), rfl, by decide +kernel, by decide +kernel, by decide +kernel, by decide +kernel, by decide +kernel, by decide +kernel, by decide +kernel, by decide +kernel, by decide +kernel, by decide +kernel⟩
  · exact ⟨63, 0x3FFFFFFF, 0x3FFFFFFF, 4095, _, 15, 0x3FFFFFC0, dram1 (served {}), rfl, by decide +kernel, by decide +kernel, by decide +kernel, by decide +kernel, by decide +kernel, by decide +kernel, by decide +kernel, by decide +kernel, by decide +kernel, by decide +kernel⟩
  · exact ⟨63, 0x3FFFFFFF, 0x3FFFFFFF, 4095, _, setEntry (served {}) 262143 8#4, rfl, by decide +kernel, by decide +kernel, by decide +kernel, by decide +kernel, by decide +kernel, by decide +kernel, by decide +kernel, by decide +kernel⟩
  · exact ⟨63, 0x3FFFFFFF, true, 0x3FFFFFFF, 4095, _, served {}, _, _, rfl, rfl, rfl, by decide +kernel, by decide +kernel, by decide +kernel, by decide +kernel, by decide +kernel, by decide +kernel, by decide +kernel, by decide +kernel, by decide +kernel, by decide +kernel, by decide +kernel⟩
  · exact ⟨63, 0x3FFFFFFF, List.replicate 64 true, true, 0x3FFFFFFF, 4095, _, served {}, _, _, by decide +kernel, rfl, rfl, rfl, by decide +kernel, by decide +kernel, by decide +kernel, by decide +kernel, by decide +kernel, by decide +kernel, by decide +kernel, by decide +kernel, by decide +kernel, by decide +kernel, by decide +kernel⟩
  · exact ⟨r, by decide +kernel⟩
  · exact ⟨4095, { ld := 63, tag := 0, write := true, addr := 0, win := 4095, g := 255, why := .hold }, onHl ({ · with waits := [{ ld := 63, tag := 0, write := true, addr := 0, win := 4095, g := 255, why := .hold }] }) (setWin r 4095 { disturb := some { reason := 5, posted := 0, target := 1, enforced := true } }), _, rfl, by decide +kernel, by decide +kernel, by decide +kernel⟩
  · exact ⟨4095, { ld := 63, tag := 0, write := true, addr := 0, win := 4095, g := 255, why := .hold }, onHl ({ · with waits := [{ ld := 63, tag := 0, write := true, addr := 0, win := 4095, g := 255, why := .hold }] }) r, _, rfl, by decide +kernel, by decide +kernel⟩
  · exact ⟨255, { reason := 1, posted := 0, target := 1 }, grpUp { pacing := [{ reason := 1, posted := 0, target := 1 }] }, _, by decide +kernel, rfl⟩
  · exact ⟨served {}, _, _, rfl, rfl⟩

theorem witness_DramCommands :
    (∃ ch, ∃ sub, ∃ aged, ∃ q, ∃ s : State, (if sub = true then (dchOf s ch).replayB else (dchOf s ch).replayA) = [] ∧ nextAccess (dchOf s ch) sub aged = some q ∧ q.rmw = false ∧ q.write = true) ∧
    (∃ ch, ∃ sub, ∃ aged, ∃ errs, ∃ q, ∃ s : State, (if sub = true then (dchOf s ch).replayB else (dchOf s ch).replayA) = [] ∧ nextAccess (dchOf s ch) sub aged = some q ∧ q.rmw = false ∧ q.write = false ∧ eccOutcome s ch (placeOf s ch q.line) errs = .clean) ∧
    (∃ ch, ∃ sub, ∃ aged, ∃ errs, ∃ dev, ∃ q, ∃ s : State, (if sub = true then (dchOf s ch).replayB else (dchOf s ch).replayA) = [] ∧ nextAccess (dchOf s ch) sub aged = some q ∧ q.rmw = false ∧ q.write = false ∧ eccOutcome s ch (placeOf s ch q.line) errs = .corrected dev) ∧
    (∃ ch, ∃ sub, ∃ aged, ∃ errs, ∃ q, ∃ s : State, (if sub = true then (dchOf s ch).replayB else (dchOf s ch).replayA) = [] ∧ nextAccess (dchOf s ch) sub aged = some q ∧ q.rmw = false ∧ q.write = false ∧ eccOutcome s ch (placeOf s ch q.line) errs = .uncorrectable) ∧
    (∃ ch, ∃ sub, ∃ aged, ∃ q, ∃ s : State, (if sub = true then (dchOf s ch).replayB else (dchOf s ch).replayA) = [] ∧ nextAccess (dchOf s ch) sub aged = some q ∧ q.rmw = true) ∧
    (∃ ch, ∃ sub, ∃ s : State, (if sub = true then (dchOf s ch).replayB else (dchOf s ch).replayA) ≠ []) ∧
    (∃ ch, ∃ rank, ∃ s : State, noRefresh s ch = false ∧ rank < 2 ∧ deadlineBusy s ch rank = false) ∧
    (∃ ch, ∃ rank, ∃ s : State, noRefresh s ch = false ∧ rank < 2 ∧ deadlineBusy s ch rank = true ∧ rb s (Reg.dchRefreshCtrl ch) 0 = false) ∧
    (∃ ch, ∃ rank, ∃ s : State, noRefresh s ch = false ∧ rank < 2 ∧ deadlineBusy s ch rank = true ∧ rb s (Reg.dchRefreshCtrl ch) 0 = true ∧ debt s ch rank < 4) ∧
    (∃ ch, ∃ rank, ∃ s : State, noRefresh s ch = false ∧ rank < 2 ∧ deadlineBusy s ch rank = true ∧ rb s (Reg.dchRefreshCtrl ch) 0 = true ∧ 4 ≤ debt s ch rank) ∧
    (∃ ch, ∃ rank, ∃ s : State, noRefresh s ch = false ∧ rank < 2 ∧ deadlineBusy s ch rank = false) ∧
    (∃ ch, ∃ b, ∃ row, ∃ rest, ∃ s : State, (dchOf s ch).drfm = (b, row) :: rest) ∧
    (∃ ch, ∃ b, ∃ n, ∃ s : State, minBy (fun a b => decide (b.2 < a.2)) (dchOf s ch).raa = some (b, n) ∧ (dchOf s ch).rfm ≠ 0 ∧ (dchOf s ch).rfm ≤ n) ∧
    (∃ s : State, ∃ t : State, t = forEach (Sparse.keys s.dram.chs) s (fun s c => setDch s c { dchOf s c with track := [] })) ∧
    (∃ ch, ∃ s : State, ((dchOf s ch).alertOpen = true → rf s (Reg.dchReplayStatus ch) 16 2 < 2) ∧ s.memWf = true ∧ ch < 16) ∧
    (∃ ch, ∃ s : State, (dchOf s ch).alertOpen = true ∧ 2 ≤ rf s (Reg.dchReplayStatus ch) 16 2 ∧ s.memWf = true ∧ ch < 16) ∧
    (∃ ch, ∃ late, ∃ s : State, ∃ t, rb s (Reg.dchTsetCtrl ch) 4 = true ∧ t = ((dchOf s ch).target || ((dchOf s ch).redirect && !late))) := by
  refine ⟨?_, ?_, ?_, ?_, ?_, ?_, ?_, ?_, ?_, ?_, ?_, ?_, ?_, ?_, ?_, ?_, ?_⟩
  · exact ⟨15, false, true, { line := 5, write := true, cls := 4 }, withCh 15 { qa := [{ line := 5, write := true, cls := 4 }] } r, by decide +kernel⟩
  · exact ⟨15, false, true, [(9, 0)], { line := 5, write := false, cls := 4 }, withCh 15 { qa := [{ line := 5, write := false, cls := 4 }] } r, by decide +kernel⟩
  · exact ⟨15, false, true, [(9, 1)], 9, { line := 5, write := false, cls := 4 }, withCh 15 { qa := [{ line := 5, write := false, cls := 4 }] } r, by decide +kernel⟩
  · exact ⟨15, false, true, [(9, 1), (8, 1)], { line := 5, write := false, cls := 4 }, withCh 15 { qa := [{ line := 5, write := false, cls := 4 }] } r, by decide +kernel⟩
  · exact ⟨15, false, true, { line := 5, write := true, cls := 4, rmw := true }, withCh 15 { qa := [{ line := 5, write := true, cls := 4, rmw := true }] } r, by decide +kernel⟩
  · exact ⟨15, true, withCh 15 { replayB := [(5, true)] } r, by decide +kernel⟩
  · exact ⟨15, 1, withCh 15 { trained := true } r, by decide +kernel⟩
  · exact ⟨15, 0, wr (withCh 15 { trained := true, qa := [{ line := 5, write := true, cls := 4 }], qb := [{ line := 5, write := true, cls := 4 }] } r) (Reg.dchRefreshCtrl 15) 0#32, by decide +kernel⟩
  · exact ⟨15, 0, wr (withCh 15 { trained := true, qa := [{ line := 5, write := true, cls := 4 }], qb := [{ line := 5, write := true, cls := 4 }] } r) (Reg.dchRefreshCtrl 15) 1#32, by decide +kernel⟩
  · exact ⟨15, 0, setDebt (wr (withCh 15 { trained := true, qa := [{ line := 5, write := true, cls := 4 }], qb := [{ line := 5, write := true, cls := 4 }] } r) (Reg.dchRefreshCtrl 15) 1#32) 15 0 4, by decide +kernel⟩
  · exact ⟨15, 1, withCh 15 { trained := true } r, by decide +kernel⟩
  · exact ⟨15, 31, 5, [], withCh 15 { drfm := [(31, 5)] } r, by decide +kernel⟩
  · exact ⟨15, 31, 64, withCh 15 { rfm := 64, raa := [(31, 64)] } r, by decide +kernel⟩
  · exact ⟨withCh 15 { track := [(31, [])] } r, _, rfl⟩
  · exact ⟨15, r, by decide +kernel⟩
  · exact ⟨15, withCh 15 { alertOpen := true } (wr r (Reg.dchReplayStatus 15) 0x20000#32), by decide +kernel⟩
  · exact ⟨15, false, wr r (Reg.dchTsetCtrl 15) 16#32, _, by decide +kernel, rfl⟩

theorem witness_TrainingCommands :
    (∃ ch, ∃ s : State, (chFenced s ch || s.dram.layout.isEmpty) = true) ∧
    (∃ ch, ∃ s : State, (chFenced s ch || s.dram.layout.isEmpty) = false) ∧
    (∃ ch, ∃ s : State, (dchOf s ch).sliced = false ∧ (dchOf s ch).sweeping = false ∧ (dchOf s ch).trained = true ∧ s.memWf = true) ∧
    (∃ ch, ∃ a0, ∃ b0, ∃ a1, ∃ b1, ∃ s : State, (dchOf s ch).sweeping = true ∧ marginOk a0 = true ∧ marginOk b0 = true ∧ marginOk a1 = true ∧ marginOk b1 = true) ∧
    (∃ ch, ∃ fail, ∃ s : State, (dchOf s ch).sweeping = true ∧ fail ≠ 0 ∧ s.memWf = true) ∧
    (∃ ch, ∃ sub, ∃ drift, ∃ s : State, ∃ u, (dchOf s ch).trained = true ∧ u = raiseTo (adjustLanes (addWrap s (Reg.dchRetrainCount ch) 0 32 1) ch sub) (Reg.dphDrift ch) 0 8 drift) ∧
    (∃ ch, ∃ s : State, (dchOf s ch).sliced = true ∧ hemBusy s = false ∧ (s.gen.map.any fun e => e.2 == 8#4) = false ∧ s.gen.lineBits = [] ∧ rf (addSat s (Reg.dphTrainStatus ch) 16 8 1) (Reg.dphTrainStatus ch) 16 8 < 128) ∧
    (∃ ch, ∃ a0, ∃ b0, ∃ s : State, (dchOf s ch).sliced = true ∧ hemBusy s = false ∧ (s.gen.map.any fun e => e.2 == 8#4) = false ∧ s.gen.lineBits = [] ∧ marginOk a0 = true ∧ marginOk b0 = true) ∧
    (∃ ch, ∃ a0, ∃ b0, ∃ s : State, (dchOf s ch).sliced = true ∧ hemBusy s = false ∧ (s.gen.map.any fun e => e.2 == 8#4) = false ∧ s.gen.lineBits = [] ∧ (marginOk a0 && marginOk b0) = false ∧ s.memWf = true) ∧
    (∃ s : State, s.memWf = true) ∧
    (∃ ch, ∃ a, ∃ errs, ∃ s : State, rb s (Reg.dchScrubCfg ch) 0 = true ∧ dchServes s ch = true ∧ dramAddr s ch (64 * (dchOf s ch).scrubAt) = some a ∧ eccOutcome (activate s ch (localOf s ch (64 * (dchOf s ch).scrubAt)) none) ch (localOf s ch (64 * (dchOf s ch).scrubAt)) errs = .clean) ∧
    (∃ ch, ∃ a, ∃ errs, ∃ dev, ∃ s : State, rb s (Reg.dchScrubCfg ch) 0 = true ∧ dchServes s ch = true ∧ dramAddr s ch (64 * (dchOf s ch).scrubAt) = some a ∧ eccOutcome (activate s ch (localOf s ch (64 * (dchOf s ch).scrubAt)) none) ch (localOf s ch (64 * (dchOf s ch).scrubAt)) errs = .corrected dev) ∧
    (∃ ch, ∃ a, ∃ errs, ∃ s : State, rb s (Reg.dchScrubCfg ch) 0 = true ∧ dchServes s ch = true ∧ dramAddr s ch (64 * (dchOf s ch).scrubAt) = some a ∧ eccOutcome (activate s ch (localOf s ch (64 * (dchOf s ch).scrubAt)) none) ch (localOf s ch (64 * (dchOf s ch).scrubAt)) errs = .uncorrectable) := by
  refine ⟨?_, ?_, ?_, ?_, ?_, ?_, ?_, ?_, ?_, ?_, ?_, ?_, ?_⟩
  · exact ⟨15, r, by decide +kernel⟩
  · exact ⟨15, onDram ({ · with layout := [15] }) r, by decide +kernel⟩
  · exact ⟨15, withCh 15 { trained := true } r, by decide +kernel⟩
  · exact ⟨15, 0x1E1E0C0C#32, 0x1E1E0C0C#32, 0x1E1E0C0C#32, 0x1E1E0C0C#32, withCh 15 { sweeping := true } r, by decide +kernel⟩
  · exact ⟨15, 1, withCh 15 { sweeping := true } r, by decide +kernel⟩
  · exact ⟨15, true, 5, withCh 15 { trained := true } r, _, by decide +kernel, rfl⟩
  · exact ⟨15, withCh 15 { sliced := true } r, by decide +kernel⟩
  · exact ⟨15, 0x1E1E0C0C#32, 0x1E1E0C0C#32, withCh 15 { sliced := true } r, by decide +kernel⟩
  · exact ⟨15, 0x1E1E0C0C#32, 0x1E1E0C0B#32, withCh 15 { sliced := true } r, by decide +kernel⟩
  · exact ⟨r, by decide +kernel⟩
  · exact ⟨15, 2 ^ 30 - 64, [], withCh 15 { scrubAt := 2 ^ 24 - 1 } (onDram ({ · with layout := [15], chBytes := 2 ^ 30 }) (wr r (Reg.dchScrubCfg 15) 1#32)), by decide +kernel⟩
  · exact ⟨15, 2 ^ 30 - 64, [(9, 1)], 9, withCh 15 { scrubAt := 2 ^ 24 - 1 } (onDram ({ · with layout := [15], chBytes := 2 ^ 30 }) (wr r (Reg.dchScrubCfg 15) 1#32)), by decide +kernel⟩
  · exact ⟨15, 2 ^ 30 - 64, [(9, 1), (8, 1)], withCh 15 { scrubAt := 2 ^ 24 - 1 } (onDram ({ · with layout := [15], chBytes := 2 ^ 30 }) (wr r (Reg.dchScrubCfg 15) 1#32)), by decide +kernel⟩

theorem witness_PoolCommands :
    (∃ k, ∃ n, ∃ s : State, k < 12 ∧ n ≠ 0 ∧ mayTake s k (if k = 10 then 2 * n else n) = true ∧ (s.pool.waits.any fun e => e.1 == k) = false) ∧
    (∃ k, ∃ n, ∃ m, ∃ s : State, k < 12 ∧ n ≠ 0 ∧ m = (if k = 10 then 2 * n else n) ∧ (mayTake s k m = false ∨ (s.pool.waits.any fun e => e.1 == k) = true) ∧ (clientOf s k).held + m ≤ maxOf s k) ∧
    (∃ k, ∃ n, ∃ m, ∃ s : State, k < 12 ∧ n ≠ 0 ∧ m = (if k = 10 then 2 * n else n) ∧ maxOf s k < (clientOf s k).held + m) ∧
    (∃ k, ∃ n, ∃ s : State, s.pool.waits = [(k, n)] ∧ grantOrder.contains k = true ∧ mayTake s k n = true) ∧
    (∃ k, ∃ val : Word, ∃ s : State, k < 12 ∧ quotaOk s k (val &&& 0x7FFF7FFF#32) = true ∧ locked s Pg.pool = false) ∧
    (∃ k, ∃ val : Word, ∃ s : State, k < 12 ∧ (quotaOk s k (val &&& 0x7FFF7FFF#32) = false ∨ (locked s Pg.pool = true ∧ rd s (Reg.poolQ k) ≠ val &&& 0x7FFF7FFF#32)) ∧ s.memWf = true) := by
  refine ⟨?_, ?_, ?_, ?_, ?_, ?_⟩
  · exact ⟨11, 1, up, by decide +kernel⟩
  · exact ⟨11, 1, _, r, by decide +kernel, by decide +kernel, rfl, by decide +kernel, by decide +kernel⟩
  · exact ⟨11, 65536, _, r, by decide +kernel, by decide +kernel, rfl, by decide +kernel⟩
  · exact ⟨11, 1, onPool ({ · with waits := [(11, 1)] }) up, by decide +kernel⟩
  · exact ⟨11, rd r (Reg.poolQ 11), r, by decide +kernel⟩
  · exact ⟨11, 0#32, r, by decide +kernel⟩

theorem witness_FlashCommands :
    (∃ ch, ∃ s : State, coreUp s = true ∧ ch < 32 ∧ enabled s (Pg.fch ch) = true ∧ enabled s Pg.fst = true ∧ fchFenced s ch = false ∧ railPresent s (18 + ch / 8) = true ∧ (rb s (Reg.fchMount ch) 0 = false ∨ s.fst.remount.contains ch = true)) ∧
    (∃ blk, ∃ s : State, (lunOf s (lunOfBlk blk)).op = 2 ∧ (lunOf s (lunOfBlk blk)).blk = blk ∧ Sparse.wf (fun _ => {}) s.fst.blocks = true) ∧
    (∃ blk, ∃ s : State, (lunOf s (lunOfBlk blk)).op = 2 ∧ (lunOf s (lunOfBlk blk)).blk = blk) ∧
    (∃ loc, ∃ res : LadderResult, ∃ s : State, fchReady s (locCh loc) = true ∧ res ≠ .uncorrectable) ∧
    (∃ loc, ∃ c, ∃ s : State, fchReady s (locCh loc) = true ∧ ((ladder s loc .uncorrectable).gen.cw.find? fun e => e.1 == loc) = some (loc, c)) ∧
    (∃ ch, ∃ t, ∃ s : State, fchServes s ch = true ∧ t < (fgeom s).targets ∧ rb s (Reg.fchMount ch) (16 + t) = false ∧ (fchOf (resetTarget s ch t) ch).stuckOnce.contains t = false) ∧
    (∃ ch, ∃ t, ∃ s : State, fchServes s ch = true ∧ t < (fgeom s).targets ∧ rb s (Reg.fchMount ch) (16 + t) = false ∧ (fchOf (resetTarget s ch t) ch).stuckOnce.contains t = true) ∧
    (∃ ch, ∃ t, ∃ l, ∃ s : State, (lunOf s (lunKey ch t l)).op = 3 ∧ (lunOf s (lunKey ch t l)).forHem = false ∧ fetchesAt s (lunKey ch t l) = false) ∧
    (∃ ch, ∃ s : State, fchServes s ch = true) ∧
    (∃ s : State, restored s = true ∧ recounted s = false) ∧
    (∃ t, ∃ l, ∃ b, ∃ locs : List Nat, ∃ n, ∃ s : State, n = b * 128 + l * 16 + t ∧ windowOpen s = true ∧ hemBusy s = false ∧ restored s = true ∧ (candidate s).map Prod.snd = some n ∧ (affectedGens s n).all (fun e => durable e.2) = true ∧ locs.length = (copied s n).length + ((affectedGens s n).map fun e => partsOf e.2.delta.length + partsOf e.2.ckptDelta.length + 1).sum ∧ placesOk (locs.map fun l => (l, 2)) s = true) ∧
    (∃ ch, ∃ d, ∃ s : State, ch < 32 ∧ 30 < d ∧ rb s (Reg.fchMount ch) 0 = true) ∧
    (∃ ch, ∃ s : State, (fchOf s ch).recal = true) ∧
    (∃ ch, ∃ s : State, (fchOf s ch).recal = true) := by
  refine ⟨?_, ?_, ?_, ?_, ?_, ?_, ?_, ?_, ?_, ?_, ?_, ?_, ?_, ?_⟩
  · exact ⟨31, setRail (en (Pg.fch 31) up) 21 { enabled := true, up := true, pg := true }, by decide +kernel⟩
  · exact ⟨0, setLun r 0 { op := 2 }, by decide +kernel⟩
  · exact ⟨0, setLun r 0 { op := 2 }, by decide +kernel⟩
  · exact ⟨248, .retry, fl up, by decide +kernel⟩
  · exact ⟨248, { g := 255, key := 7, idx := 0, gen := 1, page := {} }, onGen ({ · with cw := [(248, { g := 255, key := 7, idx := 0, gen := 1, page := {} })] }) (fl up), by decide +kernel⟩
  · exact ⟨31, 15, onFst ({ · with geom := some { geom1 with targets := 16 } }) (fl up), by decide +kernel⟩
  · exact ⟨31, 15, setFch (onFst ({ · with geom := some { geom1 with targets := 16 } }) (fl up)) 31 { stuckOnce := [15] }, by decide +kernel⟩
  · exact ⟨31, 15, 7, setLun r (lunKey 31 15 7) { op := 3 }, by decide +kernel⟩
  · exact ⟨31, fl up, by decide +kernel⟩
  · exact ⟨up, by decide +kernel⟩
  · exact ⟨15, 7, 3, [], _, onFst ({ · with cands := [(1, 3 * 128 + 7 * 16 + 15)] }) (fl up), rfl, by decide +kernel, by decide +kernel, by decide +kernel, by decide +kernel, by decide +kernel, by decide +kernel, by decide +kernel⟩
  · exact ⟨31, 31, wr r (Reg.fchMount 31) 1#32, by decide +kernel⟩
  · exact ⟨31, setFch r 31 { recal := true }, by decide +kernel⟩
  · exact ⟨31, setFch r 31 { recal := true }, by decide +kernel⟩

theorem witness_BatteryCommands :
    (∃ s : State, ∃ a, ∃ b, ∃ c, ∃ d, ∃ e, coreUp s = true ∧ a = { integrate s 1 with bat := { (integrate s 1).bat with socV := socFromVoltage (integrate s 1) } } ∧ b = extreme (extreme a 13 (lowestCell a).1 false) 14 (highestCell a) true ∧ c = (if restDue b = true then restEnd b else b) ∧ d = restAge (restCount (noteTemp c) 1) 1 ∧ e = spanAge (spanSecond (if restDue d = true then restEnd d else d))) ∧
    (∃ s : State, s.bat.pause = true ∧ restDue s = false) ∧
    (∃ s : State, s.bat.pause = true ∧ restDue s = true) ∧
    (∃ secs, ∃ s : State, ∃ t, coreUp s = false ∧ s.psq.vao = true ∧ t = recomputeEnergy (restAge (restCount (integrate s secs) secs) secs)) ∧
    (∃ val : Word, bit val 0 = true) ∧
    (∃ val : Word, ∃ s : State, bit val 0 = true ∧ 3900 ≤ fld val 16 13 ∧ fld val 16 13 ≤ 4150 ∧ locked s Pg.bat = false) ∧
    (∃ ld, ∃ s : State, isAdmin s ld = true ∧ hemBusy s = false ∧ restoring s = false) ∧
    (∃ ld, ∃ s : State, isAdmin s ld = true ∧ (hemBusy s = true ∨ restoring s = true)) ∧
    (∃ s : State, s.bat.ship = true) ∧
    (∃ s : State, s.bat.ship = false) := by
  refine ⟨?_, ?_, ?_, ?_, ?_, ?_, ?_, ?_, ?_, ?_⟩
  · exact ⟨up, _, _, _, _, _, by decide +kernel, rfl, rfl, rfl, rfl, rfl⟩
  · exact ⟨onBat ({ · with pause := true }) r, by decide +kernel⟩
  · exact ⟨onBat ({ · with pause := true, restFor := 1800 }) r, by decide +kernel⟩
  · exact ⟨3600, r, _, by decide +kernel, by decide +kernel, rfl⟩
  · exact ⟨1#32, by decide +kernel⟩
  · exact ⟨0x10360001#32, r, by decide +kernel⟩
  · exact ⟨63, adm 63 up, by decide +kernel⟩
  · exact ⟨63, onHem ({ · with active := true }) (adm 63 r), by decide +kernel⟩
  · exact ⟨onBat ({ · with ship := true }) r, by decide +kernel⟩
  · exact ⟨r, by decide +kernel⟩

theorem witness_InterruptCommands :
    (∃ val : Word, ∃ s : State, fld val 0 9 < 500 ∧ (496 ≤ fld val 0 9 ∨ injectLocked s Pg.icu = false)) ∧
    (∃ src, ∃ s : State, s.memWf = true ∧ s.icu.core = .running ∧ bestSource s s.icu.stack = some src ∧ handlerOk (handlerAddr s src) = true) ∧
    (∃ val : Word, ∃ p, ∃ rest, ∃ s : State, s.icu.stack = (fld val 0 9, p) :: rest ∧ fld val 0 9 < 500) ∧
    (∃ rest, ∃ s : State, s.icu.live = none :: rest ∧ bestSource s s.icu.stack = none) ∧
    (∃ val : Word, fld val 0 9 < 500) ∧
    (∃ val : Word, ∃ s : State, fld val 0 9 < 500 ∧ locked s Pg.icu = false) ∧
    (∃ val : Word, ∃ s : State, 0 < fld val 0 9 ∧ fld val 0 9 < 500 ∧ locked s Pg.icu = false) ∧
    (∃ val : Word, ∃ s : State, 0 < fld val 0 9 ∧ fld val 0 9 < 500 ∧ locked s Pg.icu = false) ∧
    (∃ s : State, s.icu.core = .running ∧ rb s Reg.sysSleepCfg 0 = false ∧ bestSource s s.icu.stack = none) ∧
    (∃ src, ∃ s : State, s.icu.core = .lightSleep ∧ bestSource s s.icu.stack = some src) ∧
    (∃ src, ∃ s : State, s.icu.core = .deepSleep ∧ coreUp s = true ∧ watched s src = true ∧ isPending s src = true) := by
  refine ⟨?_, ?_, ?_, ?_, ?_, ?_, ?_, ?_, ?_, ?_, ?_⟩
  · exact ⟨499#32, r, by decide +kernel⟩
  · exact ⟨499, src 499, by decide +kernel⟩
  · exact ⟨499#32, 3, [], onIcu ({ · with stack := [(499, 3)] }) r, by decide +kernel⟩
  · exact ⟨[], onIcu ({ · with live := [none] }) r, by decide +kernel⟩
  · exact ⟨499#32, by decide +kernel⟩
  · exact ⟨499#32, r, by decide +kernel⟩
  · exact ⟨499#32, r, by decide +kernel⟩
  · exact ⟨499#32, r, by decide +kernel⟩
  · exact ⟨wr up Reg.sysSleepCfg 0#32, by decide +kernel⟩
  · exact ⟨499, onIcu ({ · with core := .lightSleep }) (src 499), by decide +kernel⟩
  · exact ⟨499, onIcu ({ · with core := .deepSleep }) (wr (src 499) (Reg.icuThimble 15) 0x81F30000#32), by decide +kernel⟩

theorem witness_SystemCommands :
    (∃ s : State, (s.icu.core = .running ∨ s.icu.core = .lightSleep)) ∧
    (∃ s : State, (s.icu.core = .running ∨ s.icu.core = .lightSleep) ∧ rb s Reg.sysWdt 16 = true) ∧
    (∃ val : Word, fld val 16 16 = 0x574B) ∧
    (∃ s : State, (s.icu.core = .running ∨ s.icu.core = .lightSleep) ∧ rb s Reg.sysWdt 16 = true) ∧
    (∃ s : State, coreUp s = true ∧ s.icu.core ≠ .down) ∧
    (∃ s : State, coreUp s = true ∧ s.memWf = true) ∧
    (∃ s : State, s.memWf = true) ∧
    (∃ s : State, coreUp s = true ∧ rb s Reg.sysTimerCmp 16 = true ∧ rf s Reg.sysTimerCmp 0 15 = ticks s) ∧
    (∃ s : State, coreUp s = true ∧ s.memWf = true) := by
  refine ⟨?_, ?_, ?_, ?_, ?_, ?_, ?_, ?_, ?_⟩
  · exact ⟨up, by decide +kernel⟩
  · exact ⟨wr up Reg.sysWdt 0x10001#32, by decide +kernel⟩
  · exact ⟨0x574B0000#32, by decide +kernel⟩
  · exact ⟨wr up Reg.sysWdt 0x10001#32, by decide +kernel⟩
  · exact ⟨up, by decide +kernel⟩
  · exact ⟨up, by decide +kernel⟩
  · exact ⟨r, by decide +kernel⟩
  · exact ⟨wr up Reg.sysTimerCmp 0x10000#32, by decide +kernel⟩
  · exact ⟨up, by decide +kernel⟩

theorem witness_CodeFlashCommands :
    (∃ s : State, flashReady s 1 = true) ∧
    (∃ s : State, flashReady s 2 = true) ∧
    (∃ s : State, flashReady s 3 = true) ∧
    (∃ bank, ∃ o, ∃ s : State, cflOp s bank = some o ∧ o.req = .fw ∧ o.kind = 2) ∧
    (∃ bank, ∃ o, ∃ s : State, cflOp s bank = some o ∧ o.req = .fw ∧ o.kind = 1 ∧ cflBytes (cflProgram (setCflOp s bank none) o.addr (cflBuf s)) o.addr 256 = cflBuf s) ∧
    (∃ bank, ∃ o, ∃ s : State, cflOp s bank = some o ∧ o.kind = 2 ∧ o.suspended = false ∧ o.suspensions < 64) ∧
    (∃ bank, ∃ o, ∃ s : State, cflOp s bank = some o) := by
  refine ⟨?_, ?_, ?_, ?_, ?_, ?_, ?_⟩
  · exact ⟨wr (wr r Reg.cflAddr 0x02000100#32) Reg.cflProtect 0#32, by decide +kernel⟩
  · exact ⟨wr (wr r Reg.cflAddr 0x03001000#32) Reg.cflProtect 0#32, by decide +kernel⟩
  · exact ⟨wr r Reg.cflAddr 0x03001000#32, by decide +kernel⟩
  · exact ⟨3, { kind := 2, req := .fw, addr := 3 * 2 ^ 24 }, setCflOp r 3 (some { kind := 2, req := .fw, addr := 3 * 2 ^ 24 }), by decide +kernel⟩
  · exact ⟨2, { kind := 1, req := .fw, addr := 2 * 2 ^ 24 }, setCflOp r 2 (some { kind := 1, req := .fw, addr := 2 * 2 ^ 24 }), by decide +kernel⟩
  · exact ⟨3, { kind := 2, req := .fw, addr := 3 * 2 ^ 24 }, setCflOp r 3 (some { kind := 2, req := .fw, addr := 3 * 2 ^ 24 }), by decide +kernel⟩
  · exact ⟨3, { kind := 1, req := .fw, addr := 3 * 2 ^ 24 }, setCflOp r 3 (some { kind := 1, req := .fw, addr := 3 * 2 ^ 24 }), by decide +kernel⟩

theorem witness_ThermalCommands :
    (∃ t, ∃ s : State, coreUp s = true ∧ -500 ≤ t ∧ t ≤ 1500) ∧
    (∃ s : State, coreUp s = true) ∧
    (∃ s : State, coreUp s = true ∧ s.thm.live = false ∧ s.thm.broken = false ∧ thmLost s = false ∧ packReading s = none ∧ s.thm.inUse < thmLimit s 0) ∧
    (∃ ch, ∃ s : State, coreUp s = true ∧ ch < 16 ∧ dchPopulated s ch = true ∧ chFenced s ch = false) ∧
    (∃ ch, ∃ s : State, coreUp s = true ∧ ch < 32 ∧ rb s (Reg.fchMount ch) 0 = true ∧ fchFenced s ch = false) := by
  refine ⟨?_, ?_, ?_, ?_, ?_⟩
  · exact ⟨(-500), up, by decide +kernel⟩
  · exact ⟨up, by decide +kernel⟩
  · exact ⟨up, by decide +kernel⟩
  · exact ⟨15, wr up (Reg.dchGeom 15) 1#32, by decide +kernel⟩
  · exact ⟨31, mounted, by decide +kernel⟩

theorem witness_RecorderCommands :
    (∃ e, ∃ rest, ∃ s : State, evrOn s = true ∧ (s.evr.mode = 1 ∨ s.evr.mode = 2) ∧ s.evr.inbox = e :: rest) ∧
    (∃ s : State, evrOn s = true ∧ s.evr.mode = 1) ∧
    (∃ n, ∃ x, ∃ b, ∃ rest, ∃ o, ∃ s : State, cflOp s 3 = some o ∧ o.req = .evr ∧ o.kind = 1 ∧ o.addr % 2 ^ 24 / 4096 = n ∧ sectorOf s n = some x ∧ s.evr.bufs = b :: rest) ∧
    (∃ n, ∃ x, ∃ b, ∃ rest, ∃ o, ∃ s : State, cflOp s 3 = some o ∧ o.req = .evr ∧ o.kind = 1 ∧ o.addr % 2 ^ 24 / 4096 = n ∧ sectorOf s n = some x ∧ s.evr.bufs = b :: rest) ∧
    (∃ s : State, evrOn s = true ∧ s.evr.mode = 0) ∧
    (∃ s : State, evrOn s = true ∧ s.evr.clearing = false ∧ s.evr.frozen = false) ∧
    (∃ s : State, evrOn s = true ∧ s.evr.clearing = true) ∧
    (∃ s : State, evrOn s = true ∧ s.evr.frozen = true) ∧
    (∃ s : State, evrOn s = true ∧ s.evr.mode = 1) ∧
    (∃ s : State, evrOn s = true ∧ s.evr.clearing = false) ∧
    (∃ s : State, evrOn s = true) ∧
    (∃ s : State, evrOn s = true ∧ s.evr.mode = 1) ∧
    (∃ s : State, s.evr.clearing = true ∧ s.evr.freezeAsked = false) ∧
    (∃ s : State, evrOn s = true ∧ rb s Reg.evrFwStatus 0 = false ∧ isFwCode (rf s Reg.evrFwHdr 0 16) = true) := by
  refine ⟨?_, ?_, ?_, ?_, ?_, ?_, ?_, ?_, ?_, ?_, ?_, ?_, ?_, ?_⟩
  · exact ⟨{ code := 1, sev := 0, payload := [] }, [], onEvr ({ · with mode := 1, inbox := [{ code := 1, sev := 0, payload := [] }] }) rec, by decide +kernel⟩
  · exact ⟨onEvr ({ · with mode := 1 }) rec, by decide +kernel⟩
  · exact ⟨4095, { seq := 1, area := 0, policy := 0, first := 0 }, (4095, []), [], { kind := 1, req := .evr, addr := 3 * 2 ^ 24 + 4095 * 4096 }, onEvr ({ · with sectors := [(4095, { seq := 1, area := 0, policy := 0, first := 0 })], bufs := [(4095, [])] }) (setCflOp rec 3 (some { kind := 1, req := .evr, addr := 3 * 2 ^ 24 + 4095 * 4096 })), by decide +kernel⟩
  · exact ⟨4095, { seq := 1, area := 0, policy := 0, first := 0 }, (4095, []), [], { kind := 1, req := .evr, addr := 3 * 2 ^ 24 + 4095 * 4096 }, onEvr ({ · with sectors := [(4095, { seq := 1, area := 0, policy := 0, first := 0 })], bufs := [(4095, [])] }) (setCflOp rec 3 (some { kind := 1, req := .evr, addr := 3 * 2 ^ 24 + 4095 * 4096 })), by decide +kernel⟩
  · exact ⟨rec, by decide +kernel⟩
  · exact ⟨rec, by decide +kernel⟩
  · exact ⟨onEvr ({ · with clearing := true }) rec, by decide +kernel⟩
  · exact ⟨onEvr ({ · with frozen := true }) rec, by decide +kernel⟩
  · exact ⟨onEvr ({ · with mode := 1 }) rec, by decide +kernel⟩
  · exact ⟨rec, by decide +kernel⟩
  · exact ⟨rec, by decide +kernel⟩
  · exact ⟨onEvr ({ · with mode := 1 }) rec, by decide +kernel⟩
  · exact ⟨onEvr ({ · with clearing := true }) r, by decide +kernel⟩
  · exact ⟨wr rec Reg.evrFwHdr 0xEF#32, by decide +kernel⟩

theorem witness_LogMailboxCommands :
    (∃ inp : List Byte, inp.length = 8) ∧
    (∃ inp : List Byte, inp.length = 4 ∧ byteAt inp 0 ≤ 3 ∧ byteAt inp 1 = 0) ∧
    (∃ inp : List Byte, ∃ u : Summary, ∃ s : State, inp.length = 4 ∧ byteAt inp 0 ≤ 3 ∧ byteAt inp 1 = 1 ∧ s.evr.mode ≠ 2 ∧ newestCopy s = some u) ∧
    (∃ s : State, evrOn s = true) ∧
    (∃ ld, ∃ s : State, isAdmin s ld = true ∧ evrOn s = true) ∧
    (∃ s : State, evrOn s = false) ∧
    (∃ ld, ∃ s : State, isAdmin s ld = true ∧ hemActive s = false ∧ evrOn s = true ∧ s.evr.clearing = false) ∧
    (∃ ld, ∃ inp : List Byte, ∃ s : State, inp.length = 4 ∧ isAdmin s ld = true ∧ byteAt inp 0 ≤ 1 ∧ pay inp 2 2 ≤ 2048 ∧ pay inp 2 2 % 16 = 0) := by
  refine ⟨?_, ?_, ?_, ?_, ?_, ?_, ?_, ?_⟩
  · exact ⟨zeros 8, by decide +kernel⟩
  · exact ⟨pad 4 [3#8], by decide +kernel⟩
  · exact ⟨pad 4 [3#8, 1#8], {}, onEvr ({ · with sums := [(0, {})] }) r, by decide +kernel⟩
  · exact ⟨rec, by decide +kernel⟩
  · exact ⟨63, adm 63 rec, by decide +kernel⟩
  · exact ⟨r, by decide +kernel⟩
  · exact ⟨63, adm 63 rec, by decide +kernel⟩
  · exact ⟨63, [1#8, 0#8, 0#8, 8#8], adm 63 r, by decide +kernel⟩

theorem witness_TransferCommands :
    (∃ ld, ∃ inp : List Byte, ∃ s : State, isAdmin s ld = true ∧ enabled s Pg.upd = true ∧ 256 ≤ inp.length ∧ inp.length ≤ 2048 ∧ byteAt inp 1 = inactiveNo s ∧ (s.upd.st = 0 ∨ s.upd.st = 4) ∧ refuseMask s = 0 ∧ pay inp 4 4 = 0 ∧ leAt (inp.drop 128) 124 4 = (crc32c ((inp.drop 128).take 124)).toNat ∧ leAt (inp.drop 128) 8 4 ≤ 2 ^ 24 ∧ 128 + leAt (inp.drop 128) 12 4 ≤ stageSize ∧ inp.length % 128 = 0) ∧
    (∃ ld, ∃ inp : List Byte, ∃ s : State, ∃ u, isAdmin s ld = true ∧ enabled s Pg.upd = true ∧ 256 ≤ inp.length ∧ inp.length ≤ 2048 ∧ fwStart s ld inp = (u, true) ∧ refuseMask u = 0) ∧
    (∃ ld, ∃ inp : List Byte, ∃ s : State, isAdmin s ld = true ∧ enabled s Pg.upd = true ∧ 128 ≤ inp.length ∧ inp.length ≤ 2048 ∧ s.upd.aborted = false ∧ s.upd.st = 1 ∧ byteAt inp 1 = inactiveNo s ∧ 128 * pay inp 4 4 = s.upd.received ∧ s.upd.lastOff < s.upd.received ∧ s.upd.received + (inp.length - 128) ≤ stageSize ∧ inp.length % 128 = 0) ∧
    (∃ ld, ∃ inp : List Byte, ∃ s : State, isAdmin s ld = true ∧ enabled s Pg.upd = true ∧ inp.length = 128 ∧ s.upd.aborted = false ∧ s.upd.st = 1 ∧ refuseMask s = 0) ∧
    (∃ ld, ∃ inp : List Byte, ∃ s : State, isAdmin s ld = true ∧ enabled s Pg.upd = true ∧ 128 ≤ inp.length ∧ inp.length ≤ 2048) ∧
    (∃ s : State, s.upd.st = 1) ∧
    (∃ s : State, s.upd.st = 3) ∧
    (∃ s : State, s.upd.st = 3) ∧
    (∃ inp : List Byte, ∃ s : State, inp.length = 2 ∧ enabled s Pg.upd = true ∧ s.upd.st = 4 ∧ s.upd.staged = true ∧ byteAt inp 1 = inactiveNo s ∧ refuseMask s = 0) ∧
    (∃ inp : List Byte, ∃ s : State, inp.length = 2 ∧ enabled s Pg.upd = true ∧ s.upd.st = 4 ∧ s.upd.staged = true ∧ byteAt inp 1 = inactiveNo s ∧ refuseMask s = 0 ∧ imgLowest s (!s.upd.slot) ≤ areaFmt s (areaOf s s.upd.slot)) ∧
    (∃ inp : List Byte, ∃ s : State, inp.length = 2 ∧ enabled s Pg.upd = true ∧ s.upd.st = 4 ∧ s.upd.staged = true ∧ byteAt inp 1 = inactiveNo s ∧ refuseMask s = 0 ∧ areaFmt s (areaOf s s.upd.slot) < imgLowest s (!s.upd.slot)) := by
  refine ⟨?_, ?_, ?_, ?_, ?_, ?_, ?_, ?_, ?_, ?_, ?_⟩
  · exact ⟨63, boxed, upd1, by decide +kernel, by decide +kernel, by decide +kernel, by decide +kernel, by decide +kernel, by decide +kernel, by decide +kernel, by decide +kernel, boxed_crc, by decide +kernel, by decide +kernel, by decide +kernel⟩
  · exact ⟨63, boxed, upd1, opened, by decide +kernel, by decide +kernel, by decide +kernel, by decide +kernel, boxed_starts, by decide +kernel⟩
  · exact ⟨63, pad 256 [0#8, 2#8, 0#8, 0#8, 1#8], onUpd ({ · with st := 1, received := 128 }) upd1, by decide +kernel⟩
  · exact ⟨63, zeros 128, onUpd ({ · with st := 1 }) upd1, by decide +kernel⟩
  · exact ⟨63, zeros 2048, adm 63 up, by decide +kernel⟩
  · exact ⟨onUpd ({ · with st := 1 }) r, by decide +kernel⟩
  · exact ⟨onUpd ({ · with st := 3 }) r, by decide +kernel⟩
  · exact ⟨onUpd ({ · with st := 3 }) r, by decide +kernel⟩
  · exact ⟨[0#8, 2#8], onUpd ({ · with st := 4, staged := true }) upd1, by decide +kernel⟩
  · exact ⟨[1#8, 2#8], onCfl ({ · with mem := Sparse.setList cflBlank [] 0x0100000A [0#8, 0#8] }) (onUpd ({ · with st := 4, staged := true }) upd1), by decide +kernel⟩
  · exact ⟨[1#8, 2#8], onUpd ({ · with st := 4, staged := true }) upd1, by decide +kernel⟩

theorem witness_TrialCommands :
    (∃ s : State, enabled s Pg.upd = true ∧ s.upd.actPending = true ∧ s.upd.st = 4 ∧ refuseMask s = 0) ∧
    (∃ converted, ∃ recs : List Byte, ∃ s : State, ∃ t : State, s.upd.st = 5 ∧ handoverOk s = true ∧ t = (if converted = true then writeArea s (1 - s.upd.oldArea) (imgFormat s s.upd.slot) recs else s)) ∧
    (∃ s : State, s.upd.st = 5 ∧ handoverOk s = false) ∧
    (∃ s : State, s.upd.st = 5) ∧
    (∃ s : State, s.upd.st = 6 ∧ rb s Reg.updCfg 8 = true ∧ s.upd.unconverted = false) ∧
    (∃ s : State, s.upd.st = 6 ∧ rb s Reg.updCfg 8 = false) ∧
    (∃ ld, ∃ s : State, isAdmin s ld = true ∧ s.upd.st = 6 ∧ s.upd.unconverted = false) ∧
    (∃ ld, ∃ s : State, isAdmin s ld = true ∧ (s.upd.st = 6 ∨ s.upd.st = 7)) ∧
    (∃ s : State, s.upd.fallDue = true ∧ fallWaits s = false) ∧
    (∃ ld, ∃ inp : List Byte, ∃ s : State, inp.length = 36 ∧ isAdmin s ld = true ∧ byteAt inp 0 = 1 ∧ s.upd.ownerLock = false) ∧
    (∃ ld, ∃ inp : List Byte, ∃ s : State, inp.length = 36 ∧ isAdmin s ld = true ∧ byteAt inp 0 = 0 ∧ s.upd.ownerLock = true ∧ (Config.sha384 (inp.drop 4)).take 32 = s.upd.lockCheck) ∧
    (∃ s : State, enabled s Pg.upd = true ∧ s.upd.st = 6 ∧ s.upd.unconverted = false) ∧
    (∃ s : State, enabled s Pg.upd = true ∧ s.upd.st = 6) ∧
    (∃ s : State, enabled s Pg.upd = true ∧ s.upd.st = 6) ∧
    (∃ s : State, enabled s Pg.upd = true ∧ 1 ≤ s.upd.st ∧ s.upd.st ≤ 3) ∧
    (∃ val : Word, ∃ s : State, bit val s.upd.keySlot = false) := by
  refine ⟨?_, ?_, ?_, ?_, ?_, ?_, ?_, ?_, ?_, ?_, ?_, ?_, ?_, ?_, ?_, ?_⟩
  · exact ⟨onUpd ({ · with st := 4, actPending := true }) upd1, by decide +kernel⟩
  · exact ⟨true, [1#8], handed, _, by decide +kernel, handed_ok, rfl⟩
  · exact ⟨onUpd ({ · with st := 5 }) r, by decide +kernel⟩
  · exact ⟨onUpd ({ · with st := 5 }) r, by decide +kernel⟩
  · exact ⟨wr (onUpd ({ · with st := 6 }) r) Reg.updCfg 0x100#32, by decide +kernel⟩
  · exact ⟨wr (onUpd ({ · with st := 6 }) r) Reg.updCfg 0#32, by decide +kernel⟩
  · exact ⟨63, onUpd ({ · with st := 6 }) (adm 63 r), by decide +kernel⟩
  · exact ⟨63, onUpd ({ · with st := 7 }) (adm 63 r), by decide +kernel⟩
  · exact ⟨onUpd ({ · with fallDue := true }) upd1, by decide +kernel⟩
  · exact ⟨63, pad 36 [1#8], adm 63 r, by decide +kernel⟩
  · exact ⟨63, zeros 36, onUpd ({ · with ownerLock := true, lockCheck := (Config.sha384 (zeros 32)).take 32 }) (adm 63 r), by decide +kernel, by decide +kernel, by decide +kernel, by decide +kernel, rfl⟩
  · exact ⟨onUpd ({ · with st := 6 }) up, by decide +kernel⟩
  · exact ⟨onUpd ({ · with st := 6 }) up, by decide +kernel⟩
  · exact ⟨onUpd ({ · with st := 6 }) up, by decide +kernel⟩
  · exact ⟨onUpd ({ · with st := 3 }) up, by decide +kernel⟩
  · exact ⟨0#32, r, by decide +kernel⟩

theorem witness_HostSidebandCommands :
    (∃ s : State, sb0Ready s = true) ∧
    (∃ data : Nat, ∃ s : State, sb0Ready s = true ∧ data % 4 = 0 ∧ data ≤ 0xFE0) ∧
    (∃ data : Nat, ∃ s : State, sb0Ready s = true ∧ data % 4 = 0 ∧ data ≤ 0xFE0 ∧ s.memWf = true) ∧
    (∃ s : State, sb0Ready s = true ∧ rb s Reg.sb0Cfg 1 = true ∧ rb s Reg.sb0CmdIn 31 = false) ∧
    (∃ val : Word, ∃ s : State, rb s Reg.sb0CmdIn 31 = true ∧ (fld val 0 2 = 0 ∨ fld val 0 2 = 2)) ∧
    (∃ s : State, sb0Ready s = true ∧ s.memWf = true) ∧
    (∃ s : State, sb0Ready s = true ∧ s.memWf = true) ∧
    (∃ s : State, coreUp s = false ∧ s.psq.input = true ∧ s.psq.vao = true ∧ s.psq.softOff = true ∧ s.psq.shutdown = false ∧ s.psq.heldInReset = false ∧ s.psq.minOff = true) := by
  refine ⟨?_, ?_, ?_, ?_, ?_, ?_, ?_, ?_⟩
  · exact ⟨sb0, by decide +kernel⟩
  · exact ⟨0xFE0, sb0, by decide +kernel⟩
  · exact ⟨0xFE0, sb0, by decide +kernel⟩
  · exact ⟨wr sb0 Reg.sb0Cfg 3#32, by decide +kernel⟩
  · exact ⟨2#32, wr r Reg.sb0CmdIn 0x80000000#32, by decide +kernel⟩
  · exact ⟨sb0, by decide +kernel⟩
  · exact ⟨sb0, by decide +kernel⟩
  · exact ⟨onPsq ({ · with input := true, softOff := true }) r, by decide +kernel⟩

theorem witness_ControllerSidebandCommands :
    (∃ status, ∃ s : State, sb1Ready s = true ∧ status ≠ 0) ∧
    (∃ back, ∃ s : State, sb1Ready s = true ∧ hemBusy s = false ∧ s.sb.setCurrent = some back) ∧
    (∃ back, ∃ s : State, sb1Ready s = true ∧ hemBusy s = false ∧ s.sb.setVoltage = some back) ∧
    (∃ phase : Byte, ∃ s : State, sb1Ready s = true ∧ hemBusy s = false ∧ BitVec.toNat phase < 128 ∧ BitVec.toNat phase % 4 ≠ 3) ∧
    (∃ s : State, sb1Ready s = true ∧ hemBusy s = false ∧ s.bat.misses = 2) ∧
    (∃ k, ∃ s : State, sb1Ready s = true ∧ hemBusy s = false ∧ k < 8 ∧ rb s Reg.sb1Tgt1 (8 + k) = true) ∧
    (∃ s : State, sb1Ready s = true ∧ hemBusy s = false) ∧
    (∃ serial, ∃ s : State, sb1Ready s = true ∧ hemBusy s = false ∧ serial ≠ s.bat.knownSerial) ∧
    (∃ val : Word, ∃ s : State, fld val 16 6 ≤ 32 ∧ bit val 31 = true ∧ s.sb.busy = false ∧ isFenced s Pg.sb1 0 = false ∧ hemBusy s = false ∧ enabled s Pg.sb1 = true) ∧
    (∃ s : State, s.sb.busy = true ∧ s.sb.waitFree = false ∧ s.sb.recovering = false ∧ rb s Reg.sb1Xfer 7 = false) ∧
    (∃ s : State, s.sb.busy = true ∧ s.sb.waitFree = false ∧ s.sb.recovering = false ∧ s.sb.retries < rf s Reg.sb1Cfg 2 3) ∧
    (∃ s : State, sb1Ready s = true) ∧
    (∃ s : State, s.sb.recovering = true ∧ s.memWf = true) ∧
    (∃ s : State, s.sb.recovering = true) := by
  refine ⟨?_, ?_, ?_, ?_, ?_, ?_, ?_, ?_, ?_, ?_, ?_, ?_, ?_, ?_⟩
  · exact ⟨1, sb1, by decide +kernel⟩
  · exact ⟨2000, onSb ({ · with setCurrent := some 2000 }) sb1, by decide +kernel⟩
  · exact ⟨42000, onSb ({ · with setVoltage := some 42000 }) sb1, by decide +kernel⟩
  · exact ⟨126#8, sb1, by decide +kernel⟩
  · exact ⟨onBat ({ · with misses := 2 }) sb1, by decide +kernel⟩
  · exact ⟨7, wr sb1 Reg.sb1Tgt1 0x8000#32, by decide +kernel⟩
  · exact ⟨sb1, by decide +kernel⟩
  · exact ⟨1, sb1, by decide +kernel⟩
  · exact ⟨0x80200000#32, sb1, by decide +kernel⟩
  · exact ⟨onSb ({ · with busy := true }) r, by decide +kernel⟩
  · exact ⟨onSb ({ · with busy := true }) r, by decide +kernel⟩
  · exact ⟨sb1, by decide +kernel⟩
  · exact ⟨onSb ({ · with recovering := true }) r, by decide +kernel⟩
  · exact ⟨onSb ({ · with recovering := true }) r, by decide +kernel⟩

theorem witness_TableCommands :
    (∃ off, ∃ val : Word, ∃ w, ∃ d, ∃ e, ∃ t, ∃ s : State, off < 131072 ∧ off % 32 < 20 ∧ w = off / 32 ∧ d = (match off % 32 / 4 with | 0 => { winEntry s w with ctl := val } | 1 => { winEntry s w with ldBase := val.toNat } | 2 => { winEntry s w with size := val.toNat } | 3 => { winEntry s w with dramBase := val.toNat } | _ => { winEntry s w with groupBase := val.toNat }) ∧ e = { d with ctl := d.ctl &&& 0xFFFF0003#32 } ∧ winWriteCode s w e true = 0 ∧ t = refreshGroup (refreshGroup (storeWin s w e) (winEntry s w).group) e.group) ∧
    (∃ off, ∃ val : Word, ∃ w, ∃ d, ∃ e, ∃ c, ∃ s : State, off < 131072 ∧ off % 32 < 20 ∧ w = off / 32 ∧ d = (match off % 32 / 4 with | 0 => { winEntry s w with ctl := val } | 1 => { winEntry s w with ldBase := val.toNat } | 2 => { winEntry s w with size := val.toNat } | 3 => { winEntry s w with dramBase := val.toNat } | _ => { winEntry s w with groupBase := val.toNat }) ∧ e = { d with ctl := d.ctl &&& 0xFFFF0003#32 } ∧ winWriteCode s w e true = c ∧ c ≠ 0) ∧
    (∃ off, off < 131072 ∧ 20 ≤ off % 32) ∧
    (∃ off, ∃ val : Word, ∃ t : State, ∃ s : State, off < 16384 ∧ off % 64 < 4 ∧ fld val 16 16 ≤ 4096 ∧ (bit (grpWord s (off / 64) 0) 0 = true → bit val 0 = true) ∧ t = setGrpWord s (off / 64) 0 (val &&& 0xFFFF0001#32)) ∧
    (∃ off, ∃ val : Word, off < 16384 ∧ off % 64 < 4 ∧ 4096 < fld val 16 16) ∧
    (∃ off, ∃ val : Word, ∃ s : State, off < 16384 ∧ off % 64 < 4 ∧ fld val 16 16 ≤ 4096 ∧ bit (grpWord s (off / 64) 0) 0 = true ∧ bit val 0 = false) ∧
    (∃ off, off < 16384 ∧ 8 ≤ off % 64 ∧ off % 64 < 32) ∧
    (∃ ld, ∃ inp : List Byte, ∃ s : State, inp.length = 4 ∧ pay inp 0 2 < 4096 ∧ winValid s (pay inp 0 2) = true ∧ winLd s (pay inp 0 2) = ld) ∧
    (∃ ld, ∃ inp : List Byte, ∃ w, ∃ e, ∃ t, ∃ s : State, inp.length = 24 ∧ w = pay inp 0 2 ∧ w < 4096 ∧ e = { ctl := wd (pay inp 4 4) &&& 0xFFFF0003#32, ldBase := pay inp 8 4, size := pay inp 12 4, dramBase := pay inp 16 4, groupBase := pay inp 20 4 } ∧ winWriteCode s w e (isAdmin s ld) = 0 ∧ t = refreshGroup (refreshGroup (storeWin s w e) (winEntry s w).group) e.group) ∧
    (∃ ld, ∃ inp : List Byte, ∃ w, ∃ e, ∃ c, ∃ s : State, inp.length = 24 ∧ w = pay inp 0 2 ∧ w < 4096 ∧ e = { ctl := wd (pay inp 4 4) &&& 0xFFFF0003#32, ldBase := pay inp 8 4, size := pay inp 12 4, dramBase := pay inp 16 4, groupBase := pay inp 20 4 } ∧ winWriteCode s w e (isAdmin s ld) = c ∧ c ≠ 0) ∧
    (∃ ld, ∃ inp : List Byte, ∃ s : State, inp.length = 4 ∧ ldSees s ld (byteAt inp 0) = true) ∧
    (∃ ld, ∃ inp : List Byte, ∃ t : State, ∃ s : State, inp.length = 68 ∧ isAdmin s ld = true ∧ fld (wd (pay inp 4 4)) 16 16 ≤ 4096 ∧ (bit (grpWord s (byteAt inp 0) 0) 0 = true → bit (wd (pay inp 4 4)) 0 = true) ∧ t = setGrpWord (forEach ([2, 3, 4, 5, 6, 7].map fun i => (i, wd (pay inp (4 + 4 * i) 4))) s fun s e => setGrpWord s (byteAt inp 0) e.1 e.2) (byteAt inp 0) 0 (wd (pay inp 4 4) &&& 0xFFFF0001#32)) ∧
    (∃ ld, ∃ inp : List Byte, ∃ s : State, inp.length = 68 ∧ isAdmin s ld = false) ∧
    (∃ inp : List Byte, inp.length = 4 ∧ 0 < pay inp 2 2 ∧ pay inp 2 2 ≤ 127 ∧ pay inp 0 2 < 4096) := by
  refine ⟨?_, ?_, ?_, ?_, ?_, ?_, ?_, ?_, ?_, ?_, ?_, ?_, ?_, ?_⟩
  · exact ⟨131056, 0#32, _, _, _, _, r, by decide +kernel, by decide +kernel, rfl, rfl, rfl, by decide +kernel, rfl⟩
  · exact ⟨131040, 1#32, _, _, _, 1, r, by decide +kernel, by decide +kernel, rfl, rfl, rfl, by decide +kernel, by decide +kernel⟩
  · exact ⟨131068, by decide +kernel⟩
  · exact ⟨16320, 0x10000001#32, _, r, by decide +kernel, by decide +kernel, by decide +kernel, by decide +kernel, rfl⟩
  · exact ⟨16320, 0x10010000#32, by decide +kernel⟩
  · exact ⟨16320, 0#32, withGrp 255 {} r, by decide +kernel⟩
  · exact ⟨16351, by decide +kernel⟩
  · exact ⟨63, [0xFF#8, 0xF#8, 0#8, 0#8], withWin 4095 63 255 r, by decide +kernel⟩
  · exact ⟨63, pad 24 [0xFF#8, 0xF#8], _, _, _, adm 63 r, by decide +kernel, rfl, by decide +kernel, rfl, by decide +kernel, rfl⟩
  · exact ⟨63, pad 24 [0xFF#8, 0xF#8, 0#8, 0#8, 1#8], _, _, 1, r, by decide +kernel, rfl, by decide +kernel, rfl, by decide +kernel, by decide +kernel⟩
  · exact ⟨63, pad 4 [255#8], grpUp {}, by decide +kernel⟩
  · exact ⟨63, pad 68 [255#8], _, adm 63 r, by decide +kernel, by decide +kernel, by decide +kernel, by decide +kernel, rfl⟩
  · exact ⟨63, pad 68 [255#8], r, by decide +kernel⟩
  · exact ⟨[0x81#8, 0xF#8, 127#8, 0#8], by decide +kernel⟩

theorem witness_MailboxCommands :
    (∃ ld, ∃ inp : List Byte, ∃ l, ∃ s : State, inp.length = 1 ∧ byteAt inp 0 ≤ 3 ∧ l = ((ldOf s ld).events.filter fun e => e.2.sev == byteAt inp 0)) ∧
    (∃ inp : List Byte, inp.length = 6 + 2 * byteAt inp 2 ∧ byteAt inp 0 ≤ 3 ∧ byteAt inp 1 % 2 = 1) ∧
    (∃ ld, ∃ s : State, (ldOf s ld).stamp = none) ∧
    (∃ ld, ∃ v, ∃ t, ∃ s : State, (ldOf s ld).stamp = some (v, t)) ∧
    (∃ inp : List Byte, inp.length = 8) ∧
    (∃ off, ∃ n, off + n ≤ 4 * opcodes.length ∧ n ≤ 2048) ∧
    (∃ ld, ∃ s : State, (ldOf s ld).discard = false) ∧
    (∃ ld, ∃ s : State, (ldOf s ld).discard = true) ∧
    (∃ ld, ∃ s : State, (ldOf s ld).doorbell = none ∧ enabled s (Pg.hl0 + ld / 32) = true) ∧
    (∃ d, ∃ op, ∃ inp : List Byte, ∃ s : State, fwAvailable s = true ∧ nextDoorbell s = some d ∧ (ldOf s d).doorbell = some (op, inp)) ∧
    (∃ s : State, coreUp s = true) := by
  refine ⟨?_, ?_, ?_, ?_, ?_, ?_, ?_, ?_, ?_, ?_, ?_⟩
  · exact ⟨63, [3#8], _, r, by decide +kernel, by decide +kernel, rfl⟩
  · exact ⟨[3#8, 1#8, 1#8, 0#8, 0#8, 0#8, 1#8, 0#8], by decide +kernel⟩
  · exact ⟨63, r, by decide +kernel⟩
  · exact ⟨63, 5, 9, setLd r 63 { stamp := some (5, 9) }, by decide +kernel⟩
  · exact ⟨zeros 8, by decide +kernel⟩
  · exact ⟨0, 232, by decide +kernel⟩
  · exact ⟨63, r, by decide +kernel⟩
  · exact ⟨63, setLd r 63 { discard := true }, by decide +kernel⟩
  · exact ⟨63, up, by decide +kernel⟩
  · exact ⟨63, 0x4000, [], setLd up 63 { doorbell := some (0x4000, []) }, by decide +kernel⟩
  · exact ⟨up, by decide +kernel⟩

theorem witness_LinkCommands :
    (∃ port, ∃ s : State, portExists s port = true) ∧
    (∃ port, ∃ s : State, (portOf s port).up = true) ∧
    (∃ port, ∃ width, ∃ s : State, portExists s port = true ∧ coreUp s = true ∧ s.hl.linksOff = false ∧ linkFenced s (port / 2) = false ∧ (domOf s (80 + port / 2)).st = 2 ∧ 0 < width ∧ 0 < portWidth s port) ∧
    (∃ port, ∃ width, ∃ s : State, (portOf s port).up = true ∧ (portOf s port).l0p = true ∧ 3 ≤ width ∧ width ≤ portWidth s port) ∧
    (∃ link, ∃ s : State, locked s (Pg.hl0 + link) = false) ∧
    (∃ dec, ∃ ways, ∃ gran, ∃ pos, dec < 4 ∧ ways ∈ [1, 2, 4, 8, 16] ∧ gran ∈ [256, 512, 1024, 2048, 4096, 8192, 16384] ∧ pos < ways) ∧
    (∃ proto, proto < 4) ∧
    (∃ step, step ≤ 2) := by
  refine ⟨?_, ?_, ?_, ?_, ?_, ?_, ?_, ?_⟩
  · exact ⟨2, r, by decide +kernel⟩
  · exact ⟨3, setPort r 3 { up := true }, by decide +kernel⟩
  · exact ⟨2, 1, lanes, by decide +kernel⟩
  · exact ⟨2, 3, wr (setPort lanes 2 { up := true }) (Reg.hlLinkCfg 1) 0x20#32, by decide +kernel⟩
  · exact ⟨1, r, by decide +kernel⟩
  · exact ⟨3, 16, 16384, 15, by decide +kernel⟩
  · exact ⟨3, by decide +kernel⟩
  · exact ⟨2, by decide +kernel⟩

theorem witness_BusCommands :
    (∃ addr : Word, ∃ s : State, ∃ off, regionOf addr.toNat = .sram off ∧ sramOn s off = true) ∧
    (∃ addr : Word, ∃ s : State, ∃ p, isPage p = true ∧ addr.toNat = 0x40000000 + errMaskA p ∧ locked s p = false) ∧
    (∃ addr : Word, ∃ val : Word, ∃ s : State, addr.toNat = 0x40000000 + Reg.sysWdt ∧ locked s Pg.sys = false ∧ s.memWf = true ∧ 1 ≤ fld val 0 14 ∧ fld val 0 14 ≤ 10000) ∧
    (∃ addr : Word, ∃ a, regionOf addr.toNat = .page a ∧ a % 4 = 0 ∧ isPage (a / 0x1000) = true) ∧
    (∃ addr : Word, ∃ off, regionOf addr.toNat = .sram off ∧ off % 4 = 0) ∧
    (∃ d, ∃ s : State, (domOf s d).st = 1 ∧ (domOf s d).latched = none) ∧
    (∃ d, ∃ s : State, (domOf s d).st = 3 ∧ (domOf s d).latched = none) ∧
    (∃ d, ∃ v, ∃ s : State, s.doms = [(d, v)] ∧ v.deferred = false) := by
  refine ⟨?_, ?_, ?_, ?_, ?_, ?_, ?_, ?_⟩
  · exact ⟨0x100FFFFC#32, ram, 0xFFFFC, by decide +kernel⟩
  · exact ⟨(wd (0x40000000 + errMaskA 0x60)), r, 0x60, by decide +kernel⟩
  · exact ⟨(wd (0x40000000 + Reg.sysWdt)), 10000#32, r, by decide +kernel⟩
  · exact ⟨0x40060FFC#32, 0x60FFC, by decide +kernel⟩
  · exact ⟨0x100FFFFC#32, 0xFFFFC, by decide +kernel⟩
  · exact ⟨111, setDom r 111 { st := 1 }, by decide +kernel⟩
  · exact ⟨111, setDom r 111 { st := 3 }, by decide +kernel⟩
  · exact ⟨111, { credit := 3 }, setDom r 111 { credit := 3 }, by decide +kernel⟩

theorem witness_StepRunsFrontCommand :
    (∃ c, ∃ rest, ∃ s : State, s.pending = c :: rest) ∧
    (∃ s : State, s.pending = []) := by
  refine ⟨?_, ?_⟩
  · exact ⟨.syncExpiry, [], { r with pending := [.syncExpiry] }, by decide +kernel⟩
  · exact ⟨r, by decide +kernel⟩

theorem witness_GatingCredits :
    (∃ d, ∃ s : State, (domOf s d).st = 2 ∧ 0 < (domOf s d).credit) ∧
    (∃ d, ∃ s : State, (domOf s d).st = 2 ∧ (domOf s d).credit = 0) ∧
    (∃ d, ∃ s : State, (domOf s d).st = 0 ∧ switchingOn s < 8) ∧
    (∃ c, ∃ s : State, c < 16 ∧ s.memWf = true ∧ locked s (Pg.dch c) = false ∧ enabled s (Pg.dch c) = false ∧ (domOf s c).st = 2 ∧ 0 < (domOf s c).credit) ∧
    (∃ c, ∃ s : State, c < 16 ∧ s.memWf = true ∧ Sparse.wf (fun _ => ({} : Dom)) s.doms = true ∧ locked s (Pg.dch c) = false ∧ enabled s (Pg.dch c) = false ∧ (domOf s c).st = 2 ∧ (domOf s c).credit = 0) ∧
    (∃ s : State, Sparse.wf (fun _ => ({} : Dom)) s.doms = true) ∧
    (∃ c, ∃ s : State, c < 16 ∧ s.memWf = true ∧ locked s (Pg.dch c) = false ∧ enabled s (Pg.dch c) = false ∧ (domOf s c).st = 0 ∧ switchingOn s < 8) := by
  refine ⟨?_, ?_, ?_, ?_, ?_, ?_, ?_⟩
  · exact ⟨111, setDom r 111 { st := 2, credit := 1 }, by decide +kernel⟩
  · exact ⟨111, setDom r 111 { st := 2, credit := 0 }, by decide +kernel⟩
  · exact ⟨111, r, by decide +kernel⟩
  · exact ⟨15, setDom r 15 { st := 2 }, by decide +kernel⟩
  · exact ⟨15, setDom r 15 { st := 2, credit := 0 }, by decide +kernel⟩
  · exact ⟨setDom r 111 { st := 2, deferred := true }, by decide +kernel⟩
  · exact ⟨15, r, by decide +kernel⟩

theorem witness_LatchedPowerRequests :
    (∃ d, ∃ s : State, ((domOf s d).st = 1 ∨ (domOf s d).st = 3)) ∧
    (∃ c, ∃ val : Word, ∃ s : State, c < 16 ∧ s.memWf = true ∧ locked s (Pg.dch c) = false ∧ enabled s (Pg.dch c) = false ∧ bit val 0 = false ∧ bit val 1 = false ∧ ((domOf s c).st = 1 ∨ (domOf s c).st = 3)) ∧
    (∃ d, ∃ s : State, (domOf s d).st = 1 ∧ (domOf s d).latched = some false) ∧
    (∃ d, ∃ s : State, (domOf s d).st = 1 ∧ (domOf s d).latched = some true) ∧
    (∃ d, ∃ s : State, (domOf s d).st = 3 ∧ (domOf s d).latched = some true) ∧
    (∃ d, ∃ s : State, (domOf s d).st = 3 ∧ (domOf s d).latched = some false) := by
  refine ⟨?_, ?_, ?_, ?_, ?_, ?_⟩
  · exact ⟨111, setDom r 111 { st := 3 }, by decide +kernel⟩
  · exact ⟨15, 4#32, setDom r 15 { st := 3 }, by decide +kernel⟩
  · exact ⟨111, setDom r 111 { st := 1, latched := some false }, by decide +kernel⟩
  · exact ⟨111, setDom r 111 { st := 1, latched := some true }, by decide +kernel⟩
  · exact ⟨111, setDom r 111 { st := 3, latched := some true }, by decide +kernel⟩
  · exact ⟨111, setDom r 111 { st := 3, latched := some false }, by decide +kernel⟩

theorem witness_LockedPagesRefuseWrites :
    (∃ page, ∃ val, ∃ s : State, ∃ t, ∃ b, isPage page = true ∧ s.memWf = true ∧ exec (.lockSet page val) s = .next t ∧ rb s (lockA page) b = true) ∧
    (∃ addr : Word, ∃ val : Word, ∃ s : State, ∃ p, isPage p = true ∧ addr.toNat = 0x40000000 + errMaskA p ∧ locked s p = true ∧ s.memWf = true ∧ rd s (errMaskA p) ≠ val &&& errBits p &&& ~~~4#32) ∧
    (∃ addr : Word, ∃ val : Word, ∃ s : State, addr.toNat = 0x40000000 + Reg.sysWdt ∧ locked s Pg.sys = true ∧ s.memWf = true ∧ 1 ≤ fld val 0 14 ∧ fld val 0 14 ≤ 10000 ∧ (rd s Reg.sysWdt &&& ~~~0x13FFF#32) ||| (val &&& 0x13FFF#32) ≠ rd s Reg.sysWdt) ∧
    (∃ page, ∃ s : State, isPage page = true ∧ injectLocked s page = true ∧ s.memWf = true) := by
  refine ⟨?_, ?_, ?_, ?_⟩
  · exact ⟨0x60, 1#32, wr r (lockA 0x60) 2#32, _, 1, by decide +kernel, by decide +kernel, rfl, by decide +kernel⟩
  · exact ⟨(wd (0x40000000 + errMaskA 0x60)), 1#32, wr r (lockA 0x60) 1#32, 0x60, by decide +kernel⟩
  · exact ⟨(wd (0x40000000 + Reg.sysWdt)), 1#32, wr r (lockA Pg.sys) 1#32, by decide +kernel⟩
  · exact ⟨0x60, wr r (lockA 0x60) 2#32, by decide +kernel⟩

theorem witness_FirstErrorIsKept :
    (∃ page, ∃ b, ∃ s : State, isPage page = true ∧ classOf page b ≠ 0 ∧ coreUp s = true ∧ s.memWf = true ∧ b < 32 ∧ rd s (errStatusA page) = 0#32) ∧
    (∃ page, ∃ b, ∃ s : State, isPage page = true ∧ coreUp s = true ∧ s.memWf = true ∧ b < 32 ∧ rd s (errStatusA page) ≠ 0#32) ∧
    (∃ page, ∃ val, ∃ s : State, isPage page = true ∧ s.memWf = true ∧ rd s (errStatusA page) &&& ~~~val = 0#32) ∧
    (∃ page, ∃ val, ∃ s : State, isPage page = true ∧ s.memWf = true ∧ rd s (errStatusA page) &&& ~~~val ≠ 0#32) ∧
    (∃ page, ∃ val, ∃ b, ∃ s : State, isPage page = true ∧ injectLocked s page = false ∧ coreUp s = true ∧ s.memWf = true ∧ b < 32 ∧ rd s (errStatusA page) = 0#32 ∧ bit val b = true ∧ classOf page b ≠ 0 ∧ (∀ k < b, bit val k = true → classOf page k = 0)) := by
  refine ⟨?_, ?_, ?_, ?_, ?_⟩
  · exact ⟨0x60, 4, up, by decide +kernel⟩
  · exact ⟨0x60, 31, wr up (errStatusA 0x60) 1#32, by decide +kernel⟩
  · exact ⟨0x60, 1#32, wr r (errStatusA 0x60) 1#32, by decide +kernel⟩
  · exact ⟨0x60, 1#32, wr r (errStatusA 0x60) 3#32, by decide +kernel⟩
  · exact ⟨0x60, 0xFFFFFFFF#32, 0, up, by decide +kernel⟩

theorem witness_InterruptMessages :
    (∃ src, ∃ s : State, src < 500 ∧ coreUp s = true ∧ s.memWf = true ∧ isPending s src = false ∧ isActive s src = false) ∧
    (∃ src, ∃ s : State, src < 500 ∧ coreUp s = true ∧ s.memWf = true ∧ (isPending s src = true ∨ isActive s src = true)) := by
  refine ⟨?_, ?_⟩
  · exact ⟨499, up, by decide +kernel⟩
  · exact ⟨499, src 499, by decide +kernel⟩

theorem witness_FullStackTakesNothing :
    (∃ s : State, s.icu.stack.length = 16 ∧ (∀ e ∈ s.icu.stack, e.1 < 512)) ∧
    (∃ e, ∃ rest, ∃ s : State, s.icu.stack = e :: rest ∧ (∀ src < 512, isPending s src = true → tier s e.2 ≤ tier s (prioOf s src))) ∧
    (∃ a, ∃ b, ∃ s : State, a < 512 ∧ b < 512 ∧ isPending s a = true ∧ isPending s b = true ∧ takeable s s.icu.stack a = true ∧ takeable s s.icu.stack b = true ∧ tier s (prioOf s a) = tier s (prioOf s b) ∧ prioOf s a < prioOf s b) := by
  refine ⟨?_, ?_, ?_⟩
  · exact ⟨onIcu ({ · with stack := List.replicate 16 (499, 3) }) r, by decide +kernel⟩
  · exact ⟨(498, 3), [], onIcu ({ · with stack := [(498, 3)] }) (src 499), by decide +kernel⟩
  · exact ⟨0, 499, wr (setPending (src 499) 0 true) Reg.icuCfg 0x701#32, by decide +kernel⟩

theorem witness_DoneCompletesTop :
    (∃ val : Word, ∃ src, ∃ p, ∃ rest, ∃ s : State, fld val 0 9 = src ∧ src < 500 ∧ s.icu.stack = (src, p) :: rest) ∧
    (∃ val : Word, ∃ src, ∃ e, ∃ rest, ∃ s : State, fld val 0 9 = src ∧ src < 500 ∧ s.icu.stack = e :: rest ∧ e.1 ≠ src ∧ coreUp s = true ∧ s.memWf = true) ∧
    (∃ val : Word, ∃ src, ∃ s : State, fld val 0 9 = src ∧ src < 500 ∧ s.icu.stack = [] ∧ coreUp s = true ∧ s.memWf = true) := by
  refine ⟨?_, ?_, ?_⟩
  · exact ⟨499#32, 499, 3, [], onIcu ({ · with stack := [(499, 3)] }) r, by decide +kernel⟩
  · exact ⟨499#32, 499, (498, 3), [], onIcu ({ · with stack := [(498, 3)] }) up, by decide +kernel⟩
  · exact ⟨499#32, 499, up, by decide +kernel⟩

theorem witness_SingleSourceFrames : ∃ val : Word, ∃ src, ∃ s : State, ∃ c : Instr, fld val 0 9 = src ∧ 0 < src ∧ src < 500 ∧ s.memWf = true ∧ locked s Pg.icu = false ∧ (c = .icuPendclr val ∨ c = .icuEnset val ∨ c = .icuEnclr val ∨ c = .icuPrioSet val) :=
  ⟨499#32, 499, up, .icuPendclr 499#32, by decide +kernel, by decide +kernel, by decide +kernel, by decide +kernel, by decide +kernel, .inl rfl⟩

theorem witness_UnmappedDpaAccess :
    (∃ ld, ∃ hpa, ∃ dpa, ∃ s : State, ld < 64 ∧ takes s ld false = true ∧ s.memWf = true ∧ hdmDpa (ldOf s ld).hdm hpa = some dpa ∧ winFor s ld dpa = none) ∧
    (∃ ld, ∃ hpa, ∃ dpa, ∃ s : State, ld < 64 ∧ takes s ld true = true ∧ s.memWf = true ∧ hdmDpa (ldOf s ld).hdm hpa = some dpa ∧ winFor s ld dpa = none) := by
  refine ⟨?_, ?_⟩
  · exact ⟨63, 0x3FFFFFFF, 0x3FFFFFFF, hdm up, by decide +kernel⟩
  · exact ⟨63, 0x3FFFFFFF, 0x3FFFFFFF, hdm up, by decide +kernel⟩

theorem witness_OfflineWindowAccess :
    (∃ ld, ∃ hpa, ∃ dpa, ∃ w, ∃ s : State, ld < 64 ∧ takes s ld false = true ∧ s.memWf = true ∧ hdmDpa (ldOf s ld).hdm hpa = some dpa ∧ winFor s ld dpa = some w ∧ winOnline s w = false) ∧
    (∃ ld, ∃ hpa, ∃ dpa, ∃ w, ∃ s : State, ld < 64 ∧ takes s ld true = true ∧ s.memWf = true ∧ hdmDpa (ldOf s ld).hdm hpa = some dpa ∧ winFor s ld dpa = some w ∧ winOnline s w = false) := by
  refine ⟨?_, ?_⟩
  · exact ⟨63, 0x3FFFFFFF, 0x3FFFFFFF, 4095, hdm (withWin 4095 63 255 up), by decide +kernel⟩
  · exact ⟨63, 0x3FFFFFFF, 0x3FFFFFFF, 4095, hdm (withWin 4095 63 255 up), by decide +kernel⟩

theorem witness_HostWriteCommits :
    (∃ ld, ∃ hpa, ∃ data : List Byte, ∃ dpa, ∃ w, ∃ line, ∃ s : State, line = winDram s w dpa / 64 * 64 ∧ data.length = 64 ∧ takes s ld true = true ∧ queueWaits s line true = false ∧ slotAhead s (line / 4096) = false ∧ heldOf s w = 0 ∧ s.memWf = true ∧ hdmDpa (ldOf s ld).hdm hpa = some dpa ∧ winFor s ld dpa = some w ∧ winOnline s w = true ∧ (grp s (winGroup s w)).quiesced = false ∧ winEnforced s w = false ∧ lineBit s (line / 4096 / 128) = false ∧ (stOf s (winGroup s w) (line / 4096) = .opened ∨ stOf s (winGroup s w) (line / 4096) = .both ∨ stOf s (winGroup s w) (line / 4096) = .clean)) ∧
    (∃ ld, ∃ hpa, ∃ data : List Byte, ∃ dpa, ∃ w, ∃ line, ∃ n, ∃ s : State, line = winDram s w dpa / 64 * 64 ∧ data.length = 64 ∧ takes s ld true = true ∧ queueWaits s line true = false ∧ slotAhead s (line / 4096) = false ∧ heldOf s w = 0 ∧ s.memWf = true ∧ Sparse.wf (fun _ => ({} : Group)) s.gen.groups = true ∧ hdmDpa (ldOf s ld).hdm hpa = some dpa ∧ winFor s ld dpa = some w ∧ winOnline s w = true ∧ (grp s (winGroup s w)).quiesced = false ∧ winEnforced s w = false ∧ lineBit s (line / 4096 / 128) = false ∧ stOf s (winGroup s w) (line / 4096) = .tacked ∧ takeSlot s (sliceOf s (line / 4096)) = some n ∧ slotOf s (winGroup s w) (line / 4096) = none) := by
  refine ⟨?_, ?_⟩
  · exact ⟨63, 0x3FFFFFFF, zeros 64, 0x3FFFFFFF, 4095, 0x3FFFFFC0, served {}, by decide +kernel⟩
  · exact ⟨63, 0x3FFFFFFF, zeros 64, 0x3FFFFFFF, 4095, 0x3FFFFFC0, 7, setEntry (served {}) 262143 2#4, by decide +kernel⟩

theorem witness_WindowChecks :
    (∃ s : State, ∃ w, ∃ e, ∃ v, w < 4096 ∧ winValid s w = false ∧ e.valid = true ∧ (writeWin s w e true).2 = 0 ∧ v < 4096 ∧ v ≠ w ∧ winValid s v = true) ∧
    (∃ ld, ∃ inp : List Byte, ∃ s : State, ∃ c, inp.length = 24 ∧ pay inp 0 2 < 4096 ∧ isAdmin s ld = true ∧ s.memWf = true ∧ c ≠ 0 ∧ (writeWin s (pay inp 0 2) { ctl := wd (pay inp 4 4), ldBase := pay inp 8 4, size := pay inp 12 4, dramBase := pay inp 16 4, groupBase := pay inp 20 4 } true).2 = c ∧ c < 256) := by
  refine ⟨?_, ?_⟩
  · exact ⟨onDram ({ · with liningBase := 2 ^ 31 }) (withWin 4095 0 255 r), 4094, { ctl := 1#32, ldBase := 1, size := 1, dramBase := 1, groupBase := 1 }, 4095, by decide +kernel⟩
  · exact ⟨63, pad 24 [0xFF#8, 0xF#8, 0#8, 0#8, 1#8], adm 63 r, 1, by decide +kernel⟩

theorem witness_InterleaveIsOneToOne : ∃ s : State, ∃ a, ∃ ch, ∃ x, s.dram.layout.Nodup ∧ s.dram.chBytes % 256 = 0 ∧ dramPlace s a = some (ch, x) :=
  ⟨onDram ({ · with layout := [0, 15], chBytes := 512 }) r, 1023, 15, 511, by decide +kernel⟩

theorem witness_BankHashIsOneToOne : ∃ r, ∃ h, ∃ two, ∃ x, ∃ y, x < 2 ^ (19 + r + h + two.toNat) ∧ y < 2 ^ (19 + r + h + two.toNat) ∧ decodeLocal r h two x = decodeLocal r h two y :=
  ⟨2, 0, true, 63, 0, by decide +kernel⟩

theorem witness_ReadsChangeNothingElse :
    (∃ c, ∃ ld, ∃ inp : List Byte, ∃ s : State, ∃ t, c ∈ [Instr.getWindow ld inp, .getGroupConfig ld inp, .getPacing ld inp, .getLinkCounters ld inp, .identify ld inp, .backgroundOperationStatus ld inp, .getEventRecords ld inp, .getEventInterruptPolicy ld inp, .setEventInterruptPolicy ld inp, .getTimestamp ld inp, .getSupportedLogs ld inp, .getLog ld inp, .identifyMemoryDevice ld inp, .getLogInfo ld inp, .readLog ld inp, .getSummary ld inp, .getUpdateStatus ld inp, .getFwInfo ld inp] ∧ exec c s = .next t) ∧
    (∃ c, ∃ s : State, ∃ t, c ∈ [Instr.sb0ReadIdentity, .sb0ReadLevel, .sb0ReadTj, .sb0ReadEnergy, .sb0ReadHem, .sb0ReadEventSeq, .sb0ReadResult, .sb0ReadMirror] ∧ exec c s = .next t) := by
  refine ⟨?_, ?_⟩
  · exact ⟨.getWindow 63 [], 63, [], r, _, by simp, rfl⟩
  · exact ⟨.sb0ReadMirror, sb0, _, by simp, rfl⟩

theorem witness_SramWriteFrame : ∃ addr : Word, ∃ off, ∃ s : State, regionOf addr.toNat = .sram off ∧ sramOn s off = true ∧ s.memWf = true :=
  ⟨0x100FFFFC#32, 0xFFFFC, ram, by decide +kernel⟩

theorem witness_StepKeepsMemoryForm : ∃ s : State, ∃ t : State, s.memWf = true ∧ step s = .next t :=
  ⟨{ r with pending := [.registerWrite 0x40000000#32 .word 1#32] }, _, by decide +kernel, rfl⟩

theorem witness_StepKeepsCredits : ∃ s : State, ∃ t : State, s.creditsOk = true ∧ step s = .next t :=
  ⟨{ r with pending := [.registerWrite 0x40000000#32 .word 1#32] }, _, by decide +kernel, rfl⟩

theorem witness_StepKeepsStackDepth : ∃ s : State, ∃ t : State, s.stackOk = true ∧ step s = .next t :=
  ⟨{ r with pending := [.registerWrite 0x40000000#32 .word 1#32] }, _, by decide +kernel, rfl⟩

theorem witness_StepTakesFrontCommand : ∃ s : State, ∃ t : State, step s = .next t :=
  ⟨{ r with pending := [.registerWrite 0x40000000#32 .word 1#32, .syncExpiry] }, _, rfl⟩

theorem witness_StepSettlesEscalations :
    (∃ s : State, ∃ t : State, s.calm = true ∧ step s = .next t) ∧
    (∃ s : State, s.calm = true) := by
  refine ⟨?_, ?_⟩
  · exact ⟨{ r with pending := [.registerWrite 0x40000000#32 .word 1#32] }, _, by decide +kernel, rfl⟩
  · exact ⟨r, by decide +kernel⟩

end Sys2Proof.Tests
end

section
/-! Power domains: what a request, a switch-off and a credit do to one domain (R17, R18), and the obligations on them. -/

namespace Sys2Proof.Machine

open Bits

variable {s : State} {d : Nat}

-- canonical maps: listed keys

/-- Keys of a canonical map lie at or above its bound and are listed once. -/
theorem keys_nodup_of_wfFrom {α : Type} [DecidableEq α] {f : Nat → α} {m : List (Nat × α)} {b : Nat}
    (h : Sparse.wfFrom f b m = true) : (∀ k ∈ Sparse.keys m, b ≤ k) ∧ (Sparse.keys m).Nodup := by
  induction m generalizing b with
  | nil => exact ⟨by simp [Sparse.keys], List.nodup_nil⟩
  | cons e m ih =>
    obtain ⟨j, v⟩ := e
    simp only [Sparse.wfFrom, Bool.and_eq_true, decide_eq_true_eq] at h
    obtain ⟨⟨hj, -⟩, hm⟩ := h
    obtain ⟨above, nodup⟩ := ih hm
    refine ⟨fun k hk => ?_, List.nodup_cons.2 ⟨fun hk => ?_, nodup⟩⟩
    · rcases List.mem_cons.1 hk with rfl | hk
      · exact hj
      · exact (by omega : b ≤ j + 1).trans (above k hk)
    · exact absurd (above j hk) (by omega)

theorem keys_nodup {α : Type} [DecidableEq α] {f : Nat → α} {m : List (Nat × α)} (h : Sparse.wf f m = true) :
    (Sparse.keys m).Nodup := (keys_nodup_of_wfFrom h).2

/-- An unlisted key reads its default. -/
theorem get_of_not_mem_keys {α : Type} {f : Nat → α} {m : List (Nat × α)} {k : Nat} (h : k ∉ Sparse.keys m) :
    Sparse.get f m k = f k := by
  induction m with
  | nil => rfl
  | cons e m ih =>
    obtain ⟨hne, hm⟩ := not_or.1 (List.mem_cons.not.1 h)
    rw [Sparse.get, if_neg (Ne.symm hne), ih hm]

-- one domain: reading after writing

/-- The domains are held in canonical form. -/
abbrev DomsWf (s : State) : Prop := Sparse.wf (fun _ => ({} : Dom)) s.doms = true

theorem domOf_setDom_self {v : Dom} (h : DomsWf s) : domOf (setDom s d v) d = v := get_set_self h

theorem domOf_setDom_ne {e : Nat} {v : Dom} (h : e ≠ d) : domOf (setDom s d v) e = domOf s e := get_set_ne h

theorem setDom_domsWf {v : Dom} (h : DomsWf s) : DomsWf (setDom s d v) := set_wf h

/-- The domains of a state decide what each of them reads. -/
theorem domOf_of_doms {t : State} (h : t.doms = s.doms) (d : Nat) : domOf t d = domOf s d := by
  unfold domOf
  rw [h]

-- switch-ons and switch-offs (R17, R353)

/-- With a credit, a switch-off starts and spends it (R17). -/
theorem startOff_of_credit (h : 0 < (domOf s d).credit) : startOff s d = setDom s d
    { domOf s d with st := 3, credit := (domOf s d).credit - 1, deferred := false, latched := none } := by
  unfold startOff
  exact if_pos h

/-- Without a credit, a switch-off is deferred; of the domains nothing else changes (R17). -/
theorem startOff_doms_of_noCredit (h : (domOf s d).credit = 0) :
    (startOff s d).doms = (setDom s d { domOf s d with deferred := true, latched := none }).doms := by
  unfold startOff
  dsimp only
  rw [if_neg (by omega)]
  split
  · rfl
  · simp

/-- A switch-on starts while fewer than eight domains switch on (R353). -/
theorem startOn_of_place (h : switchingOn s < 8) :
    startOn s d = setDom s d { domOf s d with st := 1, latched := none, deferred := false } := by
  unfold startOn
  exact if_pos h

-- power requests (R17, R18)

theorem domReq_off_of_isOn (h : (domOf s d).st = 2) : domReq s d false = startOff s d := by
  unfold domReq
  simp only [h]

theorem domReq_on_of_isOff (h : (domOf s d).st = 0) : domReq s d true = startOn s d := by
  unfold domReq
  simp only [h]

/-- A request that reaches a switching domain is latched in place of any earlier one (R18). -/
theorem domReq_of_switching {on : Bool} (h : (domOf s d).st = 1 ∨ (domOf s d).st = 3) :
    domReq s d on = setDom s d { domOf s d with latched := some on } := by
  unfold domReq
  rcases h with h | h <;> simp only [h]

-- POWER_REQ on the page of a DRAM channel

/-- CTRL of an unlocked DRAM channel that is not enabled, written without enable and soft_reset: power_req is stored and
reaches the channel's domain. -/
theorem exec_powerReq_dch {c : Nat} {val : Word} (hc : c < 16) (hw : s.memWf = true)
    (hl : locked s (Pg.dch c) = false) (he : enabled s (Pg.dch c) = false) (h0 : bit val 0 = false)
    (h1 : bit val 1 = false) :
    exec (.powerReq (Pg.dch c) val) s =
      .next (settle (domReq (wr s (ctrlA (Pg.dch c)) (wd (4 * (bit val 2).toNat))) c (bit val 2))) := by
  have ctrl : ctrlWrite s (Pg.dch c) val = setCtrl s (Pg.dch c) (bit val 0) (bit val 2) := by
    unfold ctrlWrite
    simp [isPage_dch hc, h1]
  show Host.Outcome.next (settle (ctrlWrite s (Pg.dch c) val)) = _
  rw [ctrl, h0, setCtrl_dch hc hw hl he]

-- STATUS.pwr_deferred (R32)

theorem powerState_lt {p : Nat} : powerState s p < 4 := by
  unfold powerState
  dsimp only
  repeat' split
  all_goals omega

/-- STATUS of a page reads the word that the device computes (R32). -/
theorem readReg_status {p : Nat} (hp : isPage p = true) : readReg s (0x1000 * p + 0x14) = statusWord s p := by
  have hd : (0x1000 * p + 0x14) / 0x1000 = p := by omega
  have hm : (0x1000 * p + 0x14) % 0x1000 = 0x14 := by omega
  unfold readReg
  simp [hd, hm, hp, commonWord]

/-- STATUS.pwr_deferred reads 1 while a switch-off of a domain of the page is deferred (R17, R32). -/
theorem bit_statusWord_deferred {p : Nat} (hd : d ∈ domsOfPage p) (h : (domOf s d).deferred = true) :
    bit (statusWord s p) 4 = true := by
  have any : ((domsOfPage p).any fun d => (domOf s d).deferred) = true := List.any_eq_true.2 ⟨d, hd, h⟩
  have hp : powerState s p < 4 := powerState_lt
  unfold statusWord bit wd
  simp only [any, Bool.toNat_true, BitVec.getLsbD_ofNat, Nat.testBit_eq_decide_div_mod_eq]
  have hb := Bool.toNat_le (pageBusy s p)
  have hf := Bool.toNat_le (s.flt.fences.any fun f => f.page == if 0x30 ≤ p ∧ p < 0x40 then p - 0x10 else p)
  simp only [Bool.and_eq_true, decide_eq_true_eq]
  omega

-- GATING_CREDIT_GAIN (R17)

/-- A domain after an interval: one credit more, up to 8; a deferred switch-off then happens and spends one (R17). -/
def creditGained (v : Dom) : Dom :=
  if v.deferred then
    { v with st := 3, credit := min 8 (v.credit + 1) - 1, deferred := false, latched := none }
  else { v with credit := min 8 (v.credit + 1) }

/-- A domain whose switch-off is deferred takes the credit and spends it at once. -/
theorem gainCredit_of_deferred (hw : DomsWf s) (h : (domOf s d).deferred = true) : gainCredit s d =
    setDom (setDom s d { domOf s d with credit := min 8 ((domOf s d).credit + 1) }) d (creditGained (domOf s d)) := by
  unfold gainCredit
  dsimp only
  rw [if_pos h, startOff_of_credit (by rw [domOf_setDom_self hw]; dsimp only; omega), domOf_setDom_self hw,
    creditGained, if_pos h]

theorem gainCredit_of_not_deferred (h : (domOf s d).deferred = false) :
    gainCredit s d = setDom s d (creditGained (domOf s d)) := by
  unfold gainCredit creditGained
  simp [h]

theorem gainCredit_domsWf (hw : DomsWf s) : DomsWf (gainCredit s d) := by
  cases h : (domOf s d).deferred with
  | true => rw [gainCredit_of_deferred hw h]; exact setDom_domsWf (setDom_domsWf hw)
  | false => rw [gainCredit_of_not_deferred h]; exact setDom_domsWf hw

theorem domOf_gainCredit_self (hw : DomsWf s) : domOf (gainCredit s d) d = creditGained (domOf s d) := by
  cases h : (domOf s d).deferred with
  | true => rw [gainCredit_of_deferred hw h, domOf_setDom_self (setDom_domsWf hw)]
  | false => rw [gainCredit_of_not_deferred h, domOf_setDom_self hw]

theorem domOf_gainCredit_ne {e : Nat} (hw : DomsWf s) (hne : e ≠ d) : domOf (gainCredit s d) e = domOf s e := by
  cases h : (domOf s d).deferred with
  | true => rw [gainCredit_of_deferred hw h, domOf_setDom_ne hne, domOf_setDom_ne hne]
  | false => rw [gainCredit_of_not_deferred h, domOf_setDom_ne hne]

/-- A pass over distinct domains gives each of them its interval's credit, and no other domain. -/
theorem domOf_forEach_gainCredit {l : List Nat} (hl : l.Nodup) (hw : DomsWf s) :
    domOf (forEach l s gainCredit) d = if d ∈ l then creditGained (domOf s d) else domOf s d := by
  induction l generalizing s with
  | nil => rfl
  | cons e l ih =>
    obtain ⟨he, hl⟩ := List.nodup_cons.1 hl
    have tail : domOf (forEach (e :: l) s gainCredit) d = domOf (forEach l (gainCredit s e) gainCredit) d := rfl
    rw [tail, ih hl (gainCredit_domsWf hw)]
    by_cases hd : d = e
    · subst hd
      rw [if_neg he, if_pos List.mem_cons_self, domOf_gainCredit_self hw]
    · simp only [List.mem_cons, hd, false_or, domOf_gainCredit_ne hw hd]

/-- Every domain gains, the unlisted ones too: they stand at 8 credits, where a gain changes nothing. -/
theorem domOf_gatingCreditGain (hw : DomsWf s) :
    domOf (forEach (Sparse.keys s.doms) s gainCredit) d = creditGained (domOf s d) := by
  rw [domOf_forEach_gainCredit (keys_nodup hw) hw]
  split
  · rfl
  · next h =>
    have unlisted : domOf s d = {} := get_of_not_mem_keys h
    rw [unlisted]
    rfl

/-- A deferred switch-off of a DRAM channel: the channel's domain stays as it is but for the mark, and
STATUS.pwr_deferred of its page reads 1. -/
theorem domReq_dch_deferred {c : Nat} (hc : c < 16) (hw : DomsWf s) (hst : (domOf s c).st = 2)
    (hcr : (domOf s c).credit = 0) :
    domOf (domReq s c false) c = { domOf s c with deferred := true, latched := none } ∧
      bit (readReg (domReq s c false) (0x1000 * Pg.dch c + 0x14)) 4 = true := by
  have dom : domOf (domReq s c false) c = { domOf s c with deferred := true, latched := none } := by
    rw [domReq_off_of_isOn hst, domOf_of_doms (startOff_doms_of_noCredit hcr), domOf_setDom_self hw]
  refine ⟨dom, ?_⟩
  rw [readReg_status (isPage_dch hc)]
  exact bit_statusWord_deferred (d := c) (by simp [domsOf_dch hc]) (by rw [dom])

/-- Settles O39: each clause is what a request, a switch-off or a credit does to one domain. -/
theorem gatingCredits : Obligations.GatingCredits := by
  unfold Obligations.GatingCredits
  refine ⟨?start, ?spends, ?defers, ?switchOn, ?chSpends, ?chDefers, ?gains, ?chOn⟩
  case start => exact fun d => rfl
  case spends =>
    intro d s hst hcr
    rw [domReq_off_of_isOn hst, startOff_of_credit hcr]
  case defers =>
    intro d s hst hcr
    rw [domReq_off_of_isOn hst, startOff_doms_of_noCredit hcr]
  case switchOn =>
    intro d s hst hn
    rw [domReq_on_of_isOff hst, startOn_of_place hn]
  case chSpends =>
    intro c s hc hw hl he hst hcr
    rw [exec_powerReq_dch hc hw hl he rfl rfl]
    have req := domReq_off_of_isOn (s := wr s (ctrlA (Pg.dch c)) 0#32) (d := c) hst
    exact congrArg (Host.Outcome.next ∘ settle) (req.trans (startOff_of_credit hcr))
  case chDefers =>
    intro c s hc hw hdw hl he hst hcr
    exact ⟨_, exec_powerReq_dch hc hw hl he rfl rfl, domReq_dch_deferred (s := wr s _ _) hc hdw hst hcr⟩
  case gains =>
    intro s hw
    refine ⟨_, rfl, fun d h => ?_, fun d h => ?_⟩
    · rw [domOf_gatingCreditGain hw, creditGained, if_neg (by simp [h])]
    · rw [domOf_gatingCreditGain hw, creditGained, if_pos h]
  case chOn =>
    intro c s hc hw hl he hst hn
    rw [exec_powerReq_dch hc hw hl he rfl rfl]
    have req := domReq_on_of_isOff (s := wr s (ctrlA (Pg.dch c)) 4#32) (d := c) hst
    exact congrArg (Host.Outcome.next ∘ settle) (req.trans (startOn_of_place hn))

-- the end of a transition (R18)

/-- A switch-on has ended: the domain is on, the latched request is carried out, and a waiting switch-on may start. -/
theorem domainDone_of_switchingOn (h : (domOf s d).st = 1) : domainDone s d = startWaiting
    (let t := domainOn (setDom s d { domOf s d with st := 2, latched := none }) d
     if (domOf s d).latched = some false then startOff t d else t) := by
  unfold domainDone
  dsimp only
  rw [if_pos h]
  cases (domOf s d).latched with
  | none => rfl
  | some on => cases on <;> rfl

/-- A switch-off has ended: the domain is off, and the latched request is carried out. -/
theorem domainDone_of_switchingOff (h : (domOf s d).st = 3) : domainDone s d =
    (let t := domainOff (setDom s d { domOf s d with st := 0, latched := none }) d
     if (domOf s d).latched = some true then startOn t d else t) := by
  unfold domainDone
  dsimp only
  rw [if_neg (by omega), if_pos h]
  cases (domOf s d).latched with
  | none => rfl
  | some on => cases on <;> rfl

theorem exec_domainSwitchDone : exec (.domainSwitchDone d) s = .next (settle (domainDone s d)) := rfl

/-- Settles O40: a request is latched while the domain switches, and the end of either transition carries it out or
finds it met. -/
theorem latchedPowerRequests : Obligations.LatchedPowerRequests := by
  unfold Obligations.LatchedPowerRequests
  refine ⟨?latch, ?chLatch, ?onThenOff, ?onMatches, ?offThenOn, ?offMatches⟩
  case latch => exact fun d on s h => domReq_of_switching h
  case chLatch =>
    intro c val s hc hw hl he h0 h1 hst
    rw [exec_powerReq_dch hc hw hl he h0 h1]
    exact congrArg (Host.Outcome.next ∘ settle) (domReq_of_switching (s := wr s _ _) hst)
  case onThenOff =>
    intro d s hst hlat
    rw [exec_domainSwitchDone, domainDone_of_switchingOn hst, if_pos hlat]
  case onMatches =>
    intro d s hst hlat
    rw [exec_domainSwitchDone, domainDone_of_switchingOn hst, if_neg (by simp [hlat])]
  case offThenOn =>
    intro d s hst hlat
    rw [exec_domainSwitchDone, domainDone_of_switchingOff hst, if_pos hlat]
  case offMatches =>
    intro d s hst hlat
    rw [exec_domainSwitchDone, domainDone_of_switchingOff hst, if_neg (by simp [hlat])]

end Sys2Proof.Machine
end

section
/-! ERR_FIRST (R34): it is armed while ERR_STATUS reads 0, and no report changes it from then on until ERR_STATUS reads 0
again. -/

namespace Sys2Proof.Machine

open Bits

variable {s : State}

/-- ERR_STATUS of page `p` is not all zero and ERR_FIRST holds `f`; the register file is canonical. -/
structure FirstHeld (p : Nat) (f : Word) (s : State) : Prop where
  wf : Sparse.wf resetOf s.regs = true
  status : rd s (errStatusA p) ≠ 0#32
  first : rd s (errFirstA p) = f

theorem regsWf_of_memWf (h : s.memWf = true) : Sparse.wf resetOf s.regs = true := by
  simp only [State.memWf, Bool.and_eq_true] at h
  exact h.1.1.1

-- what errSet does to ERR_STATUS and ERR_FIRST of its page (R33, R34)

theorem errSet_regs {p b : Nat} : ∃ lo, (errSet s p b).regs = (addSat
    (wr (if rd s (errStatusA p) = 0#32 then wr s (errFirstA p) (wd (b + 32)) else s) (errStatusA p)
      (rd s (errStatusA p) ||| one b)) (errCountA p) lo 16 1).regs := by
  unfold errSet
  dsimp only
  rw [event_regs]
  split
  · exact ⟨0, rfl⟩
  · exact ⟨16, rfl⟩

theorem errSet_regsWf {p b : Nat} (hw : Sparse.wf resetOf s.regs = true) :
    Sparse.wf resetOf (errSet s p b).regs = true := by
  obtain ⟨lo, h⟩ := errSet_regs (s := s) (p := p) (b := b)
  rw [h]
  split
  · exact set_wf (set_wf (set_wf hw))
  · exact set_wf (set_wf hw)

theorem rd_errSet_status {p b : Nat} (hw : Sparse.wf resetOf s.regs = true) :
    rd (errSet s p b) (errStatusA p) = rd s (errStatusA p) ||| one b := by
  have count : errStatusA p ≠ errCountA p := by unfold errStatusA errCountA; omega
  obtain ⟨lo, h⟩ := errSet_regs (s := s) (p := p) (b := b)
  rw [rd_of_regs h, addSat, rd_wr_ne count]
  split
  · exact get_set_self (set_wf hw)
  · exact get_set_self hw

/-- An error is recorded in ERR_FIRST if that is armed, and leaves it alone if not (R34). -/
theorem rd_errSet_first {p b : Nat} (hw : Sparse.wf resetOf s.regs = true) : rd (errSet s p b) (errFirstA p) =
    if rd s (errStatusA p) = 0#32 then wd (b + 32) else rd s (errFirstA p) := by
  have count : errFirstA p ≠ errCountA p := by unfold errFirstA errCountA; omega
  have status : errFirstA p ≠ errStatusA p := by unfold errFirstA errStatusA; omega
  obtain ⟨lo, h⟩ := errSet_regs (s := s) (p := p) (b := b)
  rw [rd_of_regs h, addSat, rd_wr_ne count, rd_wr_ne status]
  split
  · exact get_set_self hw
  · rfl

/-- The first error after ERR_STATUS read 0 is the one that ERR_FIRST records (R34). -/
theorem firstHeld_errSet_armed {p b : Nat} (hw : Sparse.wf resetOf s.regs = true) (hb : b < 32)
    (h : rd s (errStatusA p) = 0#32) : FirstHeld p (wd (b + 32)) (errSet s p b) where
  wf := errSet_regsWf hw
  status := by
    rw [rd_errSet_status hw]
    intro h0
    have hbit := bit_or_one (x := rd s (errStatusA p)) hb
    rw [h0] at hbit
    simp [bit] at hbit
  first := by rw [rd_errSet_first hw, if_pos h]

-- what keeps the record

section Held

variable {p q b c n u : Nat} {f : Word}

theorem FirstHeld.of_regs {t : State} (h : FirstHeld p f s) (k : t.regs = s.regs) : FirstHeld p f t where
  wf := k ▸ h.wf
  status := by rw [rd_of_regs k]; exact h.status
  first := by rw [rd_of_regs k]; exact h.first

theorem firstHeld_ite {x : Prop} [Decidable x] {t t' : State} (h : FirstHeld p f t) (h' : FirstHeld p f t') :
    FirstHeld p f (if x then t else t') := by
  split
  · exact h
  · exact h'

/-- Registers but ERR_STATUS and ERR_FIRST of the page may be written. -/
theorem firstHeld_wr_ne {a : Nat} {v : Word} (h : FirstHeld p f s) (hs : errStatusA p ≠ a) (hf : errFirstA p ≠ a) :
    FirstHeld p f (wr s a v) where
  wf := set_wf h.wf
  status := by rw [rd_wr_ne hs]; exact h.status
  first := by rw [rd_wr_ne hf]; exact h.first

/-- Block-specific registers are neither ERR_STATUS nor ERR_FIRST of any page (R27). -/
theorem firstHeld_wr {a : Nat} {v : Word} (h : FirstHeld p f s) (ha : 0x100 ≤ a % 0x1000) :
    FirstHeld p f (wr s a v) :=
  firstHeld_wr_ne h (by unfold errStatusA; omega) (by unfold errFirstA; omega)

/-- A further error of any page leaves the record as it is (R34). -/
theorem firstHeld_errSet (h : FirstHeld p f s) : FirstHeld p f (errSet s q b) := by
  by_cases hq : p = q
  · subst hq
    refine ⟨errSet_regsWf h.wf, ?_, ?_⟩
    · rw [rd_errSet_status h.wf]
      exact fun h0 => h.status (BitVec.or_eq_zero_iff.1 h0).1
    · rw [rd_errSet_first h.wf, if_neg h.status, h.first]
  · refine ⟨errSet_regsWf h.wf, ?_, ?_⟩
    · rw [rd_errSet (.inl (by unfold errStatusA; omega))]
      exact h.status
    · rw [rd_errSet (.inl (by unfold errFirstA; omega))]
      exact h.first

theorem firstHeld_icuSet (hn : n < 512) (h : FirstHeld p f s) : FirstHeld p f (icuSet s n).1 := by
  unfold icuSet
  split
  · exact firstHeld_wr h (by unfold Reg.icuLost; omega)
  · exact firstHeld_wr h (by unfold Reg.icuPend; omega)

theorem firstHeld_lostErr (h : FirstHeld p f s) : FirstHeld p f (lostErr s) := by
  have recorded : FirstHeld p f (errSet s Pg.icu 17) := firstHeld_errSet h
  exact firstHeld_ite recorded (firstHeld_wr recorded (by decide))

theorem firstHeld_icu (hn : n < 512) (h : FirstHeld p f s) : FirstHeld p f (icu s n) := by
  have src : FirstHeld p f (srcEvent s n) := h.of_regs srcEvent_regs
  have set := firstHeld_icuSet hn src
  unfold icu
  exact firstHeld_ite (firstHeld_ite (firstHeld_lostErr set) set)
    (firstHeld_ite (firstHeld_ite src (src.of_regs rfl)) (firstHeld_ite (src.of_regs rfl) src))

theorem firstHeld_fltReport (h : FirstHeld p f s) : FirstHeld p f (fltReport s q b u) := by
  have message : ∀ (t : State) (x : Flt), FirstHeld p f t → ∀ n < 512, FirstHeld p f (icu { t with flt := x } n) :=
    fun t x ht n hn => firstHeld_icu hn (ht.of_regs rfl)
  have corr : FirstHeld p f (addSat s Reg.fltCorrCount 0 32 1) := firstHeld_wr h (by decide)
  have cls : ∀ l, FirstHeld p f (addSat s Reg.fltClassCount l 16 1) := fun l => firstHeld_wr h (by decide)
  unfold fltReport
  dsimp only
  refine firstHeld_ite (firstHeld_ite (message _ _ corr _ (by omega)) corr) ?_
  have counted := cls (if classOf q b = 3 then 16 else 0)
  generalize addSat s Reg.fltClassCount _ 16 1 = t at counted ⊢
  have raised := firstHeld_ite (x := msSince t t.flt.last465 = true)
    (message t { t.flt with last465 := some (now t) } counted 465 (by omega)) counted
  have escalated := raised.of_regs (escalate_regs (p := q) (u := u) (b := b))
  exact firstHeld_ite (counted.of_regs rfl)
    (firstHeld_ite escalated (firstHeld_ite escalated (firstHeld_ite raised (raised.of_regs rfl))))

theorem firstHeld_attributeTo (h : FirstHeld p f s) : FirstHeld p f (attributeTo s q u) := by
  unfold attributeTo
  exact firstHeld_ite (firstHeld_wr h (by decide)) (firstHeld_ite (firstHeld_wr h (by decide)) h)

/-- What a report does once the error is recorded leaves the record as it is. -/
theorem firstHeld_report_of_errSet (h : FirstHeld p f (errSet s q b)) : FirstHeld p f (report s q b u) := by
  have attributed := firstHeld_attributeTo (q := q) (u := u) h
  have reported := firstHeld_fltReport (q := q) (b := b) (u := u) attributed
  unfold report
  dsimp only
  split
  · exact attributed
  · split
    · next n hn => exact firstHeld_icu (errSource_lt hn) reported
    · exact reported

theorem firstHeld_report (h : FirstHeld p f s) : FirstHeld p f (report s q b u) :=
  firstHeld_report_of_errSet (firstHeld_errSet h)

theorem firstHeld_noteReasons (h : FirstHeld p f s) : FirstHeld p f (noteReasons s) := by
  unfold noteReasons
  exact firstHeld_ite (firstHeld_icu (by omega) (h.of_regs (forEach_regs fun t x => rfl))) h

theorem firstHeld_bufferUe (h : FirstHeld p f s) : FirstHeld p f (bufferUe s n) := by
  have last : ∀ v, FirstHeld p f (wr (freeVal s).2 Reg.poolUeLast v) := fun v =>
    firstHeld_wr (h.of_regs rfl) (by decide)
  unfold bufferUe
  exact firstHeld_ite (firstHeld_report ((last _).of_regs rfl)) ((last _).of_regs rfl)

theorem firstHeld_detected (h : FirstHeld p f s) : FirstHeld p f (detected s q b u) := by
  have ecc : FirstHeld p f (addSat s Reg.sysSramEcc 0 16 1) := firstHeld_wr h (by decide)
  unfold detected
  dsimp only
  refine firstHeld_ite (firstHeld_ite (firstHeld_icu (by omega) ecc) ecc) ?_
  refine firstHeld_ite (firstHeld_wr h (by decide)) ?_
  refine firstHeld_ite ((firstHeld_bufferUe h).of_regs bufferLost_regs) ?_
  refine firstHeld_ite (h.of_regs bufferLost_regs) ?_
  refine firstHeld_ite (firstHeld_report h) ?_
  refine firstHeld_ite (h.of_regs rfl) ?_
  exact firstHeld_ite (firstHeld_ite h (firstHeld_noteReasons (firstHeld_ite (h.of_regs rfl) (h.of_regs rfl)))) h

/-- A detected error leaves a record that is held as it is (R34). -/
theorem firstHeld_detect (h : FirstHeld p f s) : FirstHeld p f (detect s q b u) := by
  unfold detect
  split
  · exact h
  · exact firstHeld_detected (firstHeld_report h)

/-- An error that is detected while ERR_STATUS reads 0 is recorded in ERR_FIRST (R34). -/
theorem firstHeld_detect_armed (hp : isPage p = true) (hc : classOf p b ≠ 0) (hup : coreUp s = true)
    (hw : Sparse.wf resetOf s.regs = true) (hb : b < 32) (h : rd s (errStatusA p) = 0#32) :
    FirstHeld p (wd (b + 32)) (detect s p b u) := by
  unfold detect
  rw [if_neg (by simp [hp, hc, hup])]
  exact firstHeld_detected (firstHeld_report_of_errSet (firstHeld_errSet_armed hw hb h))

theorem firstHeld_forEach {α : Type} {l : List α} {g : State → α → State} (h : FirstHeld p f s)
    (k : ∀ t a, FirstHeld p f t → FirstHeld p f (g t a)) : FirstHeld p f (forEach l s g) :=
  List.foldlRecOn l g h fun t ht a _ => k t a ht

end Held

-- ERR_STATUS_CLEAR (R33, R34)

theorem andNot_andNot_zero {x v : Word} : x &&& ~~~(x &&& v &&& ~~~0#32) = x &&& ~~~v := by
  rw [BitVec.not_zero, BitVec.and_allOnes]
  ext i
  cases h : x[i] <;> simp [h]

/-- With no error in the same hop, clearing leaves ERR_STATUS with the bits not written as 1. -/
theorem rd_errClear_first {p : Nat} {val : Word} (hw : Sparse.wf resetOf s.regs = true) :
    rd (errClear s p val 0#32) (errFirstA p) =
      if rd s (errStatusA p) &&& ~~~val = 0#32 then 0#32 else rd s (errFirstA p) := by
  have noneDetected : forEach (List.range 32) s (fun s b => if bit 0#32 b = true then detect s p b 0 else s) = s :=
    List.foldlRecOn (motive := (· = s)) _ _ rfl fun t ht b _ => by simp [ht, bit]
  have hne : errFirstA p ≠ errStatusA p := by unfold errFirstA errStatusA; omega
  unfold errClear
  dsimp only
  rw [noneDetected, andNot_andNot_zero]
  generalize hu : forEach (List.range 32) s _ = u
  have regs : u.regs = s.regs := by
    rw [← hu]
    exact forEach_regs fun t b => by split <;> rfl
  have uwf : Sparse.wf resetOf u.regs = true := regs ▸ hw
  rw [show rd (wr u (errStatusA p) _) (errStatusA p) = _ from get_set_self uwf]
  split
  · exact get_set_self (set_wf uwf)
  · rw [rd_wr_ne hne, rd_of_regs regs]

-- ERR_INJECT (R33, R34)

/-- One bit of an ERR_INJECT write: the error once, as if detected, where the page defines the bit (R33). -/
def injectBit (p : Nat) (val : Word) (s : State) (b : Nat) : State :=
  if bit val b && classOf p b != 0 then detect (injectUnit s p b).2 p b (injectUnit s p b).1 else s

theorem inject_eq_forEach {p : Nat} {val : Word} (h : injectLocked s p = false) :
    inject s p val = forEach (List.range 32) s (injectBit p val) := by
  unfold inject
  rw [if_neg (by simp [h])]
  rfl

/-- The choice of the unit takes at most a free value. -/
theorem injectUnit_eq {p b : Nat} : ∃ n, (injectUnit s p b).2 = { s with free := n } := by
  unfold injectUnit
  split
  · exact ⟨s.free, rfl⟩
  · split
    · exact ⟨s.free, rfl⟩
    · split
      · exact ⟨s.free + 1, rfl⟩
      · exact ⟨s.free, rfl⟩

theorem firstHeld_injectBit {p b : Nat} {val f : Word} (h : FirstHeld p f s) :
    FirstHeld p f (injectBit p val s b) := by
  unfold injectBit
  split
  · obtain ⟨n, hn⟩ := injectUnit_eq (s := s) (p := p) (b := b)
    rw [hn]
    exact firstHeld_detect (h.of_regs rfl)
  · exact h

/-- Of the errors injected at once, the lowest bit is recorded (R34): those below have no effect, those above come when the
record is held. -/
theorem firstHeld_inject {p b : Nat} {val : Word} (hp : isPage p = true) (hl : injectLocked s p = false)
    (hup : coreUp s = true) (hw : Sparse.wf resetOf s.regs = true) (hb : b < 32) (h0 : rd s (errStatusA p) = 0#32)
    (hbit : bit val b = true) (hc : classOf p b ≠ 0) (low : ∀ k < b, bit val k = true → classOf p k = 0) :
    FirstHeld p (wd (b + 32)) (inject s p val) := by
  have split32 : List.range 32 = List.range b ++ b :: (List.range (31 - b)).map (b + 1 + ·) := by
    rw [show 32 = b + (1 + (31 - b)) by omega, List.range_add, List.range_add]
    simp [Function.comp_def, Nat.add_assoc]
  have below : (List.range b).foldl (injectBit p val) s = s :=
    List.foldlRecOn (motive := (· = s)) _ _ rfl fun t ht k hk => by
      rw [ht]
      refine if_neg fun hkc => ?_
      simp only [Bool.and_eq_true, bne_iff_ne] at hkc
      exact hkc.2 (low k (List.mem_range.1 hk) hkc.1)
  have at_b : FirstHeld p (wd (b + 32)) (injectBit p val s b) := by
    unfold injectBit
    rw [if_pos (by simp [hbit, hc])]
    obtain ⟨n, hn⟩ := injectUnit_eq (s := s) (p := p) (b := b)
    rw [hn]
    exact firstHeld_detect_armed hp hc hup hw hb h0
  rw [inject_eq_forEach hl, forEach, split32, List.foldl_append, below, List.foldl_cons]
  exact firstHeld_forEach at_b fun t k ht => firstHeld_injectBit ht

-- the commands

theorem exec_errorReport {p b u : Nat} : exec (.errorReport p b u) s = .next (settle (detect s p b u)) := rfl

theorem exec_errStatusClear {p : Nat} {val hw : Word} (hp : isPage p = true) :
    exec (.errStatusClear p val hw) s = .next (settle (errClear s p val hw)) :=
  congrArg (Host.Outcome.next ∘ settle) (if_pos hp)

theorem exec_errInject {p : Nat} {val : Word} (hp : isPage p = true) :
    exec (.errInject p val) s = .next (settle (inject s p val)) :=
  congrArg (Host.Outcome.next ∘ settle) (if_pos hp)

/-- Settles O42: an armed ERR_FIRST takes the first error, a held one keeps it through every report, and it clears with the
last bit of ERR_STATUS. -/
theorem firstErrorIsKept : Obligations.FirstErrorIsKept := by
  unfold Obligations.FirstErrorIsKept
  refine ⟨?records, ?holds, ?clears, ?stays, ?lowest⟩
  case records =>
    intro p b u s hp hc hup hw hb h0
    exact ⟨_, exec_errorReport, (firstHeld_detect_armed hp hc hup (regsWf_of_memWf hw) hb h0).first⟩
  case holds =>
    intro p b u s hp hup hw hb h0
    exact ⟨_, exec_errorReport, (firstHeld_detect ⟨regsWf_of_memWf hw, h0, rfl⟩).first⟩
  case clears =>
    intro p val s hp hw h0
    exact ⟨_, exec_errStatusClear hp, by rw [rd_errClear_first (regsWf_of_memWf hw), if_pos h0]⟩
  case stays =>
    intro p val s hp hw h0
    exact ⟨_, exec_errStatusClear hp, by rw [rd_errClear_first (regsWf_of_memWf hw), if_neg h0]⟩
  case lowest =>
    intro p val b s hp hl hup hw hb h0 hbit hc low
    exact ⟨_, exec_errInject hp, (firstHeld_inject hp hl hup (regsWf_of_memWf hw) hb h0 hbit hc low).first⟩

end Sys2Proof.Machine
end

section
/-! The answer to an access that no online window serves (R187), which of the link's counters it moves (R188, R219), and the
obligation on an access to a DPA in no valid window. -/

namespace Sys2Proof.Machine

open Bits

variable {s : State} {ld hpa tag dpa p a : Nat} {write : Bool} {data : List Byte}

-- raise40 moves the port's record of the last raise and the ICU, nothing else of the link (R219)

theorem raise40_hl : ∃ ports, (raise40 s p).hl = { s.hl with ports := ports } := by
  unfold raise40
  dsimp only
  split
  · exact ⟨_, icu_hl⟩
  · exact ⟨s.hl.ports, rfl⟩

@[simp] theorem raise40_sent : (raise40 s p).hl.sent = s.hl.sent := by
  obtain ⟨_, h⟩ := raise40_hl (s := s) (p := p)
  rw [h]

@[simp] theorem raise40_offlineWrites : (raise40 s p).hl.offlineWrites = s.hl.offlineWrites := by
  obtain ⟨_, h⟩ := raise40_hl (s := s) (p := p)
  rw [h]

@[simp] theorem raise40_winTab : (raise40 s p).hl.winTab = s.hl.winTab := by
  obtain ⟨_, h⟩ := raise40_hl (s := s) (p := p)
  rw [h]

@[simp] theorem raise40_dram : (raise40 s p).dram = s.dram := by
  unfold raise40
  dsimp only
  split
  · exact icu_dram
  · rfl

@[simp] theorem raise40_gen : (raise40 s p).gen = s.gen := by
  unfold raise40
  dsimp only
  split
  · exact icu_gen
  · rfl

/-- Raising a port's source writes the interrupt controller's registers alone, and FLT_CORR_COUNT. -/
theorem rd_raise40 (hp : p < 4) (ha : a / 0x1000 ≠ Pg.icu) (hf : a ≠ Reg.fltCorrCount) :
    rd (raise40 s p) a = rd s a := by
  unfold raise40
  dsimp only
  split
  · exact (rd_icu (by omega) ha hf).trans (rd_of_regs setPort_regs a)
  · rfl

-- the answer of R187

/-- The completion of R187: zeros with poison for a read, a normal completion for a write. -/
def offlineCpl (s : State) (ld tag : Nat) (write : Bool) : Cpl :=
  { ld, tag, isRead := !write, data := if write then [] else zeros 64, poison := !write, devLoad := devLoad s ld }

@[simp] theorem answerOffline_sent :
    (answerOffline s ld tag write).hl.sent = s.hl.sent ++ [offlineCpl s ld tag write] := by
  cases write <;> rfl

@[simp] theorem answerOffline_offlineWrites : (answerOffline s ld tag write).hl.offlineWrites =
    if write then (s.hl.offlineWrites + 1) % 2 ^ 32 else s.hl.offlineWrites := by
  cases write <;> rfl

@[simp] theorem answerOffline_winTab : (answerOffline s ld tag write).hl.winTab = s.hl.winTab := by
  cases write <;> rfl

@[simp] theorem answerOffline_regs : (answerOffline s ld tag write).regs = s.regs := by
  cases write <;> rfl

@[simp] theorem answerOffline_dram : (answerOffline s ld tag write).dram = s.dram := by
  cases write <;> rfl

@[simp] theorem answerOffline_gen : (answerOffline s ld tag write).gen = s.gen := by
  cases write <;> rfl

-- a port's 16-bit counter in its link's page

theorem rd_hlCount_ne {reg : Nat → Nat} (h : a ≠ reg (p / 2)) : rd (hlCount s reg p) a = rd s a := rd_wr_ne h

/-- The port's half of the register counts one more, up to 65,535. -/
theorem rf_hlCount_self {reg : Nat → Nat} (hw : s.memWf = true) :
    rf (hlCount s reg p) (reg (p / 2)) (16 * (p % 2)) 16 =
      min 65535 (rf s (reg (p / 2)) (16 * (p % 2)) 16 + 1) := by
  unfold rf hlCount addSat
  rw [rd_wr_self hw]
  exact (fld_incFld (by omega)).trans (Nat.min_comm _ _)

-- an access to a DPA in no valid window (R188)

/-- In the pages above the ICU's, an unmapped access writes its counter alone. -/
theorem rd_unmapped (hld : ld < 64) (ha : Pg.icu < a / 0x1000) :
    rd (unmapped s ld tag write) a = rd (hlCount s Reg.hlUnmapped (ld / 16)) a :=
  have hf : a ≠ Reg.fltCorrCount := by unfold Pg.icu at ha; unfold Reg.fltCorrCount; omega
  (rd_raise40 (by omega) ha.ne' hf).trans (rd_of_regs answerOffline_regs a)

theorem rd_unmapped_hlOfflineAcc (hld : ld < 64) (c : Nat) :
    rd (unmapped s ld tag write) (Reg.hlOfflineAcc c) = rd s (Reg.hlOfflineAcc c) := by
  have page : Pg.icu < Reg.hlOfflineAcc c / 0x1000 := by unfold Pg.icu Reg.hlOfflineAcc; omega
  have counter : Reg.hlOfflineAcc c ≠ Reg.hlUnmapped (ld / 16 / 2) := by
    unfold Reg.hlOfflineAcc Reg.hlUnmapped; omega
  rw [rd_unmapped hld page, rd_hlCount_ne counter]

theorem rf_unmapped_hlUnmapped (hld : ld < 64) (hw : s.memWf = true) :
    rf (unmapped s ld tag write) (Reg.hlUnmapped (ld / 16 / 2)) (16 * (ld / 16 % 2)) 16 =
      min 65535 (rf s (Reg.hlUnmapped (ld / 16 / 2)) (16 * (ld / 16 % 2)) 16 + 1) := by
  have page : Pg.icu < Reg.hlUnmapped (ld / 16 / 2) / 0x1000 := by unfold Pg.icu Reg.hlUnmapped; omega
  rw [← rf_hlCount_self hw, rf, rf, rd_unmapped hld page]

@[simp] theorem unmapped_sent : (unmapped s ld tag write).hl.sent =
    s.hl.sent ++ [offlineCpl (hlCount s Reg.hlUnmapped (ld / 16)) ld tag write] :=
  raise40_sent.trans answerOffline_sent

@[simp] theorem unmapped_offlineWrites : (unmapped s ld tag write).hl.offlineWrites =
    if write then (s.hl.offlineWrites + 1) % 2 ^ 32 else s.hl.offlineWrites :=
  raise40_offlineWrites.trans answerOffline_offlineWrites

@[simp] theorem unmapped_winTab : (unmapped s ld tag write).hl.winTab = s.hl.winTab :=
  raise40_winTab.trans answerOffline_winTab

@[simp] theorem unmapped_dram : (unmapped s ld tag write).dram = s.dram := raise40_dram.trans answerOffline_dram

@[simp] theorem unmapped_gen : (unmapped s ld tag write).gen = s.gen := raise40_gen.trans answerOffline_gen

/-- A decoded DPA that no valid window of the logical device holds is not routed on (R182, R188). -/
theorem route_unmapped {k : Nat → Nat → State} (hd : hdmDpa (ldOf s ld).hdm hpa = some dpa)
    (hn : winFor s ld dpa = none) : route s ld hpa tag write k = unmapped s ld tag write := by
  unfold route
  simp only [hd, hn]

theorem exec_cxlmemRead_unmapped (ht : takes s ld false = true) (hd : hdmDpa (ldOf s ld).hdm hpa = some dpa)
    (hn : winFor s ld dpa = none) :
    exec (.cxlmemRead ld hpa tag) s = .next (settle (unmapped s ld tag false)) :=
  congrArg (Host.Outcome.next ∘ settle) ((if_pos ht).trans (route_unmapped hd hn))

theorem exec_cxlmemWrite_unmapped (ht : takes s ld true = true) (hd : hdmDpa (ldOf s ld).hdm hpa = some dpa)
    (hn : winFor s ld dpa = none) :
    exec (.cxlmemWrite ld hpa tag data false) s = .next (settle (unmapped s ld tag true)) :=
  congrArg (Host.Outcome.next ∘ settle) ((if_pos ht).trans (route_unmapped hd hn))

/-- Settles O48: the access is answered as offline, and of the counters it moves HL_UNMAPPED and, if it writes, the offline
write count. -/
theorem unmappedDpaAccess : Obligations.UnmappedDpaAccess := by
  unfold Obligations.UnmappedDpaAccess
  refine ⟨?read, ?write⟩
  case read =>
    intro ld hpa tag dpa s hld ht hw hd hn
    exact ⟨_, exec_cxlmemRead_unmapped ht hd hn, ⟨_, unmapped_sent, rfl, rfl, rfl, rfl, rfl⟩, unmapped_offlineWrites,
      unmapped_winTab, unmapped_dram, unmapped_gen, rd_unmapped_hlOfflineAcc hld _, rf_unmapped_hlUnmapped hld hw⟩
  case write =>
    intro ld hpa tag data dpa s hld ht hw hd hn
    exact ⟨_, exec_cxlmemWrite_unmapped ht hd hn, ⟨_, unmapped_sent, rfl, rfl, rfl, rfl⟩, unmapped_offlineWrites,
      unmapped_winTab, unmapped_dram, unmapped_gen, rd_unmapped_hlOfflineAcc hld _, rf_unmapped_hlUnmapped hld hw⟩

end Sys2Proof.Machine
end

section
/-! Arbitration (R414, R415): what an interrupt entry does with the source that is taken, and the obligations on which
source that is. -/

namespace Sys2Proof.Machine

open Bits

variable {s : State} {src : Nat} {ctx : List Word}

/-- A tier is its priority without the bits of the rank (R414). -/
theorem tier_eq_div {p : Nat} : tier s p = p / 2 ^ rf s Reg.icuCfg 8 3 := Nat.shiftRight_eq_div_pow ..

-- ICU_ENTRY (R416)

/-- With nothing to take, an entry changes nothing. -/
theorem exec_icuEntry_of_none (h : bestSource s s.icu.stack = none) : exec (.icuEntry ctx) s = .next (settle s) := by
  change execIcuEntry ctx s = _
  unfold execIcuEntry
  simp only [h, ite_self]

/-- The source taken is pushed with its priority. -/
theorem exec_icuEntry_of_some (hrun : s.icu.core = .running) (hbest : bestSource s s.icu.stack = some src)
    (hok : handlerOk (handlerAddr s src) = true) : ∃ u, exec (.icuEntry ctx) s = .next (settle u) ∧
      u.icu.stack = (src, prioOf s src) :: s.icu.stack := by
  change ∃ u, execIcuEntry ctx s = .next (settle u) ∧ _
  unfold execIcuEntry
  simp only [hrun, hbest, hok, if_true]
  exact ⟨_, rfl, rfl⟩

-- ICU_STATUS (R427)

theorem readReg_icuStatus : readReg s Reg.icuStatus =
    wd ((s.icu.stack.head?.map Prod.fst).getD 0 + 512 * (!s.icu.stack.isEmpty).toNat + 1024 * s.icu.stack.length +
      65536 * rf s Reg.icuStatus 16 1 + 2 ^ 17 * (decide (16 ≤ s.icu.stack.length)).toNat) := rfl

/-- Fields below bit 17 do not carry into it. -/
theorem bit17_wd_add {n : Nat} (h : n < 2 ^ 17) : bit (wd (n + 2 ^ 17)) 17 = true := by
  unfold bit wd
  rw [BitVec.getLsbD_ofNat, Nat.add_comm, Nat.testBit_two_pow_add_eq, Nat.testBit_lt_two_pow h]
  rfl

/-- ICU_STATUS.stack_full (R415). -/
theorem icuStatus_stackFull (hfull : s.icu.stack.length = 16) (hsrc : ∀ e ∈ s.icu.stack, e.1 < 512) :
    bit (readReg s Reg.icuStatus) 17 = true := by
  have top : (s.icu.stack.head?.map Prod.fst).getD 0 < 512 := by
    cases h : s.icu.stack with
    | nil => decide
    | cons e rest => exact hsrc e (h ▸ List.mem_cons_self ..)
  have active : (!s.icu.stack.isEmpty).toNat ≤ 1 := Bool.toNat_le _
  have aborted : rf s Reg.icuStatus 16 1 < 2 := Nat.mod_lt _ (by decide)
  rw [readReg_icuStatus, hfull]
  exact bit17_wd_add (by omega)

-- the obligations

/-- Settles O44: arbitration takes the pending source that R414 names, and none where R414 lets none be taken. -/
theorem arbitration : Obligations.Arbitration := by
  unfold Obligations.Arbitration
  intro can hcan
  have can_iff : ∀ s src, can s src ↔ src < 512 ∧ isPending s src = true ∧ takeable s s.icu.stack src = true := by
    intro s src
    rw [hcan, takeable_iff]
  refine ⟨fun s => ⟨rfl, rfl⟩, fun s p => tier_eq_div, ?taken, ?none, ?deepSleep⟩
  case taken =>
    intro ctx src s hrun hsrc hfirst hok
    obtain ⟨hlt, hpend, htake⟩ := (can_iff s src).1 hsrc
    exact exec_icuEntry_of_some hrun
      (bestSource_eq hlt hpend htake fun b hb hp ht => hfirst b ((can_iff s b).2 ⟨hb, hp, ht⟩)) hok
  case none =>
    intro ctx s hnone
    exact exec_icuEntry_of_none (bestSource_none.2 fun b hb hp =>
      Bool.eq_false_iff.2 fun ht => hnone b ((can_iff s b).2 ⟨hb, hp, ht⟩))
  case deepSleep =>
    intro src s hcore hup hwatch hpend
    change execThimbleWake src s = _
    unfold execThimbleWake
    simp [hcore, hup, hwatch, hpend]

/-- Settles O45: neither a full stack nor a tier that is not below that of the top lets a source be taken; among equal tiers
the priority decides who waits. -/
theorem fullStackTakesNothing : Obligations.FullStackTakesNothing := by
  unfold Obligations.FullStackTakesNothing
  refine ⟨?full, ?sameTier, ?rank⟩
  case full =>
    intro ctx s hfull hsrc
    refine ⟨exec_icuEntry_of_none (bestSource_none.2 fun b _ _ => Bool.eq_false_iff.2 fun ht => ?_),
      icuStatus_stackFull hfull hsrc⟩
    obtain ⟨-, -, -, -, room, -⟩ := takeable_iff.1 ht
    omega
  case sameTier =>
    intro ctx e rest s hstack htier
    refine exec_icuEntry_of_none (bestSource_none.2 fun b hb hp => Bool.eq_false_iff.2 fun ht => ?_)
    obtain ⟨-, -, above, -⟩ := takeable_iff.1 ht
    exact (above e rest hstack).not_ge (htier b hb hp)
  case rank =>
    intro a b s ha _ hpa _ hta _ _ hlt
    cases h : bestSource s s.icu.stack with
    | none => exact absurd hta (by rw [bestSource_none.1 h a ha hpa]; decide)
    | some c =>
      obtain ⟨-, -, -, hfirst⟩ := bestSource_spec h
      have hc := hfirst a ha hpa hta
      refine ⟨c, rfl, ?_, by omega⟩
      rintro rfl
      omega

end Sys2Proof.Machine
end

section
/-! Completion of a handler (R418): what raising a source and reporting a stack fault keep of the interrupt controller, and
the obligation on ICU_DONE. -/

namespace Sys2Proof.Machine

open Bits

variable {s t : State} {n p b u : Nat}

/-- `t` is `s` after raised sources and recorded errors: the priority stack and ICU_FAULT are as they were, and no pending
source is lost. -/
structure OnlyRaises (s t : State) : Prop extends Keeps s t where
  entries : t.icu.stack = s.icu.stack
  fault : rd t Reg.icuFault = rd s Reg.icuFault
  raised : s.memWf = true → ∀ k < 512, isPending s k = true → isPending t k = true

theorem OnlyRaises.trans {r : State} (h : OnlyRaises r s) (k : OnlyRaises s t) : OnlyRaises r t where
  toKeeps := h.toKeeps.trans k.toKeeps
  entries := k.entries.trans h.entries
  fault := k.fault.trans h.fault
  raised hw j hj hp := k.raised (h.mem hw) j hj (h.raised hw j hj hp)

theorem OnlyRaises.isActive (h : OnlyRaises s t) {k : Nat} : isActive t k = isActive s k := by
  unfold Machine.isActive
  rw [h.entries]

/-- The pending bits and ICU_FAULT lie between the start of the ICU's block-specific registers and its lost counters (R427). -/
theorem onlyRaises_of_rd (hk : Keeps s t) (hs : t.icu.stack = s.icu.stack)
    (hr : ∀ a, Reg.icuDoorbell ≤ a → a < Reg.icuLost 0 → rd t a = rd s a) : OnlyRaises s t where
  toKeeps := hk
  entries := hs
  fault := hr _ (by decide) (by decide)
  raised _ k hk hp := by
    rw [isPending_of_rd (hr _ ?_ ?_), hp]
    all_goals
      simp only [Reg.icuPend, Reg.icuDoorbell, Reg.icuLost]
      omega

theorem onlyRaises_of_regs (hk : Keeps s t) (hs : t.icu.stack = s.icu.stack) (hr : t.regs = s.regs) : OnlyRaises s t :=
  onlyRaises_of_rd hk hs fun a _ _ => rd_of_regs hr a

theorem onlyRaises_wr {a : Nat} {v : Word} (ha : a < Reg.icuDoorbell ∨ Reg.icuLost 0 ≤ a) : OnlyRaises s (wr s a v) :=
  onlyRaises_of_rd (wr_keeps (Keeps.refl s)) rfl fun a' h h' => rd_wr_ne (by omega)

theorem onlyRaises_ite {c : Prop} [Decidable c] {r : State} (h : OnlyRaises r s) (k : OnlyRaises r t) :
    OnlyRaises r (if c then s else t) := by
  split
  · exact h
  · exact k

theorem onlyRaises_errSet : OnlyRaises s (errSet s p b) :=
  onlyRaises_of_rd (errSet_keeps (Keeps.refl s)) (by rw [errSet_icu]) fun a h h' =>
    rd_errSet (.inr (by simp only [Reg.icuDoorbell, Reg.icuLost] at h h'; omega))

-- a message (R412)

/-- A source becomes pending beside those that are; a lost event moves its counter. -/
theorem onlyRaises_icuSet : OnlyRaises s (icuSet s n).1 := by
  unfold icuSet
  split
  · exact onlyRaises_wr (.inr (by simp [Reg.icuLost]))
  · exact {
      toKeeps := setPending_keeps (Keeps.refl s)
      entries := rfl
      fault := rd_wr_ne (by simp only [Reg.icuFault, Reg.icuPend]; omega)
      raised := fun hw k _ hp => by rw [isPending_setPending hw, hp, ite_self] }

theorem onlyRaises_lostErr : OnlyRaises s (lostErr s) :=
  onlyRaises_ite onlyRaises_errSet (onlyRaises_errSet.trans (onlyRaises_wr (by decide)))

theorem onlyRaises_srcEvent : OnlyRaises s (srcEvent s n) :=
  onlyRaises_of_regs (srcEvent_keeps (Keeps.refl s)) (by simp) srcEvent_regs

theorem onlyRaises_icuMsg : OnlyRaises s (icuMsg s n) :=
  onlyRaises_ite (onlyRaises_icuSet.trans onlyRaises_lostErr) onlyRaises_icuSet

theorem onlyRaises_icu : OnlyRaises s (icu s n) := by
  have decoded : OnlyRaises s (srcEvent s n) := onlyRaises_srcEvent
  have latched : ∀ l, OnlyRaises s { srcEvent s n with icu := { (srcEvent s n).icu with latched := l } } := fun _ =>
    decoded.trans (onlyRaises_of_regs (.mk' (.refl _) rfl rfl rfl rfl) rfl rfl)
  have deferred : ∀ l, OnlyRaises s { srcEvent s n with psq := { (srcEvent s n).psq with deferred := l } } := fun _ =>
    decoded.trans (onlyRaises_of_regs (.mk' (.refl _) rfl rfl rfl rfl) rfl rfl)
  unfold icu
  exact onlyRaises_ite (decoded.trans onlyRaises_icuMsg)
    (onlyRaises_ite (onlyRaises_ite decoded (latched _)) (onlyRaises_ite (deferred _) decoded))

/-- The source of a message is pending or active afterwards. -/
theorem raised_icuMsg (hn : n < 512) (hw : s.memWf = true) :
    isPending (icuMsg s n) n = true ∨ isActive (icuMsg s n) n = true := by
  cases h : isActive s n with
  | true => exact .inr (onlyRaises_icuMsg.isActive.trans h)
  | false =>
    cases hp : isPending s n with
    | true => exact .inl (onlyRaises_icuMsg.raised hw n hn hp)
    | false =>
      refine .inl ?_
      simp [icuMsg, icuSet, h, hp, isPending_setPending hw]

theorem raised_icu (hn : n < 512) (hup : coreUp s = true) (hw : s.memWf = true) :
    isPending (icu s n) n = true ∨ isActive (icu s n) n = true := by
  unfold icu
  rw [if_pos hup]
  exact raised_icuMsg hn (onlyRaises_srcEvent.mem hw)

-- the report of a corrected error (R33, R505)

theorem onlyRaises_attributeTo : OnlyRaises s (attributeTo s p u) :=
  onlyRaises_ite (onlyRaises_wr (by decide)) (onlyRaises_ite (onlyRaises_wr (by decide))
    (onlyRaises_of_regs (.refl s) rfl rfl))

/-- A corrected error is counted, and raises source 464 at most. -/
theorem onlyRaises_fltReport_corrected (hc : classOf p b = 1) : OnlyRaises s (fltReport s p b u) := by
  have counted : OnlyRaises s (addSat s Reg.fltCorrCount 0 32 1) := onlyRaises_wr (by decide)
  unfold fltReport
  dsimp only
  rw [if_pos hc]
  refine onlyRaises_ite (counted.trans (.trans ?_ onlyRaises_icu)) counted
  exact onlyRaises_of_regs (.mk' (.refl _) rfl rfl rfl rfl) rfl rfl

theorem onlyRaises_report_corrected (hc : classOf p b = 1) : OnlyRaises s (report s p b u) := by
  have recorded : OnlyRaises s (attributeTo (errSet s p b) p u) := onlyRaises_errSet.trans onlyRaises_attributeTo
  have reported := recorded.trans (onlyRaises_fltReport_corrected (u := u) hc)
  unfold report
  dsimp only
  split
  · exact recorded
  · split
    · exact reported.trans onlyRaises_icu
    · exact reported

-- ICU_DONE (R418)

section Done

variable {val : Word} {src cause : Nat}

/-- A completion that raises a stack fault leaves the stack, and records the cause and the source named. -/
theorem exec_icuDone_of_fault (hsrc : src < 512) (hup : coreUp s = true) (hw : s.memWf = true)
    (h : exec (.icuDone val) s = .next (settle (report (stackFault s cause src) Pg.icu 16 0))) :
    ∃ u, exec (.icuDone val) s = .next (settle u) ∧ u.icu.stack = s.icu.stack ∧
      rd u Reg.icuFault = wd (cause + src * 65536) ∧ (isPending u 0 = true ∨ isActive u 0 = true) := by
  have hwr := (wr_keeps (a := Reg.icuFault) (v := wd (cause + src % 512 * 65536)) (.refl s)).mem hw
  have reported : OnlyRaises (stackFault s cause src) (report (stackFault s cause src) Pg.icu 16 0) :=
    onlyRaises_report_corrected rfl
  have raised : isPending (stackFault s cause src) 0 = true ∨ isActive (stackFault s cause src) 0 = true :=
    raised_icu (by decide) hup hwr
  have faulted := onlyRaises_icu.trans reported
  refine ⟨_, h, faulted.entries, ?_, raised.imp ?_ reported.isActive.trans⟩
  · rw [faulted.fault, rd_wr_self hw, Nat.mod_eq_of_lt hsrc]
  · exact reported.raised (onlyRaises_icu.mem hwr) 0 (by decide)

variable (hval : fld val 0 9 = src) (hsrc : src < 500)
include hval hsrc

theorem exec_icuDone_of_top {q : Nat} {rest : List (Nat × Nat)} (hstack : s.icu.stack = (src, q) :: rest) :
    exec (.icuDone val) s = .next (settle (completeTop s src)) := by
  change execIcuDone val s = _
  simp [execIcuDone, srcField, hval, hstack, show ¬ 499 < src by omega]

theorem exec_icuDone_of_other {e : Nat × Nat} {rest : List (Nat × Nat)} (hstack : s.icu.stack = e :: rest)
    (hne : e.1 ≠ src) : exec (.icuDone val) s = .next (settle (report (stackFault s 1 src) Pg.icu 16 0)) := by
  change execIcuDone val s = _
  simp [execIcuDone, srcField, hval, hstack, hne, show ¬ 499 < src by omega]

theorem exec_icuDone_of_empty (hstack : s.icu.stack = []) :
    exec (.icuDone val) s = .next (settle (report (stackFault s 2 src) Pg.icu 16 0)) := by
  change execIcuDone val s = _
  simp [execIcuDone, srcField, hval, hstack, show ¬ 499 < src by omega]

end Done

/-- Settles O46: ICU_DONE pops the source on top; for any other, and on an empty stack, it raises a stack fault that keeps
the stack. -/
theorem doneCompletesTop : Obligations.DoneCompletesTop := by
  unfold Obligations.DoneCompletesTop
  refine ⟨?top, ?other, ?empty⟩
  case top =>
    intro val src p rest s hval hsrc hstack
    exact ⟨_, exec_icuDone_of_top hval hsrc hstack, congrArg List.tail hstack, rfl⟩
  case other =>
    intro val src e rest s hval hsrc hstack hne hup hw
    exact exec_icuDone_of_fault (by omega) hup hw (exec_icuDone_of_other hval hsrc hstack hne)
  case empty =>
    intro val src s hval hsrc hstack hup hw
    obtain ⟨u, hexec, hu, hfault, hraised⟩ :=
      exec_icuDone_of_fault (by omega) hup hw (exec_icuDone_of_empty hval hsrc hstack)
    rw [hstack] at hu
    exact ⟨u, hexec, hu, hfault, hraised.resolve_right (by simp [isActive, hu])⟩

end Sys2Proof.Machine
end

section
/-! What every step keeps: the canonical form of the memories, the bounds of the credits and of the priority stack, the
queue's order, and that no escalation waits (R17, R126, R219, R415, R505). -/

namespace Sys2Proof.Machine

variable {s t : State}

/-- Every command keeps the queue and the invariants of the state it runs on. -/
theorem exec_keeps {c : Instr} : Keeps s (after (exec c s) s) := by
  cases c with
  | registerWrite => exact execRegisterWrite_keeps (.refl s)
  | mgmtUnmappedAccess => exact execMgmtUnmappedAccess_keeps (.refl s)
  | rcRead => exact execRcRead_keeps (.refl s)
  | errStatusClear => exact execErrStatusClear_keeps (.refl s)
  | errInject => exact execErrInject_keeps (.refl s)
  | lockSet => exact execLockSet_keeps (.refl s)
  | powerReq => exact execPowerReq_keeps (.refl s)
  | softReset => exact execSoftReset_keeps (.refl s)
  | softResetTakeEffect => exact execSoftResetTakeEffect_keeps (.refl s)
  | domainSwitchDone => exact execDomainSwitchDone_keeps (.refl s)
  | gatingCreditGain => exact execGatingCreditGain_keeps (.refl s)
  | strobeDelayCheck => exact execStrobeDelayCheck_keeps (.refl s)
  | strobeRecalibrate => exact execStrobeRecalibrate_keeps (.refl s)
  | handshakeWatchdog => exact execHandshakeWatchdog_keeps (.refl s)
  | bar0ReservedAccess => exact execBar0ReservedAccess_keeps (.refl s)
  | tackDoorbell => exact execTackDoorbell_keeps (.refl s)
  | tackGroups => exact execTackGroups_keeps (.refl s)
  | genTackMaskGo => exact execGenTackMaskGo_keeps (.refl s)
  | armSyncTack => exact execArmSyncTack_keeps (.refl s)
  | genSyncArm => exact execGenSyncArm_keeps (.refl s)
  | disarmSyncTack => exact execDisarmSyncTack_keeps (.refl s)
  | fireSyncTack => exact execFireSyncTack_keeps (.refl s)
  | genSyncFire => exact execGenSyncFire_keeps (.refl s)
  | tackSyncRelease => exact execTackSyncRelease_keeps (.refl s)
  | tackSyncFireEdge => exact execTackSyncFireEdge_keeps (.refl s)
  | syncExpiry => exact execSyncExpiry_keeps (.refl s)
  | syncStuck => exact execSyncStuck_keeps (.refl s)
  | syncLineRearm => exact execSyncLineRearm_keeps (.refl s)
  | getGenerationList => exact execGetGenerationList_keeps (.refl s)
  | pinGeneration => exact execPinGeneration_keeps (.refl s)
  | quiesceGroup => exact execQuiesceGroup_keeps (.refl s)
  | quiesceDrained => exact execQuiesceDrained_keeps (.refl s)
  | quiesceLimitExpiry => exact execQuiesceLimitExpiry_keeps (.refl s)
  | unpickGroup => exact execUnpickGroup_keeps (.refl s)
  | unpickCommit => exact execUnpickCommit_keeps (.refl s)
  | unpickRebuildDone => exact execUnpickRebuildDone_keeps (.refl s)
  | releaseGroup => exact execReleaseGroup_keeps (.refl s)
  | setGroupKeyMode => exact execSetGroupKeyMode_keeps (.refl s)
  | unlockGroup => exact execUnlockGroup_keeps (.refl s)
  | eraseGroup => exact execEraseGroup_keeps (.refl s)
  | genRingCfgWrite => exact execGenRingCfgWrite_keeps (.refl s)
  | keySelftest => exact execKeySelftest_keeps (.refl s)
  | keySelftestDone => exact execKeySelftestDone_keeps (.refl s)
  | cxlmemRead => exact execCxlmemRead_keeps (.refl s)
  | cxlmemWrite => exact execCxlmemWrite_keeps (.refl s)
  | cxlmemWritePartial => exact execCxlmemWritePartial_keeps (.refl s)
  | cxlmemSpecRead => exact .refl s
  | cxlmemMalformed => exact execCxlmemMalformed_keeps (.refl s)
  | heldWriteRelease => exact execHeldWriteRelease_keeps (.refl s)
  | pacingGraceExpiry => exact execPacingGraceExpiry_keeps (.refl s)
  | pacingAverage => exact execPacingAverage_keeps (.refl s)
  | bastingStart => exact execBastingStart_keeps (.refl s)
  | capture => exact execCapture_keeps (.refl s)
  | reliefStart => exact execReliefStart_keeps (.refl s)
  | reliefProgramDone => exact execReliefProgramDone_keeps (.refl s)
  | flashProgramComplete => exact execFlashProgramComplete_keeps (.refl s)
  | deltaReadback => exact execDeltaReadback_keeps (.refl s)
  | sealReadback => exact execSealReadback_keeps (.refl s)
  | sealRetry => exact execSealRetry_keeps (.refl s)
  | verifyPass => exact execVerifyPass_keeps (.refl s)
  | verifySweep => exact execVerifySweep_keeps (.refl s)
  | inputLoss => exact execInputLoss_keeps (.refl s)
  | siblingFault => exact execSiblingFault_keeps (.refl s)
  | hemNow => exact execHemNow_keeps (.refl s)
  | genHemCmdHem => exact execGenHemCmdHem_keeps (.refl s)
  | hemSealWrite => exact execHemSealWrite_keeps (.refl s)
  | hemSealReadback => exact execHemSealReadback_keeps (.refl s)
  | keepAliveStart => exact execKeepAliveStart_keeps (.refl s)
  | keepAliveTimeExpiry => exact execKeepAliveTimeExpiry_keeps (.refl s)
  | resumeMemory => exact execResumeMemory_keeps (.refl s)
  | genHemCmdResume => exact execGenHemCmdResume_keeps (.refl s)
  | getHemStatus => exact execGetHemStatus_keeps (.refl s)
  | setRestoreMode => exact execSetRestoreMode_keeps (.refl s)
  | restoreStart => exact execRestoreStart_keeps (.refl s)
  | restoreRebuildDone => exact execRestoreRebuildDone_keeps (.refl s)
  | onTouchFetchDone => exact execOnTouchFetchDone_keeps (.refl s)
  | restoreSweepFetch => exact execRestoreSweepFetch_keeps (.refl s)
  | foldHemGeneration => exact execFoldHemGeneration_keeps (.refl s)
  | windowEntryWrite => exact execWindowEntryWrite_keeps (.refl s)
  | groupEntryWrite => exact execGroupEntryWrite_keeps (.refl s)
  | getWindow => exact execGetWindow_keeps (.refl s)
  | setWindow => exact execSetWindow_keeps (.refl s)
  | getGroupConfig => exact execGetGroupConfig_keeps (.refl s)
  | setGroupConfig => exact execSetGroupConfig_keeps (.refl s)
  | getPacing => exact execGetPacing_keeps (.refl s)
  | getLinkCounters => exact execGetLinkCounters_keeps (.refl s)
  | identify => exact execIdentify_keeps (.refl s)
  | backgroundOperationStatus => exact execBackgroundOperationStatus_keeps (.refl s)
  | getEventRecords => exact execGetEventRecords_keeps (.refl s)
  | clearEventRecords => exact execClearEventRecords_keeps (.refl s)
  | getEventInterruptPolicy => exact execGetEventInterruptPolicy_keeps (.refl s)
  | setEventInterruptPolicy => exact execSetEventInterruptPolicy_keeps (.refl s)
  | getFwInfo => exact execGetFwInfo_keeps (.refl s)
  | getTimestamp => exact execGetTimestamp_keeps (.refl s)
  | setTimestamp => exact execSetTimestamp_keeps (.refl s)
  | getSupportedLogs => exact execGetSupportedLogs_keeps (.refl s)
  | getLog => exact execGetLog_keeps (.refl s)
  | identifyMemoryDevice => exact execIdentifyMemoryDevice_keeps (.refl s)
  | getHealthInfo => exact execGetHealthInfo_keeps (.refl s)
  | unsupportedOpcode _ op => exact execUnsupportedOpcode_keeps (a1 := op) (.refl s)
  | mailboxDoorbell => exact execMailboxDoorbell_keeps (.refl s)
  | mailboxCommandServe => exact execMailboxCommandServe_keeps (.refl s)
  | statusMirrorRefresh => exact execStatusMirrorRefresh_keeps (.refl s)
  | conventionalReset => exact execConventionalReset_keeps (.refl s)
  | hotReset => exact execHotReset_keeps (.refl s)
  | linkDown => exact execLinkDown_keeps (.refl s)
  | linkUp => exact execLinkUp_keeps (.refl s)
  | functionLevelReset => exact execFunctionLevelReset_keeps (.refl s)
  | l0pRequest => exact execL0pRequest_keeps (.refl s)
  | ideFail => exact execIdeFail_keeps (.refl s)
  | hlPwrWrite => exact execHlPwrWrite_keeps (.refl s)
  | dramAccessComplete => exact execDramAccessComplete_keeps (.refl s)
  | refreshDue => exact execRefreshDue_keeps (.refl s)
  | refreshDebtIssue => exact execRefreshDebtIssue_keeps (.refl s)
  | drfmIssue => exact execDrfmIssue_keeps (.refl s)
  | rfmIssue => exact execRfmIssue_keeps (.refl s)
  | rowTrackerClear => exact execRowTrackerClear_keeps (.refl s)
  | dramAlert => exact execDramAlert_keeps (.refl s)
  | alertWindowClose => exact execAlertWindowClose_keeps (.refl s)
  | tsetRequest => exact execTsetRequest_keeps (.refl s)
  | timingSetSwitchDone => exact execTimingSetSwitchDone_keeps (.refl s)
  | dphFullSweep => exact execDphFullSweep_keeps (.refl s)
  | dphSlicedSweep => exact execDphSlicedSweep_keeps (.refl s)
  | trainingSweepDone => exact execTrainingSweepDone_keeps (.refl s)
  | retrainPause => exact execRetrainPause_keeps (.refl s)
  | sweepSlice => exact execSweepSlice_keeps (.refl s)
  | patrolScrub => exact execPatrolScrub_keeps (.refl s)
  | dramTempRead => exact execDramTempRead_keeps (.refl s)
  | flashMount => exact execFlashMount_keeps (.refl s)
  | flashEraseComplete => exact execFlashEraseComplete_keeps (.refl s)
  | flashReadComplete => exact execFlashReadComplete_keeps (.refl s)
  | stuckTargetTimeout => exact execStuckTargetTimeout_keeps (.refl s)
  | eraseResume => exact execEraseResume_keeps (.refl s)
  | intentPageDurable => exact execIntentPageDurable_keeps (.refl s)
  | validCountRecount => exact execValidCountRecount_keeps (.refl s)
  | relocation => exact execRelocation_keeps (.refl s)
  | nandTempRead => exact execNandTempRead_keeps (.refl s)
  | poolGrant => exact execPoolGrant_keeps (.refl s)
  | poolGrantAfterWait => exact execPoolGrantAfterWait_keeps (.refl s)
  | poolQuotaWrite => exact execPoolQuotaWrite_keeps (.refl s)
  | powerUp => exact execPowerUp_keeps (.refl s)
  | railUp => exact execRailUp_keeps (.refl s)
  | railRampTimeout => exact execRailRampTimeout_keeps (.refl s)
  | railPgFall => exact execRailPgFall_keeps (.refl s)
  | scanRead => exact execScanRead_keeps (.refl s)
  | psqCmdOn => exact execPsqCmdOn_keeps (.refl s)
  | psqCmdOff => exact execPsqCmdOff_keeps (.refl s)
  | railDischarged => exact execRailDischarged_keeps (.refl s)
  | dischargeTimeout => exact execDischargeTimeout_keeps (.refl s)
  | minOffTimeExpiry => exact execMinOffTimeExpiry_keeps (.refl s)
  | inputPresent => exact execInputPresent_keeps (.refl s)
  | powerCycle => exact execPowerCycle_keeps (.refl s)
  | vaoReset => exact execVaoReset_keeps (.refl s)
  | holdPgRise => exact execHoldPgRise_keeps (.refl s)
  | holdPgLimitExpiry => exact execHoldPgLimitExpiry_keeps (.refl s)
  | holdPgFall => exact execHoldPgFall_keeps (.refl s)
  | psqHoldTest => exact execPsqHoldTest_keeps (.refl s)
  | holdTestEnd => exact execHoldTestEnd_keeps (.refl s)
  | psqTraceFreeze => exact execPsqTraceFreeze_keeps (.refl s)
  | psqTraceUnfreeze => exact execPsqTraceUnfreeze_keeps (.refl s)
  | traceSample => exact execTraceSample_keeps (.refl s)
  | resetStretchExpiry => exact execResetStretchExpiry_keeps (.refl s)
  | psqRstCtrlWrite => exact execPsqRstCtrlWrite_keeps (.refl s)
  | trigger2Arm => exact execTrigger2Arm_keeps (.refl s)
  | latchOpenChange => exact execLatchOpenChange_keeps (.refl s)
  | vidStep => exact execVidStep_keeps (.refl s)
  | batSecond => exact execBatSecond_keeps (.refl s)
  | restPauseEnd => exact execRestPauseEnd_keeps (.refl s)
  | hibEstimatorTick => exact execHibEstimatorTick_keeps (.refl s)
  | batEnableTableCheck => exact execBatEnableTableCheck_keeps (.refl s)
  | batLearnRequest => exact execBatLearnRequest_keeps (.refl s)
  | getBatteryStatus => exact execGetBatteryStatus_keeps (.refl s)
  | requestLearningCycle => exact execRequestLearningCycle_keeps (.refl s)
  | armShipMode => exact execArmShipMode_keeps (.refl s)
  | disarmShipMode => exact execDisarmShipMode_keeps (.refl s)
  | diodeRead => exact execDiodeRead_keeps (.refl s)
  | thmCheck => exact execThmCheck_keeps (.refl s)
  | getThermalStatus => exact execGetThermalStatus_keeps (.refl s)
  | lockstepDivergence => exact execLockstepDivergence_keeps (.refl s)
  | watchdogExpiry => exact execWatchdogExpiry_keeps (.refl s)
  | watchdogKick => exact execWatchdogKick_keeps (.refl s)
  | sramUncorrectable => exact execSramUncorrectable_keeps (.refl s)
  | cflProgramPage val => exact execCflProgramPage_keeps (a0 := val) (.refl s)
  | cflEraseSector val => exact execCflEraseSector_keeps (a0 := val) (.refl s)
  | cflBlankCheck val => exact execCflBlankCheck_keeps (a0 := val) (.refl s)
  | cflOperationDone => exact execCflOperationDone_keeps (.refl s)
  | cflReadSuspend => exact execCflReadSuspend_keeps (.refl s)
  | cflEraseResume => exact execCflEraseResume_keeps (.refl s)
  | icuMessage => exact execIcuMessage_keeps (.refl s)
  | icuDoorbell => exact execIcuDoorbell_keeps (.refl s)
  | icuEntry => exact execIcuEntry_keeps (.refl s)
  | icuDone => exact execIcuDone_keeps (.refl s)
  | icuExit => exact execIcuExit_keeps (.refl s)
  | icuPendclr => exact execIcuPendclr_keeps (.refl s)
  | icuEnset => exact execIcuEnset_keeps (.refl s)
  | icuEnclr => exact execIcuEnclr_keeps (.refl s)
  | icuPrioSet => exact execIcuPrioSet_keeps (.refl s)
  | wfiSleep => exact execWfiSleep_keeps (.refl s)
  | sleepWake => exact execSleepWake_keeps (.refl s)
  | thimbleWake => exact execThimbleWake_keeps (.refl s)
  | operatingSecond => exact execOperatingSecond_keeps (.refl s)
  | tickCompare => exact execTickCompare_keeps (.refl s)
  | eventAdmission => exact execEventAdmission_keeps (.refl s)
  | evrFlushTimer => exact execEvrFlushTimer_keeps (.refl s)
  | evrPageDurable => exact execEvrPageDurable_keeps (.refl s)
  | evrMount => exact execEvrMount_keeps (.refl s)
  | evrFreeze => exact execEvrFreeze_keeps (.refl s)
  | evrUnfreeze => exact execEvrUnfreeze_keeps (.refl s)
  | evrFlush => exact execEvrFlush_keeps (.refl s)
  | evrClear => exact execEvrClear_keeps (.refl s)
  | evrSummaryCmd => exact execEvrSummaryCmd_keeps (.refl s)
  | summaryInterval => exact execSummaryInterval_keeps (.refl s)
  | clearLogDone => exact execClearLogDone_keeps (.refl s)
  | evrFwGo => exact execEvrFwGo_keeps (.refl s)
  | getLogInfo => exact execGetLogInfo_keeps (.refl s)
  | readLog => exact execReadLog_keeps (.refl s)
  | getSummary => exact execGetSummary_keeps (.refl s)
  | freezeLog => exact execFreezeLog_keeps (.refl s)
  | unfreezeLog => exact execUnfreezeLog_keeps (.refl s)
  | clearLog => exact execClearLog_keeps (.refl s)
  | setLogPolicy => exact execSetLogPolicy_keeps (.refl s)
  | transferFwFull => exact execTransferFwFull_keeps (.refl s)
  | transferFwInitiate => exact execTransferFwInitiate_keeps (.refl s)
  | transferFwContinue => exact execTransferFwContinue_keeps (.refl s)
  | transferFwEnd => exact execTransferFwEnd_keeps (.refl s)
  | transferFwAbort => exact execTransferFwAbort_keeps (.refl s)
  | transferFwTimeout => exact execTransferFwTimeout_keeps (.refl s)
  | reconstruction => exact execReconstruction_keeps (.refl s)
  | activateFwOnline => exact execActivateFwOnline_keeps (.refl s)
  | activateFwCold => exact execActivateFwCold_keeps (.refl s)
  | updActivate => exact execUpdActivate_keeps (.refl s)
  | updHoAck => exact execUpdHoAck_keeps (.refl s)
  | handoverTimeout => exact execHandoverTimeout_keeps (.refl s)
  | trialExpiry => exact execTrialExpiry_keeps (.refl s)
  | confirmUpdate => exact execConfirmUpdate_keeps (.refl s)
  | fallBack => exact execFallBack_keeps (.refl s)
  | fallBackDeferredRun => exact execFallBackDeferredRun_keeps (.refl s)
  | setOwnerLock => exact execSetOwnerLock_keeps (.refl s)
  | getUpdateStatus => exact execGetUpdateStatus_keeps (.refl s)
  | updCmdConfirm => exact execUpdCmdConfirm_keeps (.refl s)
  | updCmdFallBack => exact execUpdCmdFallBack_keeps (.refl s)
  | updCmdFail => exact execUpdCmdFail_keeps (.refl s)
  | updCmdAbort => exact execUpdCmdAbort_keeps (.refl s)
  | updKeyRetire => exact execUpdKeyRetire_keeps (.refl s)
  | sb0ReadIdentity => exact execSb0ReadIdentity_keeps (.refl s)
  | sb0ReadLevel => exact execSb0ReadLevel_keeps (.refl s)
  | sb0ReadTj => exact execSb0ReadTj_keeps (.refl s)
  | sb0ReadEnergy => exact execSb0ReadEnergy_keeps (.refl s)
  | sb0ReadHem => exact execSb0ReadHem_keeps (.refl s)
  | sb0ReadEventSeq => exact execSb0ReadEventSeq_keeps (.refl s)
  | sb0SetWindow => exact execSb0SetWindow_keeps (.refl s)
  | sb0ReadMirror => exact execSb0ReadMirror_keeps (.refl s)
  | sb0PowerOff => exact execSb0PowerOff_keeps (.refl s)
  | sb0ReadResult => exact execSb0ReadResult_keeps (.refl s)
  | sb0UnknownCommand code => exact execSb0UnknownCommand_keeps (a0 := code) (.refl s)
  | sb0CmdDone => exact execSb0CmdDone_keeps (.refl s)
  | sb0ProtocolError => exact execSb0ProtocolError_keeps (.refl s)
  | sb0Timeout => exact execSb0Timeout_keeps (.refl s)
  | sb0WakeStart => exact execSb0WakeStart_keeps (.refl s)
  | sb1HoldupStatusPoll => exact execSb1HoldupStatusPoll_keeps (.refl s)
  | sb1ChargerCurrentWrite => exact execSb1ChargerCurrentWrite_keeps (.refl s)
  | sb1ChargerVoltageWrite => exact execSb1ChargerVoltageWrite_keeps (.refl s)
  | sb1ChargerPhaseRead => exact execSb1ChargerPhaseRead_keeps (.refl s)
  | sb1PmicPoll => exact execSb1PmicPoll_keeps (.refl s)
  | sb1PackIdRead => exact execSb1PackIdRead_keeps (.refl s)
  | sb1XferGo => exact execSb1XferGo_keeps (.refl s)
  | sb1XferDone => exact execSb1XferDone_keeps (.refl s)
  | sb1ArbLostRetry => exact execSb1ArbLostRetry_keeps (.refl s)
  | sb1SdaStuck => exact execSb1SdaStuck_keeps (.refl s)
  | sb1StuckRecoveryCheck => exact execSb1StuckRecoveryCheck_keeps (.refl s)
  | errorReport => exact execErrorReport_keeps (.refl s)
  | handlingTimeout => exact execHandlingTimeout_keeps (.refl s)
  | fltFence => exact execFltFence_keeps (.refl s)
  | fltLift => exact execFltLift_keeps (.refl s)
  | dumpWindowExpiry => exact execDumpWindowExpiry_keeps (.refl s)
  | fltDumpTake => exact execFltDumpTake_keeps (.refl s)
  | fltDumpDone => exact execFltDumpDone_keeps (.refl s)
  | fltDumpClear => exact execFltDumpClear_keeps (.refl s)
  | fltStickyClr => exact execFltStickyClr_keeps (.refl s)
  | getFaultStatus => exact execGetFaultStatus_keeps (.refl s)
  | takeDump => exact execTakeDump_keeps (.refl s)
  | readDump => exact execReadDump_keeps (.refl s)
  | clearDump => exact execClearDump_keeps (.refl s)
  | clearDumpDone => exact execClearDumpDone_keeps (.refl s)
  | clearSticky => exact execClearSticky_keeps (.refl s)
  | genGenCmd => exact execGenGenCmd_keeps (.refl s)
  | blockDomainPowerWrite => exact execBlockDomainPowerWrite_keeps (.refl s)
  | hdmDecoderCommit => exact execHdmDecoderCommit_keeps (.refl s)
  | doeRequest => exact execDoeRequest_keeps (.refl s)
  | pllUnlock => exact execPllUnlock_keeps (.refl s)
  | watchdogHalfTimeout => exact execWatchdogHalfTimeout_keeps (.refl s)
  | codeFlashUncorrectable => exact execCodeFlashUncorrectable_keeps (.refl s)
  | jtagReset => exact execJtagReset_keeps (.refl s)
  | vaoResetRelease => exact execVaoResetRelease_keeps (.refl s)

/-- A step takes the front command off the queue and keeps every invariant. -/
theorem step_keeps (h : step s = .next t) : Keeps { s with pending := s.pending.tail } t := by
  unfold step at h
  split at h
  · next hq =>
    cases h
    have k := tick_keeps (Keeps.refl s)
    exact ⟨by rw [k.pending, hq]; rfl, k.mem, k.credits, k.stack⟩
  · next c rest hq =>
    have k := exec_keeps (s := { s with pending := rest }) (c := c)
    rw [h] at k
    rw [hq]
    exact k

/-- Settles O56: canonical maps are among the invariants that every command keeps. -/
theorem stepKeepsMemoryForm : Obligations.StepKeepsMemoryForm :=
  fun _ _ hw h => (step_keeps h).mem hw

/-- Settles O57: so is the bound of the credits. -/
theorem stepKeepsCredits : Obligations.StepKeepsCredits :=
  fun _ _ hc h => (step_keeps h).credits hc

/-- Settles O58: so is the depth of the priority stack. -/
theorem stepKeepsStackDepth : Obligations.StepKeepsStackDepth :=
  fun _ _ hs h => (step_keeps h).stack hs

/-- Settles O59: the queue that a command finds is the one that it leaves. -/
theorem stepTakesFrontCommand : Obligations.StepTakesFrontCommand :=
  fun _ _ h => (step_keeps h).pending

end Sys2Proof.Machine
end

section
/-! Reads (R180, R199, R451, R478, R483 to R490): the answer of a mailbox read changes its logical device alone, that of a
read on SB0 the bus's own answer and count. -/

namespace Sys2Proof.Machine

open Bits

variable {s t u : State} {ld rc : Nat} {inp out : List Byte}

-- the mailbox

/-- `t` is `s` but for what the logical device holds. -/
def LdOnly (s : State) (ld : Nat) (t : State) : Prop := ∃ v, t = setLd s ld v

theorem ldOnly_ite {c : Prop} [Decidable c] (h : LdOnly s ld t) (k : LdOnly s ld u) :
    LdOnly s ld (if c then t else u) := by
  split
  · exact h
  · exact k

theorem ldOnly_reply : LdOnly s ld (reply s ld rc out) := ldOnly_ite ⟨_, rfl⟩ ⟨_, rfl⟩

theorem mbGetWindow_ldOnly : LdOnly s ld (mbGetWindow ld inp s) :=
  ldOnly_ite ldOnly_reply (ldOnly_ite ldOnly_reply ldOnly_reply)

theorem mbGetGroupConfig_ldOnly : LdOnly s ld (mbGetGroupConfig ld inp s) :=
  ldOnly_ite ldOnly_reply (ldOnly_ite ldOnly_reply ldOnly_reply)

theorem mbGetPacing_ldOnly : LdOnly s ld (mbGetPacing ld inp s) := ldOnly_ite ldOnly_reply ldOnly_reply

theorem mbGetLinkCounters_ldOnly : LdOnly s ld (mbGetLinkCounters ld inp s) := ldOnly_ite ldOnly_reply ldOnly_reply

theorem mbIdentify_ldOnly : LdOnly s ld (mbIdentify ld inp s) := ldOnly_ite ldOnly_reply ldOnly_reply

theorem mbBackgroundStatus_ldOnly : LdOnly s ld (mbBackgroundStatus ld inp s) := ldOnly_ite ldOnly_reply ldOnly_reply

theorem mbGetEventRecords_ldOnly : LdOnly s ld (mbGetEventRecords ld inp s) := ldOnly_ite ldOnly_reply ldOnly_reply

theorem mbGetEventPolicy_ldOnly : LdOnly s ld (mbGetEventPolicy ld inp s) := ldOnly_ite ldOnly_reply ldOnly_reply

theorem mbSetEventPolicy_ldOnly : LdOnly s ld (mbSetEventPolicy ld inp s) := ldOnly_ite ldOnly_reply ldOnly_reply

theorem mbGetTimestamp_ldOnly : LdOnly s ld (mbGetTimestamp ld inp s) := ldOnly_ite ldOnly_reply ldOnly_reply

theorem mbGetSupportedLogs_ldOnly : LdOnly s ld (mbGetSupportedLogs ld inp s) := ldOnly_ite ldOnly_reply ldOnly_reply

theorem mbGetLog_ldOnly : LdOnly s ld (mbGetLog ld inp s) := ldOnly_ite ldOnly_reply ldOnly_reply

theorem mbIdentifyMemory_ldOnly : LdOnly s ld (mbIdentifyMemory ld inp s) := ldOnly_ite ldOnly_reply ldOnly_reply

theorem mbGetLogInfo_ldOnly : LdOnly s ld (mbGetLogInfo ld inp s) := ldOnly_ite ldOnly_reply ldOnly_reply

theorem mbReadLog_ldOnly : LdOnly s ld (mbReadLog ld inp s) := ldOnly_ite ldOnly_reply ldOnly_reply

theorem mbGetSummary_ldOnly : LdOnly s ld (mbGetSummary ld inp s) := by
  refine ldOnly_ite ldOnly_reply ?_
  dsimp only
  split
  · exact ldOnly_reply
  · exact ldOnly_reply

theorem mbGetUpdateStatus_ldOnly : LdOnly s ld (mbGetUpdateStatus ld inp s) := ldOnly_ite ldOnly_reply ldOnly_reply

theorem mbGetFwInfo_ldOnly : LdOnly s ld (mbGetFwInfo ld inp s) := ldOnly_ite ldOnly_reply ldOnly_reply

-- SB0

/-- `t` is `s` but for the answer on SB0, SB0_XACTS and the mirror's window register. -/
structure Sb0Only (s t : State) : Prop where
  other : t = { s with sb := t.sb, regs := t.regs }
  bus : t.sb = { s.sb with ack := t.sb.ack, data := t.sb.data }
  regs : ∀ a, a ≠ Reg.sb0Xacts → a ≠ Reg.sb0Window → rd t a = rd s a

theorem sb0Only_nack : Sb0Only s (sb0Nack s) := ⟨rfl, rfl, fun _ _ _ => rfl⟩

theorem sb0Only_ack : Sb0Only s (sb0Ack s out) := ⟨rfl, rfl, fun _ hx _ => rd_wr_ne hx⟩

theorem sb0Only_read {data : State → List Byte} : Sb0Only s (sb0Read s data) := by
  unfold sb0Read
  split
  · exact sb0Only_ack
  · exact sb0Only_nack

/-- A read of the mirror moves the window on. -/
theorem sb0Only_mirror {v : Word} : Sb0Only s (wr (sb0Ack s out) Reg.sb0Window v) :=
  ⟨rfl, rfl, fun a hx hw => (rd_wr_ne hw).trans (sb0Only_ack.regs a hx hw)⟩

/-- Settles O54: the answer is all that a read changes. -/
theorem readsChangeNothingElse : Obligations.ReadsChangeNothingElse := by
  unfold Obligations.ReadsChangeNothingElse
  refine ⟨?mailbox, ?sb0, fun ld hpa s => rfl⟩
  case mailbox =>
    intro c ld inp s t hc h
    simp only [List.mem_cons, List.not_mem_nil, or_false] at hc
    rcases hc with rfl | rfl | rfl | rfl | rfl | rfl | rfl | rfl | rfl | rfl | rfl | rfl | rfl | rfl | rfl | rfl | rfl | rfl
    all_goals cases h
    · exact mbGetWindow_ldOnly
    · exact mbGetGroupConfig_ldOnly
    · exact mbGetPacing_ldOnly
    · exact mbGetLinkCounters_ldOnly
    · exact mbIdentify_ldOnly
    · exact mbBackgroundStatus_ldOnly
    · exact mbGetEventRecords_ldOnly
    · exact mbGetEventPolicy_ldOnly
    · exact mbSetEventPolicy_ldOnly
    · exact mbGetTimestamp_ldOnly
    · exact mbGetSupportedLogs_ldOnly
    · exact mbGetLog_ldOnly
    · exact mbIdentifyMemory_ldOnly
    · exact mbGetLogInfo_ldOnly
    · exact mbReadLog_ldOnly
    · exact mbGetSummary_ldOnly
    · exact mbGetUpdateStatus_ldOnly
    · exact mbGetFwInfo_ldOnly
  case sb0 =>
    intro c s t hc h
    suffices k : Sb0Only s t from ⟨k.other, k.bus, k.regs⟩
    simp only [List.mem_cons, List.not_mem_nil, or_false] at hc
    rcases hc with rfl | rfl | rfl | rfl | rfl | rfl | rfl | rfl <;> cases h
    iterate 7 exact sb0Only_read
    dsimp only
    split
    · exact sb0Only_mirror
    · exact sb0Only_nack

end Sys2Proof.Machine
end

section
/-! Escalations (R505): every command that can call for one ends with `settle`, which carries it out. -/

namespace Sys2Proof.Machine

open Bits

variable {s t u : State} {ld : Nat} {inp : List Byte}

/-- What ends with `settle` leaves no escalation. -/
theorem esc_after_of_settled {o : Out} (h : o = .next (settle u)) : (after o s).flt.esc = [] := by
  rw [h]
  exact settle_esc

-- the commands that do not end with `settle` leave the fault manager alone

theorem LdOnly.flt (h : LdOnly s ld t) : t.flt = s.flt := by
  obtain ⟨v, rfl⟩ := h
  rfl

theorem Sb0Only.flt (h : Sb0Only s t) : t.flt = s.flt := by
  rw [h.other]

theorem flt_ite {c : Prop} [Decidable c] (h : t.flt = s.flt) (k : u.flt = s.flt) :
    (if c then t else u).flt = s.flt := by
  split
  · exact h
  · exact k

theorem refreshRaa_flt {ch rank : Nat} : (refreshRaa s ch rank).flt = s.flt := flt_ite rfl rfl

theorem intentFlush_flt {ch : Nat} : (intentFlush s ch).flt = s.flt := flt_ite rfl (flt_ite rfl rfl)

theorem mbClearEventRecords_flt : (mbClearEventRecords ld inp s).flt = s.flt :=
  flt_ite ldOnly_reply.flt ldOnly_reply.flt

theorem mbSetTimestamp_flt : (mbSetTimestamp ld inp s).flt = s.flt := flt_ite ldOnly_reply.flt ldOnly_reply.flt

theorem mbGetHealthInfo_flt : (mbGetHealthInfo ld inp s).flt = s.flt := flt_ite ldOnly_reply.flt ldOnly_reply.flt

theorem mbSetLogPolicy_flt : (mbSetLogPolicy ld inp s).flt = s.flt :=
  flt_ite ldOnly_reply.flt (flt_ite ldOnly_reply.flt (flt_ite ldOnly_reply.flt ldOnly_reply.flt))

theorem tick_flt : (tick s).flt = s.flt := by
  unfold tick
  dsimp only
  refine flt_ite ?_ rfl
  split <;> rfl

/-- No command leaves an escalation behind where none waited. -/
theorem exec_esc {c : Instr} (h : s.flt.esc = []) : (after (exec c s) s).flt.esc = [] := by
  have kept {o : Out} {u : State} (ho : o = .next u) (k : u.flt = s.flt) : (after o s).flt.esc = [] := by
    rw [ho, ← h, ← k]
    rfl
  cases c with
  | lockSet => exact kept rfl (flt_ite rfl rfl)
  | strobeDelayCheck => exact kept rfl (flt_ite rfl rfl)
  | bar0ReservedAccess => exact kept rfl (flt_ite (flt_ite rfl rfl) rfl)
  | tackSyncRelease => exact kept rfl rfl
  | syncLineRearm => exact kept rfl rfl
  | keySelftest => exact kept rfl (flt_ite rfl rfl)
  | cxlmemSpecRead => exact h
  | sealRetry => exact kept rfl (flt_ite rfl rfl)
  | getWindow => exact kept rfl mbGetWindow_ldOnly.flt
  | getGroupConfig => exact kept rfl mbGetGroupConfig_ldOnly.flt
  | getPacing => exact kept rfl mbGetPacing_ldOnly.flt
  | getLinkCounters => exact kept rfl mbGetLinkCounters_ldOnly.flt
  | identify => exact kept rfl mbIdentify_ldOnly.flt
  | backgroundOperationStatus => exact kept rfl mbBackgroundStatus_ldOnly.flt
  | getEventRecords => exact kept rfl mbGetEventRecords_ldOnly.flt
  | clearEventRecords => exact kept rfl mbClearEventRecords_flt
  | getEventInterruptPolicy => exact kept rfl mbGetEventPolicy_ldOnly.flt
  | setEventInterruptPolicy => exact kept rfl mbSetEventPolicy_ldOnly.flt
  | getFwInfo => exact kept rfl mbGetFwInfo_ldOnly.flt
  | getTimestamp => exact kept rfl mbGetTimestamp_ldOnly.flt
  | setTimestamp => exact kept rfl mbSetTimestamp_flt
  | getSupportedLogs => exact kept rfl mbGetSupportedLogs_ldOnly.flt
  | getLog => exact kept rfl mbGetLog_ldOnly.flt
  | identifyMemoryDevice => exact kept rfl mbIdentifyMemory_ldOnly.flt
  | getHealthInfo => exact kept rfl mbGetHealthInfo_flt
  | unsupportedOpcode => exact kept rfl ldOnly_reply.flt
  | functionLevelReset => exact kept rfl rfl
  | l0pRequest => exact kept rfl (flt_ite rfl rfl)
  | hdmDecoderCommit => exact kept rfl (flt_ite rfl rfl)
  | doeRequest => exact kept rfl (flt_ite rfl (flt_ite rfl rfl))
  | statusMirrorRefresh => exact kept rfl (flt_ite rfl rfl)
  | refreshDue =>
    exact kept rfl
      (flt_ite rfl (flt_ite (flt_ite refreshRaa_flt (flt_ite rfl refreshRaa_flt)) refreshRaa_flt))
  | refreshDebtIssue => exact kept rfl (flt_ite rfl refreshRaa_flt)
  | drfmIssue =>
    refine kept rfl ?_
    dsimp only
    split
    · exact rfl
    · exact rfl
  | rfmIssue =>
    refine kept rfl ?_
    dsimp only
    split
    · exact rfl
    · exact flt_ite rfl rfl
  | alertWindowClose => exact kept rfl rfl
  | eraseResume => exact kept rfl (flt_ite rfl rfl)
  | intentPageDurable => exact kept rfl (flt_ite intentFlush_flt rfl)
  | watchdogKick => exact kept rfl (flt_ite rfl rfl)
  | cflReadSuspend =>
    refine kept rfl ?_
    split
    · exact rfl
    · exact flt_ite rfl rfl
  | cflEraseResume =>
    refine kept rfl ?_
    split
    · exact rfl
    · exact rfl
  | getLogInfo => exact kept rfl mbGetLogInfo_ldOnly.flt
  | readLog => exact kept rfl mbReadLog_ldOnly.flt
  | getSummary => exact kept rfl mbGetSummary_ldOnly.flt
  | setLogPolicy => exact kept rfl mbSetLogPolicy_flt
  | getUpdateStatus => exact kept rfl mbGetUpdateStatus_ldOnly.flt
  | sb0ReadIdentity => exact kept rfl sb0Only_read.flt
  | sb0ReadLevel => exact kept rfl sb0Only_read.flt
  | sb0ReadTj => exact kept rfl sb0Only_read.flt
  | sb0ReadEnergy => exact kept rfl sb0Only_read.flt
  | sb0ReadHem => exact kept rfl sb0Only_read.flt
  | sb0ReadEventSeq => exact kept rfl sb0Only_read.flt
  | sb0ReadResult => exact kept rfl sb0Only_read.flt
  | sb0ReadMirror => exact kept rfl (flt_ite sb0Only_mirror.flt sb0Only_nack.flt)
  | sb0UnknownCommand => exact kept rfl sb0Only_nack.flt
  | sb1ArbLostRetry => exact kept rfl rfl
  | _ => exact esc_after_of_settled rfl

theorem calm_iff : s.calm = true ↔ s.flt.esc = [] := List.isEmpty_iff

theorem step_esc (h : s.flt.esc = []) (hs : step s = .next t) : t.flt.esc = [] := by
  unfold step at hs
  split at hs
  · cases hs
    exact (congrArg Flt.esc tick_flt).trans h
  · next c rest _ =>
    have k := exec_esc (s := { s with pending := rest }) (c := c) h
    rw [hs] at k
    exact k

/-- Settles O60: an escalation is carried out by the `settle` of the command that calls for it; where none is called for,
`settle` only brings the reasons up to date. -/
theorem stepSettlesEscalations : Obligations.StepSettlesEscalations :=
  ⟨fun _ _ h hs => calm_iff.2 (step_esc (calm_iff.1 h) hs),
    fun _ h => ⟨settle_calm (calm_iff.1 h), settle_quiet (calm_iff.1 h)⟩⟩

end Sys2Proof.Machine
end

section
/-! The registers of the interrupt controller (R412, R420, R427, R429): what a message and the single-source registers do to
one source and leave of the others. -/

namespace Sys2Proof.Machine

open Bits

variable {s : State} {n k : Nat}

-- a field after another one is stored

/-- A field that a store does not reach: of another register, or apart in the same one. -/
theorem rf_wrF_ne {a b lsb len v l m : Nat} (hw : s.memWf = true) (hlm : l + m ≤ 32)
    (h : b ≠ a ∨ l + m ≤ lsb ∨ lsb + len ≤ l) : rf (wrF s a lsb len v) b l m = rf s b l m := by
  unfold rf wrF
  by_cases hb : b = a
  · subst hb
    rw [rd_wr_self hw, fld_setFld_ne (by tauto) hlm]
  · rw [rd_wr_ne hb]

theorem rb_wrF_ne {a b lsb len v i : Nat} (hw : s.memWf = true) (hi : i < 32)
    (h : b ≠ a ∨ i < lsb ∨ lsb + len ≤ i) : rb (wrF s a lsb len v) b i = rb s b i := by
  unfold rb wrF
  by_cases hb : b = a
  · subst hb
    rw [rd_wr_self hw, bit_setFld hi, if_neg (by omega)]
  · rw [rd_wr_ne hb]

-- a message (R412)

theorem icu_of_coreUp (h : coreUp s = true) : icu s n = icuMsg (srcEvent s n) n := if_pos h

theorem isPending_srcEvent : isPending (srcEvent s n) k = isPending s k := isPending_of_rd rd_srcEvent

theorem lostOf_srcEvent : lostOf (srcEvent s n) k = lostOf s k := lostOf_of_rd rd_srcEvent

theorem isActive_srcEvent : isActive (srcEvent s n) k = isActive s k := by
  unfold isActive
  rw [srcEvent_icu]

theorem icuMsg_of_idle (hp : isPending s n = false) (ha : isActive s n = false) :
    icuMsg s n = setPending s n true := by
  simp [icuMsg, icuSet, hp, ha]

theorem icuMsg_of_busy (h : isPending s n = true ∨ isActive s n = true) : icuMsg s n = lostErr (bumpLost s n) := by
  have busy : (isActive s n || isPending s n) = true := by simpa [or_comm] using h
  simp [icuMsg, icuSet, busy]

theorem lostOf_setPending {b : Bool} (hn : n < 512) : lostOf (setPending s n b) k = lostOf s k :=
  lostOf_of_rd (rd_wr_ne (by simp only [Reg.icuLost, Reg.icuPend]; omega))

theorem isPending_bumpLost (hn : n < 512) (hk : k < 512) : isPending (bumpLost s n) k = isPending s k :=
  isPending_of_rd (rd_wr_ne (by simp only [Reg.icuLost, Reg.icuPend]; omega))

theorem isPending_lostErr (hk : k < 512) : isPending (lostErr s) k = isPending s k :=
  isPending_of_rd (rd_lostErr_high (by simp only [Reg.icuPend]; omega)
    (by simp only [Reg.icuPend, Reg.fltCorrCount]; omega))

theorem lostOf_lostErr (hk : k < 512) : lostOf (lostErr s) k = lostOf s k :=
  lostOf_of_rd (rd_lostErr_high (by simp only [Reg.icuLost]; omega)
    (by simp only [Reg.icuLost, Reg.fltCorrCount]; omega))

/-- A lost message leaves ERR_STATUS.event_lost of the ICU set (R429). -/
theorem hasErr_lostErr (hw : s.memWf = true) : hasErr (lostErr s) Pg.icu 17 = true := by
  have recorded := hasErr_errSet_self (p := Pg.icu) (b := 17) hw (by decide)
  unfold lostErr
  dsimp only
  split
  · exact recorded
  · exact hasErr_addSat (by decide) recorded

/-- Settles O43: an idle source becomes pending; for any other the lost counter of the source counts, and no field of
another source moves. -/
theorem interruptMessages : Obligations.InterruptMessages := by
  unfold Obligations.InterruptMessages
  refine ⟨?idle, ?busy⟩
  case idle =>
    intro n s hn hup hw hp ha
    have ew : (srcEvent s n).memWf = true := (srcEvent_keeps (Keeps.refl s)).mem hw
    have msg : icu s n = setPending (srcEvent s n) n true :=
      (icu_of_coreUp hup).trans (icuMsg_of_idle (isPending_srcEvent.trans hp) (isActive_srcEvent.trans ha))
    refine ⟨_, rfl, ?_⟩
    rw [msg]
    refine ⟨?_, ?_, srcEvent_icu, fun k hk hne => ⟨?_, ?_⟩⟩
    · rw [isPending_setPending ew, if_pos rfl]
    · rw [lostOf_setPending (by omega), lostOf_srcEvent]
    · rw [isPending_setPending ew, if_neg hne, isPending_srcEvent]
    · rw [lostOf_setPending (by omega), lostOf_srcEvent]
  case busy =>
    intro n s hn hup hw h
    have ew : (srcEvent s n).memWf = true := (srcEvent_keeps (Keeps.refl s)).mem hw
    have msg : icu s n = lostErr (bumpLost (srcEvent s n) n) :=
      (icu_of_coreUp hup).trans (icuMsg_of_busy (by rwa [isPending_srcEvent, isActive_srcEvent]))
    have lost : ∀ k < 500, lostOf (icu s n) k = if k = n then min 255 (lostOf s n + 1) else lostOf s k := by
      intro k hk
      rw [msg, lostOf_lostErr (by omega), lostOf_bumpLost ew, lostOf_srcEvent, lostOf_srcEvent]
    have pending : ∀ k < 500, isPending (icu s n) k = isPending s k := by
      intro k hk
      rw [msg, isPending_lostErr (by omega), isPending_bumpLost (by omega) (by omega), isPending_srcEvent]
    refine ⟨_, rfl, pending n hn, by rw [lost n hn, if_pos rfl], ?_, ?_, fun k hk hne => ⟨pending k hk, ?_⟩⟩
    · rw [msg, lostErr_icu]
      exact srcEvent_icu
    · rw [msg]
      exact hasErr_lostErr ((bumpLost_keeps (Keeps.refl _)).mem ew)
    · rw [lost k hk, if_neg hne]

-- the single-source registers (R420)

theorem setCfgField_of_unlocked {p a lsb len v : Nat} (h : locked s p = false) :
    setCfgField s p a lsb len v = wrF s a lsb len v := by
  simp [setCfgField, h]

/-- The registers that hold a source's pending bit, enable bit and priority. -/
def isSourceReg (a : Nat) : Prop :=
  ∃ k < 500, a = Reg.icuPend (k / 32) ∨ a = Reg.icuEn (k / 32) ∨ a = Reg.icuPrio (k / 4)

/-- `t` is `s` but for the pending bit, the enable bit and the priority of source `n`. -/
structure OneSource (n : Nat) (s t : State) : Prop where
  other : t = { s with regs := t.regs }
  sources : ∀ k < 500, k ≠ n → isPending t k = isPending s k ∧ isEnabled t k = isEnabled s k ∧ prioOf t k = prioOf s k
  regs : ∀ a, ¬ isSourceReg a → rd t a = rd s a

/-- The rule of the three: a store into a field of source `n` that misses the fields of every other source. -/
theorem oneSource_wrF {a lsb len v : Nat} (hw : s.memWf = true) (ha : isSourceReg a)
    (hpend : ∀ k < 500, k ≠ n → Reg.icuPend (k / 32) ≠ a ∨ k % 32 < lsb ∨ lsb + len ≤ k % 32)
    (hen : ∀ k < 500, k ≠ n → Reg.icuEn (k / 32) ≠ a ∨ k % 32 < lsb ∨ lsb + len ≤ k % 32)
    (hprio : ∀ k < 500, k ≠ n → Reg.icuPrio (k / 4) ≠ a ∨ 8 * (k % 4) + 8 ≤ lsb ∨ lsb + len ≤ 8 * (k % 4)) :
    OneSource n s (wrF s a lsb len v) where
  other := rfl
  sources k hk hne := by
    refine ⟨rb_wrF_ne hw (by omega) (hpend k hk hne), ?_, ?_⟩
    · unfold isEnabled
      rw [rb_wrF_ne hw (by omega) (hen k hk hne)]
    · unfold prioOf
      rw [rf_wrF_ne hw (by omega) (hprio k hk hne)]
  regs b hb := rd_wr_ne fun h => hb (h ▸ ha)

theorem oneSource_pend {v : Nat} (hn : n < 500) (hw : s.memWf = true) :
    OneSource n s (wrF s (Reg.icuPend (n / 32)) (n % 32) 1 v) :=
  oneSource_wrF hw ⟨n, hn, .inl rfl⟩
    (fun k _ _ => by unfold Reg.icuPend; omega)
    (fun k _ _ => by unfold Reg.icuPend Reg.icuEn; omega)
    (fun k _ _ => by unfold Reg.icuPend Reg.icuPrio; omega)

theorem oneSource_en {v : Nat} (hn : n < 500) (hw : s.memWf = true) :
    OneSource n s (wrF s (Reg.icuEn (n / 32)) (n % 32) 1 v) :=
  oneSource_wrF hw ⟨n, hn, .inr (.inl rfl)⟩
    (fun k _ _ => by unfold Reg.icuPend Reg.icuEn; omega)
    (fun k _ _ => by unfold Reg.icuEn; omega)
    (fun k _ _ => by unfold Reg.icuEn Reg.icuPrio; omega)

theorem oneSource_prio {v : Nat} (hn : n < 500) (hw : s.memWf = true) :
    OneSource n s (wrF s (Reg.icuPrio (n / 4)) (8 * (n % 4)) 8 v) :=
  oneSource_wrF hw ⟨n, hn, .inr (.inr rfl)⟩
    (fun k _ _ => by unfold Reg.icuPend Reg.icuPrio; omega)
    (fun k _ _ => by unfold Reg.icuEn Reg.icuPrio; omega)
    (fun k _ _ => by unfold Reg.icuPrio; omega)

section Commands

variable {val : Word} (hval : fld val 0 9 = n)
include hval

theorem exec_icuPendclr (hn : n < 500) : exec (.icuPendclr val) s = .next (settle (setPending s n false)) := by
  change execIcuPendclr val s = _
  simp [execIcuPendclr, srcField, hval, show ¬ 499 < n by omega]

theorem exec_icuEnset (hn : n < 500) (hl : locked s Pg.icu = false) :
    exec (.icuEnset val) s = .next (settle (wrF s (Reg.icuEn (n / 32)) (n % 32) 1 1)) := by
  change execIcuEnset val s = _
  simp [execIcuEnset, srcField, hval, show ¬ 499 < n by omega, setCfgField_of_unlocked hl]

theorem exec_icuEnclr (h0 : 0 < n) (hn : n < 500) (hl : locked s Pg.icu = false) :
    exec (.icuEnclr val) s = .next (settle (wrF s (Reg.icuEn (n / 32)) (n % 32) 1 0)) := by
  change execIcuEnclr val s = _
  simp [execIcuEnclr, srcField, hval, show ¬ 499 < n by omega, h0.ne', setCfgField_of_unlocked hl]

theorem exec_icuPrioSet (h0 : 0 < n) (hn : n < 500) (hl : locked s Pg.icu = false) :
    exec (.icuPrioSet val) s = .next (settle (wrF s (Reg.icuPrio (n / 4)) (8 * (n % 4)) 8 (fld val 16 8))) := by
  change execIcuPrioSet val s = _
  simp [execIcuPrioSet, srcField, hval, show ¬ 499 < n by omega, h0.ne', setCfgField_of_unlocked hl]

end Commands

/-- Settles O47: each of the four registers stores one field of its source. -/
theorem singleSourceFrames : Obligations.SingleSourceFrames := by
  unfold Obligations.SingleSourceFrames
  intro val n s c hval h0 hn hw hl hc
  suffices h : ∃ u, exec c s = .next (settle u) ∧ OneSource n s u by
    obtain ⟨u, hexec, hu⟩ := h
    refine ⟨u, hexec, hu.other, hu.sources, fun a ha => hu.regs a ?_⟩
    rintro ⟨k, hk, h⟩
    have := ha k hk
    tauto
  rcases hc with rfl | rfl | rfl | rfl
  · exact ⟨_, exec_icuPendclr hval hn, oneSource_pend hn hw⟩
  · exact ⟨_, exec_icuEnset hval hn hl, oneSource_en hn hw⟩
  · exact ⟨_, exec_icuEnclr hval h0 hn hl, oneSource_en hn hw⟩
  · exact ⟨_, exec_icuPrioSet hval h0 hn hl, oneSource_prio hn hw⟩

end Sys2Proof.Machine
end

section
/-! Accesses to an offline window (R187): the answer of an unmapped access, with the counts of the window and of the port. -/

namespace Sys2Proof.Machine

open Bits

variable {s : State} {ld hpa tag dpa w a : Nat} {write : Bool} {data : List Byte}

/-- The window counts the access in its entry (R187). -/
def countOffline (s : State) (w : Nat) : State := setWinWord s w 5 (wrapFld (winWord s w 5) 16 16 1)

theorem offlineAccess_eq : offlineAccess s ld tag w write = raise40
    (answerOffline (hlCount (countOffline s w) Reg.hlOfflineAcc (ld / 16)) ld tag write) (ld / 16) := rfl

theorem offlineAccess_sent : (offlineAccess s ld tag w write).hl.sent =
    s.hl.sent ++ [offlineCpl (hlCount (countOffline s w) Reg.hlOfflineAcc (ld / 16)) ld tag write] :=
  raise40_sent.trans answerOffline_sent

theorem offlineAccess_offlineWrites : (offlineAccess s ld tag w write).hl.offlineWrites =
    if write then (s.hl.offlineWrites + 1) % 2 ^ 32 else s.hl.offlineWrites :=
  raise40_offlineWrites.trans answerOffline_offlineWrites

theorem offlineAccess_winTab : (offlineAccess s ld tag w write).hl.winTab = (countOffline s w).hl.winTab :=
  raise40_winTab.trans answerOffline_winTab

theorem offlineAccess_dram : (offlineAccess s ld tag w write).dram = s.dram := raise40_dram.trans answerOffline_dram

theorem offlineAccess_gen : (offlineAccess s ld tag w write).gen = s.gen := raise40_gen.trans answerOffline_gen

/-- In the pages above the ICU's, the access writes the port's counter alone. -/
theorem rd_offlineAccess (hld : ld < 64) (ha : Pg.icu < a / 0x1000) :
    rd (offlineAccess s ld tag w write) a = rd (hlCount (countOffline s w) Reg.hlOfflineAcc (ld / 16)) a :=
  have hf : a ≠ Reg.fltCorrCount := by unfold Pg.icu at ha; unfold Reg.fltCorrCount; omega
  (rd_raise40 (by omega) ha.ne' hf).trans (rd_of_regs answerOffline_regs a)

theorem rd_offlineAccess_hlUnmapped (hld : ld < 64) (c : Nat) :
    rd (offlineAccess s ld tag w write) (Reg.hlUnmapped c) = rd s (Reg.hlUnmapped c) := by
  have page : Pg.icu < Reg.hlUnmapped c / 0x1000 := by unfold Pg.icu Reg.hlUnmapped; omega
  have counter : Reg.hlUnmapped c ≠ Reg.hlOfflineAcc (ld / 16 / 2) := by
    unfold Reg.hlOfflineAcc Reg.hlUnmapped; omega
  rw [rd_offlineAccess hld page, rd_hlCount_ne counter]
  rfl

theorem rf_offlineAccess_hlOfflineAcc (hld : ld < 64) (hw : s.memWf = true) :
    rf (offlineAccess s ld tag w write) (Reg.hlOfflineAcc (ld / 16 / 2)) (16 * (ld / 16 % 2)) 16 =
      min 65535 (rf s (Reg.hlOfflineAcc (ld / 16 / 2)) (16 * (ld / 16 % 2)) 16 + 1) := by
  have page : Pg.icu < Reg.hlOfflineAcc (ld / 16 / 2) / 0x1000 := by unfold Pg.icu Reg.hlOfflineAcc; omega
  unfold rf
  rw [rd_offlineAccess hld page]
  exact rf_hlCount_self (s := countOffline s w) hw

/-- A DPA in a window that is offline is answered, not served (R182, R187). -/
theorem route_offline {k : Nat → Nat → State} (hd : hdmDpa (ldOf s ld).hdm hpa = some dpa)
    (hf : winFor s ld dpa = some w) (ho : winOnline s w = false) :
    route s ld hpa tag write k = offlineAccess s ld tag w write := by
  unfold route
  simp [hd, hf, ho]

theorem exec_cxlmemRead_offline (ht : takes s ld false = true) (hd : hdmDpa (ldOf s ld).hdm hpa = some dpa)
    (hf : winFor s ld dpa = some w) (ho : winOnline s w = false) :
    exec (.cxlmemRead ld hpa tag) s = .next (settle (offlineAccess s ld tag w false)) :=
  congrArg (Host.Outcome.next ∘ settle) ((if_pos ht).trans (route_offline hd hf ho))

theorem exec_cxlmemWrite_offline (ht : takes s ld true = true) (hd : hdmDpa (ldOf s ld).hdm hpa = some dpa)
    (hf : winFor s ld dpa = some w) (ho : winOnline s w = false) :
    exec (.cxlmemWrite ld hpa tag data false) s = .next (settle (offlineAccess s ld tag w true)) :=
  congrArg (Host.Outcome.next ∘ settle) ((if_pos ht).trans (route_offline hd hf ho))

/-- Settles O49: the access stores nothing; it is answered, counted by the window and by the port. -/
theorem offlineWindowAccess : Obligations.OfflineWindowAccess := by
  unfold Obligations.OfflineWindowAccess
  refine ⟨?read, ?write⟩
  case read =>
    intro ld hpa tag dpa w s hld ht hw hd hf ho
    exact ⟨_, exec_cxlmemRead_offline ht hd hf ho, ⟨_, offlineAccess_sent, rfl, rfl, rfl, rfl, rfl⟩,
      offlineAccess_offlineWrites, offlineAccess_dram, offlineAccess_gen, offlineAccess_winTab,
      rd_offlineAccess_hlUnmapped hld _, rf_offlineAccess_hlOfflineAcc hld hw⟩
  case write =>
    intro ld hpa tag data dpa w s hld ht hw hd hf ho
    exact ⟨_, exec_cxlmemWrite_offline ht hd hf ho, ⟨_, offlineAccess_sent, rfl, rfl, rfl, rfl⟩,
      offlineAccess_offlineWrites, offlineAccess_dram, offlineAccess_gen, offlineAccess_winTab,
      rf_offlineAccess_hlOfflineAcc hld hw⟩

end Sys2Proof.Machine
end

section
/-! The checks of a window entry (R183, R184, R189), and a write of management SRAM (R21, R22). -/

namespace Sys2Proof.Machine

open Bits

variable {s : State} {w v ld : Nat} {inp : List Byte}

-- masked words

/-- A field that a mask covers. -/
theorem fld_and_mask {x m : Word} {l n : Nat} (h : fld m l n = 2 ^ n - 1) : fld (x &&& m) l n = fld x l n := by
  unfold fld at *
  rw [BitVec.toNat_and, Nat.shiftRight_and_distrib, Nat.and_mod_two_pow, h, Nat.and_two_pow_sub_one_eq_mod,
    Nat.mod_mod]

/-- The lowest field of a value that fits. -/
theorem fld_wd_add {c m n : Nat} (hc : c < 2 ^ n) (hm : m % 2 ^ n = 0) (hn : n ≤ 32) : fld (wd (c + m)) 0 n = c := by
  unfold fld wd
  rw [BitVec.toNat_ofNat, Nat.shiftRight_zero, Nat.mod_mod_of_dvd _ (Nat.pow_dvd_pow 2 hn), Nat.add_mod, hm, Nat.add_zero,
    Nat.mod_mod, Nat.mod_eq_of_lt hc]

-- valid windows

/-- A window is valid by its own word 0, which is then listed. -/
theorem mem_validWins (h : winValid s v = true) : v ∈ validWins s := by
  have listed : 8 * v ∈ Sparse.keys s.hl.winTab := by
    by_contra hk
    have word : winWord s v 0 = 0#32 := get_of_not_mem_keys hk
    simp [winValid, word, bit] at h
  obtain ⟨e, he, hk⟩ := List.mem_map.1 listed
  unfold validWins
  refine List.mem_filterMap.2 ⟨e, he, ?_⟩
  rw [hk, show 8 * v / 8 = v by omega, if_pos ⟨by omega, h⟩]

/-- Bytes 0 to 3 as an entry keeps them (R183). -/
def kept (e : WinEntry) : WinEntry := { e with ctl := e.ctl &&& 0xFFFF0003#32 }

theorem kept_ld {e : WinEntry} : (kept e).ld = fld e.ctl 16 8 := fld_and_mask (by decide)

theorem kept_group {e : WinEntry} : (kept e).group = fld e.ctl 24 8 := fld_and_mask (by decide)

theorem kept_valid {e : WinEntry} (h : e.valid = true) : (kept e).valid = true := by
  unfold WinEntry.valid bit at *
  simp [kept, h]

-- the checks (R184)

/-- What an entry that passes checks 1 to 5 and 7 satisfies. -/
theorem of_winCheckCode_zero {e : WinEntry} {joins : Bool} (h : winCheckCode s w e joins = 0) :
    0 < e.size ∧ e.dramBase + e.size ≤ hostGib s ∧ e.ld < 64 ∧ ∀ v ∈ validWins s, v ≠ w →
      overlap e.dramBase e.size (winDramBase s v) (winSize s v) = false ∧
      (winLd s v = e.ld → overlap e.ldBase e.size (winLdBase s v) (winSize s v) = false) ∧
      (winGroup s v = e.group → overlap e.groupBase e.size (winGroupBase s v) (winSize s v) = false) := by
  unfold winCheckCode at h
  dsimp only at h
  split at h
  · cases h
  next extent =>
  split at h
  · cases h
  next capacity =>
  split at h
  · cases h
  next dram =>
  split at h
  · cases h
  next dpa =>
  split at h
  · cases h
  next group =>
  split at h
  · cases h
  split at h
  · cases h
  next port =>
  simp only [List.any_filter, List.any_eq_true, not_exists, not_and, Bool.and_eq_true, Bool.not_eq_true, bne_iff_ne,
    beq_iff_eq, Bool.or_eq_true, decide_eq_true_eq, not_or] at dram dpa group port
  refine ⟨by omega, by omega, by omega, fun v hv hne => ⟨dram v hv hne, ?_, ?_⟩⟩
  · intro hld
    simpa using dpa v hv hne hld
  · intro hg
    simpa using group v hv hne hg

theorem overlap_eq_false {a n b m : Nat} : overlap a n b m = false ↔ a + n ≤ b ∨ b + m ≤ a := by
  simp only [overlap, Bool.and_eq_false_iff, decide_eq_false_iff_not]
  omega

/-- The code of a write tells whether the entry is stored. -/
theorem writeWin_snd {e : WinEntry} {admin : Bool} : (writeWin s w e admin).2 = winWriteCode s w (kept e) admin := by
  unfold writeWin
  dsimp only
  split
  · next h => exact h.symm
  · rfl

theorem writeWin_refused {e : WinEntry} {admin : Bool} {c : Nat} (h : winWriteCode s w (kept e) admin = c) (hc : c ≠ 0) :
    writeWin s w e admin = (winRefuse s c w false, c) := by
  subst h
  unfold writeWin
  exact if_neg hc

/-- A new entry is judged by the checks of R184 alone, where the writer may write. -/
theorem winWriteCode_new {e : WinEntry} (hv : winValid s w = false) (he : e.valid = true)
    (h : winWriteCode s w e true = 0) : ∃ joins, winCheckCode s w e joins = 0 := by
  unfold winWriteCode at h
  simp only [hv, he, Bool.false_eq_true, if_false, if_true, ne_eq, not_true_eq_false] at h
  split at h
  · exact ⟨_, h⟩
  · next hz => exact ⟨_, not_not.1 hz⟩

-- a refused entry (R184)

theorem winRefuse_winTab {c : Nat} : (winRefuse s c w false).hl.winTab = s.hl.winTab := by
  unfold winRefuse
  rw [report_hl]
  rfl

theorem rf_winRefuse {c : Nat} (hw : s.memWf = true) (hc : c < 256) :
    rf (winRefuse s c w false) Reg.winCheck 0 8 = c := by
  unfold rf winRefuse
  dsimp only
  rw [rd_report (by decide) (by decide) (.inr (by decide)), rd_wr_self hw, Nat.add_assoc, Nat.add_assoc]
  exact fld_wd_add hc (by simp; omega) (by decide)

theorem hasErr_winRefuse {c : Nat} {group : Bool} (hw : s.memWf = true) :
    hasErr (winRefuse s c w group) Pg.win 16 = true :=
  hasErr_report ((wr_keeps (Keeps.refl s)).mem hw) (by decide)

/-- Settles O51: what the checks of R184 let through, and what a refused write leaves. -/
theorem windowChecks : Obligations.WindowChecks := by
  unfold Obligations.WindowChecks
  refine ⟨?stored, ?refused⟩
  case stored =>
    intro s w e v _ hnew he h _ hne hv
    rw [writeWin_snd] at h
    obtain ⟨_, hcheck⟩ := winWriteCode_new hnew (kept_valid he) h
    obtain ⟨size, capacity, ld, others⟩ := of_winCheckCode_zero hcheck
    obtain ⟨dram, dpa, group⟩ := others v (mem_validWins hv) hne
    rw [kept_ld] at ld dpa
    rw [kept_group] at group
    exact ⟨overlap_eq_false.1 dram, fun h => overlap_eq_false.1 (dpa h), fun h => overlap_eq_false.1 (group h), size,
      capacity, ld⟩
  case refused =>
    intro ld inp s c hlen hlt hadm hw hc0 hc hc256
    rw [writeWin_snd] at hc
    refine ⟨winRefuse s c (pay inp 0 2) false, ?_, winRefuse_winTab, rf_winRefuse hw hc256, hasErr_winRefuse hw⟩
    change Host.Outcome.next (settle (mbSetWindow ld inp s)) = _
    unfold mbSetWindow
    dsimp only
    rw [if_neg (by omega), hadm, writeWin_refused hc hc0]

-- management SRAM (R21, R22)

theorem exec_registerWrite_sram {addr val : Word} {z : AccSize} {off : Nat} (hr : regionOf addr.toNat = .sram off)
    (hon : sramOn s off = true) : exec (.registerWrite addr z val) s =
      .next (settle (sramStore s off (leBytes (accBytes z) val.toNat))) := by
  change execRegisterWrite addr z val s = _
  simp [execRegisterWrite, hr, hon]

theorem sramWf_of_memWf (h : s.memWf = true) : Sparse.wf (fun _ => (0#8 : Byte)) s.sram = true := by
  simp only [State.memWf, Bool.and_eq_true] at h
  obtain ⟨⟨_, hsram⟩, _⟩ := h
  exact hsram

/-- Settles O55: the bytes are stored from the address on, and no other byte changes. -/
theorem sramWriteFrame : Obligations.SramWriteFrame := by
  unfold Obligations.SramWriteFrame
  intro addr val z off s hr hon hw
  refine ⟨_, exec_registerWrite_sram hr hon, rfl, ?_, fun a ha => ?_⟩
  · have stored := getList_setList (vs := leBytes (accBytes z) val.toNat) (k := off) (sramWf_of_memWf hw)
    rwa [leBytes_length] at stored
  · exact get_setList_out (by rwa [leBytes_length])

end Sys2Proof.Machine
end

section
/-! From DRAM address to device (R222 to R224): the interleave is one to one, and so is the place of a line in its channel. -/

namespace Sys2Proof.Machine

open Bits

variable {s : State} {l : List Nat} {ls : List (List Nat)} {c a b o ch x : Nat}

-- the sets of the interleave (R222)

/-- The sets take the channels of the layout from its front. -/
theorem layoutSets_flatten_prefix : (layoutSets l).flatten <+: l := by
  unfold layoutSets
  generalize [16, 8, 4, 2, 1] = sizes
  suffices h : ∀ p : List (List Nat) × List Nat, p.1.flatten ++ p.2 = l →
      (sizes.foldl (fun (acc : List (List Nat) × List Nat) n =>
        if l.length / n % 2 = 1 then (acc.1 ++ [acc.2.take n], acc.2.drop n) else acc) p).1.flatten <+: l from
    h ([], l) rfl
  induction sizes with
  | nil => exact fun p hp => ⟨p.2, hp⟩
  | cons n sizes ih =>
    intro p hp
    refine ih _ ?_
    dsimp only
    split
    · simpa using hp
    · exact hp

/-- An address within the sets lies in one of them, at an offset below its size. -/
theorem setAt_mem (h : setAt c ls a = some (l, o)) : l ∈ ls ∧ o < l.length * c := by
  induction ls generalizing a with
  | nil => cases h
  | cons k ls ih =>
    unfold setAt at h
    split at h
    · next hlt =>
      cases h
      exact ⟨List.mem_cons_self, hlt⟩
    · obtain ⟨hm, hlt⟩ := ih h
      exact ⟨List.mem_cons_of_mem _ hm, hlt⟩

/-- A channel that lies in one set only leads back to that set and its start. -/
theorem setOfCh_of_setAt (hd : ls.flatten.Nodup) (h : setAt c ls a = some (l, o)) (hch : ch ∈ l) :
    ∃ start, setOfCh c ls ch b = some (l, b + start) ∧ start + o = a := by
  induction ls generalizing a b with
  | nil => cases h
  | cons k ls ih =>
    unfold setAt at h
    unfold setOfCh
    split at h
    · cases h
      exact ⟨0, by rw [if_pos (List.contains_iff_mem.2 hch)]; rfl, Nat.zero_add _⟩
    · next hge =>
      obtain ⟨-, hd', hdisj⟩ := List.nodup_append.1 (List.flatten_cons ▸ hd)
      have notHere : ch ∉ k := fun hk => hdisj ch hk ch (List.mem_flatten.2 ⟨l, (setAt_mem h).1, hch⟩) rfl
      rw [if_neg (by simpa using notHere)]
      obtain ⟨start, hset, hstart⟩ := ih (b := b + k.length * c) hd' h
      exact ⟨k.length * c + start, by rw [hset, Nat.add_assoc], by omega⟩

/-- Dividing an offset among the channels of a set keeps the address within a channel. -/
theorem interleave_lt {n q : Nat} (ho : o < n * (256 * q)) : o / 256 / n * 256 + o % 256 < 256 * q := by
  have : o / 256 / n < q := by
    rw [Nat.div_div_eq_div_mul]
    exact Nat.div_lt_of_lt_mul (by rwa [Nat.mul_comm 256 n, Nat.mul_assoc])
  omega

/-- What a place is made of. -/
theorem dramPlace_eq_some (h : dramPlace s a = some (ch, x)) : ∃ set o, ∃ hi : o / 256 % set.length < set.length,
    setAt s.dram.chBytes (layoutSets s.dram.layout) a = some (set, o) ∧ set[o / 256 % set.length] = ch ∧
      x = o / 256 / set.length * 256 + o % 256 := by
  unfold dramPlace at h
  obtain ⟨⟨set, o⟩, hset, hplace⟩ := Option.map_eq_some_iff.1 h
  obtain ⟨-, ho⟩ := setAt_mem hset
  have hpos : 0 < set.length := Nat.pos_of_ne_zero fun h0 => by simp [h0] at ho
  have hi : o / 256 % set.length < set.length := Nat.mod_lt _ hpos
  simp only [Prod.mk.injEq] at hplace
  obtain ⟨hch, hx⟩ := hplace
  refine ⟨set, o, hi, hset, ?_, hx.symm⟩
  rw [← hch, List.getD_eq_getElem?_getD, List.getElem?_eq_getElem hi, Option.getD_some]

/-- The channel-local address leads back to the DRAM address. -/
theorem dramAddr_of_dramPlace (hn : s.dram.layout.Nodup) (h : dramPlace s a = some (ch, x)) : dramAddr s ch x = some a := by
  obtain ⟨set, o, hi, hset, hch, hx⟩ := dramPlace_eq_some h
  have hd : (layoutSets s.dram.layout).flatten.Nodup := hn.sublist layoutSets_flatten_prefix.sublist
  have hmem : ch ∈ set := hch ▸ List.getElem_mem hi
  have setNodup : set.Nodup := hd.sublist (List.sublist_flatten_of_mem (setAt_mem hset).1)
  obtain ⟨start, hof, hstart⟩ := setOfCh_of_setAt (b := 0) hd hset hmem
  have hidx : set.findIdx (· == ch) = o / 256 % set.length := by
    rw [← hch]
    exact setNodup.idxOf_getElem _ hi
  unfold dramAddr
  rw [hof, Option.map_some]
  dsimp only
  have hx1 : x / 256 = o / 256 / set.length := by omega
  have hx2 : x % 256 = o % 256 := by omega
  rw [hidx, hx1, hx2, Nat.div_add_mod', ← hstart]
  congr 1
  omega

/-- Settles O52: the place of an address lies in its channel and leads back to it, so that no other address has it. -/
theorem interleaveIsOneToOne : Obligations.InterleaveIsOneToOne := by
  unfold Obligations.InterleaveIsOneToOne
  intro s a ch x hn hc h
  have back := dramAddr_of_dramPlace hn h
  refine ⟨back, ?_, ?_, fun b hb => ?_⟩
  · obtain ⟨set, o, hi, hset, hch, -⟩ := dramPlace_eq_some h
    refine layoutSets_flatten_prefix.subset (List.mem_flatten.2 ⟨set, (setAt_mem hset).1, ?_⟩)
    exact hch ▸ List.getElem_mem hi
  · obtain ⟨set, o, hi, hset, -, hx⟩ := dramPlace_eq_some h
    obtain ⟨q, hq⟩ := Nat.dvd_of_mod_eq_zero hc
    have ho := (setAt_mem hset).2
    rw [hq] at ho ⊢
    rw [hx]
    exact interleave_lt ho
  · exact Option.some.inj ((dramAddr_of_dramPlace hn hb).symm.trans back)

-- the place of a line in its channel (R223, R224)

/-- A number below 2^(r + h + t) is made of its fields of r, h and t bits. -/
theorem eq_of_fields_eq {r h t p q : Nat} (hp : p < 2 ^ (r + h + t)) (hq : q < 2 ^ (r + h + t))
    (hrow : p % 2 ^ r = q % 2 ^ r) (hchip : p / 2 ^ r % 2 ^ h = q / 2 ^ r % 2 ^ h)
    (hrank : p / 2 ^ (r + h) % 2 ^ t = q / 2 ^ (r + h) % 2 ^ t) : p = q := by
  have low {n : Nat} : n % 2 ^ (r + h) = n % 2 ^ r + 2 ^ r * (n / 2 ^ r % 2 ^ h) := by rw [Nat.pow_add, Nat.mod_mul]
  have whole {n : Nat} (hn : n < 2 ^ (r + h + t)) :
      n = n % 2 ^ (r + h) + 2 ^ (r + h) * (n / 2 ^ (r + h) % 2 ^ t) := by
    rw [← Nat.mod_mul, ← Nat.pow_add, Nat.mod_eq_of_lt hn]
  rw [whole hp, whole hq, low, low, hrow, hchip, hrank]

/-- The bank hash is undone once the row is known (R224). -/
theorem hash_cancel {p q u v : Nat} (h : Nat.xor (Nat.xor p u) v = Nat.xor (Nat.xor q u) v) : p = q :=
  Nat.xor_left_injective (Nat.xor_left_injective h)

/-- Settles O53: the column gives bits 7 to 12 of an address, the row, chip and rank those above, and the row undoes the hash
of the bank's bits. -/
theorem bankHashIsOneToOne : Obligations.BankHashIsOneToOne := by
  unfold Obligations.BankHashIsOneToOne
  intro r h two x y hx hy hxy
  simp only [decodeLocal, DramLoc.mk.injEq] at hxy
  obtain ⟨hsub, hrank, hchip, hgroup, hbank, hrow, hcol⟩ := hxy
  rw [hrow] at hgroup hbank
  have group := hash_cancel hgroup
  have bank := hash_cancel hbank
  have above {z : Nat} (hz : z < 2 ^ (19 + r + h + two.toNat)) : z / 256 / 2 ^ 11 < 2 ^ (r + h + two.toNat) := by
    rw [Nat.div_div_eq_div_mul]
    refine Nat.div_lt_of_lt_mul ?_
    rwa [show 256 * 2 ^ 11 = 2 ^ 19 from rfl, ← Nat.pow_add, ← Nat.add_assoc, ← Nat.add_assoc]
  have high : x / 256 / 2 ^ 11 = y / 256 / 2 ^ 11 := by
    refine eq_of_fields_eq (above hx) (above hy) hrow ?_ ?_
    · simpa only [Nat.div_div_eq_div_mul, Nat.pow_add, Nat.mul_assoc] using hchip
    · cases two
      · simp only [Bool.toNat_false, Nat.pow_zero, Nat.mod_one]
      · simpa only [Nat.div_div_eq_div_mul, Nat.pow_add, Nat.mul_assoc, if_true, Bool.toNat_true, Nat.pow_one] using hrank
  have sub : x / 64 % 2 = y / 64 % 2 := by
    rcases Nat.mod_two_eq_zero_or_one (x / 64) with hx2 | hx2 <;>
      rcases Nat.mod_two_eq_zero_or_one (y / 64) with hy2 | hy2 <;> simp_all
  omega

end Sys2Proof.Machine
end

section
/-! The front command of a step, the state after reset, and the commands that the pages share (R16, R30 to R36, R503, R541). -/

namespace Sys2Proof.Machine

open Bits

variable {s : State} {a b p unit : Nat} {val : Word}

-- step and reset

/-- Settles O37, along the two cases of `step`. -/
theorem stepRunsFrontCommand : Obligations.StepRunsFrontCommand := by
  unfold Obligations.StepRunsFrontCommand
  refine ⟨fun c rest s h => ?_, fun s h => ?_, fun nbits w s => ⟨rfl, rfl⟩⟩ <;> unfold step <;> rw [h]

/-- After reset no domain has an entry of its own. -/
theorem domOf_reset {d : Nat} : (domOf State.reset d).credit = 8 := rfl

/-- Settles O38: the memories are empty, so every register of reset reads its reset value. -/
theorem resetState : Obligations.ResetState := by
  unfold Obligations.ResetState
  refine ⟨by decide, by decide, by decide, by decide, rfl, rfl, fun d => domOf_reset, ?_, ?_, ?_, ?_⟩ <;> decide

-- CTRL and the power registers

theorem exec_powerReq : exec (.powerReq p val) s = .next (settle (ctrlWrite s p val)) := rfl

theorem exec_softReset : exec (.softReset p val) s = .next (settle (ctrlWrite s p (val ||| 2#32))) := rfl

theorem ctrlWrite_of_setCtrl (hp : isPage p = true) (h1 : bit val 1 = false) :
    ctrlWrite s p val = setCtrl s p (bit val 0) (bit val 2) := by
  unfold ctrlWrite
  simp [hp, h1]

theorem ctrlWrite_of_softReset (hp : isPage p = true) (h1 : bit val 1 = true) (hr : softRefused s p = false) :
    ctrlWrite s p val = { s with resets := (s.resets.filter fun e => e.1 != p) ++ [(p, val)] } := by
  unfold ctrlWrite
  simp [hp, h1, hr]

theorem bit_or_two : bit (val ||| 2#32) 1 = true := by
  unfold bit
  rw [BitVec.getLsbD_or, show (2#32).getLsbD 1 = true from rfl, Bool.or_true]

theorem exec_softResetTakeEffect (h : s.resets = [(p, val)]) :
    exec (.softResetTakeEffect p) s = .next (settle (softReset { s with resets := [] } p val)) := by
  change execSoftResetTakeEffect p s = _
  simp [execSoftResetTakeEffect, h]

/-- An address of the register pages. -/
theorem regionOf_page (ha : a < 0x61000) : regionOf (0x40000000 + a) = .page a := by
  unfold regionOf
  rw [if_neg (by omega), if_neg (by omega), if_pos (by omega), Nat.add_sub_cancel_left]

/-- The power registers of a block (R16). -/
def isPowerReg (a : Nat) : Prop :=
  a ∈ [Reg.genSlicePwr, Reg.poolBankPwr, Reg.genmCacheCtrl, Reg.sysSramPwr, Reg.sysDebug]

theorem isPowerReg.lt (h : isPowerReg a) : a < 0x61000 :=
  (by decide : ∀ a ∈ [Reg.genSlicePwr, Reg.poolBankPwr, Reg.genmCacheCtrl, Reg.sysSramPwr, Reg.sysDebug], a < 0x61000) a h

theorem exec_blockDomainPowerWrite {addr : Word} (haddr : addr.toNat = 0x40000000 + a) (h : isPowerReg a) :
    exec (.blockDomainPowerWrite addr val) s = .next (settle (powerWrite s a val)) := by
  change execBlockDomainPowerWrite addr val s = _
  simp only [execBlockDomainPowerWrite, haddr, regionOf_page h.lt, List.contains_iff_mem.2 h, if_true]

/-- Settles O1. -/
theorem commonPageCommands : Obligations.CommonPageCommands := by
  unfold Obligations.CommonPageCommands
  refine ⟨?lockSet, ?powerReq, ?softReset, ?takeEffect, ?power, ?sramPower⟩
  case lockSet => exact fun page val s hp => congrArg Host.Outcome.next (if_pos hp)
  case powerReq => exact fun page val s hp h1 => exec_powerReq.trans (by rw [ctrlWrite_of_setCtrl hp h1])
  case softReset => exact fun page val s hp hr => exec_softReset.trans (by rw [ctrlWrite_of_softReset hp bit_or_two hr])
  case takeEffect => exact fun page val s h => exec_softResetTakeEffect h
  case power =>
    intro addr val s a haddr ha hsram
    rw [exec_blockDomainPowerWrite haddr ha, powerWrite, if_neg]
    rintro ⟨h1, h2, h3⟩
    simp [h1, h2, h3] at hsram
  case sramPower =>
    intro addr val s haddr h0 hst
    rw [exec_blockDomainPowerWrite haddr (by unfold isPowerReg; decide), powerWrite, if_pos ⟨rfl, h0, hst⟩]

-- errors

theorem rd_errClear (hw : s.memWf = true) : rd (errClear s p val 0#32) (errStatusA p) = rd s (errStatusA p) &&& ~~~val := by
  have noneDetected : forEach (List.range 32) s (fun s b => if bit 0#32 b = true then detect s p b 0 else s) = s :=
    List.foldlRecOn (motive := (· = s)) _ _ rfl fun t ht b _ => by simp [ht, bit]
  have hne : errStatusA p ≠ errFirstA p := by unfold errFirstA errStatusA; omega
  unfold errClear
  dsimp only
  rw [noneDetected, andNot_andNot_zero]
  generalize hu : forEach (List.range 32) s _ = u
  have regs : u.regs = s.regs := by
    rw [← hu]
    exact forEach_regs fun t b => by split <;> rfl
  have uwf : Sparse.wf resetOf u.regs = true := regs ▸ regsWf_of_memWf hw
  split
  · rw [rd_wr_ne hne]
    exact get_set_self uwf
  · exact get_set_self uwf

theorem hasErr_accessErr (hw : s.memWf = true) : hasErr (accessErr s p) p 3 = true := hasErr_report hw (by decide)

theorem bit_one {k : Nat} (hb : b < 32) : bit (one b) k = decide (k = b) := by
  unfold bit one
  rw [BitVec.getLsbD_ofNat, Nat.testBit_two_pow, ← Bool.decide_and]
  exact decide_eq_decide.2 ⟨fun h => h.2.symm, fun h => ⟨h ▸ hb, h.symm⟩⟩

/-- The choice of the unit leaves what a detected error needs. -/
theorem hasErr_injectBit (hp : isPage p = true) (hc : classOf p b ≠ 0) (hup : coreUp s = true) (hw : s.memWf = true)
    (hb : b < 32) (hbit : bit val b = true) : hasErr (injectBit p val s b) p b = true := by
  obtain ⟨n, hn⟩ := injectUnit_eq (s := s) (p := p) (b := b)
  unfold injectBit
  rw [if_pos (by simp [hbit, hc]), hn]
  exact hasErr_detect hp hc hup hw hb

/-- One bit written to ERR_INJECT sets it in ERR_STATUS. -/
theorem hasErr_inject_one (hp : isPage p = true) (hc : classOf p b ≠ 0) (hup : coreUp s = true) (hw : s.memWf = true)
    (hb : b < 32) (hl : injectLocked s p = false) : hasErr (inject s p (one b)) p b = true := by
  have others {t : State} {k : Nat} (hk : k ≠ b) : injectBit p (one b) t k = t := by
    unfold injectBit
    simp [bit_one hb, hk]
  have split32 : List.range 32 = List.range b ++ b :: (List.range (31 - b)).map (b + 1 + ·) := by
    rw [show 32 = b + (1 + (31 - b)) by omega, List.range_add, List.range_add]
    simp [Function.comp_def, Nat.add_assoc]
  have below : (List.range b).foldl (injectBit p (one b)) s = s :=
    List.foldlRecOn (motive := (· = s)) _ _ rfl fun t ht k hk => by
      rw [ht]
      exact others (Nat.ne_of_lt (List.mem_range.1 hk))
  rw [inject_eq_forEach hl, forEach, split32, List.foldl_append, below, List.foldl_cons]
  refine List.foldlRecOn (motive := fun t => hasErr t p b = true) _ _
    (hasErr_injectBit hp hc hup hw hb (by simp [bit_one hb])) fun t ht k hk => ?_
  obtain ⟨j, -, hj⟩ := List.mem_map.1 hk
  rwa [others (by omega)]

theorem exec_mgmtUnmappedAccess {addr : Word} {kind : AccKind} :
    exec (.mgmtUnmappedAccess addr kind) s = execMgmtUnmappedAccess addr kind s := rfl

/-- Settles O2. -/
theorem errorCommands : Obligations.ErrorCommands := by
  unfold Obligations.ErrorCommands
  refine ⟨?clear, ?report, ?watchdog, ?unmapped, ?fetch, ?inject⟩
  case clear => exact fun page val s hp hw => ⟨_, exec_errStatusClear hp, rd_errClear hw⟩
  case report => exact fun page b unit s hp hc hup hw hb => ⟨_, exec_errorReport, hasErr_detect hp hc hup hw hb⟩
  case watchdog =>
    exact fun page unit s hp hup hw => ⟨detect s page 4 unit, rfl, hasErr_detect hp (fun h => Nat.noConfusion h) hup hw (by decide)⟩
  case unmapped =>
    intro addr kind s h hw
    rw [exec_mgmtUnmappedAccess]
    unfold execMgmtUnmappedAccess
    rw [h]
    cases kind
    case read => exact ⟨_, rfl, hasErr_accessErr hw⟩
    case write => exact ⟨_, rfl, hasErr_accessErr hw⟩
    case fetch => exact ⟨_, rfl, hasErr_accessErr hw⟩
  case fetch =>
    intro addr a s h
    rw [exec_mgmtUnmappedAccess]
    unfold execMgmtUnmappedAccess
    rcases h with h | h <;> rw [h]
  case inject =>
    exact fun page b s hp hc hup hw hb hl => ⟨_, exec_errInject hp, hasErr_inject_one hp hc hup hw hb hl⟩

end Sys2Proof.Machine
end

section
/-! The fault manager: its own commands and those of its mailbox (R504 to R519). -/

namespace Sys2Proof.Machine

open Bits

variable {s : State} {val : Word} {k : Nat × Nat}

/-- FLT_FENCE and FLT_LIFT name a page and a unit that can be fenced, under the key 0x46 (R507). -/
structure FenceTarget (val : Word) : Prop where
  key : fld val 24 8 = 0x46
  page : fenceable (fld val 0 7) = true
  unit : fld val 8 4 < unitsOf (fld val 0 7)

theorem fenceCmd_fence (h : FenceTarget val) (h16 : bit val 16 = true) :
    fenceCmd s val = fenceUnit s (fld val 0 7) (fld val 8 4) false := by
  unfold fenceCmd
  simp [h.key, h.page, Nat.not_le.2 h.unit, h16]

theorem fenceCmd_lift {hw : Bool} (h : FenceTarget val) (h16 : bit val 16 = false) (hk : unitKey (fld val 0 7) (fld val 8 4) = k)
    (hf : s.flt.fences = [{ page := k.1, unit := k.2, hw }]) :
    fenceCmd s val = if hw = true then accessErr s Pg.flt
      else if 0x20 ≤ k.1 ∧ k.1 < 0x40 then icu s 468 else liftUnit s k := by
  unfold fenceCmd
  simp [h.key, h.page, Nat.not_le.2 h.unit, h16, hk, hf]

theorem exec_fltFence (h16 : bit val 16 = true) : exec (.fltFence val) s = .next (settle (fenceCmd s val)) :=
  congrArg (Host.Outcome.next ∘ settle) (if_pos h16)

theorem exec_fltLift (h16 : bit val 16 = false) : exec (.fltLift val) s = .next (settle (fenceCmd s val)) :=
  congrArg (Host.Outcome.next ∘ settle) (if_neg (by simp [h16]))

/-- Settles O3. -/
theorem faultManagerCommands : Obligations.FaultManagerCommands := by
  unfold Obligations.FaultManagerCommands
  refine ⟨?timeout, ?fence, ?lift, ?liftHw, ?expiry, ?take, ?done, ?clear, ?sticky⟩
  case timeout => exact fun page unit s => ⟨_, rfl, rfl, rfl⟩
  case fence =>
    intro val s hkey hpage hunit h16
    rw [exec_fltFence h16, fenceCmd_fence ⟨hkey, hpage, hunit⟩ h16]
  case lift =>
    intro val s k hkey hpage hunit h16 hk hf
    rw [exec_fltLift h16, fenceCmd_lift ⟨hkey, hpage, hunit⟩ h16 hk hf, if_neg Bool.false_ne_true]
  case liftHw =>
    intro val s k hkey hpage hunit h16 hk hf
    rw [exec_fltLift h16, fenceCmd_lift ⟨hkey, hpage, hunit⟩ h16 hk hf, if_pos rfl]
  case expiry => exact fun s _ => rfl
  case take =>
    intro s hst hd
    refine ⟨dumpOnCommand s, ?_, rfl, rfl⟩
    change execFltDumpTake 1#32 s = _
    simp [execFltDumpTake, dumpCmd, dumpTake, bit, hst, hd]
  case done =>
    intro s k hst hk
    change execFltDumpDone 2#32 s = _
    simp [execFltDumpDone, dumpCmd, dumpDone, bit, hst, hk]
  case clear =>
    intro s he hd
    change execFltDumpClear 0x44430004#32 s = _
    simp [execFltDumpClear, dumpCmd, dumpClear, bit, fld, he, hd]
  case sticky => exact fun s => rfl

-- the mailbox

/-- A number of n bytes at the front of a payload. -/
theorem pay_leBytes {n v : Nat} {rest : List Byte} (hv : v < 256 ^ n) : pay (leBytes n v ++ rest) 0 n = v := by
  unfold pay leAt
  rw [List.drop_zero, List.take_left' leBytes_length, ofLe_leBytes, Nat.mod_eq_of_lt hv]

/-- A number of n bytes behind the first m bytes of a payload. -/
theorem pay_append {m n : Nat} {front rest : List Byte} (hf : front.length = m) :
    pay (front ++ rest) m n = pay rest 0 n := by
  unfold pay leAt
  rw [List.drop_left' hf, List.drop_zero]

/-- The code of FLT_CLEAR and FLT_CLEAR_STICKY (R517). -/
theorem pay_clearMagic : pay (leBytes 4 clearMagic) 0 4 = clearMagic := by decide

theorem mbReadDump_done {ld off n : Nat} (h4 : off % 4 = 0) (hn : 4 ≤ n) (hmax : n ≤ 2040) (hsize : off + n ≤ dumpSize)
    (hst : dumpState s = 1) : mbReadDump ld (leBytes 4 off ++ leBytes 2 n ++ zeros 2) s =
      replyOk s ld (leBytes 1 0 ++ leBytes 1 1 ++ zeros 6 ++ cflBytes s (dumpBase + off) n) := by
  have size : dumpSize = 0x400000 := rfl
  have hoff : pay (leBytes 4 off ++ leBytes 2 n ++ zeros 2) 0 4 = off := by
    rw [List.append_assoc]
    exact pay_leBytes (by omega)
  have hlen : pay (leBytes 4 off ++ leBytes 2 n ++ zeros 2) 4 2 = n := by
    rw [List.append_assoc, pay_append leBytes_length]
    exact pay_leBytes (by omega)
  have length : (leBytes 4 off ++ leBytes 2 n ++ zeros 2).length = 8 := by simp [leBytes_length, zeros]
  unfold mbReadDump
  rw [hoff, hlen, hst]
  dsimp only
  rw [if_neg (by omega), if_neg (by omega), if_pos rfl]
  rfl

theorem cflErase_hl {a n : Nat} : (cflErase s a n).hl = s.hl := rfl

/-- Settles O4. -/
theorem faultMailboxCommands : Obligations.FaultMailboxCommands := by
  unfold Obligations.FaultMailboxCommands
  refine ⟨?status, ?take, ?read, ?clear, ?sticky, ?done⟩
  case status => exact fun ld s => rfl
  case take =>
    intro ld s hadm hd
    change execTakeDump ld [] s = _
    simp [execTakeDump, mbTakeDump, hadm, hd]
  case read =>
    exact fun ld s off n h4 hn hmax hsize hst => congrArg (Host.Outcome.next ∘ settle) (mbReadDump_done h4 hn hmax hsize hst)
  case clear =>
    intro ld s hadm he hd
    change execClearDump ld (leBytes 4 clearMagic) s = _
    simp [execClearDump, mbClearDump, leBytes_length, pay_clearMagic, hadm, he, hd]
  case sticky =>
    intro ld s hadm
    change execClearSticky ld (leBytes 4 clearMagic) s = _
    simp [execClearSticky, mbClearSticky, leBytes_length, pay_clearMagic, hadm]
  case done =>
    intro ld s he hld
    change execClearDumpDone s = _
    simp [execClearDumpDone, he, cflErase_hl, hld]

end Sys2Proof.Machine
end

section
/-! The power sequencer: the walk, its commands, input power and supervision (R329 to R356, R531, R532). -/

namespace Sys2Proof.Machine

open Bits

variable {s : State}

/-- Settles O5. -/
theorem powerWalkCommands : Obligations.PowerWalkCommands := by
  unfold Obligations.PowerWalkCommands
  refine ⟨?powerUp, ?railUp, ?rampTimeout, ?pgFall, ?scan, ?sample⟩
  case powerUp =>
    intro b0 b1 s hvao hst hmin hin hon
    change execPowerUp b0 b1 s = _
    simp [execPowerUp, hvao, hst, hmin, hin, hon]
  case railUp =>
    intro rail ramp s hlt hne hen hup hf
    refine ⟨_, ?_, rfl⟩
    change execRailUp rail ramp s = _
    by_cases h0 : rail = 0 <;> simp_all [execRailUp]
  case rampTimeout =>
    intro rail s hlt hne hen hup hf
    change execRailRampTimeout rail s = _
    simp [execRailRampTimeout, hlt, hne, hen, hup, hf]
  case pgFall =>
    intro rail s hlt hne hen hup
    change execRailPgFall rail s = _
    simp [execRailPgFall, hlt, hne, hen, hup]
  case scan =>
    intro input mv s hup hlt
    refine ⟨_, ?_, rfl⟩
    change execScanRead input mv true s = _
    simp [execScanRead, hup, hlt]
  case sample =>
    intro input s h
    exact congrArg (Host.Outcome.next ∘ settle) (if_pos h)

-- PSQ_CMD (R356)

/-- PSQ_CMD with one of its bits set runs that bit's command alone. -/
theorem exec_psqCmd {val : Word} (he : enabled s Pg.psq = true) : psqCmd s val =
    let s := if bit val 0 then cmdOn s else s
    let s := if bit val 1 && fld val 16 16 == 0x5053 then cmdOff s else s
    let s := if bit val 2 then holdTest s else s
    let s := if bit val 3 then traceTrigger s else s
    if bit val 4 then { s with psq := { s.psq with traceFrozen := false, tracePost := none } } else s :=
  if_neg (by simp [he])

/-- Settles O6. -/
theorem sequencerCommands : Obligations.SequencerCommands := by
  unfold Obligations.SequencerCommands
  refine ⟨?on, ?off, ?holdTest, ?testEnd, ?freeze, ?unfreeze⟩
  case on =>
    intro s he hst hsh hr
    change execPsqCmdOn 1#32 s = _
    simp [execPsqCmdOn, exec_psqCmd he, bit, cmdOn, hst, hsh, hr]
  case off =>
    intro s he
    change execPsqCmdOff 0x50530002#32 s = _
    simp [execPsqCmdOff, exec_psqCmd he, bit, fld, cmdOff]
  case holdTest =>
    intro s he hst hin hh ht
    change execPsqHoldTest 4#32 s = _
    simp [execPsqHoldTest, exec_psqCmd he, bit, holdTest, hst, hin, hh, ht]
  case testEnd =>
    intro s ht
    refine ⟨(railOf s 22).pg && decide (s.psq.holdTime ≤ rf s Reg.psqHoldCfg 0 8), congrArg (Host.Outcome.next ∘ settle) (if_pos ht), ?_⟩
    rw [Bool.and_eq_true, decide_eq_true_eq]
  case freeze =>
    intro s he
    change execPsqTraceFreeze 8#32 s = _
    simp [execPsqTraceFreeze, exec_psqCmd he, bit]
  case unfreeze =>
    intro s he
    change execPsqTraceUnfreeze 16#32 s = _
    simp [execPsqTraceUnfreeze, exec_psqCmd he, bit]

-- input power (R341)

/-- The sequencer's state without the trace and the events that wait for the core. -/
def Psq.bare (p : Psq) : Psq :=
  { p with trace := [], traceAt := 0, traceWrapped := false, traceFrozen := false, tracePost := none, deferred := [] }

theorem icu_bare {n : Nat} : (icu s n).psq.bare = s.psq.bare := by
  unfold icu
  split
  · simp only [icuMsg_psq, srcEvent_psq]
  · dsimp only
    split
    · split <;> simp only [srcEvent_psq]
    · split
      · simp only [srcEvent_psq]
        rfl
      · simp only [srcEvent_psq]

theorem traceFreezeNow_bare : (traceFreezeNow s).psq.bare = s.psq.bare := icu_bare

theorem trace_bare {c i d : Nat} : (trace s c i d).psq.bare = s.psq.bare := by
  unfold trace
  split
  · rfl
  · dsimp only
    split
    · rfl
    · split
      · exact traceFreezeNow_bare
      · rfl

theorem coreUp_of_bare {t : State} (h : t.psq.bare = s.psq.bare) : coreUp t = coreUp s := by
  have rails : t.psq.rails = s.psq.rails := (congrArg Psq.rails h : _)
  unfold coreUp railOf
  rw [rails]

theorem onAllowed_of_bare {t : State} (h : t.psq.bare = s.psq.bare) : onAllowed t = onAllowed s := by
  have off : t.psq.softOff = s.psq.softOff := (congrArg Psq.softOff h : _)
  have shutdown : t.psq.shutdown = s.psq.shutdown := (congrArg Psq.shutdown h : _)
  have held : t.psq.heldInReset = s.psq.heldInReset := (congrArg Psq.heldInReset h : _)
  unfold onAllowed
  rw [off, shutdown, held]

theorem rd_traceFreezeNow {a : Nat} (ha : a / 0x1000 ≠ Pg.icu) (hf : a ≠ Reg.fltCorrCount) : rd (traceFreezeNow s) a = rd s a :=
  rd_icu (by decide) ha hf

/-- The trace writes no register but those that the event of its freeze writes. -/
theorem rd_trace {a c i d : Nat} (ha : a / 0x1000 ≠ Pg.icu) (hf : a ≠ Reg.fltCorrCount) : rd (trace s c i d) a = rd s a := by
  unfold trace
  split
  · rfl
  · dsimp only
    split
    · rfl
    · split
      · exact rd_traceFreezeNow ha hf
      · rfl

/-- A value other than its key's default is read back whatever the form of the map. -/
theorem get_set_of_ne_default {α : Type} [DecidableEq α] {d : Nat → α} {m : List (Nat × α)} {k : Nat} {v : α} (h : v ≠ d k) :
    Sparse.get d (Sparse.set d m k v) k = v := by
  induction m with
  | nil => simp [Sparse.set, Sparse.get, h]
  | cons e m ih =>
    unfold Sparse.set
    rw [if_neg h, if_neg h]
    split
    · exact if_pos rfl
    · next hge =>
      split
      · exact if_pos rfl
      · next hne => exact (if_neg (Ne.symm hne)).trans ih

/-- The record of a rail may change without a change of the rail itself. -/
theorem coreUp_setRail {k : Nat} {r : Rail} (hne : r ≠ {}) (hr : r.up = (railOf s k).up) :
    coreUp (setRail s k r) = coreUp s := by
  unfold coreUp railOf setRail
  by_cases hk : k = 0
  · subst hk
    rw [get_set_of_ne_default hne]
    exact hr
  · rw [get_set_ne (Ne.symm hk)]

/-- What the choices at lost and returned input power read, and the holds they clear, are the same in both states. -/
structure SameWalk (s t : State) : Prop where
  gen : t.gen = s.gen
  st : t.psq.st = s.psq.st
  input : t.psq.input = s.psq.input
  allowed : onAllowed t = onAllowed s
  begun : t.psq.restoreBegun = s.psq.restoreBegun
  holdLoss : t.psq.holdLoss = s.psq.holdLoss
  holdKa : t.psq.holdKa = s.psq.holdKa

theorem SameWalk.trans {t u : State} (h : SameWalk s t) (k : SameWalk t u) : SameWalk s u :=
  ⟨k.gen.trans h.gen, k.st.trans h.st, k.input.trans h.input, k.allowed.trans h.allowed, k.begun.trans h.begun, k.holdLoss.trans h.holdLoss,
    k.holdKa.trans h.holdKa⟩

theorem SameWalk.of_bare {t : State} (hg : t.gen = s.gen) (h : t.psq.bare = s.psq.bare) : SameWalk s t :=
  ⟨hg, (congrArg Psq.st h : _), (congrArg Psq.input h : _), onAllowed_of_bare h, (congrArg Psq.restoreBegun h : _),
    (congrArg Psq.holdLoss h : _), (congrArg Psq.holdKa h : _)⟩

theorem sameWalk_icu {n : Nat} : SameWalk s (icu s n) := .of_bare icu_gen icu_bare

theorem sameWalk_trace {c i d : Nat} : SameWalk s (trace s c i d) := .of_bare trace_gen trace_bare

theorem sameWalk_updateHold : SameWalk s (updateHold s) := by
  unfold updateHold
  dsimp only
  split
  · exact ⟨rfl, rfl, rfl, rfl, rfl, rfl, rfl⟩
  · refine SameWalk.trans ?_ sameWalk_trace
    exact ⟨rfl, rfl, rfl, rfl, rfl, rfl, rfl⟩

/-- Input power is recorded as returned (R341). -/
def inputOn (s : State) : State :=
  trace (icu { s with psq := { s.psq with input := true, below := false } } 353) 8 0 1

/-- The hold of the input loss ends (R343). -/
def lossOver (s : State) : State := updateHold { s with psq := { s.psq with holdLoss := false } }

theorem execInputPresent_eq {c : Bool} {weak : List Nat} (hin : s.psq.input = false) (hv : s.psq.vao = true) :
    exec (.inputPresent c weak) s = .next (settle (
      let ok := some (c, weak)
      let s := lossOver (inputOn s)
      let h := s.gen.hem
      if h.active && s.psq.st == 2 then setHem s { h with returned := true, warmOk := ok }
      else if h.st = 4 ∧ (s.psq.st = 6 ∨ s.psq.st = 4) then
        let s := wrF s Reg.genKaLast 16 16 (min 65535 (kaServed s))
        let s := updateHold { s with psq := { s.psq with holdKa := false } }
        startPowerUp (setHem s { s.gen.hem with warmOk := ok }) true
      else if (s.psq.st == 3 || s.psq.st == 4 || s.psq.st == 5) && onAllowed s then latchOn s 1
      else s)) :=
  congrArg (Host.Outcome.next ∘ settle) (if_neg (by simp [hin, hv]))

/-- What the choice reads once input power is back. -/
theorem sameWalk_lossOver : (lossOver (inputOn s)).gen = s.gen ∧ (lossOver (inputOn s)).psq.st = s.psq.st ∧
    (lossOver (inputOn s)).psq.input = true ∧ (lossOver (inputOn s)).psq.holdLoss = false ∧
    onAllowed (lossOver (inputOn s)) = onAllowed s := by
  have on : SameWalk { s with psq := { s.psq with input := true, below := false } } (inputOn s) :=
    sameWalk_icu.trans sameWalk_trace
  have off : SameWalk { inputOn s with psq := { (inputOn s).psq with holdLoss := false } } (lossOver (inputOn s)) :=
    sameWalk_updateHold
  exact ⟨off.gen.trans on.gen, off.st.trans on.st, off.input.trans on.input, off.holdLoss, off.allowed.trans on.allowed⟩

/-- A rail that has not discharged in time (R335), before the report. -/
def dischargeLate (s : State) (k : Nat) : State :=
  icu (trace (setRail s k { railOf s k with
    discharging := false, disTimeout := true, timeouts := satAdd 8 (railOf s k).timeouts 1 }) 6 k 1) (328 + k)

theorem coreUp_dischargeLate {k : Nat} : coreUp (dischargeLate s k) = coreUp s := by
  unfold dischargeLate
  rw [coreUp_of_bare (icu_bare.trans trace_bare), coreUp_setRail]
  · exact fun h => Bool.noConfusion (congrArg Rail.disTimeout h)
  · rfl

theorem dischargeLate_wf {k : Nat} (hw : s.memWf = true) : (dischargeLate s k).memWf = true :=
  (icu_keeps (trace_keeps (setRail_keeps (Keeps.refl s)))).mem hw

theorem exec_dischargeTimeout {k : Nat} (hd : (railOf s k).discharging = true) : exec (.dischargeTimeout k) s = .next (settle
    (walk (if coreUp (dischargeLate s k) = true then report (dischargeLate s k) Pg.psq 17 0 else dischargeLate s k))) :=
  congrArg (Host.Outcome.next ∘ settle) (if_pos hd)

/-- The start from keep-alive (R174): its time is recorded and its hold ends. -/
def kaOver (s : State) : State :=
  let s := wrF s Reg.genKaLast 16 16 (min 65535 (kaServed s))
  updateHold { s with psq := { s.psq with holdKa := false } }

theorem sameWalk_kaOver : (kaOver s).gen = s.gen ∧ (kaOver s).psq.input = s.psq.input ∧
    (kaOver s).psq.holdLoss = s.psq.holdLoss ∧ (kaOver s).psq.holdKa = false :=
  ⟨sameWalk_updateHold.gen, sameWalk_updateHold.input, sameWalk_updateHold.holdLoss, sameWalk_updateHold.holdKa⟩

/-- VAO's reset clears the latches of a sequencer that drives no fault. -/
theorem clearLatches_undriven (h : s.psq.faultDriven = none) :
    (clearLatches s).psq.vao = s.psq.vao ∧ (clearLatches s).sram = s.sram := by
  unfold clearLatches
  dsimp only
  rw [if_neg (by simp [h])]
  exact List.foldlRecOn (motive := fun t : State => t.psq.vao = s.psq.vao ∧ t.sram = s.sram) _ _ ⟨rfl, rfl⟩ fun t ht g _ => ht

theorem coreLost_sram : (coreLost s).sram = [] := rfl

/-- The state at VAO's reset, with the core lost, and with the latches cleared. -/
def vaoLost (s : State) : State := coreLost (setHem s { record := s.gen.hem.record })

theorem vaoLost_pending : (vaoLost s).pending = s.pending :=
  (coreLost_keeps (setHem_keeps (Keeps.refl s))).pending

theorem vaoLost_sram : (vaoLost s).sram = [] := coreLost_sram

/-- The latches cleared once VAO has gone. -/
def vaoCleared (s : State) : State := clearLatches { s with psq := { vao := false, cyclesPending := true } }

theorem vaoCleared_eq : (vaoCleared s).psq.vao = false ∧ (vaoCleared s).sram = s.sram ∧
    (vaoCleared s).pending = s.pending :=
  ⟨(clearLatches_undriven rfl).1, (clearLatches_undriven rfl).2,
    (clearLatches_keeps (Keeps.mk' (Keeps.refl s) rfl rfl rfl rfl)).pending⟩

/-- What VAO's reset empties once the latches are cleared (R531). -/
def vaoEmptied (s : State) : State :=
  { s with
    regs := s.regs.filter fun e => keepsReg e.1 && !selvedgeReg e.1
    icu := {}
    evr := { s.evr with latch := [], latchLost := 0 }
    flt := { s.flt with fences := [], skipped := 0, last464 := none, last465 := none }
    gen := { s.gen with map := [], loc := [], lineBits := [] }
    dram := {}
    bat := { knownSerial := s.bat.knownSerial, packTerm := s.bat.shipTaken }
    thm := {}
    sb := {}
    hl := { s.hl with bif0 := false, bif1 := false, strap0 := false, strap1 := false } }

theorem vaoEmptied_eq : (vaoEmptied s).psq = s.psq ∧ (vaoEmptied s).sram = s.sram ∧ (vaoEmptied s).pending = s.pending :=
  ⟨rfl, rfl, rfl⟩

theorem exec_vaoReset : exec .vaoReset s = .next (settle (vaoEmptied (vaoCleared (vaoLost s)))) := by
  change execVaoReset s = _
  unfold execVaoReset vaoEmptied vaoCleared vaoLost
  rfl

/-- Settles O7. -/
theorem powerOffCommands : Obligations.PowerOffCommands := by
  unfold Obligations.PowerOffCommands
  refine ⟨?discharged, ?timeoutOff, ?timeoutOn, ?minOff, ?minOffOn, ?inputOn, ?inputHem, ?inputWarm, ?cycle, ?vaoReset,
    ?vaoRelease⟩
  case discharged =>
    intro rail ms s hd
    exact congrArg (Host.Outcome.next ∘ settle) (if_pos hd)
  case timeoutOff =>
    intro rail s hd hup
    rw [exec_dischargeTimeout hd, coreUp_dischargeLate, if_neg (by simp [hup])]
    rfl
  case timeoutOn =>
    intro rail s hd hup hw
    rw [exec_dischargeTimeout hd, coreUp_dischargeLate, if_pos hup]
    exact ⟨_, rfl, hasErr_report (dischargeLate_wf hw) (by decide)⟩
  case minOff =>
    intro s hmin hup hst hon
    change execMinOffTimeExpiry s = _
    simp [execMinOffTimeExpiry, hmin, hup, hst, hon]
  case minOffOn =>
    intro s hmin hup hst hon hin hal
    change execMinOffTimeExpiry s = _
    simp only [onAllowed, Bool.and_eq_true, Bool.not_eq_true'] at hal
    simp [execMinOffTimeExpiry, onAllowed, hmin, hup, hst, hon, hin, hal]
  case inputOn =>
    intro c weak s hin hv hact hhem hst hal
    obtain ⟨gen, st, -, -, allowed⟩ := sameWalk_lossOver (s := s)
    refine ⟨inputOn s, ?_, rfl⟩
    rw [execInputPresent_eq hin hv]
    have walking : (s.psq.st == 3 || s.psq.st == 4 || s.psq.st == 5) = true := by simpa [or_assoc] using hst
    simp only [gen, st, allowed, hact, hhem, hal, walking]
    rfl
  case inputHem =>
    intro c weak s hin hv hact hst
    obtain ⟨gen, st, -⟩ := sameWalk_lossOver (s := s)
    refine ⟨inputOn s, ?_, rfl⟩
    rw [execInputPresent_eq hin hv]
    simp only [gen, st, hact, hst]
    rfl
  case inputWarm =>
    intro c weak s hin hv hact hhem hst
    obtain ⟨gen, st, input, loss, -⟩ := sameWalk_lossOver (s := s)
    obtain ⟨gen', input', loss', ka'⟩ := sameWalk_kaOver (s := lossOver (inputOn s))
    refine ⟨kaOver (lossOver (inputOn s)), ?_, gen'.trans gen, input'.trans input, loss'.trans loss, ka'⟩
    rw [execInputPresent_eq hin hv]
    simp only [gen, st, hact, hhem, Bool.false_and, Bool.false_eq_true, if_false, true_and, if_pos hst]
    rfl
  case cycle =>
    exact fun s hin => ⟨_, congrArg (Host.Outcome.next ∘ settle) (if_neg (by simp [hin])), rfl, rfl, rfl, rfl, rfl⟩
  case vaoReset =>
    intro s
    obtain ⟨vao, sram, pending⟩ := vaoCleared_eq (s := vaoLost s)
    obtain ⟨psq', sram', pending'⟩ := vaoEmptied_eq (s := vaoCleared (vaoLost s))
    exact ⟨_, exec_vaoReset, (congrArg Psq.vao psq').trans vao, rfl, rfl, (sram'.trans sram).trans vaoLost_sram, rfl,
      (pending'.trans pending).trans vaoLost_pending⟩
  case vaoRelease =>
    intro strap s hv
    exact congrArg (Host.Outcome.next ∘ settle) (if_neg (by simp [hv]))

/-- Settles O8. -/
theorem supervisionCommands : Obligations.SupervisionCommands := by
  unfold Obligations.SupervisionCommands
  refine ⟨?pgRise, ?limit, ?pgFall, ?stretch, ?rstCtrl, ?arm, ?latch, ?up, ?down⟩
  case pgRise =>
    intro t s hen ht
    have limit {m : List (Nat × Rail)} {n : Nat} : rf { railPg s 22 true with psq := { (railPg s 22 true).psq with
        rails := m, holdTime := n } } Reg.psqHoldCfg 0 8 = rf s Reg.psqHoldCfg 0 8 :=
      congrArg (fld · 0 8) (rd_trace (by decide) (by decide))
    rw [show exec (.holdPgRise t) s = _ from congrArg (Host.Outcome.next ∘ settle) (if_pos hen)]
    dsimp only [setRail, Function.comp]
    rw [limit, if_neg (Nat.not_lt.2 ht)]
    exact ⟨_, rfl, rfl, rfl⟩
  case limit =>
    intro s hen hpg
    change execHoldPgLimitExpiry s = _
    simp [execHoldPgLimitExpiry, hen, hpg]
  case pgFall =>
    intro s hen hpg
    refine ⟨_, ?_, rfl⟩
    change execHoldPgFall s = _
    simp [execHoldPgFall, hen, hpg]
  case stretch =>
    intro k s hk hup hrst hheld
    have hrst' {r : Rail} : rb (setRail s (6 + k) r) Reg.psqRstCtrl k = false := hrst
    have hheld' {r : Rail} : (setRail s (6 + k) r).psq.heldInReset = false := hheld
    rw [show exec (.resetStretchExpiry k) s = _ from congrArg (Host.Outcome.next ∘ settle) (if_pos (by simp [hk, hup]))]
    exact congrArg (Host.Outcome.next ∘ settle) (if_neg (by simp [hrst', hheld']))
  case rstCtrl =>
    intro val s hl
    change execPsqRstCtrlWrite val s = _
    simp [execPsqRstCtrlWrite, hl]
  case arm =>
    intro s hd hb ha
    change execTrigger2Arm s = _
    simp [execTrigger2Arm, hd, hb, ha]
  case latch =>
    intro isOpen s
    change execLatchOpenChange isOpen s = _
    cases isOpen <;> simp [execLatchOpenChange]
  case up =>
    intro target s hup hh hsw hlt
    change execVidStep target s = _
    simp [execVidStep, hup, hh, hsw, hlt]
  case down =>
    intro target s hup hh hsw hlt
    change execVidStep target s = _
    simp [execVidStep, hup, hh, hsw, hlt, Nat.lt_asymm hlt]

end Sys2Proof.Machine
end

section
/-! What a message and a report leave of the common registers: the control registers of every page (R30, R36). -/

namespace Sys2Proof.Machine

open Bits

variable {s t : State} {a b n p q u : Nat}

/-- The common registers of a page but those of its errors: CTRL and LOCK among them. -/
def isControl (a : Nat) : Prop := a % 0x1000 < 0x18 ∨ 0x28 < a % 0x1000 ∧ a % 0x1000 < 0x100

theorem isControl_ctrlA : isControl (ctrlA p) := by
  unfold isControl ctrlA
  omega

theorem isControl_lockA : isControl (lockA p) := by
  unfold isControl lockA
  omega

theorem isControl.ne (h : isControl a) {r : Nat} (hr : 0x100 ≤ r % 0x1000) : a ≠ r := by
  unfold isControl at h
  rintro rfl
  omega

theorem rd_errSet_control (ha : isControl a) : rd (errSet s p b) a = rd s a := by
  unfold isControl at ha
  have first : a ≠ errFirstA p := by unfold errFirstA; omega
  have status : a ≠ errStatusA p := by unfold errStatusA; omega
  have count : a ≠ errCountA p := by unfold errCountA; omega
  obtain ⟨lo, h⟩ := errSet_regs (s := s) (p := p) (b := b)
  rw [rd_of_regs h, show rd (addSat _ _ _ _ _) a = _ from rd_wr_ne count, rd_wr_ne status]
  split
  · exact rd_wr_ne first
  · rfl

theorem rd_lostErr_control (ha : isControl a) : rd (lostErr s) a = rd s a := by
  unfold lostErr
  dsimp only
  split
  · exact rd_errSet_control ha
  · exact (rd_wr_ne (ha.ne (by decide))).trans (rd_errSet_control ha)

theorem rd_icuSet_control (hn : n < 512) (ha : isControl a) : rd (icuSet s n).1 a = rd s a := by
  unfold icuSet
  split
  · exact rd_wr_ne (ha.ne (by unfold Reg.icuLost; omega))
  · exact rd_wr_ne (ha.ne (by unfold Reg.icuPend; omega))

/-- A message leaves the control registers of every page. -/
theorem rd_icu_control (hn : n < 512) (ha : isControl a) : rd (icu s n) a = rd s a := by
  unfold icu
  dsimp only
  split
  · unfold icuMsg
    dsimp only
    split
    · rw [rd_lostErr_control ha, rd_icuSet_control hn ha, rd_srcEvent]
    · rw [rd_icuSet_control hn ha, rd_srcEvent]
  · repeat' split
    all_goals exact rd_srcEvent

theorem rd_fltReport_control (ha : isControl a) : rd (fltReport s p b u) a = rd s a := by
  have corr : rd (addSat s Reg.fltCorrCount 0 32 1) a = rd s a := rd_wr_ne (ha.ne (by decide))
  have count : ∀ l, rd (addSat s Reg.fltClassCount l 16 1) a = rd s a := fun l => rd_wr_ne (ha.ne (by decide))
  have message : ∀ (v : State) (x : Flt) (k : Nat), k < 512 → rd (icu { v with flt := x } k) a = rd v a := fun v x k hk =>
    rd_icu_control hk ha
  unfold fltReport
  dsimp only
  split
  · split
    · exact (message _ _ _ (by omega)).trans corr
    · exact corr
  · have counted := count (if classOf p b = 3 then 16 else 0)
    generalize addSat s Reg.fltClassCount _ 16 1 = v at counted ⊢
    split
    · exact counted
    · have told : rd (if msSince v v.flt.last465 = true then icu { v with flt := { v.flt with last465 := some (now v) } } 465
          else v) a = rd s a := by
        split
        · exact (message _ _ _ (by omega)).trans counted
        · exact counted
      generalize (if msSince v v.flt.last465 = true then icu { v with flt := { v.flt with last465 := some (now v) } } 465
          else v) = w at told ⊢
      split
      · exact (rd_of_regs escalate_regs a).trans told
      · split
        · exact (rd_of_regs escalate_regs a).trans told
        · split
          · exact told
          · exact told

theorem rd_attributeTo_control (ha : isControl a) : rd (attributeTo s p u) a = rd s a := by
  unfold attributeTo
  split
  · exact rd_wr_ne (ha.ne (by decide))
  · split
    · exact rd_wr_ne (ha.ne (by decide))
    · rfl

/-- A report leaves the control registers of every page. -/
theorem rd_report_control (ha : isControl a) : rd (report s p b u) a = rd s a := by
  unfold report
  dsimp only
  split
  · rw [rd_attributeTo_control ha, rd_errSet_control ha]
  · split
    · next n hn =>
      rw [rd_icu_control (errSource_lt hn) ha, rd_fltReport_control ha, rd_attributeTo_control ha, rd_errSet_control ha]
    · rw [rd_fltReport_control ha, rd_attributeTo_control ha, rd_errSet_control ha]

theorem enabled_of_rd (h : rd t (ctrlA p) = rd s (ctrlA p)) : enabled t p = enabled s p := congrArg (bit · 0) h

theorem enabled_of_regs (h : t.regs = s.regs) : enabled t p = enabled s p := enabled_of_rd (rd_of_regs h _)

theorem locked_of_rd (h : rd t (lockA p) = rd s (lockA p)) : locked t p = locked s p := congrArg (bit · 0) h

theorem enabled_report : enabled (report s q b u) p = enabled s p := enabled_of_rd (rd_report_control isControl_ctrlA)

theorem enabled_icu (hn : n < 512) : enabled (icu s n) p = enabled s p := enabled_of_rd (rd_icu_control hn isControl_ctrlA)

theorem enabled_wr {v : Word} (ha : 0x100 ≤ a % 0x1000) : enabled (wr s a v) p = enabled s p :=
  enabled_of_rd (rd_wr_ne (isControl_ctrlA.ne ha))

theorem enabled_forEach {α : Type} {l : List α} {f : State → α → State} (h : ∀ v x, enabled (f v x) p = enabled v p) :
    enabled (forEach l s f) p = enabled s p :=
  List.foldlRecOn (motive := fun v => enabled v p = enabled s p) _ _ rfl fun v hv x _ => (h v x).trans hv

end Sys2Proof.Machine
end

section
/-! Generations: tacks, the sync line, and unpick (R47 to R56, R66 to R72, R84 to R87, R166). -/

namespace Sys2Proof.Machine

open Bits

variable {s : State} {g ld : Nat} {val : Word} {r : TackReq} {os : List (Nat × Nat)}

-- tacks (R47, R50, R51, R85)

theorem tack_of_taken (he : enabled s Pg.gen = true) (ht : tackOutcome s g = oTAKEN) : tack s g r = orderingPoint s g r := by
  unfold tack
  simp [he, ht]

/-- Where every group takes its tack, the set is tacked and reports no refusal. -/
theorem tackSet_of_taken {atomic : Bool} (h : (os.all fun o => o.2 == oTAKEN) = true) :
    tackSet s os atomic r = (forEach os s fun s o => tack s o.1 r, false) := by
  have taken : ∀ o ∈ os, o.2 = oTAKEN := by simpa using h
  have none : (os.any fun o => o.2 != oTAKEN) = false := by simpa using h
  have each : ∀ t : State, (forEach os t fun s o => if o.2 = oACCESS then s else tack s o.1 r) =
      forEach os t fun s o => tack s o.1 r := by
    unfold forEach
    intro t
    refine List.foldl_ext _ _ t fun u o ho => if_neg ?_
    rw [taken o ho]
    decide
  unfold tackSet
  rw [if_neg (by simp [none]), each]

theorem firstRefusal_of_taken (h : (os.all fun o => o.2 == oTAKEN) = true) : firstRefusal os false = oTAKEN := by
  have taken : ∀ o ∈ os, o.2 = oTAKEN := by simpa using h
  have none : (os.find? fun o => o.2 != oTAKEN && (false || o.2 != oQUEUED)) = none :=
    List.find?_eq_none.2 fun o ho => by simp [taken o ho]
  unfold firstRefusal
  rw [none]
  rfl

theorem groupMask_length {p : Nat → Bool} : (groupMask p).length = 32 := by simp [groupMask]

/-- A mailbox tack whose groups all take it answers TAKEN and the masks. -/
theorem mbTackGroups_of_taken {inp : List Byte} (hlen : inp.length = 36) (he : enabled s Pg.gen = true)
    (hos : os = setOutcomes s (groupsOf (inp.take 32)) fun g => tackOk s g ld)
    (h : (os.all fun o => o.2 == oTAKEN) = true) :
    ∃ out, mbTackGroups ld inp s = replyOk (forEach os s fun s o => tack s o.1 { path := .mailbox, tag := byteAt inp 33 }) ld out ∧
      out.length = 100 ∧ out.take 4 = leBytes 4 oTAKEN := by
  unfold mbTackGroups
  rw [if_neg (by simp [hlen]), if_neg (by simp [he])]
  dsimp only
  rw [← hos, tackSet_of_taken h, firstRefusal_of_taken h]
  refine ⟨_, rfl, ?_, ?_⟩
  · simp [leBytes_length, groupMask_length]
  · rw [List.append_assoc, List.append_assoc, List.take_left' leBytes_length]

/-- Settles O9. -/
theorem tackCommands : Obligations.TackCommands := by
  unfold Obligations.TackCommands
  refine ⟨?mgmt, ?host, ?refused, ?taken, ?mailbox, ?mailboxAll, ?mask⟩
  case mgmt => exact fun val s he => congrArg (Host.Outcome.next ∘ settle) (if_pos he)
  case host =>
    intro ld val s he hok
    change execTackDoorbell (.host ld) val s = _
    simp [execTackDoorbell, he, hok]
  case refused =>
    intro ld val s he hok
    change execTackDoorbell (.host ld) val s = _
    simp [execTackDoorbell, he, hok]
  case taken =>
    exact fun val s he ht => congrArg (Host.Outcome.next ∘ settle) ((if_pos he).trans (tack_of_taken he ht))
  case mailbox =>
    intro ld g inp s hlen he hg _ hok ht
    have outcomes : [(g, oTAKEN)] = setOutcomes s (groupsOf (inp.take 32)) fun g => tackOk s g ld := by
      simp [setOutcomes, hg, hok, ht]
    obtain ⟨out, heq, hout⟩ := mbTackGroups_of_taken hlen he outcomes rfl
    refine ⟨out, ?_, hout⟩
    rw [← tack_of_taken he ht]
    exact congrArg (Host.Outcome.next ∘ settle) heq
  case mailboxAll =>
    intro ld inp s os hlen he hos h
    obtain ⟨out, heq, -, hout⟩ := mbTackGroups_of_taken hlen he hos h
    exact ⟨out, congrArg (Host.Outcome.next ∘ settle) heq, hout⟩
  case mask =>
    intro g s he hg ht
    have outcomes : setOutcomes s (regGroups s Reg.genTackMask) (fun _ => true) = [(g, oTAKEN)] := by
      simp [setOutcomes, hg, ht]
    change execGenTackMaskGo 1#32 s = _
    unfold execGenTackMaskGo
    rw [if_neg (by simp [he]), if_pos (by decide), outcomes]
    dsimp only
    rw [tackSet_of_taken (os := [(g, oTAKEN)]) rfl, firstRefusal_of_taken (os := [(g, oTAKEN)]) rfl, ← tack_of_taken he ht]
    rfl

-- the sync line (R52 to R56, R87)

theorem exec_genSyncArm : exec (.genSyncArm val) s = .next (settle (syncCtrlWrite s val)) := rfl

theorem exec_genSyncFire : exec (.genSyncFire val) s = .next (settle (syncCtrlWrite s val)) := rfl

/-- The arm bit of GEN_SYNC_CTRL arms the groups of the mask that can be armed. -/
theorem syncCtrlWrite_arm (he : enabled s Pg.gen = true) (hl : locked s Pg.gen = false) (h0 : bit val 0 = true)
    (h1 : bit val 1 = false) (hr : armRefusal s (regGroups s Reg.genSyncMask) = none) :
    (syncCtrlWrite s val).gen.sync.armed = true := by
  have groups : ∀ v, regGroups (wrF s Reg.genSyncCtrl 8 8 v) Reg.genSyncMask = regGroups s Reg.genSyncMask := by
    intro v
    unfold regGroups rb
    refine List.filter_congr fun g hg => congrArg (bit · _) (rd_wr_ne ?_)
    unfold Reg.genSyncMask Reg.genSyncCtrl
    omega
  have unrefused : ∀ v gs, armRefusal (wrF s Reg.genSyncCtrl 8 8 v) gs = armRefusal s gs := fun _ _ => rfl
  unfold syncCtrlWrite
  simp [he, hl, h0, h1, groups, unrefused, hr, arm]

theorem enabled_disarm {code : Option Nat} {p : Nat} : enabled (disarm s code) p = enabled s p := by
  unfold disarm
  refine (enabled_wr (by decide)).trans ?_
  refine enabled_forEach fun v g => ?_
  cases code with
  | none => rfl
  | some c => rfl

theorem enabled_arm {gs : List Nat} {tag expiry p : Nat} : enabled (arm s gs tag expiry) p = enabled s p := by
  have each := enabled_forEach (p := p) (l := gs) (s := disarm s none)
    (f := fun s g => setGrp s g { grp s g with armed := true }) fun v g => rfl
  exact each.trans enabled_disarm

/-- The fire bit of GEN_SYNC_CTRL drives the line, whatever becomes of the arm bit. -/
theorem syncCtrlWrite_fire (he : enabled s Pg.gen = true) (h1 : bit val 1 = true) :
    (syncCtrlWrite s val).gen.sync.driving = true ∧ (syncCtrlWrite s val).gen.sync.lineLow = true := by
  have ctrl : ∀ {v : State} {n : Nat} {b : Bool}, enabled (wrB v Reg.genSyncCtrl n b) Pg.gen = enabled v Pg.gen :=
    fun {v n b} => enabled_wr (by decide)
  have tagged : ∀ v, enabled (wrF s Reg.genSyncCtrl 8 8 v) Pg.gen = true := fun v => (enabled_wr (by decide)).trans he
  have posted : ∀ {v : State} {l : List Nat} {c tag : Nat},
      enabled (forEach l v fun s g => postOutcome s g c tag) Pg.gen = enabled v Pg.gen := enabled_forEach fun v g => rfl
  unfold syncCtrlWrite
  dsimp only
  rw [if_pos]
  · exact ⟨rfl, rfl⟩
  · rw [h1, Bool.true_and]
    split
    · exact enabled_report.trans he
    · split
      · split
        · rw [ctrl, posted, tagged]
        · rw [ctrl, enabled_arm, tagged]
      · split
        · rw [enabled_disarm, tagged]
        · exact tagged _

theorem zeros_eq_groupMask_nil : groupMask (fun g => ([] : List Nat).contains g) = zeros 32 := by decide

theorem mbArmSyncTack_of_none {inp : List Byte} (hlen : inp.length = 36) (h0 : pay inp 32 2 ≠ 0) (hmax : pay inp 32 2 ≤ 60000)
    (he : enabled s Pg.gen = true) (hok : (groupsOf (inp.take 32)).all (fun g => tackOk s g ld) = true)
    (hr : armRefusal s (groupsOf (inp.take 32)) = none) : mbArmSyncTack ld inp s =
      replyOk (arm s (groupsOf (inp.take 32)) (byteAt inp 34) (pay inp 32 2)) ld (leBytes 4 oTAKEN ++ zeros 32) := by
  have access : ((groupsOf (inp.take 32)).filter fun g => !tackOk s g ld) = [] := by
    simpa using hok
  unfold mbArmSyncTack
  dsimp only
  rw [if_neg (by omega), if_neg (by simp [he]), access, if_neg (by simp), hr]
  dsimp only
  rw [zeros_eq_groupMask_nil]

/-- Settles O10. -/
theorem syncCommands : Obligations.SyncCommands := by
  unfold Obligations.SyncCommands
  refine ⟨?armMb, ?arm, ?disarm, ?fireMb, ?fire, ?release, ?edge, ?expiry, ?stuck, ?rearm⟩
  case armMb =>
    intro ld inp s hlen h0 hmax he hok hr
    exact ⟨_, congrArg (Host.Outcome.next ∘ settle) (mbArmSyncTack_of_none hlen h0 hmax he hok hr), rfl, rfl, rfl⟩
  case arm =>
    exact fun s he hl hr => ⟨_, exec_genSyncArm, syncCtrlWrite_arm he hl (by decide) (by decide) hr⟩
  case disarm =>
    intro ld s he ht
    change execDisarmSyncTack ld [] s = _
    simp [execDisarmSyncTack, mbDisarmSyncTack, he, ht]
  case fireMb =>
    intro ld s he ht
    change execFireSyncTack ld [] s = _
    simp [execFireSyncTack, mbFireSyncTack, he, ht]
  case fire => exact fun val s he h1 => ⟨_, exec_genSyncFire, syncCtrlWrite_fire he h1⟩
  case release => exact fun s => rfl
  case edge =>
    intro s ha hs
    refine ⟨_, ?_, rfl⟩
    change execTackSyncFireEdge s = _
    unfold execTackSyncFireEdge
    dsimp only
    rw [if_pos (by simp [ha, hs])]
    rfl
  case expiry => exact fun s ha => congrArg (Host.Outcome.next ∘ settle) (if_pos ha)
  case stuck =>
    intro s hw
    change ∃ u, execSyncStuck s = _ ∧ _
    unfold execSyncStuck
    dsimp only
    split
    · next h =>
      refine ⟨_, rfl, rfl, ?_⟩
      exact hasErr_addSat (.inr (by decide)) h
    · refine ⟨_, rfl, ?_, hasErr_report hw (by decide)⟩
      rw [report_gen]
  case rearm => exact fun s => rfl

end Sys2Proof.Machine
end

section
/-! The generation list, pins, quiesce, unpick and release of a group (R66, R69 to R72, R84, R166). -/

namespace Sys2Proof.Machine

open Bits

variable {s : State} {g n ld : Nat} {l : Option Nat}

theorem pin_of_none {on : Bool} (h : pinRefusal s g n on = none) :
    pin s g n on l = addRec s g { kind := 3, gen := n, arg := on.toNat, ld := l } := by
  unfold pin
  rw [h]

theorem quiesce_of_none (h : groupRefusal s g = none) (hq : (grp s g).quiesced = false) (hu : (grp s g).unpick = none) :
    quiesce s g l = beginQuiesce s g l := by
  unfold quiesce
  simp [h, hq, hu]

theorem unpick_of_none (h : unpickRefusal s g n = none) : unpick s g n l =
    intentFlushAll (setGrp s g { grp s g with unpick := some { target := n, phase := 1, ld := l } }) := by
  unfold unpick
  rw [h]

theorem release_of_none (h : groupRefusal s g = none) (hq : (grp s g).quiesced = true)
    (hu : ((grp s g).unpick.any fun u => u.phase != 0) = false) : release s g l =
      icu (finishCode (endQuiesce (setGrp s g { grp s g with unpick := none }) g) l oTAKEN) 245 := by
  unfold release
  simp [h, hq, hu]

/-- Settles O11. -/
theorem unpickCommands : Obligations.UnpickCommands := by
  unfold Obligations.UnpickCommands
  refine ⟨?list, ?pin, ?quiesce, ?drained, ?limit, ?unpick, ?commit, ?rebuilt, ?release, ?genCmd⟩
  case list =>
    intro ld inp s hlen h0 hmax hsee hen
    refine ⟨_, ?_, rfl⟩
    change execGetGenerationList ld inp s = _
    simp [execGetGenerationList, mbGetGenerationList, hlen, h0, Nat.not_lt.2 hmax, hsee, hen]
  case pin =>
    intro ld inp s hlen he hon hok hr
    have arg : (byteAt inp 2 == 1).toNat = byteAt inp 2 := by
      rcases Nat.le_one_iff_eq_zero_or_eq_one.1 hon with h | h <;> rw [h] <;> rfl
    have pinned := pin_of_none (l := some ld) hr
    rw [arg] at pinned
    rw [← pinned]
    change execPinGeneration ld inp s = _
    simp [execPinGeneration, mbPinGeneration, hlen, Nat.not_lt.2 hon, he, hok]
    rfl
  case quiesce =>
    intro ld inp s hlen he hok hr hq hu
    change execQuiesceGroup ld inp s = _
    simp [execQuiesceGroup, mbQuiesceGroup, hlen, he, hok, quiesce_of_none hr hq hu]
  case drained =>
    intro g s hq hd hw
    change execQuiesceDrained g s = _
    simp only [execQuiesceDrained, hq, hd, hw, Bool.not_false, Bool.and_self, if_true]
  case limit =>
    intro g s hq hu
    change execQuiesceLimitExpiry g s = _
    simp [execQuiesceLimitExpiry, hq, hu]
  case unpick =>
    intro ld inp s hlen he hok hr
    change execUnpickGroup ld inp s = _
    simp [execUnpickGroup, mbUnpickGroup, hlen, he, hok, unpick_of_none hr]
  case commit =>
    intro g loc u s hu hph hpl
    change execUnpickCommit g true loc s = _
    simp [execUnpickCommit, hu, hph, hpl]
  case rebuilt =>
    intro g u s hu hph
    change execUnpickRebuildDone g s = _
    simp [execUnpickRebuildDone, hu, hph]
  case release =>
    intro ld inp s hlen he hok hr hq hu
    change execReleaseGroup ld inp s = _
    simp only [execReleaseGroup, mbReleaseGroup, hlen, he, hok, release_of_none hr hq hu]
    simp
  case genCmd =>
    intro val s b g hst he h1 h5 hb hg
    subst hb hg
    change execGenGenCmd val s = _
    unfold execGenGenCmd
    dsimp only
    rw [if_neg (by simp [hst, he])]
    generalize fld val 0 3 = k at h1 h5 ⊢
    match k, h1, h5 with
    | 1, _, _ => rfl
    | 2, _, _ => rfl
    | 3, _, _ => rfl
    | 4, _, _ => rfl
    | 5, _, _ => rfl

end Sys2Proof.Machine
end

section
/-! Group keys, the ring and the self-test of the key block (R65, R66, R78 to R81, R91). -/

namespace Sys2Proof.Machine

open Bits

variable {s : State}

/-- The state in which the self-test's result is recorded (R91). -/
def selftestResult (s : State) (pass moduleKey drbgOk : Bool) : State :=
  wr { s with gen := { s.gen with selftestBusy := false } } Reg.keyModuleStatus
    (wd (moduleKey.toNat + 2 * drbgOk.toNat + 4 * pass.toNat))

theorem keyHealthy_selftestResult {pass : Bool} (hw : s.memWf = true) :
    keyHealthy (selftestResult s pass true true) = pass := by
  have read : rd (selftestResult s pass true true) Reg.keyModuleStatus = wd (1 + 2 * 1 + 4 * pass.toNat) := rd_wr_self hw
  unfold keyHealthy rf
  rw [read]
  cases pass <;> decide

/-- Where no key command waits, none runs. -/
theorem runKeyWaits_none (h : s.gen.keyWaits = []) :
    noteReasons (forEach s.gen.keyWaits { s with gen := { s.gen with keyWaits := [] } } runKeyWait) = noteReasons s := by
  rw [show { s with gen := { s.gen with keyWaits := [] } } = s by rw [← h], h]
  rfl

theorem selftestResult_wf {pass moduleKey drbgOk : Bool} (hw : s.memWf = true) :
    (selftestResult s pass moduleKey drbgOk).memWf = true :=
  (wr_keeps (s0 := { s with gen := { s.gen with selftestBusy := false } }) (Keeps.refl _)).mem hw

theorem noteReasons_gen : (noteReasons s).gen = s.gen := by
  unfold noteReasons
  dsimp only
  split
  · rw [icu_gen]
    exact List.foldlRecOn (motive := fun t : State => t.gen = s.gen) _ _ rfl fun t ht w _ => ht
  · rfl

/-- The self-test's result, where no group is enabled and no key command waits. -/
theorem exec_keySelftestDone {pass : Bool} (hb : s.gen.selftestBusy = true) (hk : s.gen.keyWaits = []) (he : enabledGroups s = [])
    (hw : s.memWf = true) : exec (.keySelftestDone pass true true) s = .next (settle (noteReasons
      (if pass = true then selftestResult s pass true true else report (selftestResult s pass true true) Pg.key 2 0))) := by
  have healthy := keyHealthy_selftestResult (s := s) (pass := pass) hw
  have noGroup : enabledGroups (selftestResult s pass true true) = [] := he
  have noWait : (selftestResult s pass true true).gen.keyWaits = [] := hk
  have noWaitReport : (report (selftestResult s pass true true) Pg.key 2 0).gen.keyWaits = [] := (congrArg Gen.keyWaits report_gen).trans noWait
  change execKeySelftestDone pass true true s = _
  unfold execKeySelftestDone
  rw [if_pos hb]
  dsimp only
  rw [← selftestResult, healthy, noGroup]
  cases pass with
  | true => exact congrArg (Host.Outcome.next ∘ settle) (runKeyWaits_none noWait)
  | false => exact congrArg (Host.Outcome.next ∘ settle) (runKeyWaits_none noWaitReport)

/-- Settles O12. -/
theorem keyCommands : Obligations.KeyCommands := by
  unfold Obligations.KeyCommands
  refine ⟨?keyMode, ?unlock, ?erase, ?ring, ?selftest, ?passed, ?failed⟩
  case keyMode =>
    intro ld inp s k hlen hmode hok hen hbusy hh hk hm
    change execSetGroupKeyMode ld inp s = _
    simp [execSetGroupKeyMode, mbSetGroupKeyMode, hlen, Nat.not_lt.2 hmode, hok, hen, hbusy, hh, hk, hm]
  case unlock =>
    intro ld inp s hlen hok hen hbusy hh hm hl hw
    refine ⟨if (grp s (byteAt inp 0)).key.isNone then
      unwrapKey (setGrp s (byteAt inp 0) { grp s (byteAt inp 0) with fails := 0 }) (byteAt inp 0)
      else setGrp s (byteAt inp 0) { grp s (byteAt inp 0) with fails := 0 }, ?_, fun h => ?_, fun h => ?_⟩
    · change execUnlockGroup ld inp s = _
      simp [execUnlockGroup, mbUnlockGroup, hlen, hok, hen, hbusy, hh, hm, hl, hw]
    · exact if_neg (by simpa using h)
    · exact if_pos (by simpa using h)
  case erase =>
    intro ld inp s hlen hmagic hok hen hact hbusy hh hq hu
    change execEraseGroup ld inp s = _
    simp only [execEraseGroup, mbEraseGroup, hlen, hmagic, hok, hen, hact, hbusy, hh, hq, hu]
    simp
  case ring =>
    intro val s h0 hl hmin
    change execGenRingCfgWrite val s = _
    simp [execGenRingCfgWrite, h0, hl, Nat.not_lt.2 hmin]
  case selftest =>
    intro s hb he
    change execKeySelftest 1#32 s = _
    simp [execKeySelftest, bit, hb, he]
  case passed =>
    intro s t hb hk he hw ht
    rw [exec_keySelftestDone hb hk he hw, ht]
    rfl
  case failed =>
    intro s hb hk he hw
    refine ⟨_, exec_keySelftestDone hb hk he hw, ?_, ?_⟩
    · rw [noteReasons_gen, if_neg Bool.false_ne_true, report_gen]
      rfl
    · rw [if_neg Bool.false_ne_true]
      have wf := selftestResult_wf (pass := false) (moduleKey := true) (drbgOk := true) hw
      exact hasErr_noteReasons ((report_keeps (Keeps.refl _)).mem wf) (hasErr_report wf (by decide))

end Sys2Proof.Machine
end

section
/-! The hem, keep-alive, resume and restore (R135 to R175). -/

namespace Sys2Proof.Machine

open Bits

variable {s t : State} {g n ld loc : Nat}

-- programming a page of the store leaves the generations and the sequencer

theorem forEach_gen {α : Type} {l : List α} {f : State → α → State} (h : ∀ v x, (f v x).gen = v.gen) :
    (forEach l s f).gen = s.gen :=
  List.foldlRecOn (motive := fun v : State => v.gen = s.gen) _ _ rfl fun v hv x _ => (h v x).trans hv

theorem intentPage_gen {c : Nat} {recs : List IntentRec} : (intentPage s c recs).gen = s.gen := by
  unfold intentPage
  dsimp only
  split <;> rfl

theorem storeEvent_gen {b : Nat} : (storeEvent s b).gen = s.gen := by
  unfold storeEvent
  dsimp only
  split
  · rw [icu_gen, wrB_gen]
  · rfl

theorem freeLevels_gen : (freeLevels s).gen = s.gen := by
  unfold freeLevels
  dsimp only
  split
  · rw [storeEvent_gen, report_gen]
  · split <;> rfl

theorem openBand_gen {band stream : Nat} {slc : Bool} : (openBand s band stream slc).gen = s.gen := by
  unfold openBand
  dsimp only
  split
  · dsimp only
    refine Eq.trans (forEach_gen ?_) ?_
    · exact fun v c => intentPage_gen
    · split <;> rfl
  · refine Eq.trans freeLevels_gen ?_
    dsimp only
    refine Eq.trans (forEach_gen ?_) ?_
    · exact fun v c => intentPage_gen
    · split <;> rfl

/-- Programming a page touches the store alone. -/
theorem programAt_gen {stream : Nat} : (programAt s loc stream).gen = s.gen := by
  have opened : (if (blkOf s (locBlk loc)).cls = .erased then openBand s (blkBand (locBlk loc)) stream (locSlc loc) else s).gen =
      s.gen := by
    split
    · exact openBand_gen
    · rfl
  unfold programAt
  dsimp only
  generalize (if (blkOf s (locBlk loc)).cls = .erased then openBand s (blkBand (locBlk loc)) stream (locSlc loc) else s) = v
    at opened ⊢
  change State.gen (ite _ _ _) = _
  split
  · exact intentPage_gen.trans opened
  · exact opened

-- input power is lost (R136, R341)

theorem sameWalk_traceTrigger : SameWalk s (traceTrigger s) := by
  unfold traceTrigger
  split
  · exact ⟨rfl, rfl, rfl, rfl, rfl, rfl, rfl⟩
  · dsimp only
    split
    · refine SameWalk.trans ?_ sameWalk_icu
      exact ⟨rfl, rfl, rfl, rfl, rfl, rfl, rfl⟩
    · exact ⟨rfl, rfl, rfl, rfl, rfl, rfl, rfl⟩

theorem sameWalk_setChgEn {on : Bool} : SameWalk s (setChgEn s on) := by
  unfold setChgEn
  split
  · exact ⟨rfl, rfl, rfl, rfl, rfl, rfl, rfl⟩
  · refine SameWalk.trans (SameWalk.trans ?_ sameWalk_trace) sameWalk_icu
    exact ⟨rfl, rfl, rfl, rfl, rfl, rfl, rfl⟩

theorem sameWalk_endPause : SameWalk s (endPause s) := by
  unfold endPause
  split
  · refine SameWalk.trans ?_ sameWalk_icu
    exact ⟨rfl, rfl, rfl, rfl, rfl, rfl, rfl⟩
  · exact ⟨rfl, rfl, rfl, rfl, rfl, rfl, rfl⟩

theorem sameWalk_batInputLoss : SameWalk s (batInputLoss s) := by
  unfold batInputLoss batHold
  refine SameWalk.trans (t := endPause (setChgEn s false)) (SameWalk.trans sameWalk_setChgEn sameWalk_endPause) ?_
  exact ⟨rfl, rfl, rfl, rfl, rfl, rfl, rfl⟩

/-- The loss of input power is recorded, its hold taken and a waiting request dropped. -/
def inputGone (s : State) : State :=
  let s := { s with psq := { s.psq with input := false, below := true, losses := satAdd 16 s.psq.losses 1 } }
  let s := trace (icu s 352) 8 0 0
  let s := if rb s Reg.psqTraceCfg 17 then traceTrigger s else s
  let s := updateHold { s with psq := { s.psq with holdLoss := true } }
  let s := if s.psq.onLatched then traceReq { s with psq := { s.psq with onLatched := false } } 2 4 else s
  batInputLoss s

/-- What the choice reads once input power is lost. -/
theorem inputGone_eq : (inputGone s).gen = s.gen ∧ (inputGone s).psq.st = s.psq.st ∧ (inputGone s).psq.input = false ∧
    (inputGone s).psq.holdLoss = true ∧ (inputGone s).psq.restoreBegun = s.psq.restoreBegun := by
  have traced : SameWalk { s with psq := { s.psq with input := false, below := true, losses := satAdd 16 s.psq.losses 1 } }
      (trace (icu { s with psq := { s.psq with input := false, below := true, losses := satAdd 16 s.psq.losses 1 } } 352) 8 0 0) :=
    sameWalk_icu.trans sameWalk_trace
  unfold inputGone
  dsimp only
  generalize trace (icu _ 352) 8 0 0 = a at traced ⊢
  have frozen : SameWalk a (if rb a Reg.psqTraceCfg 17 = true then traceTrigger a else a) := by
    split
    · exact sameWalk_traceTrigger
    · exact ⟨rfl, rfl, rfl, rfl, rfl, rfl, rfl⟩
  generalize (if rb a Reg.psqTraceCfg 17 = true then traceTrigger a else a) = b at frozen ⊢
  have held := sameWalk_updateHold (s := { b with psq := { b.psq with holdLoss := true } })
  generalize updateHold { b with psq := { b.psq with holdLoss := true } } = c at held ⊢
  have dropped : SameWalk c (if c.psq.onLatched = true then traceReq { c with psq := { c.psq with onLatched := false } } 2 4
      else c) := by
    split
    · refine SameWalk.trans ?_ sameWalk_trace
      exact ⟨rfl, rfl, rfl, rfl, rfl, rfl, rfl⟩
    · exact ⟨rfl, rfl, rfl, rfl, rfl, rfl, rfl⟩
  have whole := (held.trans dropped).trans sameWalk_batInputLoss
  have front := traced.trans frozen
  exact ⟨whole.gen.trans front.gen, whole.st.trans front.st, whole.input.trans front.input, whole.holdLoss,
    whole.begun.trans front.begun⟩

/-- A loss of input power in service, with the hem at rest, cuts the hem (R136). -/
theorem inputLoss_hem (hin : s.psq.input = true) (hst : s.psq.st = 2) (hb : s.psq.restoreBegun = true)
    (ha : s.gen.hem.active = false) (h0 : s.gen.hem.st = 0) : inputLoss s = hemCut (evrSecure (inputGone s)) 1 := by
  obtain ⟨gen, st, -, -, begun⟩ := inputGone_eq (s := s)
  have calm : furtherTrigger (inputGone s) 1 = inputGone s := by
    unfold furtherTrigger
    simp [gen, ha, h0]
  unfold inputLoss
  rw [if_neg (by simp [hin])]
  extract_lets _ _ _ _ _ _ _ _ gone h further
  have same : further = inputGone s := calm
  have hem : h = s.gen.hem := congrArg Gen.hem gen
  rw [hem, same, ha, h0, st, begun, hst, hb]
  rfl

-- a sibling's fault (R135, R349)

/-- A sibling's fault is counted and traced. -/
def siblingHeard (s : State) (act : Bool) : State :=
  let s := { s with psq := { s.psq with faultLow := true, lows := satAdd 16 s.psq.lows 1 } }
  let s := trace (icu s 354) 0x0A 0 act.toNat
  if rb s Reg.psqTraceCfg 18 then traceTrigger s else s

theorem traceTrigger_bare : (traceTrigger s).psq.bare = s.psq.bare := by
  unfold traceTrigger
  split
  · rfl
  · dsimp only
    split
    · exact traceFreezeNow_bare
    · rfl

theorem siblingHeard_bare {act : Bool} : (siblingHeard s act).psq.bare =
    { s.psq with faultLow := true, lows := satAdd 16 s.psq.lows 1 }.bare := by
  unfold siblingHeard
  dsimp only
  split
  · exact traceTrigger_bare.trans (trace_bare.trans icu_bare)
  · exact trace_bare.trans icu_bare

theorem siblingHeard_gen {act : Bool} : (siblingHeard s act).gen = s.gen := by
  unfold siblingHeard
  dsimp only
  split
  · rw [sameWalk_traceTrigger.gen, trace_gen, icu_gen]
  · rw [trace_gen, icu_gen]

theorem siblingHeard_eq {act : Bool} : (siblingHeard s act).gen = s.gen ∧ (siblingHeard s act).psq.faultLow = true ∧
    (siblingHeard s act).psq.lows = satAdd 16 s.psq.lows 1 ∧ hemCan (siblingHeard s act) = hemCan s := by
  have h := siblingHeard_bare (s := s) (act := act)
  have up : coreUp (siblingHeard s act) = coreUp s := by
    rw [coreUp_of_bare (s := { s with psq := { s.psq with faultLow := true, lows := satAdd 16 s.psq.lows 1 } }) h]
    rfl
  have begun : (siblingHeard s act).psq.restoreBegun = s.psq.restoreBegun := (congrArg Psq.restoreBegun h : _)
  refine ⟨siblingHeard_gen, (congrArg Psq.faultLow h : _), (congrArg Psq.lows h : _), ?_⟩
  unfold hemCan hemBusy
  rw [up, begun, siblingHeard_gen]

-- seals and records of the hem (R144, R148)

theorem hemSealBack_last {x : HemSeal} (hx : s.gen.hem.seals = [x]) (hparts : hemPartsDone s = true)
    (hpl : placeOk s loc 3 = true) : hemSealBack s x true loc =
      let t := sewnHem (modGen (programAt s loc 3) x.g x.gen fun r => { r with locs := r.locs ++ [loc] }) x.g x.gen
      sealsEnd (setHem t { t.gen.hem with seals := t.gen.hem.seals.filter (· != x) }) := by
  unfold hemSealBack
  rw [if_neg]
  · dsimp only
    rw [if_pos rfl]
  · rintro (⟨second, first⟩ | h | h)
    · simp [hx, second] at first
    · exact Bool.noConfusion (hparts.symm.trans h)
    · exact Bool.noConfusion (hpl.symm.trans h)

theorem hemRecordBack_last (hrec : s.gen.hem.recLeft = [(1, 0)]) (hpl : placeOk s loc 3 = true) :
    hemRecordBack s 1 true loc =
      sixEnded (recordDone (setHem (programAt s loc 3) { (programAt s loc 3).gen.hem with recLeft := [] })) := by
  have left : (programAt s loc 3).gen.hem.recLeft.filter (· != (1, 0)) = [] := by
    rw [programAt_gen, hrec]
    rfl
  unfold hemRecordBack
  dsimp only
  rw [hrec]
  simp only [List.find?_cons, beq_self_eq_true, hpl, left]
  rfl

/-- Keep-alive is allowed only where nothing else is to follow the hem. -/
theorem stepSeven_ka (ha : s.gen.hem.active = true) (h6 : s.gen.hem.step6 = true) (hret : s.gen.hem.returned = false)
    (hin : s.psq.input = false) (hka : kaAllowed s = true) : stepSeven s = enterKa s := by
  have clear := hka
  simp only [kaAllowed, Bool.and_eq_true, Bool.not_eq_true'] at clear
  unfold stepSeven
  simp [ha, h6, hret, hin, hka, clear]

/-- A warm resume with every canary good and no weak channel. -/
theorem tryResume_good (hw : warmFailed s true = 0) : tryResume s true [] = (warmResume s, true) := by
  have none : s.dram.layout.filter ([] : List Nat).contains = [] := List.filter_eq_nil_iff.2 fun c _ => by simp
  unfold tryResume
  rw [none]
  exact if_pos hw

/-- Settles O13. -/
theorem hemCommands : Obligations.HemCommands := by
  unfold Obligations.HemCommands
  refine ⟨?loss, ?sibling, ?siblingDeaf, ?now, ?cmdHem, ?cmdFurther, ?seals, ?noSeals, ?sealBack, ?recBack, ?hemmed, ?ka, ?off,
    ?kaOver, ?resume, ?resumeTry, ?cmdResume, ?cmdTry⟩
  case loss =>
    intro s hin hst hb ha h0
    obtain ⟨-, -, input, loss, -⟩ := inputGone_eq (s := s)
    exact ⟨inputGone s, congrArg (Host.Outcome.next ∘ settle) (inputLoss_hem hin hst hb ha h0), input, loss⟩
  case sibling =>
    intro s harm hcfg hd
    obtain ⟨gen, low, lows, can⟩ := siblingHeard_eq (s := s) (act := hemCan s)
    refine ⟨siblingHeard s (hemCan s), ?_, gen, low, lows, can.trans⟩
    change execSiblingFault s = _
    unfold execSiblingFault siblingHeard
    simp only [harm, hcfg, hd, Option.isNone_none, Bool.and_self, Bool.true_and, if_true]
  case siblingDeaf =>
    intro s hdeaf
    obtain ⟨gen, low, lows, -⟩ := siblingHeard_eq (s := s) (act := false)
    refine ⟨siblingHeard s false, ?_, gen, low, lows⟩
    have deaf : (s.psq.armed && rb s Reg.genHemCfg 0 && s.psq.faultDriven.isNone) = false := by
      rcases hdeaf with h | h | h
      · rw [h]; rfl
      · rw [h, Bool.and_false]; rfl
      · rw [Option.isNone_eq_false_iff.2 (Option.isSome_iff_ne_none.2 h), Bool.and_false]
    change execSiblingFault s = _
    unfold execSiblingFault
    dsimp only
    rw [deaf]
    rfl
  case now =>
    intro ld s hadm hcfg hbusy hph hcan
    have magic : pay (leBytes 4 0x4E4D4548) 0 4 = 0x4E4D4548 := by decide
    change execHemNow ld (leBytes 4 0x4E4D4548) s = _
    simp [execHemNow, mbHemNow, leBytes_length, magic, hadm, hcfg, hbusy, hph, hcan]
  case cmdHem => exact fun s _ => rfl
  case cmdFurther =>
    intro s h
    have busy : (s.gen.hem.active || s.gen.hem.st == 5) = true := by simpa using h
    have cannot : hemCan s = false := by
      unfold hemCan hemBusy
      rcases h with h | h <;> simp [h]
    have cut : hemCut s 5 = logged s (.hemTrigger 5) := by
      unfold hemCut furtherTrigger
      simp only [cannot, busy, Bool.not_false, if_true]
    exact congrArg (Host.Outcome.next ∘ settle) cut
  case seals =>
    intro s ha hst hp hf hl
    change execHemSealWrite s = _
    simp [execHemSealWrite, ha, hst, hp, hf, hl]
  case noSeals =>
    intro s ha hst hp hf hl
    change execHemSealWrite s = _
    simp [execHemSealWrite, ha, hst, hp, hf, hl, closeDeltas, forEach]
  case sealBack =>
    intro g gen loc x s t hx hg hgen hne hparts hpl ht
    subst hg hgen ht
    change execHemSealReadback x.g x.gen true loc s = _
    simp only [execHemSealReadback, hne, hx, List.find?_cons, beq_self_eq_true, Bool.and_self, if_false,
      hemSealBack_last hx hparts hpl]
  case recBack =>
    intro loc s hrec hpl
    exact congrArg (Host.Outcome.next ∘ settle) ((if_pos rfl).trans (hemRecordBack_last hrec hpl))
  case hemmed =>
    intro s ha h6 hstop hhold hoff htrig hin
    have trig : (s.gen.hem.trigger == 4 || s.gen.hem.trigger == 5) = true := by simpa using htrig
    have seven : stepSeven s = enterHemmed s := by
      unfold stepSeven
      simp [ha, h6, hstop, hhold, hoff, trig, hin]
    exact congrArg (Host.Outcome.next ∘ settle) seven
  case ka =>
    exact fun s ha h6 hret hin hka => congrArg (Host.Outcome.next ∘ settle) (stepSeven_ka ha h6 hret hin hka)
  case off =>
    intro s ha h6 hstop hhold hoff hret hin hka
    have seven : stepSeven s = powerDown { wr s Reg.genKaLast 0#32 with psq := { s.psq with onLatched := false } } := by
      unfold stepSeven
      simp [ha, h6, hstop, hhold, hoff, hret, hin, hka]
    exact congrArg (Host.Outcome.next ∘ settle) seven
  case kaOver =>
    intro s hst hp
    exact ⟨_, congrArg (Host.Outcome.next ∘ settle) (if_pos ⟨hst, hp⟩), congrArg Gen.hem sameWalk_updateHold.gen,
      sameWalk_updateHold.holdKa⟩
  case resume =>
    intro ld s hadm hst hw
    change execResumeMemory ld [] true [] s = _
    simp [execResumeMemory, mbResumeMemory, tryResume_good hw, hadm, hst]
  case resumeTry =>
    intro ld c weak s hadm hst
    change execResumeMemory ld [] c weak s = _
    simp [execResumeMemory, mbResumeMemory, hadm, hst]
  case cmdResume =>
    intro s hst hw
    change execGenHemCmdResume 2#32 true [] s = _
    simp [execGenHemCmdResume, tryResume_good hw, bit, hst]
  case cmdTry =>
    intro c weak s hst
    change execGenHemCmdResume 2#32 c weak s = _
    simp [execGenHemCmdResume, bit, hst]

end Sys2Proof.Machine
end

section
/-! Basting, captures, relief and flash programs; read-backs, seals and verification (R81, R108 to R122, R142 to R144, R290). -/

namespace Sys2Proof.Machine

open Bits

variable {s : State} {p : Prog} {loc : Nat} {readOk : Bool}

/-- A program that ends well leaves the list of those in flight. -/
theorem exec_flashProgramComplete_ok (hp : s.gen.progs = [p]) (hpl : placeOk s loc (if p.use = 1 then 3 else 0) = true) :
    exec (.flashProgramComplete p.id ⟨true, readOk⟩ loc) s = .next (settle (
      let t := { s with gen := { s.gen with progs := [] } }
      let u := if p.use = 1 then t else releaseBuffers t (if hemBusy s then 7 else 6) 16
      if p.use = 1 then hemSaved u { p with bad := p.bad || !readOk } loc
      else if hemBusy u then bastedInHem u p loc else basted u p loc)) := by
  change execFlashProgramComplete p.id ⟨true, readOk⟩ loc s = _
  unfold execFlashProgramComplete
  rw [hp]
  simp only [List.find?_cons, beq_self_eq_true, hpl, Bool.not_true, Bool.false_eq_true, if_false, if_true, List.filter_cons,
    bne_self_eq_false, List.filter_nil]
  rfl

/-- Settles O15. -/
theorem bastingCommands : Obligations.BastingCommands := by
  unfold Obligations.BastingCommands
  refine ⟨?baste, ?capture, ?relief, ?full, ?relieved, ?basted, ?saved, ?failed⟩
  case baste =>
    intro g r s ht hst hn hb he
    change execBastingStart g s = _
    simp only [execBastingStart, ht, hst, hn, hb, he, and_self, if_true]
  case capture =>
    intro sl readOk g left sw rest r s hg hm hl ht
    refine ⟨_, ?_, rfl⟩
    have list : captureList { s with gen := { s.gen with turn := Sparse.set (fun _ => (0, 0)) s.gen.turn sl (g, left - 1) } } sl g =
        sw :: rest := hl
    have tacked : tackedGen (grp { s with gen := { s.gen with
        turn := Sparse.set (fun _ => (0, 0)) s.gen.turn sl (g, left - 1) } } g) = some r := ht
    change execCapture ⟨sl, readOk⟩ s = _
    simp only [execCapture, hg, hm, Bool.not_true, Bool.false_eq_true, if_false, list, tacked]
  case relief =>
    intro s x hr hb he hx hroom
    have start : reliefStart s = icu (takeBuffers { s with gen := { s.gen with relief := some x } } 7 16) 253 := by
      unfold reliefStart
      rw [if_neg (by simp [hr, hb, he]), hx]
      exact if_pos hroom
    exact congrArg (Host.Outcome.next ∘ settle) start
  case full =>
    intro s x hr hb he hx hroom
    have start : reliefStart s = reliefFull s := by
      unfold reliefStart
      rw [if_neg (by simp [hr, hb, he]), hx]
      exact if_neg (by simp [hroom])
    exact congrArg (Host.Outcome.next ∘ settle) start
  case relieved =>
    intro g x readOk loc s t hr ht hpl
    subst ht
    change execReliefProgramDone ⟨true, readOk⟩ loc s = _
    simp only [execReliefProgramDone, hr, hpl, Bool.not_true, Bool.false_eq_true, if_false, if_true]
  case basted =>
    intro p readOk loc s hp hu hb hpl
    have busy {n : Nat} : hemBusy (releaseBuffers { s with gen := { s.gen with progs := [] } } n 16) = false := hb
    rw [exec_flashProgramComplete_ok hp (by rw [hu]; exact hpl)]
    simp only [hu, hb, busy, Bool.false_eq_true, if_false, Nat.zero_ne_one]
  case saved =>
    intro p readOk loc s hp hu hpl
    rw [exec_flashProgramComplete_ok hp (by rw [hu]; exact hpl)]
    simp only [hu, if_true]
  case failed =>
    intro p readOk loc s hp hpl
    change execFlashProgramComplete p.id ⟨false, readOk⟩ loc s = _
    unfold execFlashProgramComplete
    rw [hp]
    simp [hpl]

end Sys2Proof.Machine
end

section
/-! Read-backs of parts, seals, records and keys, the verify pass and the sweep (R81, R117 to R122, R144). -/

namespace Sys2Proof.Machine

open Bits

variable {s : State} {g loc part n : Nat} {r : GenRec} {ok : Bool}

/-- Outside a hem a part's read-back concerns the tacked generation alone. -/
theorem exec_deltaReadback (hb : hemBusy s = false) (ht : tackedGen (grp s g) = some r) :
    exec (.deltaReadback g ⟨r.num, part⟩ ok loc) s = .next (settle (partBack s g r part ok loc)) := by
  change execDeltaReadback g ⟨r.num, part⟩ ok loc s = _
  simp only [execDeltaReadback, hb, ht, Bool.false_eq_true, if_false, if_true]

theorem partBack_of_written (hp : part < writtenParts r) (hpl : placeOk s loc 1 = true) : partBack s g r part ok loc =
    if ok = true then trySeal (clearExhausted (modGen (programPart s loc 1) g r.num fun r =>
      { r with matched := (r.matched ++ [part]).eraseDups, locs := r.locs ++ [loc], mism := 0 }) g) g r.num
    else countMismatch (mismatch (programPart s loc 1) loc) g r.num := by
  unfold partBack
  rw [if_pos ⟨hp, hpl⟩]

/-- In a hem a part's read-back concerns the generation that its seal names. -/
theorem hemPartBack_ok {x : HemSeal} (hx : (s.gen.hem.seals.find? fun x => x.g == g && x.gen == n) = some x)
    (hr : genOf (grp s g) n = some r) (hp : part < r.parts) (hpl : placeOk s loc 3 = true) :
    hemPartBack s g n part true loc = modGen (programPart s loc 3) g n fun r =>
      { r with matched := (r.matched ++ [part]).eraseDups, locs := r.locs ++ [loc], mism := 0 } := by
  unfold hemPartBack
  rw [hx, hr]
  dsimp only
  rw [if_pos ⟨hp, hpl⟩, if_pos rfl]

/-- The read-back of the one record that waits. -/
theorem recReadback_ok {p : PendRec} (hr : (grp s g).recs = [p]) (hpl : placeOk s loc 1 = true) : recReadback s g p.kind true loc =
    let t := programAt s loc 1
    let u := modGen (setGrp t g { grp t g with recs := (grp t g).recs.erase p }) g p.gen fun x =>
      { x with recLocs := x.recLocs ++ [loc] }
    if p.kind = 3 then
      let c := recOutcome u g p
      let v := if c = oTAKEN then recEffect u g p else u
      let w := match p.ld with
        | some ld => replyCode v ld c
        | none => wr v Reg.genGenStatus (wd (c * 256))
      if p.arg = 0 then reclaimStore (trimRing w g) else w
    else endDamage (recEffect u g p) := by
  unfold recReadback
  rw [hr]
  simp only [List.find?_cons, beq_self_eq_true, hpl, Bool.not_true, Bool.false_eq_true, if_false, if_true] <;> rfl

theorem exec_verifySweep {pct : Nat} {bad : List (Nat × Nat × Nat)} (hc : rb s Reg.genmVerifyCtrl 0 = true)
    (he : enabled s Pg.genm = true) : exec (.verifySweep ⟨pct, bad⟩) s = .next (settle (
      let had := if rb s Reg.genmVerifyStatus 0 then rf s Reg.genmVerifyStatus 16 16 else 0
      let s := forEach bad s fun s x => verifyFail s x.1 x.2.1 x.2.2
      let done := decide (100 ≤ pct)
      let s := wr s Reg.genmVerifyStatus (wd ((!done).toNat + 256 * min 100 pct + 65536 * min 65535 (had + bad.length)))
      if done then icu s 259 else s)) := by
  change execVerifySweep ⟨pct, bad⟩ s = _
  simp only [execVerifySweep, hc, he, Bool.and_self, if_true]

/-- Settles O16. -/
theorem sealCommands : Obligations.SealCommands := by
  unfold Obligations.SealCommands
  refine ⟨?part, ?partBad, ?hemPart, ?theSeal, ?damage, ?pin, ?key, ?retry, ?verify, ?sweep, ?sweepEnd⟩
  case part =>
    intro g part loc r s hb ht hp hpl
    rw [exec_deltaReadback hb ht, partBack_of_written hp hpl, if_pos rfl]
  case partBad =>
    intro g part loc r s hb ht hp hpl
    rw [exec_deltaReadback hb ht, partBack_of_written hp hpl, if_neg Bool.false_ne_true]
  case hemPart =>
    intro g n part loc x r s hb hx hr hp hpl
    rw [← hemPartBack_ok hx hr hp hpl]
    exact congrArg (Host.Outcome.next ∘ settle) (if_pos hb)
  case theSeal =>
    intro g loc r s ht hst hw hm hpl
    change execSealReadback g 0 true loc s = _
    simp only [execSealReadback, ht, hst, hw, hm, hpl, and_self, if_true]
  case damage =>
    intro g loc r s t hr hk hpl ht
    subst ht
    rw [← hk]
    change execSealReadback g r.kind true loc s = _
    unfold execSealReadback
    rw [if_neg (by omega), if_neg (by omega), recReadback_ok hr hpl]
    dsimp only
    rw [if_neg (by omega)]
  case pin =>
    intro g ld loc r s t hr hk harg hld hpl ht hout
    subst ht
    rw [← hk]
    change execSealReadback g r.kind true loc s = _
    unfold execSealReadback
    rw [if_neg (by omega), if_neg (by omega), recReadback_ok hr hpl]
    dsimp only
    rw [if_pos hk, hout, hld, harg]
    rfl
  case key =>
    intro g loc s hk hpl
    change execSealReadback g 5 true loc s = _
    simp [execSealReadback, keyReadback, hk, hpl]
  case retry => exact fun g s h => congrArg Host.Outcome.next (if_pos h)
  case verify =>
    intro g n bad s hd hl
    refine ⟨_, congrArg (Host.Outcome.next ∘ settle) (if_pos ?_), rfl⟩
    rw [hd, hl]
    rfl
  case sweep =>
    intro pct bad s hc he hs hlt
    rw [exec_verifySweep hc he]
    simp [hs, Nat.not_le.2 hlt, Nat.min_eq_right (Nat.le_of_lt hlt)]
  case sweepEnd =>
    intro pct bad s hc he hge
    refine ⟨_, ?_, rfl⟩
    rw [exec_verifySweep hc he]
    simp [hge]

end Sys2Proof.Machine
end

section
/-! CXL.mem requests to an online window, held writes and the pacing clock (R42, R98, R99, R128, R129, R180 to R193, R231, R232). -/

namespace Sys2Proof.Machine

open Bits

variable {s t : State} {ld hpa tag dpa w line sw g : Nat} {data : List Byte} {mask : List Bool} {poison : Bool} {r : Req}

-- what the path of a request leaves unchanged

/-- An access to the dirty map counts a hit or a miss, and may take a free value (R99). -/
theorem mapAccess_eq : ∃ v n a, 0xD000 ≤ a ∧ a < 0xE000 ∧ mapAccess s = { wr s a v with free := n } := by
  unfold mapAccess
  split
  · exact ⟨_, s.free, Reg.genmCacheMisses, by decide, by decide, rfl⟩
  · refine ⟨_, s.free + 1, if bit (freeVal s).1 0 then Reg.genmCacheHits else Reg.genmCacheMisses, ?_, ?_, rfl⟩ <;>
      split <;> decide

/-- The state of a map access differs in registers of the page map and the free values alone. -/
structure SameButMap (s t : State) : Prop where
  eq : ∃ rg n, t = { s with regs := rg, free := n }
  rd : ∀ a, a < 0xD000 ∨ 0xE000 ≤ a → rd t a = rd s a

theorem sameButMap_mapAccess : SameButMap s (mapAccess s) := by
  obtain ⟨v, n, a, hlo, hhi, h⟩ := mapAccess_eq (s := s)
  refine ⟨⟨_, n, h⟩, fun b hb => ?_⟩
  rw [h]
  exact rd_wr_ne (by omega)

theorem touchLine_of_lineBit (h : lineBit s (sw / 128) = false) : touchLine s sw = s := by
  unfold touchLine
  exact if_neg (by simp [h])

/-- Served from the page map's entry: a line of its own and no queue in the way. -/
theorem readEntry_eq (hq : queueWaits s r.addr false = false) (hl : lineBit s (reqSwatch r / 128) = false) :
    readEntry s r = match stOf (mapAccess s) r.g (reqSwatch r) with
      | .absent => absentWait (mapAccess s) r
      | .bad => hostRead (mapFault (mapAccess s) r.g) r.ld r.tag r.win r.addr
      | _ => hostRead (mapAccess s) r.ld r.tag r.win r.addr := by
  unfold readEntry
  rw [if_neg (by simp [hq]), touchLine_of_lineBit hl] <;> rfl

theorem stOf_mapAccess : stOf (mapAccess s) g sw = stOf s g sw := by
  obtain ⟨⟨rg, n, h⟩, -⟩ := sameButMap_mapAccess (s := s)
  rw [h]
  rfl

theorem route_online {write : Bool} {k : Nat → Nat → State} (hd : hdmDpa (ldOf s ld).hdm hpa = some dpa)
    (hw : winFor s ld dpa = some w) (ho : winOnline s w = true) : route s ld hpa tag write k = k w dpa := by
  unfold route
  simp only [hd, hw, ho, if_true]

/-- A read that an online window serves. -/
theorem exec_cxlmemRead_online (ht : takes s ld false = true) (hd : hdmDpa (ldOf s ld).hdm hpa = some dpa)
    (hw : winFor s ld dpa = some w) (ho : winOnline s w = true) :
    exec (.cxlmemRead ld hpa tag) s = .next (settle (readEntry s (mkReq s ld tag w dpa false [] [] false))) :=
  congrArg (Host.Outcome.next ∘ settle) ((if_pos ht).trans (route_online hd hw ho))

theorem localOf_mapAccess {c x : Nat} : localOf (mapAccess s) c x = localOf s c x := by
  have geom : rd (mapAccess s) (Reg.dchGeom c) = rd s (Reg.dchGeom c) :=
    sameButMap_mapAccess.rd _ (.inr (by unfold Reg.dchGeom; omega))
  unfold localOf rowBits chipBits twoRanks rf rb
  rw [geom]

/-- A host read goes to the queue of its channel, or takes the data of a queued write of its line (R231). -/
theorem hostRead_mapAccess {c x : Nat} (hp : dramPlace s line = some (c, x)) : hostRead (mapAccess s) ld tag w line =
    if ((subQueue (dchOf s c) (localOf s c x).sub).any fun e => e.write && e.line == line / 64) = true then
      respond (mapAccess s) ld tag true (lineBytes s line) (linePoison s line)
    else enqueue (mapAccess s) c (localOf s c x)
      { line := line / 64, write := false, cls := if winDeadline s w then 4 else 5, ld, tag, win := w
        data := lineBytes s line, poison := linePoison s line } := by
  obtain ⟨⟨rg, n, h⟩, -⟩ := sameButMap_mapAccess (s := s)
  have place : dramPlace (mapAccess s) line = some (c, x) := by
    rw [h]
    exact hp
  have chan : dchOf (mapAccess s) c = dchOf s c := by rw [h]; rfl
  have bytes : lineBytes (mapAccess s) line = lineBytes s line := by rw [h]; rfl
  have pois : linePoison (mapAccess s) line = linePoison s line := by rw [h]; rfl
  have deadline : winDeadline (mapAccess s) w = winDeadline s w := by rw [h]; rfl
  unfold hostRead
  rw [place]
  simp only [localOf_mapAccess, chan, bytes, pois, deadline]

theorem mapAccess_hl : (mapAccess s).hl = s.hl := by
  obtain ⟨⟨rg, n, h⟩, -⟩ := sameButMap_mapAccess (s := s)
  rw [h]

theorem mapAccess_dram : (mapAccess s).dram = s.dram := by
  obtain ⟨⟨rg, n, h⟩, -⟩ := sameButMap_mapAccess (s := s)
  rw [h]

theorem mapAccess_gen : (mapAccess s).gen = s.gen := by
  obtain ⟨⟨rg, n, h⟩, -⟩ := sameButMap_mapAccess (s := s)
  rw [h]

theorem absentWait_of_none (h : (grp s r.g).unpick = none) :
    absentWait s r = startFetch (wait s r .fetch) (reqSwatch r) true := by
  unfold absentWait
  exact if_neg (by simp [h])

/-- What the request of a window's own entry reads. -/
theorem readEntry_present (hq : queueWaits s r.addr false = false) (hl : lineBit s (reqSwatch r / 128) = false)
    (ha : stOf s r.g (reqSwatch r) ≠ .absent) (hb : stOf s r.g (reqSwatch r) ≠ .bad) :
    readEntry s r = hostRead (mapAccess s) r.ld r.tag r.win r.addr := by
  rw [readEntry_eq hq hl, stOf_mapAccess]
  split
  · contradiction
  · contradiction
  · rfl

-- writes

theorem get_set_winOf {v : Win} (h : v ≠ {}) : winOf (setWin s w v) w = v := get_set_of_ne_default h

/-- Filling a bucket changes nothing of its window that says how writes are paced. -/
theorem fillBucket_eq : fillBucket s w = s ∨ ∃ v : Win, fillBucket s w = setWin s w v ∧
    winOf (setWin s w v) w = v ∧ v.disturb = (winOf s w).disturb := by
  unfold fillBucket
  dsimp only
  split
  · exact .inl rfl
  · next hn =>
    refine .inr ⟨_, rfl, get_set_winOf fun h => hn ?_, rfl⟩
    have rate : (winOf s w).rate = 0 := congrArg Win.rate h
    rw [rate, Nat.zero_mul, Nat.zero_div]

theorem winEnforced_fillBucket : winEnforced (fillBucket s w) w = winEnforced s w := by
  rcases fillBucket_eq (s := s) (w := w) with h | ⟨v, h, hv, hd⟩
  · rw [h]
  · have group : grpEnforced (setWin s w v) (winGroup (setWin s w v) w) = grpEnforced s (winGroup s w) := rfl
    rw [h]
    unfold winEnforced
    rw [group, hv, hd]

/-- Filling a bucket touches the windows' records alone. -/
theorem fillBucket_wins : ∃ l, fillBucket s w = { s with hl := { s.hl with wins := l } } := by
  unfold fillBucket
  dsimp only
  split
  · exact ⟨s.hl.wins, rfl⟩
  · exact ⟨_, rfl⟩

/-- A write that nothing paces or holds back meets the page map at once (R98, R193). -/
theorem serveWrite_free (hq : (grp s r.g).quiesced = false) (he : winEnforced s r.win = false) (hh : heldOf s r.win = 0) :
    serveWrite s r = writeEntry (fillBucket s r.win) r false := by
  have held : heldOf (fillBucket s r.win) r.win = 0 := by
    obtain ⟨l, h⟩ := fillBucket_wins (s := s) (w := r.win)
    rw [h]
    exact hh
  unfold serveWrite
  simp only [hq, winEnforced_fillBucket, he, held, Bool.false_eq_true, if_false, Bool.false_and, Nat.lt_irrefl, decide_false,
    Bool.or_self]

/-- A write to a swatch that takes writes is committed and paced; a clean one opens first (R98, R99). -/
theorem writeEntry_commit {again : Bool} (hq : queueWaits s r.addr true = false) (hl : lineBit s (reqSwatch r / 128) = false)
    (ha : slotAhead s (reqSwatch r) = false) (hst : stOf s r.g (reqSwatch r) ∈ [MapSt.opened, .both, .clean]) :
    writeEntry s r again = pace (commit (if stOf s r.g (reqSwatch r) = .clean then
      openSwatch (setSt (mapAccess s) r.g (reqSwatch r) .opened) r.g else mapAccess s) r) r.g := by
  have ahead : slotAhead (mapAccess s) (reqSwatch r) = false := by
    unfold slotAhead
    rw [mapAccess_hl]
    exact ha
  unfold writeEntry
  rw [if_neg (by simp [hq])]
  dsimp only
  rw [touchLine_of_lineBit hl, if_neg (by simp [ahead]), stOf_mapAccess]
  simp only [List.mem_cons, List.not_mem_nil, or_false] at hst
  rcases hst with h | h | h <;> rw [h] <;> rfl

/-- The request of a write, as its commands build it, meets the page map where nothing paces or holds it back. -/
theorem hostWriteReq_writeEntry (ht : takes s ld true = true) (hd : hdmDpa (ldOf (poisonRx s ld poison) ld).hdm hpa = some dpa)
    (hw : winFor (poisonRx s ld poison) ld dpa = some w) (ho : winOnline (poisonRx s ld poison) w = true)
    (hr : r = mkReq (poisonRx s ld poison) ld tag w dpa true data mask poison)
    (hquiet : (grp (poisonRx s ld poison) r.g).quiesced = false) (he : winEnforced (poisonRx s ld poison) w = false)
    (hh : heldOf (poisonRx s ld poison) w = 0) :
    hostWriteReq s ld hpa tag data mask poison = writeEntry (fillBucket (poisonRx s ld poison) w) r false := by
  unfold hostWriteReq
  rw [if_pos ht]
  dsimp only
  generalize poisonRx s ld poison = v at *
  rw [route_online hd hw ho, ← hr]
  have window : r.win = w := by rw [hr]; rfl
  rw [← window] at he hh
  rw [serveWrite_free hquiet he hh, window]

/-- A write to a swatch that takes writes is committed and paced. -/
theorem hostWriteReq_commit (ht : takes s ld true = true) (hd : hdmDpa (ldOf (poisonRx s ld poison) ld).hdm hpa = some dpa)
    (hw : winFor (poisonRx s ld poison) ld dpa = some w) (ho : winOnline (poisonRx s ld poison) w = true)
    (hr : r = mkReq (poisonRx s ld poison) ld tag w dpa true data mask poison)
    (hquiet : (grp (poisonRx s ld poison) r.g).quiesced = false) (he : winEnforced (poisonRx s ld poison) w = false)
    (hh : heldOf (poisonRx s ld poison) w = 0) (hq : queueWaits (poisonRx s ld poison) r.addr true = false)
    (hl : lineBit (poisonRx s ld poison) (reqSwatch r / 128) = false)
    (ha : slotAhead (poisonRx s ld poison) (reqSwatch r) = false)
    (hst : stOf (poisonRx s ld poison) r.g (reqSwatch r) ∈ [MapSt.opened, .both, .clean]) :
    hostWriteReq s ld hpa tag data mask poison = pace (commit (if stOf (poisonRx s ld poison) r.g (reqSwatch r) = .clean then
      openSwatch (setSt (mapAccess (fillBucket (poisonRx s ld poison) w)) r.g (reqSwatch r) .opened) r.g
      else mapAccess (fillBucket (poisonRx s ld poison) w)) r) r.g := by
  rw [hostWriteReq_writeEntry ht hd hw ho hr hquiet he hh]
  generalize poisonRx s ld poison = v at *
  obtain ⟨l, hfill⟩ := fillBucket_wins (s := v) (w := w)
  have state : stOf (fillBucket v w) r.g (reqSwatch r) = stOf v r.g (reqSwatch r) := by rw [hfill]; rfl
  have queue : queueWaits (fillBucket v w) r.addr true = false := by rw [hfill]; exact hq
  have bit : lineBit (fillBucket v w) (reqSwatch r / 128) = false := by rw [hfill]; exact hl
  have ahead : slotAhead (fillBucket v w) (reqSwatch r) = false := by rw [hfill]; exact ha
  rw [← state] at hst
  rw [writeEntry_commit queue bit ahead hst, state]

/-- One completion is released. -/
theorem respond_sent {isRead : Bool} : ∃ c, (respond s ld tag isRead data poison).hl.sent = s.hl.sent ++ [c] ∧ c.ld = ld ∧
    c.tag = tag ∧ c.isRead = isRead ∧ c.data = data ∧ c.poison = poison :=
  ⟨_, rfl, rfl, rfl, rfl, rfl, rfl⟩

/-- Settles O17. -/
theorem memoryRequests : Obligations.MemoryRequests := by
  unfold Obligations.MemoryRequests
  refine ⟨?read, ?queued, ?sent, ?absent, ?write, ?partialWrite, ?spec, ?malformed, ?release, ?releaseFree, ?grace, ?average⟩
  case read =>
    intro ld hpa tag dpa w line s hline ht hd hw ho hq hl ha hb
    subst hline
    rw [exec_cxlmemRead_online ht hd hw ho, readEntry_present (r := mkReq s ld tag w dpa false [] [] false) hq hl ha hb]
    rfl
  case queued =>
    intro ld hpa tag dpa w line ch x s hline ht hd hw ho hq hl ha hb hp hhit
    subst hline
    have served := hostRead_mapAccess (ld := ld) (tag := tag) (w := w) hp
    rw [if_pos hhit] at served
    rw [exec_cxlmemRead_online ht hd hw ho, readEntry_present (r := mkReq s ld tag w dpa false [] [] false) hq hl ha hb]
    obtain ⟨c, hsent, hld, htag, hread, hdata, hpoison⟩ := respond_sent (s := mapAccess s) (ld := ld) (tag := tag)
      (isRead := true) (data := lineBytes s (winDram s w dpa / 64 * 64)) (poison := linePoison s (winDram s w dpa / 64 * 64))
    rw [mapAccess_hl] at hsent
    exact ⟨_, c, congrArg (Host.Outcome.next ∘ settle) served, hsent, hld, htag, hread, hdata, hpoison, mapAccess_dram,
      mapAccess_gen⟩
  case sent =>
    intro ld hpa tag dpa w line ch x s hline ht hd hw ho hq hl ha hb hp hhit
    subst hline
    rw [exec_cxlmemRead_online ht hd hw ho, readEntry_present (r := mkReq s ld tag w dpa false [] [] false) hq hl ha hb]
    refine congrArg (Host.Outcome.next ∘ settle) ((hostRead_mapAccess hp).trans ?_)
    exact if_neg (Bool.eq_false_iff.1 hhit)
  case absent =>
    intro ld hpa tag dpa w line s hline ht hd hw ho hq hl ha hu
    subst hline
    rw [exec_cxlmemRead_online ht hd hw ho, readEntry_eq (r := mkReq s ld tag w dpa false [] [] false) hq hl, stOf_mapAccess]
    refine congrArg (Host.Outcome.next ∘ settle) ?_
    have state : stOf s (mkReq s ld tag w dpa false [] [] false).g (reqSwatch (mkReq s ld tag w dpa false [] [] false)) =
      .absent := ha
    rw [state]
    refine absentWait_of_none ?_
    unfold grp
    rw [mapAccess_gen]
    exact hu
  case write =>
    intro ld hpa tag data poison dpa w line s t u htp hu hline ht hd hw ho hqu he hh hq hl ha hst
    subst htp hu hline
    exact congrArg (Host.Outcome.next ∘ settle) (hostWriteReq_commit
      (r := mkReq (poisonRx s ld poison) ld tag w dpa true data [] poison) ht hd hw ho rfl hqu he hh hq hl ha hst)
  case partialWrite =>
    intro ld hpa tag data mask poison dpa w line s t u hlen htp hu hline ht hd hw ho hqu he hh hq hl ha hst
    subst htp hu hline
    have whole : mask ++ List.replicate (64 - mask.length) false = mask := by simp [hlen]
    refine congrArg (Host.Outcome.next ∘ settle) ?_
    rw [whole]
    exact hostWriteReq_commit (r := mkReq (poisonRx s ld poison) ld tag w dpa true data mask poison) ht hd hw ho rfl hqu he hh hq
      hl ha hst
  case spec => exact fun ld hpa s => rfl
  case malformed =>
    intro ld tag wants s hw
    have err := hasErr_report (s := s) (p := Pg.hl0 + ld / 32) (b := 18) (u := 0) hw (by decide)
    cases wants with
    | true =>
      obtain ⟨c, hsent, hld, htag, hread, hdata, hpoison⟩ := respond_sent (s := report s (Pg.hl0 + ld / 32) 18 0) (ld := ld)
        (tag := tag) (isRead := true) (data := zeros 64) (poison := true)
      rw [report_hl] at hsent
      exact ⟨_, rfl, hasErr_regs rfl err, c, hsent, hld, htag, hread, fun _ => ⟨hdata, hpoison⟩⟩
    | false =>
      obtain ⟨c, hsent, hld, htag, hread, -⟩ := respond_sent (s := report s (Pg.hl0 + ld / 32) 18 0) (ld := ld) (tag := tag)
        (isRead := false) (data := []) (poison := false)
      rw [report_hl] at hsent
      exact ⟨_, rfl, hasErr_regs rfl err, c, hsent, hld, htag, hread, nofun⟩
  case release =>
    intro w r s v hv hf he hb
    subst hv
    refine ⟨_, ?_, rfl, rfl⟩
    change execHeldWriteRelease w r.tag s = _
    unfold execHeldWriteRelease
    dsimp only
    rw [hf]
    dsimp only
    rw [he, if_neg (by simp [Nat.not_lt.2 hb]), if_pos rfl]
    rfl
  case releaseFree =>
    intro w r s v hv hf he
    subst hv
    change execHeldWriteRelease w r.tag s = _
    unfold execHeldWriteRelease
    dsimp only
    rw [hf]
    dsimp only
    rw [he, if_neg (by simp), if_neg Bool.false_ne_true]
  case grace =>
    intro g e s f hmin hf
    subst hf
    change execPacingGraceExpiry g s = _
    simp only [execPacingGraceExpiry, hmin]
    rfl
  case average =>
    intro s t u ht hu
    subst ht hu
    rfl

end Sys2Proof.Machine
end

section
/-! A DRAM channel: accesses, refresh, row disturbance, alerts and timing sets (R229 to R256). -/

namespace Sys2Proof.Machine

open Bits

variable {s : State} {ch rank : Nat} {sub aged : Bool} {errs : BurstErrs} {q : DQ}

/-- With nothing to replay, the queue's next access completes and the requests that wait for DRAM are tried again (R231). -/
theorem exec_dramAccessComplete (hr : (if sub = true then (dchOf s ch).replayB else (dchOf s ch).replayA) = [])
    (hn : nextAccess (dchOf s ch) sub aged = some q) : exec (.dramAccessComplete ch sub aged errs) s =
      .next (settle (retryWaits (if q.rmw = true then rmwRead s ch sub q (eccOutcome s ch (placeOf s ch q.line) errs)
        else served s ch sub q (eccOutcome s ch (placeOf s ch q.line) errs)) fun r => r.why == .dram)) := by
  have empty : (!(if sub = true then (dchOf s ch).replayB else (dchOf s ch).replayA).isEmpty) = false := by rw [hr]; rfl
  change execDramAccessComplete ch sub aged errs s = _
  unfold execDramAccessComplete
  dsimp only
  rw [if_neg (Bool.eq_false_iff.1 empty), hn]

theorem served_write (hw : q.write = true) {o : EccResult} : served s ch sub q o = dropAccess s ch sub q := by
  unfold served
  exact if_pos hw

theorem served_read (hw : q.write = false) {o : EccResult} : served s ch sub q o =
    let s := releaseBuffers (dropAccess s ch sub q) (dqClient q) 1
    match o with
    | .clean => respond s q.ld q.tag true q.data q.poison
    | .corrected dev => respond (corrected s ch (placeOf s ch q.line) dev) q.ld q.tag true q.data q.poison
    | .uncorrectable =>
      let r := freeBytes s 64
      respond (mediaEvent (uncorrectable r.2 ch (64 * q.line)) q.ld (64 * q.line)) q.ld q.tag true r.1 true := by
  unfold served
  dsimp only
  rw [if_neg (Bool.eq_false_iff.1 hw)] <;> rfl

/-- A refresh that is due on a rank whose refreshes run (R235 to R237). -/
theorem exec_refreshDue (hn : noRefresh s ch = false) (hr : rank < 2) : exec (.refreshDue ch rank) s = .next
    (if deadlineBusy s ch rank = true then
      if (!rb s (Reg.dchRefreshCtrl ch) 0) = true then refreshRaa s ch rank
      else if debt s ch rank < 4 then addSat (setDebt s ch rank (debt s ch rank + 1)) (Reg.dchRefreshStats ch) 0 16 1
      else refreshRaa (addSat s (Reg.dchRefreshStats ch) 16 16 1) ch rank
    else refreshRaa (setDebt s ch rank 0) ch rank) :=
  congrArg Host.Outcome.next (if_neg (by simp [hn, hr]))

/-- An alert, with its number in the window (R240, R241). -/
def alerted (s : State) (ch n : Nat) (parity crc : Bool) : State :=
  let s := setDch s ch { dchOf s ch with alertOpen := true }
  let s := wrF s (Reg.dchReplayStatus ch) 16 2 n
  wrB (wrB s (Reg.dchReplayStatus ch) 24 parity) (Reg.dchReplayStatus ch) 25 crc

theorem alerted_wf {n : Nat} {parity crc : Bool} (hw : s.memWf = true) : (alerted s ch n parity crc).memWf = true :=
  (wrB_keeps (wrB_keeps (wrF_keeps (setDch_keeps (Keeps.refl s))))).mem hw

theorem exec_dramAlert {n : Nat} {parity crc : Bool}
    (hn : n = if (dchOf s ch).alertOpen = true then rf s (Reg.dchReplayStatus ch) 16 2 + 1 else 1) :
    exec (.dramAlert ch parity crc) s = .next (settle (if 3 ≤ n then report (alerted s ch n parity crc) (Pg.dch ch) 17 0
      else report (addSat (startReplay (alerted s ch n parity crc) ch) (Reg.dchReplayStatus ch) 0 16 1) (Pg.dch ch) 16 0)) := by
  subst hn
  rfl

/-- Settles O18. -/
theorem dramCommands : Obligations.DramCommands := by
  unfold Obligations.DramCommands
  refine ⟨?write, ?clean, ?corrected, ?uncorrectable, ?rmw, ?replay, ?due, ?busyOff, ?busyDebt, ?busyFull, ?issue, ?drfm, ?rfm,
    ?tracker, ?alert, ?alertLast, ?window, ?request, ?switched⟩
  case write =>
    intro ch sub aged errs q s hr hn hm hw
    rw [exec_dramAccessComplete hr hn, if_neg (Bool.eq_false_iff.1 hm), served_write hw]
  case clean =>
    intro ch sub aged errs q s hr hn hm hw ho
    rw [exec_dramAccessComplete hr hn, if_neg (Bool.eq_false_iff.1 hm), served_read hw, ho]
  case corrected =>
    intro ch sub aged errs dev q s hr hn hm hw ho
    refine ⟨_, rfl, ?_⟩
    rw [exec_dramAccessComplete hr hn, if_neg (Bool.eq_false_iff.1 hm), served_read hw, ho]
  case uncorrectable =>
    intro ch sub aged errs q s hr hn hm hw ho
    refine ⟨_, _, rfl, rfl, ?_⟩
    rw [exec_dramAccessComplete hr hn, if_neg (Bool.eq_false_iff.1 hm), served_read hw, ho]
  case rmw =>
    intro ch sub aged errs q s hr hn hm
    rw [exec_dramAccessComplete hr hn, if_pos hm]
  case replay =>
    intro ch sub aged errs s hr
    exact congrArg (Host.Outcome.next ∘ settle) (if_pos (by simpa using hr))
  case due =>
    intro ch rank s hn hr hb
    rw [exec_refreshDue hn hr, if_neg (Bool.eq_false_iff.1 hb)]
  case busyOff =>
    intro ch rank s hn hr hb h0
    rw [exec_refreshDue hn hr, if_pos hb, if_pos (by simp [h0])]
  case busyDebt =>
    intro ch rank s hn hr hb h0 hd
    rw [exec_refreshDue hn hr, if_pos hb, if_neg (by simp [h0]), if_pos hd]
  case busyFull =>
    intro ch rank s hn hr hb h0 hd
    rw [exec_refreshDue hn hr, if_pos hb, if_neg (by simp [h0]), if_neg (Nat.not_lt.2 hd)]
  case issue =>
    intro ch rank s hn hr hb
    exact congrArg Host.Outcome.next (if_neg (by simp [hn, hr, hb]))
  case drfm =>
    intro ch b row rest s hd
    change execDrfmIssue ch s = _
    simp only [execDrfmIssue, hd]
  case rfm =>
    intro ch b n s hmin h0 hle
    change execRfmIssue ch s = _
    simp only [execRfmIssue, hmin]
    rw [if_neg (by omega)]
  case tracker =>
    intro s t ht
    subst ht
    rfl
  case alert =>
    intro ch p crc s hcount hw _
    have few : ¬ 3 ≤ (if (dchOf s ch).alertOpen = true then rf s (Reg.dchReplayStatus ch) 16 2 + 1 else 1) := by
      split
      · next h => exact Nat.not_le.2 (Nat.succ_lt_succ (hcount h))
      · decide
    have done := exec_dramAlert (s := s) (ch := ch) (parity := p) (crc := crc) rfl
    rw [if_neg few] at done
    exact ⟨_, done, hasErr_report ((addSat_keeps (startReplay_keeps (Keeps.refl _))).mem (alerted_wf hw)) (by decide)⟩
  case alertLast =>
    intro ch p crc s hopen hcount hw _
    have many : 3 ≤ (if (dchOf s ch).alertOpen = true then rf s (Reg.dchReplayStatus ch) 16 2 + 1 else 1) := by
      rw [if_pos hopen]
      exact Nat.succ_le_succ hcount
    have done := exec_dramAlert (s := s) (ch := ch) (parity := p) (crc := crc) rfl
    rw [if_pos many] at done
    exact ⟨_, done, hasErr_report (alerted_wf hw) (by decide)⟩
  case window => exact fun ch s => rfl
  case request => exact fun ch val s => rfl
  case switched =>
    intro ch late s t hb ht
    subst ht
    exact congrArg (Host.Outcome.next ∘ settle) (if_pos hb)

end Sys2Proof.Machine
end

section
/-! The buffer pool: grants, waits and quotas (R306, R308, R309, R324). -/

namespace Sys2Proof.Machine

open Bits

variable {s : State} {k n m : Nat} {val : Word}

/-- A request for a buffer of a client that exists is granted, or waits (R308). -/
theorem exec_poolGrant (hk : k < 12) (hm : (if k = 10 then 2 * n else n) = m) (h0 : m ≠ 0) :
    exec (.poolGrant k n) s = .next (settle
      (if (mayTake s k m && !(s.pool.waits.any fun e => e.1 == k)) = true then takeBuffers s k m
      else if maxOf s k < (clientOf s k).held + m then
        waitAtMax { s with pool := { s.pool with waits := s.pool.waits ++ [(k, m)] } } k
      else { s with pool := { s.pool with waits := s.pool.waits ++ [(k, m)] } })) := by
  change execPoolGrant k n s = _
  unfold execPoolGrant
  simp only [hm, decide_eq_true_eq]
  rw [if_neg (by omega)]

theorem mirrored_ne_zero (h0 : n ≠ 0) : (if k = 10 then 2 * n else n) ≠ 0 := by
  split <;> omega

/-- What only one element of a list answers is what the list answers. -/
theorem findSome?_single {α β : Type} {f : α → Option β} {l : List α} {x : α} {b : β} (hx : x ∈ l) (hf : f x = some b)
    (hn : ∀ y, y ≠ x → f y = none) : l.findSome? f = some b := by
  induction l with
  | nil => exact absurd hx List.not_mem_nil
  | cons y l ih =>
    rw [List.findSome?_cons]
    by_cases h : y = x
    · rw [h, hf]
    · rw [hn y h]
      exact ih ((List.mem_cons.1 hx).resolve_left (Ne.symm h))

/-- The grant after a wait, by the first client of the grant order that may take (R309). -/
theorem exec_poolGrantAfterWait_single (hw : s.pool.waits = [(k, n)]) (hk : grantOrder.contains k = true)
    (ht : mayTake s k n = true) : exec .poolGrantAfterWait s =
      .next (settle (takeBuffers { s with pool := { s.pool with waits := [] } } k n)) := by
  change execPoolGrantAfterWait s = _
  unfold execPoolGrantAfterWait
  dsimp only
  rw [findSome?_single (b := (k, n)) (List.contains_iff_mem.1 hk) (by simp [hw, ht]) fun j hj => by simp [hw, hj.symm]]
  simp [hw]

theorem exec_poolQuotaWrite (hk : k < 12) : exec (.poolQuotaWrite k val) s = .next (settle
    (if (!quotaOk s k (val &&& 0x7FFF7FFF#32) || (locked s Pg.pool && rd s (Reg.poolQ k) != val &&& 0x7FFF7FFF#32)) = true
      then accessErr s Pg.pool else updateScale (wr s (Reg.poolQ k) (val &&& 0x7FFF7FFF#32)))) :=
  congrArg (Host.Outcome.next ∘ settle) (if_neg (by omega))

/-- Settles O20: a grant, a wait, or a grant after a wait; a quota is stored, or leaves an access error. -/
theorem poolCommands : Obligations.PoolCommands := by
  unfold Obligations.PoolCommands
  refine ⟨?grant, ?wait, ?full, ?after, ?quota, ?refused⟩
  case grant =>
    intro k n s hk hn ht hw
    rw [exec_poolGrant hk rfl (mirrored_ne_zero hn), if_pos (by rw [ht, hw]; rfl)]
  case wait =>
    intro k n m s hk hn hm ht hroom
    rw [exec_poolGrant hk hm.symm (hm ▸ mirrored_ne_zero hn), if_neg fun h => ?_, if_neg (by omega)]
    obtain ⟨takes, free⟩ := Bool.and_eq_true_iff.1 h
    exact ht.elim (fun no => Bool.false_ne_true (no.symm.trans takes))
      fun waits => Bool.false_ne_true ((Bool.not_eq_true' _ ▸ free).symm.trans waits)
  case full =>
    intro k n m s hk hn hm hfull
    have none : mayTake s k m = false := by simp [mayTake, Nat.not_le.2 hfull]
    rw [exec_poolGrant hk hm.symm (hm ▸ mirrored_ne_zero hn), if_neg (by rw [none]; exact Bool.false_ne_true), if_pos hfull]
  case after => exact fun k n s hw hk ht => exec_poolGrantAfterWait_single hw hk ht
  case quota =>
    intro k val s hk hq hl
    rw [exec_poolQuotaWrite hk, if_neg (by simp [hq, hl])]
  case refused =>
    intro k val s hk hbad hw
    have done := exec_poolQuotaWrite (s := s) (val := val) hk
    rw [if_pos (by simpa using hbad)] at done
    exact ⟨_, done, hasErr_accessErr hw,
      rd_report (by unfold Reg.poolQ Pg.icu; omega) (by unfold Reg.poolQ Pg.flt; omega) (.inr (by unfold Reg.poolQ Reg.poolErrBank Reg.genSliceStatus; omega))⟩

end Sys2Proof.Machine

end

section
/-! The flash store: mounts, erases, reads, resets, relocation and strobes (R266 to R293). -/

namespace Sys2Proof.Machine

open Bits

variable {s : State} {blk c : Nat}

theorem updatePe_fst : (updatePe s c).fst = s.fst := rfl

theorem updatePe_gen : (updatePe s c).gen = s.gen := rfl

theorem storeEvent_fst {b : Nat} : (storeEvent s b).fst = s.fst := by
  unfold storeEvent
  dsimp only
  split
  · rw [icu_fst, wrB_fst]
  · rfl

theorem updateWear_fst : (updateWear s).fst = s.fst := by
  unfold updateWear
  dsimp only
  split
  · rw [storeEvent_fst, report_fst, wr_fst]
  · rfl

theorem updateWear_gen : (updateWear s).gen = s.gen := by
  unfold updateWear
  dsimp only
  split
  · rw [storeEvent_gen, report_gen, wr_gen]
  · rfl

/-- An intent page stands beside the blocks. -/
theorem intentPage_blocks {recs : List IntentRec} : (intentPage s c recs).fst.blocks = s.fst.blocks := by
  unfold intentPage
  dsimp only
  split <;> rfl

/-- The block as its erase leaves it, counted on its channel and in the store's wear (R285, R290). -/
def blockErased (s : State) (blk : Nat) : State :=
  let v := lunOf s (lunOfBlk blk)
  let s := addWrap (setLun s (lunOfBlk blk) { v with op := 0, blk := 0, suspensions := 0 }) (Reg.fchOps (blkCh blk)) 0 32 1
  let b := blkOf s blk
  let s := setBlk s blk { b with cls := .erased, frontier := 0, done := 0, top := 0, reads := 0, cycles := b.cycles + 1 }
  let s := if !(b.stream == 1 || b.stream == 3) then { s with fst := { s.fst with cycles := s.fst.cycles + 1 } } else s
  updateWear (updatePe (intentNow s (blkCh blk) { type := 2, blk := blk }) (blkCh blk))

theorem blockErased_gen : (blockErased s blk).gen = s.gen := by
  unfold blockErased
  dsimp only
  rw [updateWear_gen, updatePe_gen]
  refine intentPage_gen.trans ?_
  split <;> rfl

theorem blkOf_blockErased : blkOf (blockErased s blk) blk =
    { blkOf s blk with cls := .erased, frontier := 0, done := 0, top := 0, reads := 0, cycles := (blkOf s blk).cycles + 1 } := by
  have counted : ∀ b : Block, ({ b with cls := .erased, frontier := 0, done := 0, top := 0, reads := 0, cycles := b.cycles + 1 } :
      Block) ≠ {} := fun b h => Nat.succ_ne_zero _ (congrArg Block.cycles h)
  have blocks : (blockErased s blk).fst.blocks = (setBlk s blk { blkOf s blk with
      cls := .erased, frontier := 0, done := 0, top := 0, reads := 0, cycles := (blkOf s blk).cycles + 1 }).fst.blocks := by
    unfold blockErased
    dsimp only
    rw [updateWear_fst, updatePe_fst]
    refine intentPage_blocks.trans ?_
    split <;> rfl
  exact (congrArg (Sparse.get (fun _ => {}) · blk) blocks).trans (get_set_of_ne_default (counted (blkOf s blk)))

/-- The end of an erase on the LUN that holds it (R285). -/
theorem exec_flashEraseComplete {ok : Bool} (h2 : (lunOf s (lunOfBlk blk)).op = 2) (hb : (lunOf s (lunOfBlk blk)).blk = blk) :
    exec (.flashEraseComplete blk ok) s = .next (settle (runErases (bandFreed
      (if ok = true then blockErased s blk else retireBlk (report
        (addWrap (setLun s (lunOfBlk blk) { lunOf s (lunOfBlk blk) with op := 0, blk := 0, suspensions := 0 })
          (Reg.fchOps (blkCh blk)) 0 32 1) (Pg.fch (blkCh blk)) 17 0) blk) (blkBand blk)))) :=
  congrArg (Host.Outcome.next ∘ settle) (if_pos ⟨h2, hb⟩)

theorem exec_flashReadComplete {loc : Nat} {res : LadderResult} (hr : fchReady s (locCh loc) = true) :
    exec (.flashReadComplete loc res) s = .next (settle (if res = .uncorrectable then
      match (((ladder s loc res).gen.cw.find? fun e => e.1 == loc).map Prod.snd) with
      | some c => verifyFail (ladder s loc res) c.g c.gen c.idx
      | none => ladder s loc res
      else ladder s loc res)) :=
  congrArg (Host.Outcome.next ∘ settle) (if_pos hr)

/-- A target that does not answer is reset; a second time unmounts it (R288). -/
theorem exec_stuckTargetTimeout {ch t : Nat} (hs : fchServes s ch = true) (ht : t < (fgeom s).targets)
    (hm : rb s (Reg.fchMount ch) (16 + t) = false) : exec (.stuckTargetTimeout ch t) s = .next (settle
      (if (fchOf (resetTarget s ch t) ch).stuckOnce.contains t = true then unmountTarget (resetTarget s ch t) ch t
      else eraseLost (setFch (resetTarget s ch t) ch
        { fchOf (resetTarget s ch t) ch with stuckOnce := (fchOf (resetTarget s ch t) ch).stuckOnce ++ [t] }) ch)) :=
  congrArg (Host.Outcome.next ∘ settle) (if_pos (by rw [hs, decide_eq_true ht, hm]; rfl))

/-- The state with the band's data moved and the band no longer a candidate (R292, R293). -/
def relocated (s : State) (band : Nat) (locs : List Nat) : State :=
  let old := copied s band
  let gs := affectedGens s band
  let s := forEach (List.range 32) s fun s c => closeBlk s (band * 32 + c)
  let m := old.zip locs
  let s := moveRecords (forEach m s fun s e => moveCw s e.1 e.2) m
  let relief := reliefCount s
  let r := gs.foldl (fun (a : State × List Nat) e => reseal a.1 e.1 e.2.num m a.2) (s, locs.drop old.length)
  let s := r.1
  let s := { s with gen := { s.gen with reliefPages := s.gen.reliefPages - (relief - reliefCount s) } }
  { s with fst := { s.fst with cands := s.fst.cands.filter fun e => e.2 != band } }

theorem relocated_cands {band : Nat} {locs : List Nat} : ((relocated s band locs).fst.cands.any fun e => e.2 == band) = false := by
  unfold relocated
  dsimp only
  rw [List.any_filter, List.any_eq_false]
  intro e _
  simp

theorem exec_relocation {t l b n : Nat} {locs : List Nat} (hn : n = b * 128 + l * 16 + t) (hw : windowOpen s = true)
    (hh : hemBusy s = false) (hr : restored s = true) (hc : (candidate s).map Prod.snd = some n)
    (hd : (affectedGens s n).all (fun e => durable e.2) = true)
    (hl : locs.length = (copied s n).length +
      ((affectedGens s n).map fun e => partsOf e.2.delta.length + partsOf e.2.ckptDelta.length + 1).sum)
    (hp : placesOk (locs.map fun l => (l, 2)) s = true) :
    exec (.relocation t l b locs) s = .next (settle (eraseBand (addSat (relocated s n locs) Reg.fstRelocStatus 16 16 1) n)) := by
  subst hn
  have open' : (windowOpen s && !hemBusy s && restored s && ((candidate s).map Prod.snd) == some (b * 128 + l * 16 + t)) = true := by
    rw [hw, hh, hr, hc]
    simp
  change execRelocation t l b locs s = _
  unfold execRelocation
  dsimp only
  rw [if_pos open', if_pos (by rw [hd, hp, beq_iff_eq.2 hl]; rfl)]
  rfl

/-- Settles O21. -/
theorem flashCommands : Obligations.FlashCommands := by
  unfold Obligations.FlashCommands
  refine ⟨?mount, ?erased, ?eraseFails, ?read, ?unreadable, ?stuck, ?stuckTwice, ?eraseResume, ?intent, ?recount, ?relocation,
    ?strobe, ?recal, ?recalFails⟩
  case mount =>
    intro ch geom checks ok s hc hch he hf hfence hrail hm
    refine congrArg (Host.Outcome.next ∘ settle) (if_pos ?_)
    rw [hc, he, hf, hfence, hrail, decide_eq_true hch]
    rcases hm with hm | hm <;> rw [hm]
    · rfl
    · simp
  case erased =>
    intro blk s h2 hb _
    exact ⟨_, exec_flashEraseComplete h2 hb, blockErased_gen, congrArg Block.cls blkOf_blockErased,
      congrArg Block.cycles blkOf_blockErased⟩
  case eraseFails => exact fun blk s h2 hb => exec_flashEraseComplete h2 hb
  case read =>
    intro loc res s hr hres
    rw [exec_flashReadComplete hr, if_neg hres]
  case unreadable =>
    intro loc c s hr hf
    rw [exec_flashReadComplete hr, if_pos rfl, hf]
    rfl
  case stuck =>
    intro ch t s hs ht hm hone
    rw [exec_stuckTargetTimeout hs ht hm, if_neg (Bool.eq_false_iff.1 hone)]
  case stuckTwice =>
    intro ch t s hs ht hm htwo
    rw [exec_stuckTargetTimeout hs ht hm, if_pos htwo]
  case eraseResume => exact fun ch t l s h3 hh hf => congrArg Host.Outcome.next (if_pos ⟨h3, hh, hf⟩)
  case intent => exact fun ch s hs => congrArg Host.Outcome.next (if_pos hs)
  case recount => exact fun s hr hc => congrArg (Host.Outcome.next ∘ settle) (if_pos (by rw [hr, hc]; rfl))
  case relocation =>
    intro t l b locs n s hn hw hh hr hc hd hl hp
    exact ⟨_, exec_relocation hn hw hh hr hc hd hl hp, relocated_cands⟩
  case strobe => exact fun ch d s hch hd hm => congrArg Host.Outcome.next (if_pos ⟨hd, hch, hm⟩)
  case recal =>
    intro ch re dqs s hr
    exact congrArg (Host.Outcome.next ∘ settle) ((if_neg (by simp [hr])).trans (if_pos rfl))
  case recalFails =>
    intro ch re dqs s hr
    exact congrArg (Host.Outcome.next ∘ settle) ((if_neg (by simp [hr])).trans (if_neg Bool.false_ne_true))

end Sys2Proof.Machine

end

section
/-! The battery's estimator (R363 to R380) and the interrupt controller's registers, entry, completion and sleep
(R412 to R422). -/

namespace Sys2Proof.Machine

open Bits

variable {s : State} {val : Word} {ld src : Nat}

-- the battery

theorem leBytes_four_length {n : Nat} : (leBytes 4 n).length = 4 := leBytes_length

theorem pay_shipKey : pay (leBytes 4 0x50494853) 0 4 = 0x50494853 := by decide

/-- Ship mode asked for with its key by a device that administers (R380). -/
theorem exec_armShipMode (ha : isAdmin s ld = true) : exec (.armShipMode ld (leBytes 4 0x50494853)) s =
    .next (settle (if (hemBusy s || restoring s) = true then replyCode (icu s 379) ld 1
      else replyCode (icu { s with bat := { s.bat with ship := true } } 379) ld 0)) := by
  refine congrArg (Host.Outcome.next ∘ settle) ?_
  unfold mbArmShipMode
  rw [if_neg (by rw [leBytes_four_length, pay_shipKey]; decide), if_neg (by rw [ha]; exact Bool.false_ne_true)]

theorem learnCtrl_of_unlocked (h1 : bit val 0 = true) (hlo : 3900 ≤ fld val 16 13) (hhi : fld val 16 13 ≤ 4150)
    (hl : locked s Pg.bat = false) : learnCtrl s val =
      { wrF s Reg.batLearnCtrl 16 13 (fld val 16 13) with bat := { s.bat with request := true } } := by
  unfold learnCtrl
  dsimp only
  rw [if_neg (by omega), hl, if_pos h1]
  rfl

/-- Settles O22. -/
theorem batteryCommands : Obligations.BatteryCommands := by
  unfold Obligations.BatteryCommands
  refine ⟨?second, ?pauseEnd, ?pauseRest, ?hib, ?table, ?learn, ?status, ?request, ?arm, ?armBusy, ?disarm, ?disarmed⟩
  case second =>
    rintro s a b c d e hc rfl rfl rfl rfl rfl
    exact congrArg (Host.Outcome.next ∘ settle) (if_pos hc)
  case pauseEnd =>
    intro s hp hr
    refine congrArg (Host.Outcome.next ∘ settle) ((if_pos hp).trans ?_)
    rw [if_neg (Bool.eq_false_iff.1 hr)]
  case pauseRest =>
    intro s hp hr
    refine congrArg (Host.Outcome.next ∘ settle) ((if_pos hp).trans ?_)
    rw [if_pos hr]
  case hib =>
    rintro secs s t hc hv rfl
    exact congrArg (Host.Outcome.next ∘ settle) (if_neg (by simp [hc, hv]))
  case table => exact fun val s h => congrArg (Host.Outcome.next ∘ settle) (if_pos h)
  case learn =>
    intro val s h1 hlo hhi hl
    exact ⟨_, congrArg (Host.Outcome.next ∘ settle) (if_pos h1), learnCtrl_of_unlocked h1 hlo hhi hl⟩
  case status => exact fun ld s => rfl
  case request => exact fun ld s => rfl
  case arm =>
    intro ld s ha hh hr
    rw [exec_armShipMode ha, hh, hr]
    rfl
  case armBusy =>
    intro ld s ha hbusy
    rw [exec_armShipMode ha, if_pos (Bool.or_eq_true_iff.2 hbusy)]
  case disarm =>
    intro ld s hs
    refine congrArg (Host.Outcome.next ∘ settle) (?_ : replyCode (ite _ _ _) ld 0 = _)
    rw [if_pos hs]
  case disarmed =>
    intro ld s hs
    refine congrArg (Host.Outcome.next ∘ settle) (?_ : replyCode (ite _ _ _) ld 0 = _)
    rw [if_neg (Bool.eq_false_iff.1 hs)]

-- the interrupt controller

theorem exec_icuDone (hv : fld val 0 9 < 500) {p : Nat} {rest : List (Nat × Nat)}
    (hs : s.icu.stack = (fld val 0 9, p) :: rest) : exec (.icuDone val) s = .next (settle (completeTop s (fld val 0 9))) := by
  change execIcuDone val s = _
  unfold execIcuDone srcField
  dsimp only
  rw [if_neg (by omega), hs]
  exact congrArg (Host.Outcome.next ∘ settle) (if_pos rfl)

theorem isPending_enterSource {live : List (Option Nat)} (hw : s.memWf = true) :
    isPending (enterSource s src live) src = false := by
  refine (isPending_setPending (n := src) (k := src) (b := false) hw).trans ?_
  simp

/-- Settles O23. -/
theorem interruptCommands : Obligations.InterruptCommands := by
  unfold Obligations.InterruptCommands
  refine ⟨fun src s => rfl, ?doorbell, ?entry, ?done, ?exit, ?pendclr, ?enset, ?enclr, ?prio, ?sleep, ?wake, ?thimble⟩
  case doorbell =>
    intro val s hv hfree
    refine congrArg (Host.Outcome.next ∘ settle) (if_neg ?_)
    rcases hfree with special | free
    · simp [srcField, Nat.not_lt.2 special]
      exact decide_eq_false (by omega)
    · simp [srcField, free]
      exact decide_eq_false (by omega)
  case entry =>
    intro ctx src s hw hc hb hh
    have done : exec (.icuEntry ctx) s = .next (settle (enterSource (sramStore s (frameOff s s.icu.stack.length)
        (((ctx.take 18).flatMap fun w => leBytes 4 w.toNat) ++ zeros (4 * (18 - ctx.length)) ++ ownerBytes s src)) src
        s.icu.live)) := by
      change execIcuEntry ctx s = _
      unfold execIcuEntry
      rw [if_pos hc, hb]
      exact congrArg (Host.Outcome.next ∘ settle) (if_pos hh)
    exact ⟨_, done, rfl, rfl, isPending_enterSource ((sramStore_keeps (Keeps.refl s)).mem hw)⟩
  case done =>
    intro val p rest s hs hv
    exact ⟨_, exec_icuDone hv hs, congrArg List.tail hs, rfl⟩
  case exit =>
    intro rest s hl hb
    have done : exec .icuExit s = .next (settle (exitReturn s)) := by
      change execIcuExit s = _
      unfold execIcuExit
      rw [hl]
      dsimp only
      unfold exitChain
      rw [hb]
    exact ⟨_, done, congrArg List.tail hl, rfl, rfl, rfl⟩
  case pendclr => exact fun val s hv => congrArg (Host.Outcome.next ∘ settle) (if_neg (by unfold srcField; omega))
  case enset =>
    intro val s hv hl
    exact congrArg (Host.Outcome.next ∘ settle) ((if_neg (by unfold srcField; omega)).trans (setCfgField_of_unlocked hl))
  case enclr =>
    intro val s h0 hv hl
    exact congrArg (Host.Outcome.next ∘ settle) ((if_neg (by unfold srcField; omega)).trans
      ((if_neg (by unfold srcField; omega)).trans (setCfgField_of_unlocked hl)))
  case prio =>
    intro val s h0 hv hl
    exact congrArg (Host.Outcome.next ∘ settle) ((if_neg (by unfold srcField; omega)).trans
      ((if_neg (by unfold srcField; omega)).trans (setCfgField_of_unlocked hl)))
  case sleep =>
    intro s hc h0 hb
    have light : lightSleep s = { s with icu := { s.icu with core := .lightSleep } } := by
      unfold lightSleep lightWake
      rw [hb]
    refine congrArg (Host.Outcome.next ∘ settle) ((if_pos hc).trans ((if_neg ?_).trans light))
    rw [h0]
    exact Bool.false_ne_true
  case wake =>
    intro src s hc hb
    have done : exec .sleepWake s =
        .next (settle (wr { s with icu := { s.icu with core := .running } } Reg.sysWakeCause (wd (src % 512 + 512)))) := by
      change execSleepWake s = _
      unfold execSleepWake lightWake
      rw [hc, hb]
      rfl
    exact ⟨_, done, rfl, rfl⟩
  case thimble =>
    intro src s hc hcore hwatch hp
    have seen : (if (isPending s src || s.icu.latched.contains src) = true then s else icu s src) = s :=
      if_pos (by rw [hp]; rfl)
    change execThimbleWake src s = _
    unfold execThimbleWake
    dsimp only
    rw [seen, if_pos (by rw [hcore, hwatch, hc]; rfl)]

end Sys2Proof.Machine

end

section
/-! The event recorder's frame: what its own records leave of the registers of other pages; restarts, the time base and
memory errors (R403 to R432). -/

namespace Sys2Proof.Machine

open Bits

variable {s : State} {a n code sev : Nat} {pc val : Word}

-- what the recorder writes

theorem topUp_regs : (topUp s).regs = s.regs := by
  unfold topUp
  split
  · rfl
  · split <;> rfl

theorem topUpAll_regs : (topUpAll s).regs = s.regs := by
  unfold topUpAll
  rw [topUp_regs, topUp_regs, topUp_regs, topUp_regs]

theorem openSector_regs {area first : Nat} : (openSector s n area first).regs = s.regs := rfl

theorem sectorFor_regs {recs : List Rec} : (sectorFor s recs).2.regs = s.regs := by
  unfold sectorFor
  dsimp only
  split
  · split <;> rfl
  · split
    · rfl
    · split
      · simp only [topUpAll_regs, openSector_regs]
      · exact topUpAll_regs

/-- A register that neither the interrupt controller, the fault manager nor the recorder writes. -/
def isForeign (a : Nat) : Prop := a / 0x1000 ≠ Pg.icu ∧ a / 0x1000 ≠ Pg.flt ∧ a / 0x1000 ≠ Pg.evr

theorem rd_icu_foreign (h : isForeign a) (hn : n < 512) : rd (icu s n) a = rd s a :=
  rd_icu hn h.1 fun e => h.2.1 (e ▸ rfl)

theorem isForeign.ne_evr (h : isForeign a) {r : Nat} (hr : r / 0x1000 = Pg.evr) : a ≠ r := fun e => h.2.2 (e ▸ hr)

theorem rd_countErase (h : isForeign a) {x : Sector} : rd (countErase s x) a = rd s a := by
  have wrap : ∀ {l}, rd (addSat s Reg.evrWrap l 16 1) a = rd s a := rd_wr_ne (h.ne_evr rfl)
  unfold countErase
  split
  · rfl
  · split
    · exact (rd_icu_foreign h (by decide)).trans wrap
    · split
      · exact wrap
      · rfl

theorem rd_setCflOp {o : Option CflOp} : rd (setCflOp s n o) a = rd s a := rfl

theorem rd_dropSector : rd (dropSector s n) a = rd s a := rfl

theorem rd_eraseNext (h : isForeign a) : rd (eraseNext s) a = rd s a := by
  have topped : rd (topUpAll s) a = rd s a := rd_of_regs topUpAll_regs a
  unfold eraseNext
  dsimp only
  split
  · exact topped
  · split
    · exact topped
    · split
      · rw [rd_setCflOp, rd_countErase h, rd_dropSector]
        exact topped
      · rw [rd_setCflOp]
        exact topped

theorem rd_evrPump (h : isForeign a) : rd (evrPump s) a = rd s a := by
  unfold evrPump
  split
  · split
    · refine (rd_eraseNext h).trans ?_
      split
      · exact rd_icu_foreign h (by decide)
      · rfl
    · next b _ _ =>
      have regs : rd (sectorFor s b.2).2 a = rd s a := rd_of_regs sectorFor_regs a
      split
      · split
        · next v hv =>
          rw [hv] at regs
          exact regs
        · next v hv =>
          rw [hv] at regs
          exact (rd_eraseNext h).trans regs
      · rfl
  · rfl

theorem closeBuf_regs : (closeBuf s).regs = s.regs := by
  unfold closeBuf
  split
  · rfl
  · split <;> rfl

theorem rd_placeRec (h : isForeign a) {r : Rec} : rd (placeRec s r) a = rd s a := by
  unfold placeRec
  split
  · rfl
  · refine (rd_evrPump h).trans ?_
    split
    · exact rd_of_regs closeBuf_regs a
    · rfl

theorem rd_ownRec (h : isForeign a) {payload : List Byte} : rd (ownRec s code sev payload) a = rd s a := by
  have placed : ∀ (q : Word) (r : Rec), rd (placeRec (countEvent (wr s Reg.evrSeqNewest q) code sev) r) a = rd s a := fun q r =>
    (rd_placeRec h).trans (rd_wr_ne (h.ne_evr rfl))
  unfold ownRec admitRec
  dsimp only
  split
  · exact (rd_icu_foreign h (by decide)).trans (placed _ _)
  · exact placed _ _

theorem rd_unitBad (h : isForeign a) : rd (unitBad s n) a = rd s a := by
  unfold unitBad
  extract_lets sector page v pay
  have marked : rd v a = rd s a := by
    refine rd_of_regs ?_ a
    change State.regs (match sectorOf s sector with | some x => _ | none => s) = _
    split <;> rfl
  split
  · exact marked
  · split
    · exact (rd_ownRec h).trans marked
    · exact marked

-- restarts

theorem pairUp_of (h : s.icu.core = .running ∨ s.icu.core = .lightSleep) : pairUp s = true := by
  unfold pairUp
  rcases h with h | h <;> rw [h] <;> rfl

/-- A restart starts the pair with an empty stack, whatever was active. -/
theorem clearStack_stack : (clearStack s).icu.stack = [] := by
  unfold clearStack
  refine List.foldlRecOn (motive := fun v : State => v.icu.stack = []) _ _ rfl fun v hv x _ => ?_
  rw [lostErr_icu, bumpLost_icu]
  exact hv

/-- An uncorrectable word of the code flash, with its error (R407). -/
theorem exec_codeFlashUncorrectable : exec (.codeFlashUncorrectable n) s = .next (settle
    (if n % 2 ^ 26 / 2 ^ 24 = 3 then unitBad (report (wr (addSat s Reg.cflEcc 16 16 1) Reg.cflEccAddr
      (wd (n % 2 ^ 26 / 32 * 32 + 2 ^ 31))) Pg.cfl 17 0) (n % 2 ^ 26)
    else report (wr (addSat s Reg.cflEcc 16 16 1) Reg.cflEccAddr (wd (n % 2 ^ 26 / 32 * 32 + 2 ^ 31))) Pg.cfl 17 0)) := rfl

theorem hasErr_unitBad {b : Nat} (h : hasErr s Pg.cfl b = true) : hasErr (unitBad s n) Pg.cfl b = true := by
  have same : rd (unitBad s n) (errStatusA Pg.cfl) = rd s (errStatusA Pg.cfl) :=
    rd_unitBad ⟨by decide, by decide, by decide⟩
  exact (congrArg (bit · b) same).trans h

/-- The time base at the turn of a second (R424). -/
def secondTurned (s : State) : State :=
  let s := { s with psq := { s.psq with upTicks := s.psq.upTicks + (32768 - ticks s) } }
  let s := wr (addWrap s Reg.sysSeconds 0 32 1) Reg.sysTicks 0#32
  if s.upd.st = 6 then { s with upd := { s.upd with trialSecs := s.upd.trialSecs + 1 } } else s

theorem rf_secondTurned (hw : s.memWf = true) : rf (secondTurned s) Reg.sysTicks 0 15 = 0 := by
  have zero : ∀ t : State, rd t Reg.sysTicks = 0#32 → rf t Reg.sysTicks 0 15 = 0 := fun t ht => by rw [rf, ht]; rfl
  have wf : (addWrap { s with psq := { s.psq with upTicks := s.psq.upTicks + (32768 - ticks s) } } Reg.sysSeconds 0 32 1).memWf =
      true := (wr_keeps (Keeps.refl s)).mem hw
  refine zero _ ?_
  unfold secondTurned
  dsimp only
  split
  · exact rd_wr_self wf
  · exact rd_wr_self wf

/-- Settles O24. -/
theorem systemCommands : Obligations.SystemCommands := by
  unfold Obligations.SystemCommands
  refine ⟨?diverged, ?expired, ?kick, ?half, ?jtag, ?sram, ?codeFlash, ?compare, ?second⟩
  case diverged => exact fun pc s h => congrArg (Host.Outcome.next ∘ settle) (if_pos (pairUp_of h))
  case expired => exact fun pc s h hr => congrArg (Host.Outcome.next ∘ settle) (if_pos (by rw [pairUp_of h, hr]; rfl))
  case kick => exact fun val s h => congrArg Host.Outcome.next (if_pos h)
  case half => exact fun s h hr => congrArg (Host.Outcome.next ∘ settle) (if_pos (by rw [pairUp_of h, hr]; rfl))
  case jtag =>
    intro s hc hd
    have done : exec .jtagReset s = .next (settle (restartPair s 5 (imgEntry s s.upd.slot))) :=
      congrArg (Host.Outcome.next ∘ settle) (if_pos (by rw [hc, bne_iff_ne.2 hd]; rfl))
    exact ⟨_, done, rfl, rfl, clearStack_stack⟩
  case sram =>
    intro off s hc hw
    have done : exec (.sramUncorrectable off) s = .next (settle (report (addSat (wr s Reg.sysSramUeAddr
        (wd (off % 2 ^ 20 / 4 * 4 + 2 ^ 31))) Reg.sysSramEcc 16 16 1) Pg.sys 17 0)) :=
      congrArg (Host.Outcome.next ∘ settle) (if_pos hc)
    exact ⟨_, done, hasErr_report ((addSat_keeps (wr_keeps (Keeps.refl s))).mem hw) (by decide)⟩
  case codeFlash =>
    intro n s hw
    refine ⟨_, exec_codeFlashUncorrectable, ?_⟩
    have reported : hasErr (report (wr (addSat s Reg.cflEcc 16 16 1) Reg.cflEccAddr (wd (n % 2 ^ 26 / 32 * 32 + 2 ^ 31))) Pg.cfl
        17 0) Pg.cfl 17 = true := hasErr_report ((wr_keeps (addSat_keeps (Keeps.refl s))).mem hw) (by decide)
    split
    · exact hasErr_unitBad reported
    · exact reported
  case compare =>
    exact fun s hc hr ht => congrArg (Host.Outcome.next ∘ settle) (if_pos (by rw [hc, hr, decide_eq_true ht]; rfl))
  case second =>
    intro s hc hw
    have done : exec .operatingSecond s = .next (settle (samples (icu (secondTurned s) 9))) :=
      congrArg (Host.Outcome.next ∘ settle) (if_pos hc)
    exact ⟨_, done, rf_secondTurned hw⟩

end Sys2Proof.Machine

end

section
/-! The event recorder: its steps, its register's commands and its mailbox commands (R439 to R453). -/

namespace Sys2Proof.Machine

open Bits

variable {s : State} {ld n addr : Nat} {inp : List Byte} {x : Sector} {b : Nat × List Rec} {rest : List (Nat × List Rec)}

-- a page becomes durable (R441)

theorem sectorOf_setSector : sectorOf (setSector s n x) n = some x := by
  have none : (s.evr.sectors.filter fun e => e.1 != n).find? (fun e => e.1 == n) = none := by
    rw [List.find?_eq_none]
    intro e he
    have ne := (List.mem_filter.1 he).2
    simpa using ne
  unfold sectorOf setSector
  rw [List.find?_append, none]
  simp

theorem cflOp_setCflOp_none {k : Nat} : cflOp (setCflOp s k none) k = none := by
  unfold cflOp setCflOp
  have gone : (s.cfl.ops.filter fun e => e.1 != k).find? (fun e => e.1 == k) = none := by
    rw [List.find?_eq_none]
    intro e he
    have ne := (List.mem_filter.1 he).2
    simpa using ne
  exact congrArg (Option.map Prod.snd) gone

/-- The state in which the page's records stand in its sector and its buffer is free. -/
def pageStored (s : State) (n : Nat) (x : Sector) (b : Nat × List Rec) (rest : List (Nat × List Rec)) : State :=
  let s := setSector (setCflOp s 3 none) n { x with pages := x.pages ++ [b.2] }
  let full := decide (15 ≤ x.pages.length + 1)
  { s with evr := { s.evr with
    bufs := rest
    openPinned := if full && s.evr.openPinned == some n then none else s.evr.openPinned
    openCirc := if full && s.evr.openCirc == some n then none else s.evr.openCirc } }

theorem sectorOf_pageStored : sectorOf (pageStored s n x b rest) n = some { x with pages := x.pages ++ [b.2] } :=
  sectorOf_setSector (s := setCflOp s 3 none)

theorem cflOp_pageStored : cflOp (pageStored s n x b rest) 3 = none := cflOp_setCflOp_none (s := s)

theorem exec_evrPageDurable {o : CflOp} {ok : Bool} (hc : cflOp s 3 = some o) (hq : o.req = .evr) (hk : o.kind = 1)
    (hn : o.addr % 2 ^ 24 / 4096 = n) (hx : sectorOf s n = some x) (hb : s.evr.bufs = b :: rest) :
    exec (.evrPageDurable ok) s = .next (settle (if ok = true then evrPump (topUpAll (pageStored s n x b rest))
      else evrPump (retireSector (setCflOp s 3 none) n o.addr))) := by
  have sector : sectorOf (setCflOp s 3 none) n = some x := hx
  have bufs : (setCflOp s 3 none).evr.bufs = b :: rest := hb
  change execEvrPageDurable ok s = _
  unfold execEvrPageDurable
  rw [hc]
  dsimp only
  rw [hq, hk, if_pos (by rfl)]
  unfold pageDone
  dsimp only
  rw [hn, sector, bufs]
  rfl

-- the command register (R448, R453)

theorem evrCmdWrite_freeze (hon : evrOn s = true) : evrCmdWrite s 1#32 true true = evrFreeze s 0 := by
  unfold evrCmdWrite
  rw [if_pos hon]
  rfl

theorem evrCmdWrite_unfreeze (hon : evrOn s = true) : evrCmdWrite s 2#32 true true = evrUnfreeze s := by
  unfold evrCmdWrite
  rw [if_pos hon]
  rfl

theorem evrCmdWrite_flush (hon : evrOn s = true) : evrCmdWrite s 4#32 true true = evrFlush s := by
  unfold evrCmdWrite
  rw [if_pos hon]
  rfl

theorem evrCmdWrite_clear (hon : evrOn s = true) (hc : s.evr.clearing = false) :
    evrCmdWrite s 0x434C0008#32 true true = startClear s none := by
  have key : (bit 0x434C0008#32 3 && fld 0x434C0008#32 16 16 == 0x434C && !s.evr.clearing) = true := by rw [hc]; rfl
  unfold evrCmdWrite
  rw [if_pos hon]
  exact if_pos key

theorem evrCmdWrite_summary {a b : Bool} (hon : evrOn s = true) : evrCmdWrite s 16#32 a b = writeSummary s a b := by
  unfold evrCmdWrite
  rw [if_pos hon]
  rfl

theorem freezeNow_of_running (hf : s.evr.frozen = false) {cause : Nat} : freezeNow s cause =
    icu { evrFlush (ownRec s 0x03F2 0 (leBytes 1 cause)) with
      evr := { (evrFlush (ownRec s 0x03F2 0 (leBytes 1 cause))).evr with frozen := true, freezeIn := none } } 437 := by
  unfold freezeNow
  rw [hf]
  rfl

/-- The state in which both copies of the summary stand (R444). -/
def summarized (s : State) : State :=
  let sum := { liveNow s with seq := (s.evr.live.seq + 1) % 2 ^ 32 }
  let s := { s with evr := { s.evr with live := sum } }
  let s := putCopy (putCopy s 0 s.evr.slotA true sum) 32 s.evr.slotB true sum
  { s with evr := { s.evr with slotA := (s.evr.slotA + 1) % 32, slotB := (s.evr.slotB + 1) % 32 } }

theorem writeSummary_both (hon : evrOn s = true) (hm : s.evr.mode = 1) : writeSummary s true true = icu (summarized s) 438 := by
  unfold writeSummary
  rw [hon]
  exact if_pos hm

theorem mem_sums_summarized : (s.evr.slotA % 32, (summarized s).evr.live) ∈ (summarized s).evr.sums ∧
    (32 + s.evr.slotB % 32, (summarized s).evr.live) ∈ (summarized s).evr.sums := by
  constructor
  · refine List.mem_append_left _ (List.mem_filter.2 ⟨?_, ?_⟩)
    · refine List.mem_append_right _ ?_
      rw [Nat.zero_add]
      exact List.mem_singleton.2 rfl
    · simp only [Bool.true_or, Bool.and_true, bne_iff_ne]
      omega
  · exact List.mem_append_right _ (List.mem_singleton.2 rfl)

/-- Settles O27. -/
theorem recorderCommands : Obligations.RecorderCommands := by
  unfold Obligations.RecorderCommands
  refine ⟨?admission, ?flushTimer, ?page, ?pageFails, ?mount, ?freeze, ?freezeLater, ?unfreeze, ?flush, ?clear, ?summary, ?interval,
    ?cleared, ?go⟩
  case admission =>
    intro e rest s hon hm hi
    have open' : (evrOn s && (s.evr.mode == 1 || s.evr.mode == 2)) = true := by
      rw [hon]
      rcases hm with hm | hm <;> rw [hm] <;> rfl
    change execEventAdmission s = _
    unfold execEventAdmission
    rw [if_pos open', hi]
  case flushTimer => exact fun s hon hm => congrArg (Host.Outcome.next ∘ settle) (if_pos (by rw [hon, hm]; rfl))
  case page =>
    intro n x b rest o s hc hq hk hn hx hb
    have done := exec_evrPageDurable (ok := true) hc hq hk hn hx hb
    rw [if_pos rfl] at done
    exact ⟨pageStored s n x b rest, done, rfl, sectorOf_pageStored, cflOp_pageStored⟩
  case pageFails => exact fun n x b rest o s hc hq hk hn hx hb => exec_evrPageDurable hc hq hk hn hx hb
  case mount => exact fun torn ok s hon hm => congrArg (Host.Outcome.next ∘ settle) (if_pos (by rw [hon, hm]; rfl))
  case freeze =>
    intro s hon hc hf
    refine ⟨_, rfl, congrArg (Host.Outcome.next ∘ settle) ((evrCmdWrite_freeze hon).trans ?_)⟩
    exact (if_neg (Bool.eq_false_iff.1 hc)).trans (freezeNow_of_running hf)
  case freezeLater =>
    exact fun s hon hc => congrArg (Host.Outcome.next ∘ settle) ((evrCmdWrite_freeze hon).trans (if_pos hc))
  case unfreeze =>
    exact fun s hon hf => congrArg (Host.Outcome.next ∘ settle) ((evrCmdWrite_unfreeze hon).trans (if_pos hf))
  case flush =>
    exact fun s hon hm => congrArg (Host.Outcome.next ∘ settle) ((evrCmdWrite_flush hon).trans (if_pos (by rw [hon, hm]; rfl)))
  case clear =>
    intro s hon hc
    exact ⟨_, congrArg (Host.Outcome.next ∘ settle) (evrCmdWrite_clear hon hc), rfl, rfl, rfl, rfl, rfl⟩
  case summary => exact fun a b s hon => congrArg (Host.Outcome.next ∘ settle) (evrCmdWrite_summary hon)
  case interval =>
    intro s hon hm
    exact ⟨_, congrArg (Host.Outcome.next ∘ settle) (writeSummary_both hon hm), rfl, mem_sums_summarized⟩
  case cleared =>
    intro s hc ha
    refine ⟨{ s with evr := { s.evr with clearing := false, freezeAsked := false, clearLd := none } },
      congrArg (Host.Outcome.next ∘ settle) ?_, rfl, rfl⟩
    unfold endClear
    rw [if_pos hc, ha]
    rfl
  case go =>
    intro s hon hbusy hcode
    refine ⟨_, congrArg (Host.Outcome.next ∘ settle) ?_, rfl⟩
    rw [if_pos (by rfl), if_neg (by rw [hbusy, hcode]; exact Bool.false_ne_true), if_pos hon]

-- the mailbox

theorem crcBytes_length {bs : List Byte} : (crcBytes bs).length = 4 := leBytes_length

theorem recBytes_length {r : Rec} : (recBytes r).length = recLen r := by
  unfold recBytes recLen
  simp only [List.length_append, leBytes_length, crcBytes_length, zeros, List.length_replicate]
  omega

/-- The records that a read takes fit its room. -/
theorem takeFit_length_le {room : Nat} {l : List Rec} : ((takeFit room l).flatMap recBytes).length ≤ room := by
  induction l generalizing room with
  | nil => exact Nat.zero_le _
  | cons r l ih =>
    unfold takeFit
    split
    · next h =>
      rw [List.flatMap_cons, List.length_append, recBytes_length]
      have tail := ih (room := room - recLen r)
      omega
    · exact Nat.zero_le _

/-- Settles O28. -/
theorem logMailboxCommands : Obligations.LogMailboxCommands := by
  unfold Obligations.LogMailboxCommands
  refine ⟨?info, ?read, ?live, ?copy, ?freeze, ?unfreeze, ?off, ?clear, ?policy⟩
  case info =>
    refine fun ld s => ⟨_, rfl, ?_, ?_⟩
    · simp only [List.length_append, leBytes_length]
    · simp [List.append_assoc, List.take_append, leBytes_length]
      rfl
  case read =>
    intro ld inp s hl
    refine ⟨_, congrArg Host.Outcome.next (if_neg (by omega)), ?_, ?_⟩
    · simp only [List.length_append, leBytes_length]
      exact Nat.add_le_add_left takeFit_length_le 8
    · rfl
  case live =>
    intro ld inp s hl hp hk
    refine congrArg Host.Outcome.next ((if_neg (by omega)).trans ?_)
    rw [if_pos hk]
    rfl
  case copy =>
    intro ld inp u s hl hp hk hm hu
    refine congrArg Host.Outcome.next ((if_neg (by omega)).trans ?_)
    rw [if_neg (by omega), if_neg hm, hu]
    rfl
  case freeze => exact fun ld s hon => congrArg (Host.Outcome.next ∘ settle) (if_pos hon)
  case unfreeze =>
    intro ld s ha hon
    exact congrArg (Host.Outcome.next ∘ settle) ((if_neg (Nat.not_lt_zero 0 ∘ absurd rfl)).trans ((if_neg (by simp [ha])).trans (if_pos hon)))
  case off => exact fun ld s hoff => congrArg (Host.Outcome.next ∘ settle) (if_neg (Bool.eq_false_iff.1 hoff))
  case clear =>
    intro ld s ha hh hon hc
    have key : (hemActive s || pay (leBytes 4 0x474F4C43) 0 4 != 0x474F4C43 || !evrOn s || s.evr.clearing) = false := by
      rw [hh, hon, hc]
      decide
    exact congrArg (Host.Outcome.next ∘ settle) ((if_neg (by rw [leBytes_length]; decide)).trans ((if_neg (by simp [ha])).trans
      (if_neg (Bool.eq_false_iff.1 key))))
  case policy =>
    intro ld inp s hl ha hp hlen hmod
    exact congrArg Host.Outcome.next ((if_neg (by omega)).trans ((if_neg (by simp [ha])).trans (if_neg (by omega))))

end Sys2Proof.Machine

end

section
/-! The code flash: an erase in bank 3 takes the recorder's copies with it (R410). -/

namespace Sys2Proof.Machine

open Bits

/-- A state in which firmware's erase of the sector with a copy of the recorder's summary runs on bank 3. -/
def eraseOfSummary : State :=
  { State.reset with
    cfl := { State.reset.cfl with ops := [(3, { kind := 2, req := .fw, addr := 0x03000000 })] }
    evr := { State.reset.evr with sums := [(0, {})] } }

/-- The copies of the summary that an outcome leaves. -/
def copiesLeft : Out → Nat
  | .next t => t.evr.sums.length
  | _ => 0

theorem eraseOfSummary_takes_copy : copiesLeft (exec (.cflOperationDone 3 true) eraseOfSummary) = 0 := by decide +kernel

theorem cflErase_leaves_copy : copiesLeft (.next (settle (evrPump (icu (cflResult (cflErase
    (setCflOp eraseOfSummary 3 none) 0x03000000 4096) 3 0) 456)))) = 1 := by decide +kernel

/-- Refutes O25: the erase of a sector of bank 3 also takes the recorder's copy that stands there, which the clause of the
erase leaves. -/
theorem not_codeFlashCommands : ¬ Obligations.CodeFlashCommands := by
  unfold Obligations.CodeFlashCommands
  rintro ⟨-, -, -, erase, -⟩
  have same := erase 3 { kind := 2, req := .fw, addr := 0x03000000 } eraseOfSummary rfl rfl rfl
  have one := eraseOfSummary_takes_copy
  rw [same, cflErase_leaves_copy] at one
  exact Nat.one_ne_zero one

end Sys2Proof.Machine

end

section
/-! The thermal unit's readings (R385 to R397). -/

namespace Sys2Proof.Machine

open Bits

variable {s : State} {e : Nat} {v : Int} {hi : Bool}

/-- An extreme stands in the recorder's summary. -/
theorem extreme_thm : (extreme s e v hi).thm = s.thm := by
  unfold extreme
  exact (apply_ite State.thm _ _ _).trans (ite_self _)

theorem extreme_fst : (extreme s e v hi).fst = s.fst := by
  unfold extreme
  exact (apply_ite State.fst _ _ _).trans (ite_self _)

/-- The state of the check of a unit that has no reading yet: the neighbours alone are written (R385). -/
def neighboursNoted (s : State) : State :=
  { wr s Reg.thmNeigh (wd (neighByte (neighDram s) + 256 * neighByte (neighNand s) + 65536 * neighByte (neighPack s) +
      2 ^ 24 * neighByte (medianOf (neighbours s)))) with thm := { s.thm with packOff := 0, packOn := 0 } }

theorem thmLimit_neighboursNoted {k : Nat} : thmLimit (neighboursNoted s) k = thmLimit s k := by
  have limits : rd (neighboursNoted s) Reg.thmLimits = rd s Reg.thmLimits := rd_wr_ne (by decide)
  unfold thmLimit rf
  rw [limits]

theorem packCheck_of_none (hp : packReading s = none) :
    packCheck s = { s with thm := { s.thm with packOff := 0, packOn := 0 } } := by
  unfold packCheck
  rw [hp]

theorem exec_thmCheck_quiet (hc : coreUp s = true) (hl : s.thm.live = false) (hb : s.thm.broken = false)
    (hlost : thmLost s = false) (hp : packReading s = none) (ht : s.thm.inUse < thmLimit s 0) :
    exec .thmCheck s = .next (settle (judgeWindow (neighboursNoted s))) := by
  have noPack : ∀ w, packReading (wr s Reg.thmNeigh w) = none := by
    intro w
    have scan : rd (wr s Reg.thmNeigh w) (Reg.psqScann 28) = rd s (Reg.psqScann 28) := rd_wr_ne (by decide)
    have status : rd (wr s Reg.thmNeigh w) (errStatusA Pg.bat) = rd s (errStatusA Pg.bat) := rd_wr_ne (by decide)
    unfold packReading rb at hp ⊢
    rw [scan, status]
    exact hp
  have noSensors : ∀ w, sensorsLost (wr s Reg.thmNeigh w) = wr s Reg.thmNeigh w := fun w =>
    if_neg (by rw [wr_thm, hb]; exact Bool.false_ne_true)
  have noted := packCheck_of_none (noPack (wd (neighByte (neighDram s) + 256 * neighByte (neighNand s) +
    65536 * neighByte (neighPack s) + 2 ^ 24 * neighByte (medianOf (neighbours s)))))
  have cool : ¬ thmLimit (neighboursNoted s) 0 ≤ (neighboursNoted s).thm.inUse := by
    rw [thmLimit_neighboursNoted]
    exact Int.not_le.2 ht
  have dark : (neighboursNoted s).thm.live = false := hl
  have whole : (neighboursNoted s).thm.broken = false := hb
  have known : thmLost (neighboursNoted s) = false := hlost
  change execThmCheck s = _
  unfold execThmCheck
  change packCheck _ = neighboursNoted s at noted
  simp only [hc, wr_thm, hl, hb, noSensors, noted, dark, whole, if_neg cool, known, Bool.not_true, Bool.false_and,
    Bool.false_eq_true, if_false]

/-- Settles O26. -/
theorem thermalCommands : Obligations.ThermalCommands := by
  unfold Obligations.ThermalCommands
  refine ⟨?diode, ?check, ?quiet, ?dram, ?nand, ?status⟩
  case diode =>
    intro t s hc hlo hhi
    have done : exec (.diodeRead t) s = .next (settle (judgeAbs (setInUse { s with thm := { s.thm with
        reads := (t :: s.thm.reads).take 4
        diode := ((t :: s.thm.reads).take 4).sum / (((t :: s.thm.reads).take 4).length : Int) } }))) := by
      change execDiodeRead t s = _
      unfold execDiodeRead
      rw [hc]
      dsimp only
      rw [if_neg (by decide), if_neg (by omega)]
    exact ⟨_, done, rfl, rfl⟩
  case check =>
    intro s hc
    exact ⟨_, congrArg (Host.Outcome.next ∘ settle) (if_neg (by rw [hc]; decide))⟩
  case quiet => exact fun s hc hl hb hlost hp ht => ⟨_, exec_thmCheck_quiet hc hl hb hlost hp ht, rfl⟩
  case dram =>
    intro ch a b s hc hch hp hf
    refine ⟨_, congrArg (Host.Outcome.next ∘ settle) (if_pos (by rw [hc, hp, hf, decide_eq_true hch]; rfl)), ?_⟩
    exact congrArg (fun x : Thm => Sparse.set (fun _ => (-1000 : Int)) x.dram ch (max (BitVec.toInt a) (BitVec.toInt b))) extreme_thm
  case nand =>
    intro ch temp target s hc hch hm hf
    refine ⟨_, congrArg (Host.Outcome.next ∘ settle) (if_pos (by rw [hc, hm, hf, decide_eq_true hch]; rfl)), ?_⟩
    have flagged : ∀ (c : Bool) (v : State), (if c = true then hemFlag v 8 true else v).fst = v.fst := fun c v => by
      split <;> rfl
    rw [flagged, extreme_fst, extreme_fst]
    rfl
  case status =>
    refine fun ld s => ⟨_, rfl, ?_⟩
    simp only [List.length_append, leBytes_length, zeros, List.length_replicate]

end Sys2Proof.Machine

end

section
/-! Firmware update: transfer, reconstruction, activation, handover, trial and the owner lock (R457 to R478). -/

namespace Sys2Proof.Machine

open Bits

variable {s : State} {ld : Nat} {inp : List Byte} {val : Word}

-- delivery by Transfer FW (R463, R464)

/-- A Transfer FW of a fit length by a device that administers. -/
theorem fwOpen_of_admin (ha : isAdmin s ld = true) (he : enabled s Pg.upd = true) (hlo : 128 ≤ inp.length)
    (hhi : inp.length ≤ 2048) {f : State → State} : fwOpen s ld inp f = f s := by
  unfold fwOpen
  rw [if_neg (by omega), if_neg (by rw [ha]; decide), if_pos he]

/-- The state in which a transfer's first block stands in the staging area. -/
def transferBegun (s : State) (data : List Byte) : State :=
  let s := cflErase (cflErase s stageBase stageSize) (slotBase (!s.upd.slot)) ((leAt data 8 4 + 4095) / 4096 * 4096)
  storeBlock { s with upd := { s.upd with st := 1, staged := false, aborted := false, targetLen := leAt data 8 4 } } 0 data

theorem fwStart_of_fit (hs : byteAt inp 1 = inactiveNo s) (hst : s.upd.st = 0 ∨ s.upd.st = 4) (hr : refuseMask s = 0)
    (h0 : pay inp 4 4 = 0) (hlen : 256 ≤ inp.length)
    (hc : leAt (inp.drop 128) 124 4 = (crc32c ((inp.drop 128).take 124)).toNat) (ht : leAt (inp.drop 128) 8 4 ≤ 2 ^ 24)
    (hz : 128 + leAt (inp.drop 128) 12 4 ≤ stageSize) (hm : inp.length % 128 = 0) :
    fwStart s ld inp = (transferBegun s (inp.drop 128), true) := by
  have length : (inp.drop 128).length = inp.length - 128 := List.length_drop
  unfold fwStart
  dsimp only
  rw [if_neg (fun h => h hs), if_neg (by omega), if_neg (by omega), if_neg (fun h => h hr), if_neg (fun h => h h0),
    if_neg (fun h => h.elim (fun short => by omega) fun crc => crc hc), if_neg (by omega), if_neg (by omega)]
  rfl

theorem fwBlock_of_next (ha : s.upd.aborted = false) (h1 : s.upd.st = 1) (hs : byteAt inp 1 = inactiveNo s)
    (ho : 128 * pay inp 4 4 = s.upd.received) (hl : s.upd.lastOff < s.upd.received) (hlen : 128 ≤ inp.length)
    (hz : s.upd.received + (inp.length - 128) ≤ stageSize) (hm : inp.length % 128 = 0) :
    fwBlock s ld inp = (storeBlock s s.upd.received (inp.drop 128), true) := by
  have length : (inp.drop 128).length = inp.length - 128 := List.length_drop
  unfold fwBlock
  dsimp only
  rw [ho, if_neg (Bool.eq_false_iff.1 ha), if_neg (fun h => h h1), if_neg (fun h => h hs), if_neg (by omega),
    if_neg (fun h => h rfl), if_neg (by omega), if_neg (by omega)]

/-- The state after a reconstruction that gave a good image (R465). -/
def reconstructDone (v : State) (ld : Option Nat) : State :=
  updEnd (endBg { v with upd := { v.upd with st := 4, staged := true, result := 0, xferLd := none } } ld rcSuccess [])

/-- The state after a reconstruction that failed with a code (R465). -/
def reconstructFailed (v : State) (ld : Option Nat) (slot : Bool) (code : Nat) : State :=
  let w := slotInvalid v slot
  updEnd (endBg (report { w with upd := { w.upd with st := 0, staged := false, result := code, xferLd := none } } Pg.upd 16 0) ld
    rcFwVerification [])

/-- The state with the rebuilt image programmed into the slot. -/
def imageProgrammed (s : State) : State :=
  cflProgram (cflReadUse s (containerLen s)) (slotBase (!s.upd.slot)) (reconstruct s).2

theorem exec_reconstruction_of_good {ok : Bool} (h3 : s.upd.st = 3) (h0 : (reconstruct s).1 = 0) :
    exec (.reconstruction ok) s = .next (settle
      (if (if ok = true then imgCheck (imageProgrammed s) (!s.upd.slot) else 0x0B) = 0 then
        reconstructDone (imageProgrammed s) s.upd.xferLd
      else reconstructFailed (imageProgrammed s) s.upd.xferLd (!s.upd.slot)
        (if ok = true then imgCheck (imageProgrammed s) (!s.upd.slot) else 0x0B))) := by
  change execReconstruction ok s = _
  unfold execReconstruction udDONE udFLASH_FAIL
  rw [if_pos h3]
  dsimp only
  rw [if_pos h0, if_neg (not_not_intro h0 : ¬(reconstruct s).1 ≠ 0)]
  rfl

theorem exec_reconstruction_of_bad {ok : Bool} (h3 : s.upd.st = 3) (h0 : (reconstruct s).1 ≠ 0) :
    exec (.reconstruction ok) s = .next (settle
      (reconstructFailed (cflReadUse s (containerLen s)) s.upd.xferLd (!s.upd.slot) (reconstruct s).1)) := by
  change execReconstruction ok s = _
  unfold execReconstruction udDONE udFLASH_FAIL
  rw [if_pos h3]
  dsimp only
  rw [if_neg h0, if_pos h0, if_neg h0]
  rfl

theorem activateOpen_of_staged (hl : inp.length = 2) (he : enabled s Pg.upd = true) (h4 : s.upd.st = 4)
    (hs : s.upd.staged = true) (hi : byteAt inp 1 = inactiveNo s) (hr : refuseMask s = 0) {f : State → State} :
    activateOpen s ld inp f = f s := by
  unfold activateOpen
  rw [if_neg (fun h => h hl), if_neg (by rw [he]; decide), if_neg (by simp [h4, hs, hi]), if_neg (fun h => h hr)]

/-- Settles O29. -/
theorem transferCommands : Obligations.TransferCommands := by
  unfold Obligations.TransferCommands
  refine ⟨?initiate, ?full, ?next, ?finish, ?abort, ?timeout, ?rebuilt, ?notRebuilt, ?online, ?cold, ?coldReset⟩
  case initiate =>
    intro ld inp s ha he hlo hhi hs hst hr h0 hc ht hz hm
    have done : exec (.transferFwInitiate ld inp) s = .next (settle (replyOk (transferBegun s (inp.drop 128)) ld [])) := by
      refine congrArg (Host.Outcome.next ∘ settle) ((fwOpen_of_admin ha he (by omega) hhi).trans ?_)
      rw [fwStart_of_fit hs hst hr h0 hlo hc ht hz hm]
      rfl
    exact ⟨_, done, rfl, rfl, (Nat.zero_add _).trans List.length_drop, rfl⟩
  case full =>
    intro ld inp s u ha he hlo hhi hs hr
    refine congrArg (Host.Outcome.next ∘ settle) ((fwOpen_of_admin ha he (by omega) hhi).trans ?_)
    rw [hs]
    exact if_neg (not_not_intro hr)
  case next =>
    intro ld inp s ha he hlo hhi hab h1 hs ho hl hz hm
    refine congrArg (Host.Outcome.next ∘ settle) ((fwOpen_of_admin ha he hlo hhi).trans ?_)
    rw [fwBlock_of_next hab h1 hs ho hl hlo hz hm]
    rfl
  case finish =>
    intro ld inp s ha he hl hab h1 hr
    refine congrArg (Host.Outcome.next ∘ settle) ((fwOpen_of_admin ha he (by omega) (by omega)).trans ?_)
    rw [if_pos hl, if_neg (Bool.eq_false_iff.1 hab), if_pos h1]
    exact if_neg (not_not_intro hr)
  case abort => exact fun ld inp s ha he hlo hhi => congrArg (Host.Outcome.next ∘ settle) (fwOpen_of_admin ha he hlo hhi)
  case timeout => exact fun s h1 => congrArg (Host.Outcome.next ∘ settle) (if_pos h1)
  case rebuilt =>
    intro s h3
    by_cases h0 : (reconstruct s).1 = 0
    · have done := exec_reconstruction_of_good (ok := true) h3 h0
      rw [if_pos (rfl : true = true)] at done
      refine ⟨_, imgCheck (imageProgrammed s) (!s.upd.slot), _, rfl, (if_pos h0).symm, done, ?_, ?_⟩
      · exact fun good => if_pos good
      · exact fun bad => ⟨_, _, rfl, if_neg bad⟩
    · exact ⟨_, _, _, rfl, (if_neg h0).symm, exec_reconstruction_of_bad h3 h0, fun good => absurd good h0,
        fun _ => ⟨_, _, rfl, rfl⟩⟩
  case notRebuilt =>
    intro s h3
    by_cases h0 : (reconstruct s).1 = 0
    · refine ⟨imageProgrammed s, _, rfl, ?_⟩
      rw [if_pos h0]
      exact exec_reconstruction_of_good h3 h0
    · refine ⟨cflReadUse s (containerLen s), _, rfl, ?_⟩
      rw [if_neg h0]
      exact exec_reconstruction_of_bad h3 h0
  case online =>
    exact fun ld inp s hl he h4 hs hi hr => congrArg (Host.Outcome.next ∘ settle) (activateOpen_of_staged hl he h4 hs hi hr)
  case cold =>
    intro ld inp s hl he h4 hs hi hr hf
    exact congrArg (Host.Outcome.next ∘ settle) ((activateOpen_of_staged hl he h4 hs hi hr).trans (if_neg (by omega)))
  case coldReset =>
    intro ld inp s hl he h4 hs hi hr hf
    exact congrArg (Host.Outcome.next ∘ settle) ((activateOpen_of_staged hl he h4 hs hi hr).trans (if_pos hf))

-- handover, trial and fall-back (R466 to R477)

theorem updOpen_of_admin {n : Nat} (hl : inp.length = n) (ha : isAdmin s ld = true) {f : State → State} :
    updOpen s ld n inp f = f s := by
  unfold updOpen
  rw [if_neg fun h => h hl, if_pos ha]

/-- The newest entry of the boot record. -/
theorem bootEnt_appendBoot {f : BootEnt → BootEnt} : bootEnt (appendBoot s f) = f { bootEnt s with
    seq := (bootEnt s).seq + 1
    restarts := s.upd.restarts
    ownerLock := s.upd.ownerLock
    unconverted := s.upd.unconverted
    trialSecs := s.upd.trialSecs
    secs := seconds s
    lockCheck := s.upd.lockCheck } := by
  unfold appendBoot programBoot
  dsimp only
  generalize f _ = e
  split <;> split <;> rfl

end Sys2Proof.Machine

end

section
/-! Firmware update: the handover, the trial, fall-back and the owner lock (R457 to R478). -/

namespace Sys2Proof.Machine

open Bits

variable {s : State} {ld : Nat} {inp : List Byte} {val : Word}

theorem cflErase_upd {a n : Nat} : (cflErase s a n).upd = s.upd := rfl

theorem cflErase_regs {a n : Nat} : (cflErase s a n).regs = s.regs := rfl

theorem cflProgram_upd {a : Nat} {bs : List Byte} : (cflProgram s a bs).upd = s.upd := rfl

theorem cflProgram_regs {a : Nat} {bs : List Byte} : (cflProgram s a bs).regs = s.regs := rfl

theorem programBoot_upd {e : BootEnt} : (programBoot s e).upd = s.upd := by
  unfold programBoot
  rw [cflProgram_upd]
  split
  · rw [cflErase_upd]
  · rfl

theorem programBoot_regs {e : BootEnt} : (programBoot s e).regs = s.regs := by
  unfold programBoot
  rw [cflProgram_regs]
  split
  · rw [cflErase_regs]
  · rfl

/-- The programmed entry of the boot record changes the code flash alone. -/
theorem appendBoot_upd {f : BootEnt → BootEnt} : (appendBoot s f).upd =
    { s.upd with boot := f { bootEnt s with
        seq := (bootEnt s).seq + 1
        restarts := s.upd.restarts
        ownerLock := s.upd.ownerLock
        unconverted := s.upd.unconverted
        trialSecs := s.upd.trialSecs
        secs := seconds s
        lockCheck := s.upd.lockCheck } :: if s.upd.boot.length < 1024 then s.upd.boot else s.upd.boot.take 960 } :=
  programBoot_upd

theorem appendBoot_regs {f : BootEnt → BootEnt} : (appendBoot s f).regs = s.regs := programBoot_regs

-- the command register (R466, R478)

theorem updCmdWrite_of_enabled (he : enabled s Pg.upd = true) (hk : fld val 16 16 = 0x5550) : updCmdWrite s val =
    (let s := if bit val 0 then beginHandover s else s
    let s := if bit val 1 && s.upd.st == 6 && !s.upd.unconverted then confirmTrial s else s
    let s := if bit val 2 || bit val 3 then failTrial s else s
    if bit val 4 then abandonTransfer s else s) := by
  unfold updCmdWrite
  rw [if_neg (by rw [he]; exact fun h => Bool.false_ne_true h.2.symm), if_pos hk]

/-- The state in which the new slot is to start (R466). -/
def handoverBegun (s : State) : State :=
  appendBoot { s with upd := { s.upd with
    actPending := false
    st := 5
    slot := !s.upd.slot
    handoverAt := now s
    oldArea := areaOf s s.upd.slot } } fun e => { e with slot := !s.upd.slot, trial := 2 }

theorem beginHandover_of_pending (ha : s.upd.actPending = true) (h4 : s.upd.st = 4) (hr : refuseMask s = 0) : beginHandover s =
    restartPair (wr (handoverBegun s) Reg.sysBoot (wd (!s.upd.slot).toNat)) 4 (imgEntry (handoverBegun s) (!s.upd.slot)) := by
  have free : refuseMask { s with upd := { s.upd with actPending := false } } = 0 := hr
  unfold beginHandover
  dsimp only
  rw [if_pos ⟨ha, h4⟩, if_neg (not_not_intro free)]
  rfl

/-- The state after a handover that the new slot did not take (R470). -/
def handoverBack (s : State) : State :=
  appendBoot { s with upd := { s.upd with st := 4, slot := !s.upd.slot, result := 0x0C, actLd := none } } fun e =>
    { e with slot := !s.upd.slot, trial := 0 }

theorem handoverFail_of_begun (h5 : s.upd.st = 5) : handoverFail s = updEnd (endBg (report (restartPair
    (wr (handoverBack s) Reg.sysBoot (wd (!s.upd.slot).toNat)) 4 (imgEntry (handoverBack s) (!s.upd.slot))) Pg.upd 17 0)
    s.upd.actLd rcFwRolledBack []) :=
  if_pos h5

/-- An owner's lock command of a fit length (R476). -/
theorem mbSetOwnerLock_eq (hl : inp.length = 36) (ha : isAdmin s ld = true) : mbSetOwnerLock ld inp s =
    (let check := (Config.sha384 (inp.drop 4)).take 32
    if byteAt inp 0 = 1 then
      if s.upd.ownerLock then replyCode s ld udREFUSED
      else replyCode (appendBoot { s with upd := { s.upd with ownerLock := true, lockCheck := check } } id) ld udDONE
    else if byteAt inp 0 = 0 then
      if s.upd.ownerLock then
        if check = s.upd.lockCheck then
          replyCode (appendBoot { s with upd := { s.upd with ownerLock := false, lockCheck := [] } } id) ld udDONE
        else replyCode s ld udBAD_SECRET
      else replyCode s ld udDONE
    else replyBad s ld) :=
  updOpen_of_admin hl ha

/-- Settles O30. -/
theorem trialCommands : Obligations.TrialCommands := by
  unfold Obligations.TrialCommands
  refine ⟨?activate, ?ack, ?ackBad, ?timeout, ?expiryConfirms, ?expiryFails, ?confirm, ?fallBack, ?deferred, ?lock, ?unlock,
    ?status, ?info, ?cmdConfirm, ?cmdFallBack, ?cmdFail, ?cmdAbort, ?retire⟩
  case activate =>
    intro s he ha h4 hr
    have done : exec (.updActivate 0x55500001#32) s = .next (settle (restartPair
        (wr (handoverBegun s) Reg.sysBoot (wd (!s.upd.slot).toNat)) 4 (imgEntry (handoverBegun s) (!s.upd.slot)))) :=
      congrArg (Host.Outcome.next ∘ settle) ((updCmdWrite_of_enabled he rfl).trans (beginHandover_of_pending ha h4 hr))
    refine ⟨_, done, ?_, ?_, ?_, ?_, appendBoot_regs⟩
    · exact congrArg Upd.st appendBoot_upd
    · exact congrArg Upd.slot appendBoot_upd
    · exact congrArg Upd.actPending appendBoot_upd
    · exact congrArg BootEnt.trial bootEnt_appendBoot
  case ack =>
    rintro converted recs s t h5 hok rfl
    exact ⟨_, congrArg (Host.Outcome.next ∘ settle) ((if_pos ⟨h5, rfl, rfl⟩).trans (if_pos hok)), rfl⟩
  case ackBad =>
    intro converted recs s h5 hok
    exact congrArg (Host.Outcome.next ∘ settle) ((if_pos ⟨h5, rfl, rfl⟩).trans (if_neg (Bool.eq_false_iff.1 hok)))
  case timeout =>
    intro s h5
    refine ⟨_, congrArg (Host.Outcome.next ∘ settle) (handoverFail_of_begun h5), ?_, ?_, ?_, ?_⟩
    · exact congrArg Upd.st appendBoot_upd
    · exact congrArg Upd.slot appendBoot_upd
    · exact congrArg Upd.result appendBoot_upd
    · exact congrArg BootEnt.trial bootEnt_appendBoot
  case expiryConfirms =>
    exact fun s h6 hc hu => congrArg (Host.Outcome.next ∘ settle) ((if_pos h6).trans (if_pos (by rw [hc, hu]; rfl)))
  case expiryFails =>
    exact fun s h6 hc => congrArg (Host.Outcome.next ∘ settle) ((if_pos h6).trans
      (if_neg (by rw [hc]; exact Bool.false_ne_true)))
  case confirm =>
    intro ld s ha h6 hu
    refine congrArg (Host.Outcome.next ∘ settle) ((updOpen_of_admin (inp := []) rfl ha).trans ?_)
    rw [if_neg (not_not_intro h6), if_neg (Bool.eq_false_iff.1 hu)]
    rfl
  case fallBack =>
    intro ld s ha h
    refine congrArg (Host.Outcome.next ∘ settle) ((updOpen_of_admin (inp := []) rfl ha).trans ?_)
    rw [if_pos h]
    rfl
  case deferred => exact fun s hd hw => congrArg (Host.Outcome.next ∘ settle) (if_pos ⟨hd, hw⟩)
  case lock =>
    intro ld inp s hl ha h1 ho
    have done : mbSetOwnerLock ld inp s = replyCode (appendBoot { s with upd := { s.upd with
        ownerLock := true, lockCheck := (Config.sha384 (inp.drop 4)).take 32 } } id) ld 0 :=
      (mbSetOwnerLock_eq hl ha).trans ((if_pos h1).trans (if_neg (Bool.eq_false_iff.1 ho)))
    refine ⟨_, congrArg (Host.Outcome.next ∘ settle) done, ?_, ?_, ?_⟩
    · exact congrArg Upd.ownerLock appendBoot_upd
    · exact congrArg Upd.lockCheck appendBoot_upd
    · exact congrArg BootEnt.ownerLock bootEnt_appendBoot
  case unlock =>
    intro ld inp s hl ha h0 ho hsecret
    have done : mbSetOwnerLock ld inp s = replyCode (appendBoot { s with upd := { s.upd with
        ownerLock := false, lockCheck := [] } } id) ld 0 :=
      (mbSetOwnerLock_eq hl ha).trans ((if_neg (by omega)).trans ((if_pos h0).trans ((if_pos ho).trans (if_pos hsecret))))
    exact ⟨_, congrArg (Host.Outcome.next ∘ settle) done, congrArg Upd.ownerLock appendBoot_upd⟩
  case status =>
    refine fun ld s => ⟨_, rfl, ?_, rfl⟩
    simp only [List.length_append, leBytes_length]
  case info => exact fun ld s => ⟨_, rfl, rfl⟩
  case cmdConfirm =>
    intro s he h6 hu
    have armed : (true && s.upd.st == 6 && !s.upd.unconverted) = true := by rw [h6, hu]; rfl
    refine congrArg (Host.Outcome.next ∘ settle) ((updCmdWrite_of_enabled he rfl).trans ?_)
    change (if (true && s.upd.st == 6 && !s.upd.unconverted) = true then confirmTrial s else s) = _
    exact if_pos armed
  case cmdFallBack => exact fun s he h6 => congrArg (Host.Outcome.next ∘ settle) (updCmdWrite_of_enabled he rfl)
  case cmdFail => exact fun s he h6 => congrArg (Host.Outcome.next ∘ settle) (updCmdWrite_of_enabled he rfl)
  case cmdAbort =>
    intro s he hlo hhi
    refine ⟨_, rfl, congrArg (Host.Outcome.next ∘ settle) ((updCmdWrite_of_enabled he rfl).trans ?_)⟩
    change abandonTransfer s = _
    exact if_pos ⟨hlo, hhi⟩
  case retire => exact fun val s hk => congrArg (Host.Outcome.next ∘ settle) (if_neg (Bool.eq_false_iff.1 hk))

end Sys2Proof.Machine

end

section
/-! The host's transactions on sideband bus SB0 (R483 to R490, R500, R501). -/

namespace Sys2Proof.Machine

open Bits

variable {s : State} {data a : Nat}

theorem sb0Read_of_ready (hr : sb0Ready s = true) {f : State → List Byte} : sb0Read s f = sb0Ack s (f s) := if_pos hr

theorem sb0Ack_wf (hw : s.memWf = true) {d : List Byte} : (sb0Ack s d).memWf = true := (wr_keeps (Keeps.refl s)).mem hw

theorem rd_sb0Ack (ha : a ≠ Reg.sb0Xacts) {d : List Byte} : rd (sb0Ack s d) a = rd s a := rd_wr_ne ha

/-- A window write of a fit offset (R486). -/
theorem exec_sb0SetWindow (hr : sb0Ready s = true) (h4 : data % 4 = 0) (hd : data ≤ 0xFE0) {pec : Pec} :
    exec (.sb0SetWindow data pec) s = .next (settle (sb0Write s pec fun s => wr s Reg.sb0Window (wd data))) :=
  congrArg (Host.Outcome.next ∘ settle) ((if_neg (by rw [hr]; decide)).trans (if_neg (by omega)))

theorem sb0Write_good {act : State → State} : sb0Write s .good act = act (sb0Ack s []) :=
  if_neg fun h => h.elim Pec.noConfusion fun h => Pec.noConfusion h.1

theorem sb0Write_bad {act : State → State} : sb0Write s .bad act = sb0Error (sb0Ack s []) 0 := if_pos (.inl rfl)

theorem hasErr_sb0Error (hw : s.memWf = true) {k : Nat} (hk : k < 3) : hasErr (sb0Error s k) Pg.sb0 (16 + k) = true :=
  hasErr_report ((wr_keeps (Keeps.refl s)).mem hw) (by omega)

theorem rd_sb0Error_window {k : Nat} : rd (sb0Error s k) Reg.sb0Window = rd s Reg.sb0Window :=
  (rd_report (by decide) (by decide) (.inr (by decide))).trans (rd_wr_ne (by decide))

theorem exec_sb0ProtocolError (hr : sb0Ready s = true) : exec .sb0ProtocolError s = .next (settle (sb0Error (sb0Nack s) 1)) :=
  congrArg (Host.Outcome.next ∘ settle) (if_pos hr)

theorem exec_sb0Timeout (hr : sb0Ready s = true) : exec .sb0Timeout s = .next (settle (sb0Error (sb0Nack s) 2)) :=
  congrArg (Host.Outcome.next ∘ settle) (if_pos hr)

/-- Settles O31. -/
theorem hostSidebandCommands : Obligations.HostSidebandCommands := by
  unfold Obligations.HostSidebandCommands
  refine ⟨?reads, ?window, ?windowBad, ?powerOff, fun code s => rfl, ?done, ?protocol, ?timeout, ?wake⟩
  case reads =>
    intro s hr
    have read : ∀ f : State → List Byte, Host.Outcome.next (sb0Read s f) = (.next (sb0Ack s (f s)) : Out) := fun f =>
      congrArg Host.Outcome.next (sb0Read_of_ready hr)
    exact ⟨read _, read _, read _, read _, read _, read _, read _, congrArg Host.Outcome.next (if_pos hr)⟩
  case window =>
    intro data s hr h4 hd
    rw [exec_sb0SetWindow hr h4 hd, sb0Write_good]
  case windowBad =>
    intro data s hr h4 hd hw
    have done := exec_sb0SetWindow (pec := .bad) hr h4 hd
    rw [sb0Write_bad] at done
    exact ⟨_, done, hasErr_sb0Error (sb0Ack_wf hw) (by decide), rd_sb0Error_window.trans (rd_sb0Ack (by decide))⟩
  case powerOff =>
    intro s hr hc hb
    have done : exec (.sb0PowerOff 0x5053 .good) s = .next (settle (icu { wr (sb0Ack s []) Reg.sb0CmdIn 0x80505320#32 with
        sb := { (sb0Ack s []).sb with result := 1 } } 400)) := by
      change execSb0PowerOff 0x5053 .good s = _
      unfold execSb0PowerOff
      rw [hr, hc, hb, if_neg (by decide), if_neg (by decide), sb0Write_good]
      rfl
    exact ⟨_, done, rfl, rfl⟩
  case done =>
    intro val s hb hv
    exact congrArg (Host.Outcome.next ∘ settle) ((if_neg (by omega)).trans (if_pos hb))
  case protocol => exact fun s hr hw => ⟨_, rfl, exec_sb0ProtocolError hr, hasErr_sb0Error (s := sb0Nack s) (k := 1) hw (by decide)⟩
  case timeout => exact fun s hr hw => ⟨_, rfl, exec_sb0Timeout hr, hasErr_sb0Error (s := sb0Nack s) (k := 2) hw (by decide)⟩
  case wake =>
    intro s hc hin hv ho hs hh hm
    have rested : (icu { s with psq := { s.psq with softOff := false } } 404).psq.minOff = true :=
      (congrArg Psq.minOff (icu_bare (s := { s with psq := { s.psq with softOff := false } }) (n := 404)) : _).trans hm
    refine congrArg (Host.Outcome.next ∘ settle) ((if_neg (by rw [hc]; decide)).trans ((if_pos ?_).trans (if_pos rested)))
    rw [hin, hv, ho, hs, hh]
    rfl

end Sys2Proof.Machine

end

section
/-! The controller's transactions on sideband bus SB1 (R491 to R497). -/

namespace Sys2Proof.Machine

open Bits

variable {s : State} {val : Word} {phase : Byte}

theorem sb1Poll_of (hr : sb1Ready s = true) (hh : hemBusy s = false) : sb1Poll s = true := by
  unfold sb1Poll
  rw [hr, hh]
  rfl

theorem chargerAnswer_of_fine (hp : phase.toNat < 128) (h3 : phase.toNat % 4 ≠ 3) : chargerAnswer s phase =
    recomputeBudget (judgeEnergy { s with bat := { s.bat with
      misses := 0, chargerOk := true, chgFault := false, phase := phase.toNat % 4 } }) := by
  have fine : decide (128 ≤ phase.toNat) = false := decide_eq_false (Nat.not_le.2 hp)
  unfold chargerAnswer
  dsimp only
  rw [fine, if_neg Bool.false_ne_true, if_neg fun h : phase.toNat % 4 = 3 ∧ s.bat.chgEn = true => h3 h.1]

theorem chargerMiss_third (h2 : s.bat.misses = 2) : chargerMiss s =
    report (chargerGone (icu { s with bat := { s.bat with misses := 3 } } 417)) Pg.bat 21 0 := by
  unfold chargerMiss
  dsimp only
  rw [h2]
  exact if_pos rfl

/-- A transfer that the bus takes (R493). -/
theorem sb1Go_of_free (hn : fld val 16 6 ≤ 32) (h31 : bit val 31 = true) (hb : s.sb.busy = false)
    (hf : isFenced s Pg.sb1 0 = false) (hh : hemBusy s = false) (he : enabled s Pg.sb1 = true) : sb1Go s val =
      wr { wr s Reg.sb1Xfer (val &&& 0x013FFFFF#32) with sb := { s.sb with busy := true, retries := 0, waitFree := false } }
        Reg.sb1XferStatus 1#32 := by
  have fenced : isFenced (wr s Reg.sb1Xfer (val &&& 0x013FFFFF#32)) Pg.sb1 0 = false := hf
  have busy : hemBusy (wr s Reg.sb1Xfer (val &&& 0x013FFFFF#32)) = false := hh
  have on : enabled (wr s Reg.sb1Xfer (val &&& 0x013FFFFF#32)) Pg.sb1 = true := (enabled_wr (by decide)).trans he
  unfold sb1Go
  rw [if_neg (by omega), h31, if_neg (by decide), hb, if_neg (by decide)]
  dsimp only
  rw [fenced, if_neg (by decide), busy, on, if_neg (by decide)]
  rfl

/-- The end of a transfer that the bus holds (R494). -/
theorem exec_sb1XferDone {e : BusEnd} {done : Nat} {data : List Byte} (hb : s.sb.busy = true) (hw : s.sb.waitFree = false)
    (hr : s.sb.recovering = false) : exec (.sb1XferDone e done data) s = .next (settle
      (if e = .arbLost ∧ s.sb.retries < rf s Reg.sb1Cfg 2 3 then
        { s with sb := { s.sb with waitFree := true, retries := s.sb.retries + 1 } }
      else
        let s := busEnd s e
        let s := if e = .ok ∧ rb s Reg.sb1Xfer 7 = true then fillBuf s data else s
        let code := match e with
          | .ok => 0
          | .nack => 1
          | .arbLost => 2
          | .arbLostCtl => 3
          | .pecBad => 4
          | .timeout => 5
        xferEnd s code (min 32 done))) :=
  congrArg (Host.Outcome.next ∘ settle) (if_neg (by rw [hb, hw, hr]; decide))

/-- Settles O32. -/
theorem controllerSidebandCommands : Obligations.ControllerSidebandCommands := by
  unfold Obligations.ControllerSidebandCommands
  refine ⟨?holdup, ?current, ?voltage, ?phase, ?miss, ?pmic, ?known, ?changed, ?go, ?done, ?arb, fun s => rfl, ?stuck, ?still, ?freed⟩
  case holdup => exact fun status s hr h0 => congrArg (Host.Outcome.next ∘ settle) ((if_pos hr).trans (if_pos ⟨rfl, h0⟩))
  case current =>
    exact fun back s hr hh hs => congrArg (Host.Outcome.next ∘ settle)
      ((if_pos (by rw [sb1Poll_of hr hh, hs]; rfl)).trans (if_pos ⟨.inl rfl, hs⟩))
  case voltage =>
    exact fun back s hr hh hs => congrArg (Host.Outcome.next ∘ settle)
      ((if_pos (by rw [sb1Poll_of hr hh, hs]; rfl)).trans (if_pos ⟨.inl rfl, hs⟩))
  case phase =>
    exact fun phase s hr hh hp h3 => congrArg (Host.Outcome.next ∘ settle)
      ((if_pos (sb1Poll_of hr hh)).trans (chargerAnswer_of_fine hp h3))
  case miss =>
    exact fun phase s hr hh h2 => congrArg (Host.Outcome.next ∘ settle) ((if_pos (sb1Poll_of hr hh)).trans (chargerMiss_third h2))
  case pmic =>
    exact fun k s hr hh hk ht => congrArg (Host.Outcome.next ∘ settle)
      ((if_pos (by rw [sb1Poll_of hr hh, decide_eq_true hk, ht]; rfl)).trans (if_pos ⟨rfl, rfl⟩))
  case known =>
    exact fun s hr hh => congrArg (Host.Outcome.next ∘ settle) ((if_pos (sb1Poll_of hr hh)).trans ((if_pos rfl).trans (if_pos rfl)))
  case changed =>
    exact fun serial s hr hh hs => congrArg (Host.Outcome.next ∘ settle)
      ((if_pos (sb1Poll_of hr hh)).trans ((if_pos rfl).trans (if_neg hs)))
  case go =>
    intro val s hn h31 hb hf hh he
    exact ⟨_, congrArg (Host.Outcome.next ∘ settle) (sb1Go_of_free hn h31 hb hf hh he), rfl, rfl⟩
  case done =>
    intro done data s hb hw hr hx
    have write : ¬ (BusEnd.ok = .ok ∧ rb s Reg.sb1Xfer 7 = true) := fun h => Bool.false_ne_true (hx.symm.trans h.2)
    rw [exec_sb1XferDone hb hw hr, if_neg fun h => BusEnd.noConfusion h.1]
    exact congrArg (Host.Outcome.next ∘ settle) (congrArg (xferEnd · 0 (min 32 done)) (if_neg write))
  case arb =>
    intro done data s hb hw hr hn
    rw [exec_sb1XferDone hb hw hr, if_pos ⟨rfl, hn⟩]
  case stuck => exact fun s hr => congrArg (Host.Outcome.next ∘ settle) (if_pos hr)
  case still =>
    intro s hr hw
    have done : exec (.sb1StuckRecoveryCheck false) s = .next (settle (report
        { s with sb := { s.sb with recovering := false, sda := false } } Pg.sb1 19 0)) :=
      congrArg (Host.Outcome.next ∘ settle) ((if_pos hr).trans (if_neg Bool.false_ne_true))
    exact ⟨_, done, hasErr_report hw (by decide)⟩
  case freed =>
    exact fun s hr => congrArg (Host.Outcome.next ∘ settle) ((if_pos hr).trans (if_pos rfl))

end Sys2Proof.Machine

end

section
/-! The window and group tables and their mailbox commands (R183 to R190, R197, R202, R203). -/

namespace Sys2Proof.Machine

open Bits

variable {s : State} {ld w g off : Nat} {inp : List Byte} {val : Word} {d e o : WinEntry}

-- windows (R183, R189)

/-- A window's entry with one of its words written. -/
def WinEntry.setWord (o : WinEntry) (k : Nat) (val : Word) : WinEntry :=
  match k with
  | 0 => { o with ctl := val }
  | 1 => { o with ldBase := val.toNat }
  | 2 => { o with size := val.toNat }
  | 3 => { o with dramBase := val.toNat }
  | _ => { o with groupBase := val.toNat }

/-- The write of one of the five words of an entry is the write of the entry. -/
theorem exec_windowEntryWrite (ho : off < 131072) (hk : off % 32 < 20) : exec (.windowEntryWrite off val) s =
    .next (settle (writeWin s (off / 32) ((winEntry s (off / 32)).setWord (off % 32 / 4) val) true).1) := by
  have word : off % 32 / 4 = 0 ∨ off % 32 / 4 = 1 ∨ off % 32 / 4 = 2 ∨ off % 32 / 4 = 3 ∨ off % 32 / 4 = 4 := by omega
  change execWindowEntryWrite off val s = _
  unfold execWindowEntryWrite
  dsimp only
  rw [if_neg (by omega)]
  rcases word with h | h | h | h | h <;> rw [h] <;> rfl

/-- A write that passes its checks is stored (R189). -/
theorem writeWin_stored {admin : Bool} (he : e = kept d) (hc : winWriteCode s w e admin = 0) :
    writeWin s w d admin = (noteReasons
      (if (e.valid && (!bit (winEntry s w).ctl 0 || (winEntry s w).group != e.group) &&
          grpEnabled (refreshGroup (refreshGroup (storeWin s w e) (winEntry s w).group) e.group) e.group) = true
        then zeroWindow (refreshGroup (refreshGroup (storeWin s w e) (winEntry s w).group) e.group) w
        else refreshGroup (refreshGroup (storeWin s w e) (winEntry s w).group) e.group), 0) := by
  subst he
  exact if_pos hc

theorem writeWin_refused_of_kept {admin : Bool} {c : Nat} (he : e = kept d) (hc : winWriteCode s w e admin = c) (h0 : c ≠ 0) :
    writeWin s w d admin = (winRefuse s c w false, c) :=
  writeWin_refused (he ▸ hc) h0

theorem mbSetWindow_of_fit (hl : inp.length = 24) (hw : pay inp 0 2 < 4096) : mbSetWindow ld inp s =
    replyCode (writeWin s (pay inp 0 2)
      { ctl := wd (pay inp 4 4), ldBase := pay inp 8 4, size := pay inp 12 4, dramBase := pay inp 16 4, groupBase := pay inp 20 4 }
      (isAdmin s ld)).1 ld (writeWin s (pay inp 0 2)
      { ctl := wd (pay inp 4 4), ldBase := pay inp 8 4, size := pay inp 12 4, dramBase := pay inp 16 4, groupBase := pay inp 20 4 }
      (isAdmin s ld)).2 :=
  if_neg (by omega)

-- groups (R190)

/-- The control word of a group is stored with the words written beside it (R190). -/
theorem writeGrp_stored {ws : List (Nat × Word)} {v : Word} (hv : (ws.find? fun e => e.1 == 0) = some (0, v))
    (hb : fld v 16 16 ≤ 4096) (hon : bit (grpWord s g 0) 0 = true → bit v 0 = true) {t u : State}
    (ht : t = setGrpWord (forEach (ws.filter fun e => decide (2 ≤ e.1 ∧ e.1 < 8)) s fun s e => setGrpWord s g e.1 e.2) g 0
      (v &&& 0xFFFF0001#32)) (hu : u = { t with hl := { t.hl with parity := t.hl.parity.filter (· != 4096 + g) } }) :
    writeGrp s g ws = (pace (budgetBelow (noteReasons
      (if (bit v 0 && !bit (grpWord s g 0) 0) = true then enableGroup u g else u)) g (grpBudget s g)) g, 0) := by
  subst ht hu
  have kept : (bit (grpWord s g 0) 0 && !bit v 0) = false := by
    cases h : bit (grpWord s g 0) 0
    · rfl
    · rw [hon h]
      rfl
  unfold writeGrp
  rw [hv]
  dsimp only
  rw [if_neg (by omega), kept, if_neg Bool.false_ne_true]

theorem writeGrp_overBudget {ws : List (Nat × Word)} {v : Word} (hv : (ws.find? fun e => e.1 == 0) = some (0, v))
    (hb : 4096 < fld v 16 16) : writeGrp s g ws = (winRefuse s 1 g true, 1) := by
  unfold writeGrp
  rw [hv]
  exact if_pos hb

/-- An enabled group stays enabled. -/
theorem writeGrp_disabling {ws : List (Nat × Word)} {v : Word} (hv : (ws.find? fun e => e.1 == 0) = some (0, v))
    (hb : fld v 16 16 ≤ 4096) (hon : bit (grpWord s g 0) 0 = true) (hoff : bit v 0 = false) :
    writeGrp s g ws = (winRefuse s 10 g true, 10) := by
  unfold writeGrp
  rw [hv]
  exact (if_neg (by omega)).trans (if_pos (by rw [hon, hoff]; rfl))

theorem exec_groupEntryWrite (ho : off < 16384) :
    exec (.groupEntryWrite off val) s = .next (settle (writeGrp s (off / 64) [(off % 64 / 4, val)]).1) :=
  congrArg (Host.Outcome.next ∘ settle) (if_neg (by omega))

/-- The write of a group's control word alone. -/
theorem exec_groupControlWrite (ho : off < 16384) (hk : off % 64 < 4) :
    exec (.groupEntryWrite off val) s = .next (settle (writeGrp s (off / 64) [(0, val)]).1) := by
  rw [exec_groupEntryWrite ho, show off % 64 / 4 = 0 by omega]

theorem find_setGroupConfig : (((List.range 16).map fun i => (i, wd (pay inp (4 + 4 * i) 4))).find? fun e => e.1 == 0) =
    some (0, wd (pay inp 4 4)) := rfl

theorem filter_setGroupConfig : (((List.range 16).map fun i => (i, wd (pay inp (4 + 4 * i) 4))).filter fun e =>
    decide (2 ≤ e.1 ∧ e.1 < 8)) = [2, 3, 4, 5, 6, 7].map fun i => (i, wd (pay inp (4 + 4 * i) 4)) := rfl

/-- Settles O33. -/
theorem tableCommands : Obligations.TableCommands := by
  unfold Obligations.TableCommands
  refine ⟨?winWrite, ?winRefused, ?winReserved, ?grpWrite, ?grpBudget, ?grpOff, ?grpWord, ?getWindow, ?setWindow, ?setRefused,
    ?getGroup, ?setGroup, ?setGroupRefused, ?pacing, ?counters⟩
  case winWrite =>
    rintro off val w d e t s ho hk rfl hd he hc rfl
    have word : d = (winEntry s (off / 32)).setWord (off % 32 / 4) val := hd
    rw [exec_windowEntryWrite ho hk, ← word, writeWin_stored he hc]
  case winRefused =>
    rintro off val w d e c s ho hk rfl hd he hc h0
    have word : d = (winEntry s (off / 32)).setWord (off % 32 / 4) val := hd
    rw [exec_windowEntryWrite ho hk, ← word, writeWin_refused_of_kept he hc h0]
  case winReserved =>
    intro off val s ho hk
    have word : off % 32 / 4 = 5 ∨ off % 32 / 4 = 6 ∨ off % 32 / 4 = 7 := by omega
    refine congrArg (Host.Outcome.next ∘ settle) ((if_neg (by omega)).trans ?_)
    rcases word with h | h | h <;> rw [h] <;> rfl
  case grpWrite =>
    intro off val t s ho hk hb hon ht
    refine ⟨_, rfl, ?_⟩
    rw [exec_groupControlWrite ho hk, writeGrp_stored rfl hb hon ht rfl]
  case grpBudget =>
    intro off val s ho hk hb
    rw [exec_groupControlWrite ho hk, writeGrp_overBudget rfl hb]
  case grpOff =>
    intro off val s ho hk hb hon hoff
    rw [exec_groupControlWrite ho hk, writeGrp_disabling rfl hb hon hoff]
  case grpWord =>
    intro off val s ho hlo hhi
    have word : off % 64 / 4 = 2 ∨ off % 64 / 4 = 3 ∨ off % 64 / 4 = 4 ∨ off % 64 / 4 = 5 ∨ off % 64 / 4 = 6 ∨
      off % 64 / 4 = 7 := by omega
    rw [exec_groupEntryWrite ho]
    rcases word with h | h | h | h | h | h <;> rw [h] <;> rfl
  case getWindow =>
    intro ld inp s hl hw hv hld
    refine congrArg Host.Outcome.next ((if_neg (by omega)).trans (if_pos ?_))
    rw [hv, hld, Bool.true_and, beq_self_eq_true]
  case setWindow =>
    rintro ld inp w e t s hl rfl hw he hc rfl
    refine congrArg (Host.Outcome.next ∘ settle) ((mbSetWindow_of_fit hl hw).trans ?_)
    rw [writeWin_stored he hc]
  case setRefused =>
    rintro ld inp w e c s hl rfl hw he hc h0
    refine congrArg (Host.Outcome.next ∘ settle) ((mbSetWindow_of_fit hl hw).trans ?_)
    rw [writeWin_refused_of_kept he hc h0]
  case getGroup =>
    exact fun ld inp s hl hsee => congrArg Host.Outcome.next ((if_neg (not_not_intro hl)).trans (if_pos hsee))
  case setGroup =>
    intro ld inp t s hl ha hb hon ht
    refine ⟨_, rfl, congrArg (Host.Outcome.next ∘ settle) ((if_neg (not_not_intro hl)).trans ((if_pos ha).trans ?_))⟩
    dsimp only
    rw [writeGrp_stored find_setGroupConfig hb hon (ht.trans (by rw [filter_setGroupConfig])) rfl]
  case setGroupRefused =>
    intro ld inp s hl ha
    exact congrArg (Host.Outcome.next ∘ settle) ((if_neg (not_not_intro hl)).trans (if_neg (Bool.eq_false_iff.1 ha)))
  case pacing => exact fun ld inp s hl h0 hn hw => congrArg Host.Outcome.next (if_neg (by omega))
  case counters => exact fun ld s => rfl

end Sys2Proof.Machine

end

section
/-! The standard CXL mailbox commands, the mailbox doorbell and its service (R199 to R201). -/

namespace Sys2Proof.Machine

open Bits

variable {s : State} {ld off n : Nat} {inp : List Byte}

theorem pay_celRequest (ho : off < 2 ^ 32) : pay (celUuid ++ leBytes 4 off ++ leBytes 4 n) 16 4 = off := by
  rw [List.append_assoc, pay_append (by rfl : celUuid.length = 16), pay_leBytes ho]

theorem pay_celLength (hn : n < 2 ^ 32) : pay (celUuid ++ leBytes 4 off ++ leBytes 4 n) 20 4 = n := by
  have length : (celUuid ++ leBytes 4 off).length = 20 := by rw [List.length_append, leBytes_length]; rfl
  rw [pay_append length, ← List.append_nil (leBytes 4 n), pay_leBytes hn]

/-- The log is read from an offset (R201). -/
theorem mbGetLog_of_fit (h : off + n ≤ 4 * opcodes.length) (hn : n ≤ 2048) :
    mbGetLog ld (celUuid ++ leBytes 4 off ++ leBytes 4 n) s = replyOk s ld ((celBytes.drop off).take n) := by
  have table : 4 * opcodes.length < 2 ^ 32 := by decide
  have length : (celUuid ++ leBytes 4 off ++ leBytes 4 n).length = 24 := by
    rw [List.length_append, List.length_append, leBytes_length, leBytes_length]
    rfl
  have uuid : (celUuid ++ leBytes 4 off ++ leBytes 4 n).take 16 = celUuid := by
    rw [List.append_assoc]
    exact List.take_left' rfl
  unfold mbGetLog
  dsimp only
  rw [pay_celRequest (by omega), pay_celLength (by omega), length, uuid, if_neg]
  rintro (bad | bad | bad | bad)
  · exact bad rfl
  · exact bad rfl
  · omega
  · omega

theorem timestamp_of_none (h : (ldOf s ld).stamp = none) : timestamp s ld = 0 := by
  unfold timestamp
  rw [h]

theorem timestamp_of_some {v t : Nat} (h : (ldOf s ld).stamp = some (v, t)) :
    timestamp s ld = v + (now s - t) * 1000000000 / 32768 := by
  unfold timestamp
  rw [h]

/-- The service of the next doorbell (R199). -/
theorem exec_mailboxCommandServe {d op : Nat} (hf : fwAvailable s = true) (hn : nextDoorbell s = some d)
    (hd : (ldOf s d).doorbell = some (op, inp)) : exec .mailboxCommandServe s = .next (settle (serve
      { setLd s d { ldOf s d with doorbell := none } with
        hl := { (setLd s d { ldOf s d with doorbell := none }).hl with next := (d + 1) % 64 } } d op inp)) := by
  change execMailboxCommandServe s = _
  unfold execMailboxCommandServe
  rw [if_pos hf, hn]
  dsimp only
  rw [hd]

/-- Settles O34. -/
theorem mailboxCommands : Obligations.MailboxCommands := by
  unfold Obligations.MailboxCommands
  refine ⟨?identify, ?background, ?records, ?clear, fun ld s => rfl, fun ld s => rfl, ?noStamp, ?stamp, ?setStamp, ?logs, ?log,
    fun ld s => rfl, ?health, ?unsupported, ?discarded, ?doorbell, ?serve, ?mirror⟩
  case identify =>
    refine fun ld s => ⟨_, rfl, ?_⟩
    simp only [List.length_append, leBytes_length, List.length_map, List.length_range]
  case background =>
    refine fun ld s => ⟨_, rfl, ?_, rfl⟩
    simp only [List.length_append, leBytes_length, zeros, List.length_replicate]
  case records =>
    rintro ld inp l s hl hk rfl
    exact congrArg Host.Outcome.next (if_neg (by omega))
  case clear =>
    intro ld inp s hl hk ha
    refine ⟨_, congrArg Host.Outcome.next (if_neg (by omega)), ?_⟩
    simp only [ha, decide_true, Bool.true_or, Bool.and_true]
    rfl
  case noStamp =>
    intro ld s h
    refine congrArg Host.Outcome.next (?_ : replyOk s ld (leBytes 8 (timestamp s ld)) = _)
    rw [timestamp_of_none h]
  case stamp =>
    intro ld v t s h
    refine congrArg Host.Outcome.next (?_ : replyOk s ld (leBytes 8 (timestamp s ld)) = _)
    rw [timestamp_of_some h]
  case setStamp => exact fun ld inp s hl => congrArg Host.Outcome.next (if_neg (not_not_intro hl))
  case logs =>
    refine fun ld s => ⟨_, rfl, ?_⟩
    simp only [List.length_append, leBytes_length, zeros, List.length_replicate]
    rfl
  case log => exact fun ld off n s h hn => congrArg Host.Outcome.next (mbGetLog_of_fit h hn)
  case health => exact fun ld s => ⟨_, _, rfl, rfl⟩
  case unsupported => exact fun ld op s h => congrArg Host.Outcome.next (if_neg (Bool.eq_false_iff.1 h))
  case discarded => exact fun ld op s h => congrArg Host.Outcome.next (if_pos h)
  case doorbell =>
    intro ld op inp s hd he
    exact congrArg (Host.Outcome.next ∘ settle) (if_neg (by rw [hd, he]; decide))
  case serve => exact fun d op inp s hf hn hd => ⟨_, exec_mailboxCommandServe hf hn hd, rfl⟩
  case mirror => exact fun s hc => ⟨_, congrArg Host.Outcome.next (if_pos hc), rfl, rfl, rfl⟩

end Sys2Proof.Machine

end

section
/-! Resets, links, functions, IDE and DOE of the host link (R178 to R216). -/

namespace Sys2Proof.Machine

open Bits

variable {s : State} {port width rate : Nat} {flit : Bool}

/-- A link that trains at a width of its own (R178). -/
theorem exec_linkUp (he : portExists s port = true) (hc : coreUp s = true) (hl : s.hl.linksOff = false)
    (hf : linkFenced s (port / 2) = false) (hd : (domOf s (80 + port / 2)).st = 2) (hw : 0 < width) (hp : 0 < portWidth s port) :
    exec (.linkUp port width rate flit) s = .next (settle (noteReasons (icu (setPort s port { portOf s port with
      up := true, width := min width (portWidth s port), rate := max 1 (min rate (portOf s port).maxRate), flit256 := flit,
      equalised := (portOf s port).equalised || decide (3 ≤ rate) }) (16 + port)))) := by
  have lanes : (min width (portWidth s port) != 0) = true := bne_iff_ne.2 (by omega)
  exact congrArg (Host.Outcome.next ∘ settle) (if_pos (by rw [he, hc, hl, hf, hd, lanes]; rfl))

theorem exec_doeRequest {ld proto step : Nat} (hp : proto ≤ 4) : exec (.doeRequest ld proto step) s = .next
    (if proto = 4 ∧ step ≤ 2 then setIde (setLd s ld { ldOf s ld with doe := some proto }) (ld / 16) step
      else setLd s ld { ldOf s ld with doe := some proto }) :=
  congrArg Host.Outcome.next (if_neg (by omega))

/-- Settles O35. -/
theorem linkCommands : Obligations.LinkCommands := by
  unfold Obligations.LinkCommands
  refine ⟨?reset, ?down, ?up, fun ld s => rfl, ?l0p, fun port s => rfl, ?power, ?hdm, ?doe, ?ide⟩
  case reset =>
    exact fun port s he => ⟨congrArg (Host.Outcome.next ∘ settle) (if_pos he), congrArg (Host.Outcome.next ∘ settle) (if_pos he)⟩
  case down => exact fun port s hu => congrArg (Host.Outcome.next ∘ settle) (if_pos hu)
  case up => exact fun port width rate flit s he hc hl hf hd hw hp => exec_linkUp he hc hl hf hd hw hp
  case l0p =>
    exact fun port width s hu h0 h3 hw => congrArg Host.Outcome.next
      (if_pos (by rw [hu, h0, decide_eq_true h3, decide_eq_true hw]; rfl))
  case power =>
    exact fun link val s hl => congrArg (Host.Outcome.next ∘ settle) (if_neg (by rw [hl]; exact Bool.false_ne_true))
  case hdm =>
    exact fun ld dec base size ways gran pos skip s hd hw hg hp => congrArg Host.Outcome.next
      (if_pos ⟨hd, List.contains_iff_mem.2 hw, List.contains_iff_mem.2 hg, hp⟩)
  case doe =>
    intro ld proto step s hp
    rw [exec_doeRequest (by omega), if_neg (by omega)]
  case ide =>
    intro ld step s hs
    refine ⟨_, ?_, rfl⟩
    rw [exec_doeRequest (Nat.le_refl 4), if_pos ⟨rfl, hs⟩]

end Sys2Proof.Machine

end

section
/-! BAR0: what a write outside the reserved ranges leaves (R25). -/

namespace Sys2Proof.Machine

open Bits

variable {s : State} {ld off : Nat}

/-- A write of BAR0 outside its reserved ranges changes nothing. -/
theorem exec_bar0ReservedAccess_of_open (h : barReserved off = false) : exec (.bar0ReservedAccess ld off true) s = .next s :=
  congrArg Host.Outcome.next ((if_pos rfl).trans (if_neg (Bool.eq_false_iff.1 h)))

theorem rd_hlCount_reset : rd (hlCount State.reset Reg.hlRsvdWrites 0) (Reg.hlRsvdWrites 0) ≠ rd State.reset (Reg.hlRsvdWrites 0) := by
  decide +kernel

/-- Refutes O36: a write at offset 0 of BAR0, which no reserved range holds, is not counted, where the clause of the reserved
accesses counts a write at any offset. -/
theorem not_busCommands : ¬ Obligations.BusCommands := by
  unfold Obligations.BusCommands
  rintro ⟨-, -, -, -, -, bar, -⟩
  have counted : exec (.bar0ReservedAccess 0 0 true) State.reset = .next (hlCount State.reset Reg.hlRsvdWrites 0) :=
    (bar 0 0 State.reset).1
  rw [exec_bar0ReservedAccess_of_open (by decide)] at counted
  exact rd_hlCount_reset (congrArg (rd · (Reg.hlRsvdWrites 0)) (Host.Outcome.next.inj counted)).symm

end Sys2Proof.Machine

end

section
/-! What the path of a write leaves once its bytes are stored: the other bytes of DRAM, the completions and the lining slots
(R42, R98, R106, R182). -/

namespace Sys2Proof.Machine

open Bits

variable {s t u : State} {ld hpa tag dpa w line sw g n k c : Nat} {data : List Byte} {r : Req}

-- the frame

/-- The bytes of DRAM, the completions sent and each group's lining slots are the same. -/
structure SameSlots (s t : State) : Prop where
  mem : t.dram.mem = s.dram.mem
  sent : t.hl.sent = s.hl.sent
  wf : Sparse.wf (fun _ => ({} : Group)) s.gen.groups = true → Sparse.wf (fun _ => ({} : Group)) t.gen.groups = true
  slots : Sparse.wf (fun _ => ({} : Group)) s.gen.groups = true → ∀ g, (grp t g).slots = (grp s g).slots

namespace SameSlots

theorem refl : SameSlots s s := ⟨rfl, rfl, id, fun _ _ => rfl⟩

theorem trans (h : SameSlots s t) (k : SameSlots t u) : SameSlots s u :=
  ⟨k.mem.trans h.mem, k.sent.trans h.sent, fun hw => k.wf (h.wf hw), fun hw g => (k.slots (h.wf hw) g).trans (h.slots hw g)⟩

theorem congr (h : SameSlots s t) (hm : u.dram.mem = t.dram.mem) (hs : u.hl.sent = t.hl.sent)
    (hg : u.gen.groups = t.gen.groups) : SameSlots s u :=
  h.trans ⟨hm, hs, fun h => hg ▸ h, fun _ g => congrArg (fun l => (Sparse.get (fun _ => ({} : Group)) l g).slots) hg⟩

theorem each {α : Type} {l : List α} {f : State → α → State} (h : SameSlots s t)
    (k : ∀ v x, SameSlots s v → SameSlots s (f v x)) : SameSlots s (forEach l t f) :=
  List.foldlRecOn (motive := fun v => SameSlots s v) _ _ h fun v hv x _ => k v x hv

theorem grouped {v : Group} (h : SameSlots s t) (hv : v.slots = (grp t g).slots) : SameSlots s (setGrp t g v) := by
  refine h.trans ⟨rfl, rfl, set_wf, fun hw j => ?_⟩
  by_cases hj : j = g
  · subst hj
    exact (congrArg Group.slots (get_set_self hw)).trans hv
  · exact congrArg Group.slots (get_set_ne hj)

theorem icu (h : SameSlots s t) : SameSlots s (icu t n) := h.congr (by rw [icu_dram]) (by rw [icu_hl]) (by rw [icu_gen])

theorem window {v : Win} (h : SameSlots s t) : SameSlots s (setWin t w v) := h.congr rfl rfl rfl

theorem channel {v : DCh} (h : SameSlots s t) : SameSlots s (setDch t c v) := h.congr rfl rfl rfl

end SameSlots

theorem extreme_eq {e : Nat} {v : Int} {hi : Bool} : ∃ x, extreme s e v hi = { s with evr := x } := by
  unfold extreme
  dsimp only
  by_cases h : (Sparse.get extDefault s.evr.live.ext e).2 = 0xFFFFFFFF ∨
      (if hi = true then (Sparse.get extDefault s.evr.live.ext e).1 < v else v < (Sparse.get extDefault s.evr.live.ext e).1)
  · exact ⟨_, if_pos h⟩
  · exact ⟨s.evr, if_neg h⟩

theorem SameSlots.extreme {e : Nat} {v : Int} {hi : Bool} (h : SameSlots s t) : SameSlots s (extreme t e v hi) := by
  obtain ⟨x, eq⟩ := extreme_eq (s := t) (e := e) (v := v) (hi := hi)
  rw [eq]
  exact h.congr rfl rfl rfl

-- pacing

namespace SameSlots

theorem retarget (h : SameSlots s t) : SameSlots s (retarget t g) := by
  unfold Machine.retarget
  dsimp only
  split
  · exact h.grouped rfl
  · exact h

theorem updateRates (h : SameSlots s t) : SameSlots s (updateRates t g) := by
  unfold Machine.updateRates
  extract_lets v src x
  have rated : SameSlots s x := by
    have aimed : SameSlots s v := h.retarget
    exact aimed.grouped rfl
  exact rated.each fun _ _ hv => hv.window

theorem enforce (h : SameSlots s t) : SameSlots s (enforce t g n) := by
  unfold Machine.enforce
  extract_lets gr p ev
  split
  · refine SameSlots.icu (SameSlots.updateRates ?_)
    exact h.grouped rfl
  · exact h

theorem postPace (h : SameSlots s t) : SameSlots s (postPace t g n k) := by
  unfold Machine.postPace
  extract_lets gr
  split
  · exact h
  · refine SameSlots.icu ?_
    exact h.grouped rfl

theorem clearPace (h : SameSlots s t) : SameSlots s (clearPace t g n) := by
  unfold Machine.clearPace
  exact h.grouped rfl

theorem paceGroup (h : SameSlots s t) : SameSlots s (paceGroup t g) := by
  unfold Machine.paceGroup
  refine h.each fun v j hv => ?_
  extract_lets has x
  have judged : SameSlots s x := by
    unfold x
    split
    · exact hv.clearPace.updateRates
    · split
      · exact hv.postPace
      · exact hv
  split
  · exact judged.enforce
  · exact judged

theorem pace (h : SameSlots s t) : SameSlots s (pace t g) := by
  unfold Machine.pace enforceGlobal
  split
  · exact h.retarget.paceGroup.each fun _ _ hv => hv.enforce
  · exact h.retarget.paceGroup

theorem thermalJoin (h : SameSlots s t) : SameSlots s (thermalJoin t g) := by
  unfold Machine.thermalJoin thermalAsk
  split
  · extract_lets x
    have asked : SameSlots s x := h.postPace
    split
    · exact asked.enforce
    · exact asked
  · exact h

-- the page map (R98, R106)

theorem setSt {m : MapSt} (h : SameSlots s t) : SameSlots s (setSt t g sw m) := h.congr rfl rfl rfl

theorem openSwatch (h : SameSlots s t) : SameSlots s (openSwatch t g) := by
  unfold Machine.openSwatch
  extract_lets gr x src y
  have opened : SameSlots s x := h.grouped rfl
  have rose : SameSlots s y := opened.congr rfl rfl rfl
  exact rose.extreme.thermalJoin

theorem mapAccess (h : SameSlots s t) : SameSlots s (mapAccess t) :=
  h.congr (by rw [mapAccess_dram]) (by rw [mapAccess_hl]) (by rw [mapAccess_gen])

theorem fillBucket (h : SameSlots s t) : SameSlots s (fillBucket t w) := by
  obtain ⟨l, eq⟩ := fillBucket_wins (s := t) (w := w)
  rw [eq]
  exact h.congr rfl rfl rfl

-- the channel's queue (R231)

theorem offend (h : SameSlots s t) : SameSlots s (offend t w) := by
  unfold Machine.offend
  extract_lets v x
  split
  · exact h.window.icu
  · exact h.window

theorem activate {l : DramLoc} {win : Option Nat} (h : SameSlots s t) : SameSlots s (activate t c l win) := by
  unfold Machine.activate
  extract_lets v b q m thr due x
  have tracked : SameSlots s x := h.channel
  split
  · split
    · exact tracked.offend
    · exact tracked
  · exact tracked

theorem activatePage (h : SameSlots s t) : SameSlots s (activatePage t sw) := by
  unfold Machine.activatePage
  refine h.each fun v j hv => ?_
  split
  · exact hv
  · exact hv.activate.activate

theorem noteFree (h : SameSlots s t) : SameSlots s (noteFree t) := by
  unfold Machine.noteFree
  extract_lets f b fall src x
  have noted : SameSlots s x := SameSlots.extreme (h.congr rfl rfl rfl)
  split
  · exact noted.icu
  · exact noted

theorem takeBuffers (h : SameSlots s t) : SameSlots s (takeBuffers t k n) := by
  unfold Machine.takeBuffers
  extract_lets v x on last next src y
  have held : SameSlots s x := h.congr rfl rfl rfl
  have placed : SameSlots s y := by
    unfold y
    split
    · exact held.congr rfl rfl rfl
    · exact held
  exact placed.noteFree

theorem releaseBuffers (h : SameSlots s t) : SameSlots s (releaseBuffers t k n) := h.congr rfl rfl rfl

theorem enqueue {l : DramLoc} {q : DQ} (h : SameSlots s t) : SameSlots s (enqueue t c l q) := by
  unfold Machine.enqueue
  extract_lets x shared y v
  have taken : SameSlots s x := h.takeBuffers
  have placed : SameSlots s y := by
    unfold y
    split
    · exact taken
    · exact taken.activate
  exact placed.channel

end SameSlots

/-- Behind the store of its bytes a host write is an access of its channel. -/
theorem sameSlots_hostWrite {a : Nat} {p part : Bool} : SameSlots (writeLine s a data p) (hostWrite s ld w a data p part) := by
  unfold hostWrite
  extract_lets x
  split
  · exact .refl
  · extract_lets l v q
    split
    · exact SameSlots.channel (SameSlots.releaseBuffers (SameSlots.takeBuffers .refl))
    · exact SameSlots.enqueue .refl

/-- A full write stores its bytes, and its completion follows (R42). -/
theorem commit_full (hm : r.mask = []) : ∃ t, commit s r = respond t r.ld r.tag false [] false ∧
    SameSlots (writeLine s r.addr (padTo 64 r.data) (r.poison || false)) t := by
  unfold commit
  rw [hm]
  extract_lets old d p x gr y v z q a
  have written : SameSlots (writeLine s r.addr (padTo 64 r.data) (r.poison || false)) x := sameSlots_hostWrite
  have grouped : SameSlots (writeLine s r.addr (padTo 64 r.data) (r.poison || false)) y := written.grouped rfl
  have counted : SameSlots (writeLine s r.addr (padTo 64 r.data) (r.poison || false)) z := grouped.window
  refine ⟨a, rfl, ?_⟩
  unfold a
  split
  · exact counted.congr rfl rfl rfl
  · exact counted

-- the bytes stored

theorem padTo_full (h : data.length = 64) : padTo 64 data = data := by
  unfold padTo
  rw [h, List.take_of_length_le (by omega)]
  exact List.append_nil data

/-- The bytes of a line that stays in DRAM as a write stored it. -/
theorem lineBytes_of_written {p : Bool} (hw : s.memWf = true) (hd : data.length = 64)
    (h : u.dram.mem = (writeLine s line data p).dram.mem) : lineBytes u line = data := by
  have mem : Sparse.wf zeroByte s.dram.mem = true := by
    simp only [State.memWf, Bool.and_eq_true] at hw
    exact hw.1.1.2
  have stored := getList_setList (k := line / 64 * 64) (vs := data) mem
  unfold lineBytes
  rw [h]
  unfold writeLine
  rw [padTo_full hd]
  rwa [hd] at stored

/-- A byte outside the line is as it was. -/
theorem get_of_written {p : Bool} {a : Nat} (hd : data.length = 64) (hl : line % 64 = 0)
    (h : u.dram.mem = (writeLine s line data p).dram.mem) (ha : a < line ∨ line + 64 ≤ a) :
    Sparse.get (fun _ => (0#8 : Byte)) u.dram.mem a = Sparse.get (fun _ => (0#8 : Byte)) s.dram.mem a := by
  rw [h]
  unfold writeLine
  rw [padTo_full hd]
  exact get_setList_out (by omega)

/-- What a full write of a line leaves, once it is committed and paced on a state with the bytes of `s`: its bytes, one
completion, and the lining slots. -/
theorem pace_commit_full {x : State} (same : SameSlots s x) (hw : x.memWf = true) (hm : r.mask = []) (hd : r.data.length = 64)
    (hl : r.addr % 64 = 0) :
    lineBytes (pace (commit x r) g) r.addr = r.data ∧
    (∀ a, a < r.addr ∨ r.addr + 64 ≤ a → Sparse.get (fun _ => (0#8 : Byte)) (pace (commit x r) g).dram.mem a =
      Sparse.get (fun _ => (0#8 : Byte)) s.dram.mem a) ∧
    (∃ c, (pace (commit x r) g).hl.sent = s.hl.sent ++ [c] ∧ c.ld = r.ld ∧ c.tag = r.tag ∧ c.isRead = false) ∧
    (Sparse.wf (fun _ => ({} : Group)) s.gen.groups = true →
      ∀ g', (grp (pace (commit x r) g) g').slots = (grp s g').slots) := by
  obtain ⟨t, hc, ht⟩ := commit_full (s := x) hm
  obtain ⟨c, hsent, hld, htag, hread, -⟩ := respond_sent (s := t) (ld := r.ld) (tag := r.tag) (isRead := false) (data := [])
    (poison := false)
  rw [hc]
  have paced : SameSlots (respond t r.ld r.tag false [] false) (pace (respond t r.ld r.tag false [] false) g) :=
    SameSlots.pace .refl
  rw [padTo_full hd] at ht
  have mem : (pace (respond t r.ld r.tag false [] false) g).dram.mem =
      (writeLine x r.addr r.data (r.poison || false)).dram.mem := paced.mem.trans ht.mem
  refine ⟨lineBytes_of_written hw hd mem, fun a ha => ?_, ⟨c, ?_, hld, htag, hread⟩, fun hg g' => ?_⟩
  · rw [get_of_written hd hl mem ha, same.mem]
  · rw [paced.sent, hsent, ht.sent, ← same.sent]
    rfl
  · have wrote : (grp t g').slots = (grp x g').slots := ht.slots (same.wf hg) g'
    exact (paced.slots (ht.wf (same.wf hg)) g').trans (wrote.trans (same.slots hg g'))

-- a tacked swatch goes to a slot first (R106)

/-- The group with the page of a swatch in one of its slots. -/
def slotListed (s : State) (g sw n : Nat) : State :=
  setGrp s g { grp s g with slots := (grp s g).slots ++ [{ n, swatch := sw, page := readPage s sw }] }

theorem SameSlots.slotTaken (h : SameSlots s t) : SameSlots s (slotTaken t n) := by
  unfold Machine.slotTaken
  extract_lets f x lim
  have noted : SameSlots s x := by
    unfold x
    split
    · exact h.congr rfl rfl rfl
    · exact h
  split
  · exact noted.icu
  · exact noted

theorem sameSlots_copyOnWrite : SameSlots (slotListed s g sw n) (copyOnWrite s g sw n) := by
  unfold copyOnWrite
  exact SameSlots.slotTaken (SameSlots.activatePage (SameSlots.setSt .refl))

/-- The page as it stood stands in the slot. -/
theorem slotOf_slotListed (hg : Sparse.wf (fun _ => ({} : Group)) s.gen.groups = true) (hs : slotOf s g sw = none) :
    slotOf (slotListed s g sw n) g sw = some { n := n, swatch := sw, page := readPage s sw } := by
  have listed : (grp (slotListed s g sw n) g).slots =
      (grp s g).slots ++ [{ n, swatch := sw, page := readPage s sw }] := congrArg Group.slots (get_set_self hg)
  unfold slotOf at hs ⊢
  rw [listed, List.find?_append, hs]
  simp

/-- A write to a tacked swatch copies its page to a slot and is committed and paced (R106). -/
theorem writeEntry_tacked {again : Bool} (hq : queueWaits s r.addr true = false) (hl : lineBit s (reqSwatch r / 128) = false)
    (ha : slotAhead s (reqSwatch r) = false) (hst : stOf s r.g (reqSwatch r) = .tacked)
    (hn : takeSlot (mapAccess s) (sliceOf (mapAccess s) (reqSwatch r)) = some n) :
    writeEntry s r again = pace (commit (openSwatch (copyOnWrite (mapAccess s) r.g (reqSwatch r) n) r.g) r) r.g := by
  have ahead : slotAhead (mapAccess s) (reqSwatch r) = false := by
    unfold slotAhead
    rw [mapAccess_hl]
    exact ha
  unfold writeEntry
  rw [if_neg (by simp [hq])]
  dsimp only
  rw [touchLine_of_lineBit hl, if_neg (by simp [ahead]), stOf_mapAccess, hst]
  dsimp only
  rw [hn]

theorem takeSlot_mapAccess {sl : Nat} : takeSlot (mapAccess s) sl = takeSlot s sl := by
  obtain ⟨⟨rg, f, h⟩, -⟩ := sameButMap_mapAccess (s := s)
  rw [h]
  rfl

theorem sliceOf_mapAccess : sliceOf (mapAccess s) sw = sliceOf s sw := by
  obtain ⟨⟨rg, f, h⟩, -⟩ := sameButMap_mapAccess (s := s)
  rw [h]
  rfl

/-- The bytes of DRAM are the same before the window's bucket and the map are brought up to date. -/
theorem sameSlots_ready : SameSlots s (mapAccess (fillBucket s w)) := SameSlots.mapAccess (SameSlots.fillBucket .refl)

theorem readPage_ready : readPage (mapAccess (fillBucket s w)) sw = readPage s sw := by
  obtain ⟨l, hfill⟩ := fillBucket_wins (s := s) (w := w)
  unfold readPage
  rw [mapAccess_dram, hfill]

theorem ready_memWf (hw : s.memWf = true) : (mapAccess (fillBucket s w)).memWf = true :=
  (mapAccess_keeps (fillBucket_keeps (Keeps.refl s))).mem hw

/-- A write to a tacked swatch copies its page to a slot, opens it and is committed and paced. -/
theorem hostWriteReq_tacked (hr : r = mkReq s ld tag w dpa true data [] false) (ht : takes s ld true = true)
    (hd : hdmDpa (ldOf s ld).hdm hpa = some dpa) (hw : winFor s ld dpa = some w) (ho : winOnline s w = true)
    (hquiet : (grp s r.g).quiesced = false) (he : winEnforced s w = false) (hh : heldOf s w = 0)
    (hq : queueWaits s r.addr true = false) (hl : lineBit s (reqSwatch r / 128) = false) (ha : slotAhead s (reqSwatch r) = false)
    (hst : stOf s r.g (reqSwatch r) = .tacked) (hn : takeSlot s (sliceOf s (reqSwatch r)) = some n) :
    hostWriteReq s ld hpa tag data [] false =
      pace (commit (openSwatch (copyOnWrite (mapAccess (fillBucket s w)) r.g (reqSwatch r) n) r.g) r) r.g := by
  obtain ⟨l, hfill⟩ := fillBucket_wins (s := s) (w := w)
  refine (hostWriteReq_writeEntry (poison := false) ht hd hw ho hr hquiet he hh).trans (writeEntry_tacked ?_ ?_ ?_ ?_ ?_)
  · change queueWaits (fillBucket s w) r.addr true = false
    rw [hfill]
    exact hq
  · change lineBit (fillBucket s w) (reqSwatch r / 128) = false
    rw [hfill]
    exact hl
  · change slotAhead (fillBucket s w) (reqSwatch r) = false
    rw [hfill]
    exact ha
  · change stOf (fillBucket s w) r.g (reqSwatch r) = .tacked
    rw [hfill]
    exact hst
  · change takeSlot (mapAccess (fillBucket s w)) (sliceOf (mapAccess (fillBucket s w)) (reqSwatch r)) = some n
    rw [sliceOf_mapAccess, takeSlot_mapAccess, hfill]
    exact hn

/-- What a host's full write leaves, from the state `x` on which it is committed: `v` is `x` but for what the pacing keeps. -/
theorem exec_cxlmemWrite_full {v x : State} (hr : r = mkReq s ld tag w dpa true data [] false) (hlen : data.length = 64)
    (done : hostWriteReq s ld hpa tag data [] false = pace (commit x r) r.g) (same : SameSlots v x) (hw : x.memWf = true)
    (hm : v.dram.mem = s.dram.mem) (hs : v.hl.sent = s.hl.sent) :
    ∃ u, exec (.cxlmemWrite ld hpa tag data false) s = .next (settle u) ∧ lineBytes u (winDram s w dpa / 64 * 64) = data ∧
      (∀ a, a < winDram s w dpa / 64 * 64 ∨ winDram s w dpa / 64 * 64 + 64 ≤ a →
        Sparse.get (fun _ => (0#8 : Byte)) u.dram.mem a = Sparse.get (fun _ => (0#8 : Byte)) s.dram.mem a) ∧
      (∃ c, u.hl.sent = s.hl.sent ++ [c] ∧ c.ld = ld ∧ c.tag = tag ∧ c.isRead = false) ∧
      (Sparse.wf (fun _ => ({} : Group)) v.gen.groups = true → ∀ g, (grp u g).slots = (grp v g).slots) := by
  have haddr : r.addr = winDram s w dpa / 64 * 64 := by rw [hr]; rfl
  have hdata : r.data = data := by rw [hr]; rfl
  obtain ⟨bytes, rest, ⟨c, sent, cld, ctag, cread⟩, slots⟩ := pace_commit_full (g := r.g) (r := r) same hw (by rw [hr]; rfl)
    (by rw [hdata]; exact hlen) (by rw [haddr]; exact Nat.mul_mod_left _ _)
  rw [haddr, hdata] at bytes
  rw [haddr, hm] at rest
  rw [hs] at sent
  refine ⟨_, congrArg (Host.Outcome.next ∘ settle) done, bytes, rest, ⟨c, sent, ?_, ?_, cread⟩, slots⟩
  · rw [cld, hr]; rfl
  · rw [ctag, hr]; rfl

/-- Settles O50: the bytes stand where the window maps them, one completion follows, and a tacked page goes to a slot first. -/
theorem hostWriteCommits : Obligations.HostWriteCommits := by
  unfold Obligations.HostWriteCommits
  constructor
  · rintro ld hpa tag data dpa w line s rfl hlen ht hq ha hh hwf hd hw ho hquiet he hl hst
    have takesWrites : stOf s (winGroup s w) (winDram s w dpa / 64 * 64 / 4096) ∈ [MapSt.opened, .both, .clean] := by
      rcases hst with h | h | h <;> rw [h] <;> decide
    obtain ⟨r, hr⟩ : ∃ r, r = mkReq s ld tag w dpa true data [] false := ⟨_, rfl⟩
    obtain ⟨x, hx⟩ : ∃ x, x = if stOf s r.g (reqSwatch r) = .clean then
        openSwatch (setSt (mapAccess (fillBucket s w)) r.g (reqSwatch r) .opened) r.g else mapAccess (fillBucket s w) := ⟨_, rfl⟩
    have done : hostWriteReq s ld hpa tag data [] false = pace (commit x r) r.g := by
      rw [hx]
      exact hostWriteReq_commit (poison := false) ht hd hw ho hr (by rw [hr]; exact hquiet) he hh (by rw [hr]; exact hq)
        (by rw [hr]; exact hl) (by rw [hr]; exact ha) (by rw [hr]; exact takesWrites)
    have same : SameSlots s x ∧ x.memWf = true := by
      rw [hx]
      split
      · exact ⟨sameSlots_ready.setSt.openSwatch, (openSwatch_keeps (setSt_keeps (Keeps.refl _))).mem (ready_memWf hwf)⟩
      · exact ⟨sameSlots_ready, ready_memWf hwf⟩
    obtain ⟨u, run, bytes, rest, sent, -⟩ := exec_cxlmemWrite_full hr hlen done same.1 same.2 rfl rfl
    exact ⟨u, run, bytes, rest, sent⟩
  · rintro ld hpa tag data dpa w line n s rfl hlen ht hq ha hh hwf hg hd hw ho hquiet he hl hst hn hslot
    obtain ⟨r, hr⟩ : ∃ r, r = mkReq s ld tag w dpa true data [] false := ⟨_, rfl⟩
    have hgrp : r.g = winGroup s w := by rw [hr]; rfl
    have hsw : reqSwatch r = winDram s w dpa / 64 * 64 / 4096 := by rw [hr]; rfl
    have haddr : r.addr = winDram s w dpa / 64 * 64 := by rw [hr]; rfl
    obtain ⟨y, hy⟩ : ∃ y, y = mapAccess (fillBucket s w) := ⟨_, rfl⟩
    have ready : SameSlots s y := hy ▸ sameSlots_ready
    have wf : y.memWf = true := hy ▸ ready_memWf hwf
    have done := hostWriteReq_tacked hr ht hd hw ho (by rw [hgrp]; exact hquiet) he hh (by rw [haddr]; exact hq)
      (by rw [hsw]; exact hl) (by rw [hsw]; exact ha) (by rw [hgrp, hsw]; exact hst) (by rw [hsw]; exact hn)
    rw [← hy, hgrp, hsw] at done
    have free : slotOf y (winGroup s w) (winDram s w dpa / 64 * 64 / 4096) = none := by
      unfold slotOf
      rw [ready.slots hg]
      exact hslot
    have page : readPage y (winDram s w dpa / 64 * 64 / 4096) = readPage s (winDram s w dpa / 64 * 64 / 4096) := by
      rw [hy]
      exact readPage_ready
    obtain ⟨u, run, bytes, rest, -, slots⟩ := exec_cxlmemWrite_full (v := slotListed y (winGroup s w) _ n) hr hlen
      (by rw [hgrp]; exact done) sameSlots_copyOnWrite.openSwatch (openSwatch_keeps (copyOnWrite_keeps (Keeps.refl y)) |>.mem wf)
      ready.mem ready.sent
    refine ⟨u, run, bytes, rest, ?_⟩
    unfold slotOf
    rw [slots (set_wf (ready.wf hg))]
    have taken := slotOf_slotListed (n := n) (ready.wf hg) free
    rw [page] at taken
    exact taken

end Sys2Proof.Machine

end

section
/-! What shows that an escalation was carried out: a standing fence, a safe stop, a hem that holds the block or a walk down
(R504, R505). A state without any of these marks is settled by bringing its offline reasons up to date. -/

namespace Sys2Proof.Machine

open Bits

variable {s t u : State} {g n k c p b : Nat}

-- a safe stop goes on through a warm resume

/-- The safe stop goes on or is away as before. -/
def SameStop (s t : State) : Prop := t.flt.stopping = s.flt.stopping

namespace SameStop

theorem refl : SameStop s s := rfl

theorem of_flt (h : SameStop s t) (e : u.flt = t.flt) : SameStop s u := (congrArg Flt.stopping e).trans h

theorem each {α : Type} {l : List α} {f : State → α → State} (h : SameStop s t)
    (k : ∀ v x, SameStop s v → SameStop s (f v x)) : SameStop s (forEach l t f) :=
  List.foldlRecOn (motive := fun v => SameStop s v) _ _ h fun v hv x _ => k v x hv

theorem icu (h : SameStop s t) : SameStop s (icu t n) := h.of_flt icu_flt

theorem escalate (h : SameStop s t) : SameStop s (escalate t p n b) := by
  unfold Machine.escalate
  dsimp only
  generalize (if p = Pg.sys ∨ p = Pg.genm then none
    else if p = Pg.psq ∨ p = Pg.icu ∨ p = Pg.win ∨ p = Pg.key ∨ p = Pg.fst ∨ p = Pg.upd ∨ p = Pg.flt then
      some (Esc.fatal p b)
    else some (Esc.fence (unitKey p n).1 (unitKey p n).2)) = e
  cases e <;> exact h

theorem fltReport (h : SameStop s t) : SameStop s (fltReport t p b n) := by
  unfold Machine.fltReport
  extract_lets cls x src y src' z
  split
  · split
    · exact SameStop.icu h
    · exact h
  · split
    · exact h
    · have noted : SameStop s z := by
        unfold z
        split
        · exact SameStop.icu h
        · exact h
      split
      · exact noted.escalate
      · split
        · exact noted.escalate
        · split <;> exact noted

theorem report (h : SameStop s t) : SameStop s (report t p b n) := by
  unfold Machine.report
  extract_lets x y
  have attributed : SameStop s x := h.of_flt (attributeTo_flt.trans errSet_flt)
  split
  · exact attributed
  · split
    · exact attributed.fltReport.icu
    · exact attributed.fltReport

theorem pace (h : SameStop s t) : SameStop s (pace t g) := h.of_flt pace_flt

theorem noteReasons (h : SameStop s t) : SameStop s (noteReasons t) := h.of_flt noteReasons_flt

theorem updateTset (h : SameStop s t) : SameStop s (updateTset t c) := by
  unfold Machine.updateTset
  extract_lets
  split
  · exact h
  · split <;> exact h

theorem writeChunk {bs : List Byte} (h : SameStop s t) : SameStop s (writeChunk t c bs n) := by
  unfold Machine.writeChunk
  split
  · exact h
  · exact h.each fun _ _ hv => hv

theorem restoreChunks (h : SameStop s t) : SameStop s (restoreChunks t) := by
  unfold Machine.restoreChunks
  split
  · exact h
  · exact h.each fun _ _ hv => hv.writeChunk

theorem dropUnsewn (h : SameStop s t) : SameStop s (dropUnsewn t g) := by
  unfold Machine.dropUnsewn
  extract_lets gr x rel mine y z
  have y' : SameStop s y := by unfold y; split <;> exact h
  have z' : SameStop s z := by unfold z; split <;> exact y'
  exact z'

theorem drawKey (h : SameStop s t) : SameStop s (drawKey t g) := by
  unfold Machine.drawKey
  split <;> exact h

theorem zeroGroup (h : SameStop s t) : SameStop s (zeroGroup t g) := by
  unfold Machine.zeroGroup
  exact h.each fun _ _ hv => hv

theorem warmGroup (h : SameStop s t) : SameStop s (warmGroup t g) := by
  unfold Machine.warmGroup
  extract_lets x y z
  have x' : SameStop s x := h.dropUnsewn
  have y' : SameStop s y := by
    unfold y
    split
    · exact x'.zeroGroup.drawKey
    · exact x'
  split <;> exact y'

theorem serviceBegins (h : SameStop s t) : SameStop s (serviceBegins t) := by
  unfold Machine.serviceBegins
  split
  · exact h
  · extract_lets src x
    have x' : SameStop s x := h
    split
    · exact x'.report.icu
    · exact x'

theorem trace {d : Nat} (h : SameStop s t) : SameStop s (trace t c n d) := h.of_flt trace_flt

theorem domReq {on : Bool} (h : SameStop s t) : SameStop s (domReq t c on) := by
  have started : SameStop s (startOn t c) := by
    unfold startOn
    split <;> exact h
  have ended : SameStop s (startOff t c) := by
    unfold startOff
    extract_lets v x
    split
    · exact h
    · split
      · exact h
      · refine SameStop.icu (SameStop.trace ?_)
        exact h
  unfold Machine.domReq
  extract_lets v
  split
  · exact started
  · exact h
  · exact h
  · exact ended
  · exact h

theorem applyPower (h : SameStop s t) : SameStop s (applyPower t p) := h.each fun _ _ hv => hv.domReq

theorem updateHold (h : SameStop s t) : SameStop s (updateHold t) := by
  unfold Machine.updateHold
  extract_lets q want r x
  split
  · exact h
  · refine SameStop.trace ?_
    exact h

theorem warmPhase (h : SameStop s t) : SameStop s (warmPhase t) := by
  unfold Machine.warmPhase
  split
  · refine SameStop.icu ?_
    exact h
  · exact h

theorem bringOnline (h : SameStop s t) : SameStop s (bringOnline t) := by
  unfold Machine.bringOnline
  refine SameStop.noteReasons (h.each fun v j hv => ?_)
  split
  · refine SameStop.icu ?_
    exact hv
  · exact hv

theorem restoreStep (h : SameStop s t) : SameStop s (restoreStep t) := by
  unfold Machine.restoreStep
  extract_lets ph
  split
  · split
    · exact h
    · refine SameStop.icu ?_
      exact h
  · split <;> exact h

theorem sweepEnd (h : SameStop s t) : SameStop s (sweepEnd t) := by
  unfold Machine.sweepEnd
  extract_lets x y
  have x' : SameStop s x := h.restoreStep
  refine SameStop.bringOnline ?_
  unfold y
  split
  · refine SameStop.icu ?_
    exact x'
  · exact x'

theorem intentNow {r : IntentRec} (h : SameStop s t) : SameStop s (intentNow t c r) := by
  unfold Machine.intentNow intentPage
  extract_lets v w
  split <;> exact h

theorem startErase (h : SameStop s t) : SameStop s (startErase t b) := by
  unfold Machine.startErase
  extract_lets q v x
  split
  · exact h
  · split
    · have noted : SameStop s x := h.intentNow
      exact noted
    · exact h

theorem checkSpare (h : SameStop s t) : SameStop s (checkSpare t b) := by
  unfold Machine.checkSpare
  extract_lets q v geo ch x i y out
  split
  · have y' : SameStop s y := by unfold y; split <;> exact h
    split
    · exact y'.report
    · exact y'
  · exact h

theorem retireBlk (h : SameStop s t) : SameStop s (retireBlk t b) := by
  unfold Machine.retireBlk
  split
  · exact h
  · refine SameStop.checkSpare (SameStop.icu ?_)
    exact h

theorem eraseBlk (h : SameStop s t) : SameStop s (eraseBlk t b) := by
  unfold Machine.eraseBlk
  extract_lets v
  split
  · exact h
  · exact h
  · exact h
  · split
    · exact h.startErase
    · exact h
  all_goals
    split
    · exact h.retireBlk
    · exact h.startErase

theorem runErases (h : SameStop s t) : SameStop s (runErases t) := by
  unfold Machine.runErases
  refine SameStop.each ?_ fun _ _ hv => hv.eraseBlk
  exact h

theorem warmResume (h : SameStop s t) : SameStop s (warmResume t) := by
  unfold Machine.warmResume
  extract_lets a0 a1 g1 a2 a3 was g2 r2 a4 a5 a6 h6 a7 q7 a8 a9 l9 a10 a11 a12
  have swept : SameStop s a1 := SameStop.restoreChunks (h.each fun _ _ hv => SameStop.updateTset hv)
  have grouped : SameStop s a5 := SameStop.each swept fun _ _ hv => hv.warmGroup
  have pooled : SameStop s a6 := grouped.each fun _ _ hv => hv
  have served : SameStop s a9 := SameStop.serviceBegins pooled
  have linked : SameStop s a10 := by
    unfold a10
    split
    · exact SameStop.applyPower (SameStop.applyPower served)
    · exact served
  have held : SameStop s a11 := SameStop.updateHold linked
  have phased : SameStop s a12 := by
    unfold a12
    split
    · exact held.warmPhase
    · exact held
  exact SameStop.runErases (phased.icu.sweepEnd.each fun _ _ hv => hv.pace)

end SameStop

end Sys2Proof.Machine

end

section
/-! An escalation leaves a mark: a fence, a safe stop, SYS_FAULT_N, a hem that holds the block, or a walk down (R504, R505). -/

namespace Sys2Proof.Machine

open Bits

variable {s t u : State} {g n k c p b : Nat}

-- the walk down

/-- The state of the power walk is the same. -/
def SameSt (s t : State) : Prop := t.psq.st = s.psq.st

namespace SameSt

theorem refl : SameSt s s := rfl

theorem of_bare (h : SameSt s t) (e : u.psq.bare = t.psq.bare) : SameSt s u := (congrArg Psq.st e).trans h

theorem each {α : Type} {l : List α} {f : State → α → State} (h : SameSt s t) (k : ∀ v x, SameSt s v → SameSt s (f v x)) :
    SameSt s (forEach l t f) :=
  List.foldlRecOn (motive := fun v => SameSt s v) _ _ h fun v hv x _ => k v x hv

theorem icu (h : SameSt s t) : SameSt s (icu t n) := h.of_bare icu_bare

theorem trace {d : Nat} (h : SameSt s t) : SameSt s (trace t c n d) := h.of_bare trace_bare

theorem driveFault {o : Option Nat} (h : SameSt s t) : SameSt s (driveFault t o) := by
  unfold Machine.driveFault
  extract_lets change src x
  split
  · exact h
  · split
    · refine SameSt.icu (SameSt.trace ?_)
      exact h
    · exact h

theorem updateHold (h : SameSt s t) : SameSt s (updateHold t) := by
  unfold Machine.updateHold
  extract_lets q want r x
  split
  · exact h
  · refine SameSt.trace ?_
    exact h

theorem setChgEn {on : Bool} (h : SameSt s t) : SameSt s (setChgEn t on) := by
  unfold Machine.setChgEn
  extract_lets src x r y
  split
  · exact h
  · refine SameSt.icu (SameSt.trace ?_)
    exact h

theorem setRst {on : Bool} (h : SameSt s t) : SameSt s (setRst t k on) := by
  unfold Machine.setRst
  extract_lets src x gen hem y
  split
  · exact h
  · refine SameSt.trace ?_
    unfold y
    split <;> exact h

theorem railRelease (h : SameSt s t) : SameSt s (railRelease t k) := by
  unfold Machine.railRelease
  extract_lets inMask x gen hem y r
  refine SameSt.trace ?_
  have reset : SameSt s y := by
    unfold y
    split
    · have x' : SameSt s x := h.setRst
      split <;> exact x'
    · exact h
  exact reset

theorem cflAbort (h : SameSt s t) : SameSt s (cflAbort t b) := by
  unfold Machine.cflAbort
  split
  · exact h
  · extract_lets x y
    have y' : SameSt s y := by unfold y; split <;> exact h
    split <;> exact y'

theorem cflAbortAll (h : SameSt s t) : SameSt s (cflAbortAll t) := h.each fun _ _ hv => hv.cflAbort

theorem evrLost (h : SameSt s t) : SameSt s (evrLost t) := by
  unfold Machine.evrLost
  extract_lets x
  have x' : SameSt s x := by unfold x; split <;> exact h
  exact x'

theorem poolLost (h : SameSt s t) : SameSt s (poolLost t) := h

theorem coreLost (h : SameSt s t) : SameSt s (coreLost t) := by
  unfold Machine.coreLost
  extract_lets ka hem x y v1 v2 v3 v4 v5
  have off : SameSt s x := h
  clear_value x
  have lost : SameSt s y := off.setChgEn.cflAbortAll.evrLost.poolLost
  clear_value y
  have groups : SameSt s v1 := lost.each fun _ _ hv => hv
  clear_value v1
  have chs : SameSt s v2 := groups.each fun _ _ hv => hv
  clear_value v2
  have fchs : SameSt s v3 := chs.each fun _ _ hv => hv
  clear_value v3
  have ports : SameSt s v4 := fchs.each fun _ _ hv => hv
  clear_value v4
  have wins : SameSt s v5 := ports.each fun _ _ hv => hv
  clear_value v5
  exact wins

theorem switchOff (h : SameSt s t) : SameSt s (switchOff t k) := by
  unfold Machine.switchOff
  extract_lets x
  split
  · exact h
  · have x' : SameSt s x := by
      refine SameSt.railRelease ?_
      split
      · exact h.setChgEn
      · exact h
    split
    · exact x'.coreLost
    · split <;> exact x'

end SameSt

theorem updateHold_st : (updateHold s).psq.st = s.psq.st := SameSt.updateHold .refl

theorem allOff_st : (allOff s).psq.st ≠ 2 := by
  unfold allOff
  extract_lets
  split
  · exact (by decide : (6 : Nat) ≠ 2)
  · rw [updateHold_st]
    dsimp only
    split
    · decide
    · split <;> decide

theorem walkDown_st (h : s.psq.st ≠ 2) : (walkDown s).psq.st ≠ 2 := by
  unfold walkDown
  extract_lets x
  split
  · exact h
  · have x' : SameSt s x := by
      unfold x
      split
      · exact .refl
      · exact SameSt.refl.trace
    split
    · exact allOff_st
    · extract_lets y bat sb z
      have y' : SameSt s y := SameSt.trace x'
      have z' : SameSt s z := by unfold z; split <;> exact y'
      have off : ∀ n, SameSt s (forEach (stepRails n).reverse z fun s k => if keptRail s k then s else switchOff s k) :=
        fun n => z'.each fun v j hv => by
          split
          · exact hv
          · exact hv.switchOff
      rw [off]
      exact h

theorem powerDown_st : (powerDown s).psq.st ≠ 2 := walkDown_st (by decide : (4 : Nat) ≠ 2)

end Sys2Proof.Machine

end

section
/-! Each escalation leaves a mark, so a step that ends without one called for none (R504, R505). -/

namespace Sys2Proof.Machine

open Bits

variable {s t u : State} {g n k c p b : Nat}

/-- Nothing shows that an escalation was carried out: power is on, no unit is fenced, nothing stops and no hem is under way. The
level 0 shows that no fence was taken since it was last worked out. -/
structure Unmarked (s : State) : Prop where
  fences : s.flt.fences = []
  stopping : s.flt.stopping = false
  held : s.psq.heldInReset = false
  st : s.psq.st = 2
  level : s.psq.level = 0
  fault : s.psq.faultDriven = none
  core : coreUp s = true
  hemStop : s.gen.hem.thenStop = false
  hemHold : s.gen.hem.thenHold = false
  hemSt : s.gen.hem.st = 0

theorem not_unmarked_of_stopping (h : s.flt.stopping = true) : ¬ Unmarked s := fun m => by
  have := m.stopping
  rw [h] at this
  exact absurd this (by decide)

theorem not_unmarked_of_held (h : s.psq.heldInReset = true) : ¬ Unmarked s := fun m => by
  have := m.held
  rw [h] at this
  exact absurd this (by decide)

theorem not_unmarked_of_thenHold (h : s.gen.hem.thenHold = true) : ¬ Unmarked s := fun m => by
  have := m.hemHold
  rw [h] at this
  exact absurd this (by decide)

theorem holdNow_marked {drive : Bool} : ¬ Unmarked (holdNow s drive) := by
  unfold holdNow
  extract_lets a1 p1 a2 a3 h1 a4 p2 a5
  split
  · exact not_unmarked_of_held ‹_›
  · split
    · split
      · exact fun m => absurd m.st (by decide : (3 : Nat) ≠ 2)
      · exact fun m => walkDown_st (by decide : (3 : Nat) ≠ 2) m.st
    · split
      · next h => exact fun m => absurd m.st (by rcases h with h | h <;> rw [h] <;> decide)
      · exact fun m => powerDown_st m.st

theorem tryResume_marked {ok : Bool} {weak : List Nat} (h : s.flt.stopping = true) : ¬ Unmarked (tryResume s ok weak).1 := by
  unfold tryResume
  extract_lets bad ok4 x
  have noted : SameStop s x := (SameStop.refl (s := s)).each fun _ _ hv => hv.report
  clear_value x
  split
  · have resumed : SameStop s (warmResume x) := noted.warmResume
    generalize warmResume x = y at resumed
    exact not_unmarked_of_stopping (Eq.trans resumed h)
  · exact fun m => powerDown_st m.st

theorem enterHemmed_marked : ¬ Unmarked (enterHemmed s) := by
  have hemmed : (enterHemmed s).gen.hem.st = 5 := by
    unfold enterHemmed
    extract_lets h x
    exact List.foldlRecOn (motive := fun v : State => v.gen.hem.st = 5) _ _ rfl fun v hv _ _ => hv
  intro m
  rw [m.hemSt] at hemmed
  exact absurd hemmed (by decide)

theorem stepSeven_marked (h : s.flt.stopping = true) : ¬ Unmarked (stepSeven s) := by
  unfold stepSeven
  extract_lets hem x q
  split
  · exact not_unmarked_of_stopping h
  · split
    · split
      · exact not_unmarked_of_stopping h
      · exact holdNow_marked
    · split
      · exact holdNow_marked
      · split
        · exact fun m => powerDown_st m.st
        · split
          · exact enterHemmed_marked
          · split
            · unfold resumeKept
              split <;> exact tryResume_marked h
            · split
              · exact fun m => powerDown_st m.st
              · exact fun m => powerDown_st m.st

theorem finishStop_marked (h : ¬ Unmarked s) : ¬ Unmarked (finishStop s) := by
  unfold finishStop
  split
  · next stopping =>
    split
    · exact stepSeven_marked (Bool.and_eq_true_iff.1 stopping).1
    · split
      · exact h
      · exact holdNow_marked
  · exact h

theorem enterHold_marked : ¬ Unmarked (enterHold s) := by
  unfold enterHold
  split
  · exact not_unmarked_of_held ‹_›
  · split
    · exact not_unmarked_of_thenHold rfl
    · split
      · exact not_unmarked_of_thenHold rfl
      · exact holdNow_marked

-- a fatal error

theorem furtherTrigger_gen {trig : Nat} : (furtherTrigger s trig).gen = s.gen := by
  unfold furtherTrigger
  split <;> rfl

theorem openWindow_gen : (openWindow s p).gen = s.gen := by
  unfold openWindow
  split
  · split
    · exact icu_gen
    · exact icu_gen
  · rfl

theorem faultDriven_of_bare (h : t.psq.bare = s.psq.bare) : t.psq.faultDriven = s.psq.faultDriven :=
  (congrArg Psq.faultDriven h : _)

theorem openWindow_faultDriven : (openWindow s p).psq.faultDriven = s.psq.faultDriven := by
  have skipped : (skipDump s).psq.faultDriven = s.psq.faultDriven := faultDriven_of_bare icu_bare
  have opened : (icu (setFlt s 3) 469).psq.faultDriven = s.psq.faultDriven := faultDriven_of_bare icu_bare
  unfold openWindow
  split
  · split
    · exact opened
    · exact skipped
  · rfl

theorem driveFault_faultDriven {o : Option Nat} : (driveFault s o).psq.faultDriven = o := by
  unfold driveFault
  extract_lets change src x
  split
  · assumption
  · split
    · exact (faultDriven_of_bare icu_bare).trans (faultDriven_of_bare trace_bare)
    · rfl

/-- A mark of the hem or of SYS_FAULT_N stays while the window opens, and the stop ends with a mark. -/
theorem stopped_marked {window : Bool} (h : s.gen.hem.thenStop = true ∨ s.gen.hem.st ≠ 0 ∨ s.psq.faultDriven ≠ none) :
    ¬ Unmarked (finishStop (if window = true then openWindow s p else s)) := by
  have here : ∀ t : State, t.gen = s.gen → t.psq.faultDriven = s.psq.faultDriven → ¬ Unmarked t := by
    intro t hg hf m
    rcases h with h | h | h
    · rw [← hg, m.hemStop] at h
      exact absurd h (by decide)
    · exact h (hg ▸ m.hemSt)
    · exact h (hf ▸ m.fault)
  refine finishStop_marked ?_
  split
  · exact here _ openWindow_gen openWindow_faultDriven
  · exact here _ rfl rfl

theorem safeStop_marked {window : Bool} : ¬ Unmarked (safeStop s p b window) := by
  unfold safeStop
  extract_lets x y f1 z h1 v h2 w
  refine stopped_marked ?_
  unfold w
  split
  · exact .inl (congrArg (·.hem.thenStop) (furtherTrigger_gen (s := setHem z { z.gen.hem with thenStop := true })))
  · split
    · next quiet busy =>
      have st : z.gen.hem.st ≠ 0 := by
        unfold hemBusy at busy
        simpa [quiet] using busy
      exact .inr (.inl fun e => st (furtherTrigger_gen ▸ e))
    · split
      · exact .inl rfl
      · exact .inr (.inr fun e => absurd (driveFault_faultDriven.symm.trans e) (by decide))

theorem fatal_marked : ¬ Unmarked (fatal s p b) := by
  unfold fatal
  extract_lets x
  split
  · next h =>
    have kept : x.flt.stopping = true := by
      unfold x abandonDump
      split
      · exact h
      · refine (congrArg Flt.stopping icu_flt).trans ?_
        exact h
    refine finishStop_marked (not_unmarked_of_stopping ?_)
    split <;> exact kept
  · exact safeStop_marked

end Sys2Proof.Machine

end

section
/-! The end of a step without marks: only the offline reasons are brought up to date (R126, R219, R505). -/

namespace Sys2Proof.Machine

open Bits

variable {s t u : State} {g n k c p b : Nat}

-- pacing leaves the sequencer and the hem as they are

/-- The sequencer without its trace, and the hem, are the same. -/
structure SameWatch (s t : State) : Prop where
  bare : t.psq.bare = s.psq.bare
  hem : t.gen.hem = s.gen.hem

namespace SameWatch

theorem refl : SameWatch s s := ⟨rfl, rfl⟩

theorem congr (h : SameWatch s t) (hp : u.psq = t.psq) (hg : u.gen.hem = t.gen.hem) : SameWatch s u :=
  ⟨(congrArg Psq.bare hp).trans h.bare, hg.trans h.hem⟩

theorem each {α : Type} {l : List α} {f : State → α → State} (h : SameWatch s t)
    (k : ∀ v x, SameWatch s v → SameWatch s (f v x)) : SameWatch s (forEach l t f) :=
  List.foldlRecOn (motive := fun v => SameWatch s v) _ _ h fun v hv x _ => k v x hv

theorem group {v : Group} (h : SameWatch s t) : SameWatch s (setGrp t g v) := h.congr rfl rfl

theorem icu (h : SameWatch s t) : SameWatch s (icu t n) :=
  ⟨icu_bare.trans h.bare, (congrArg Gen.hem icu_gen).trans h.hem⟩

theorem retarget (h : SameWatch s t) : SameWatch s (retarget t g) := by
  unfold Machine.retarget
  dsimp only
  split
  · exact h.group
  · exact h

theorem updateRates (h : SameWatch s t) : SameWatch s (updateRates t g) := by
  unfold Machine.updateRates
  extract_lets v src x
  have rated : SameWatch s x := h.retarget.group
  exact rated.each fun _ _ hv => hv.congr rfl rfl

theorem enforce (h : SameWatch s t) : SameWatch s (enforce t g n) := by
  unfold Machine.enforce
  extract_lets gr p ev
  split
  · exact h.group.updateRates.icu
  · exact h

theorem postPace (h : SameWatch s t) : SameWatch s (postPace t g n k) := by
  unfold Machine.postPace
  extract_lets gr
  split
  · exact h
  · exact h.group.icu

theorem clearPace (h : SameWatch s t) : SameWatch s (clearPace t g n) := h.group

theorem paceGroup (h : SameWatch s t) : SameWatch s (paceGroup t g) := by
  unfold Machine.paceGroup
  refine h.each fun v j hv => ?_
  extract_lets has x
  have judged : SameWatch s x := by
    unfold x
    split
    · exact hv.clearPace.updateRates
    · split
      · exact hv.postPace
      · exact hv
  split
  · exact judged.enforce
  · exact judged

theorem pace (h : SameWatch s t) : SameWatch s (pace t g) := by
  unfold Machine.pace enforceGlobal
  split
  · exact h.retarget.paceGroup.each fun _ _ hv => hv.enforce
  · exact h.retarget.paceGroup

theorem withdrawBudgets (h : SameWatch s t) : SameWatch s (withdrawBudgets t) := by
  unfold Machine.withdrawBudgets
  split
  · exact h.each fun _ _ hv => hv.pace
  · exact h

theorem noteReasons (h : SameWatch s t) : SameWatch s (noteReasons t) := by
  unfold Machine.noteReasons
  extract_lets ws chg
  split
  · refine SameWatch.icu (h.each fun v w hv => ?_)
    exact hv.congr rfl rfl
  · exact h

end SameWatch

theorem Unmarked.before (m : Unmarked t) (hf : t.flt.fences = s.flt.fences) (hs : t.flt.stopping = s.flt.stopping)
    (h : SameWatch s t) : Unmarked s := by
  have st : t.psq.st = s.psq.st := (congrArg Psq.st h.bare : _)
  have held : t.psq.heldInReset = s.psq.heldInReset := (congrArg Psq.heldInReset h.bare : _)
  have level : t.psq.level = s.psq.level := (congrArg Psq.level h.bare : _)
  obtain ⟨fences, stopping, mheld, mst, mlevel, fault, core, hemStop, hemHold, hemSt⟩ := m
  exact ⟨hf ▸ fences, hs ▸ stopping, held ▸ mheld, st ▸ mst, level ▸ mlevel, faultDriven_of_bare h.bare ▸ fault,
    coreUp_of_bare h.bare ▸ core, h.hem ▸ hemStop, h.hem ▸ hemHold, h.hem ▸ hemSt⟩

-- a fence

theorem unitLevel_ne_zero (hf : s.flt.fences = []) (hc : coreUp s = true) : unitLevel s ≠ 0 := by
  have free : ∀ p u, isFenced s p u = false := fun p u => by unfold isFenced; rw [hf]; rfl
  unfold unitLevel
  rw [hc, free, free, if_neg (by decide)]
  split
  · decide
  · split <;> decide

/-- Where the core is up and nothing is fenced, the level just worked out is above 0. -/
theorem recomputeLevel_marked : ¬ Unmarked (recomputeLevel s) := by
  unfold recomputeLevel
  extract_lets l src x
  have kept : SameWatch { s with psq := { s.psq with level := l } } x := SameWatch.refl.icu
  have fences : x.flt.fences = s.flt.fences := congrArg Flt.fences icu_flt
  have stopping : x.flt.stopping = s.flt.stopping := congrArg Flt.stopping icu_flt
  have raised : ∀ t, t.flt.fences = x.flt.fences → t.flt.stopping = x.flt.stopping → SameWatch x t → ¬ Unmarked t := by
    intro t hf hs hw m
    have m' : Unmarked { s with psq := { s.psq with level := l } } := (m.before hf hs hw).before fences stopping kept
    exact unitLevel_ne_zero (s := s) m'.fences m'.core m'.level
  split
  · split
    · next same => exact fun m => unitLevel_ne_zero m.fences m.core (same.trans m.level)
    · split
      · exact raised _ rfl rfl (SameWatch.refl.congr rfl rfl)
      · exact raised _ rfl rfl .refl
  · next counts => exact fun m => counts (by unfold levelCounts; rw [m.core, m.st, m.held]; rfl)

theorem fenceUnit_marked : ¬ Unmarked (fenceUnit s p n true) := by
  unfold fenceUnit
  extract_lets q done x
  split
  · next fenced =>
    intro m
    have none : s.flt.fences = [] := List.map_eq_nil_iff.1 m.fences
    unfold isFenced at fenced
    rw [none] at fenced
    exact Bool.false_ne_true fenced
  · exact recomputeLevel_marked

theorem escStep_marked {e : Esc} : ¬ Unmarked (escStep s e) := by
  cases e with
  | fence p n => exact fenceUnit_marked
  | fatal p b => exact fatal_marked
  | hold => exact enterHold_marked

-- the end of a step

theorem settleN_marked (h : ¬ Unmarked s) : ¬ Unmarked (settleN n s) := by
  induction n generalizing s with
  | zero => exact fun m => h (m.before rfl rfl (SameWatch.refl.congr rfl rfl))
  | succ n ih =>
    unfold settleN
    split
    · exact h
    · exact ih escStep_marked

/-- A step that ends without a mark called for no escalation, and withdrew no budget. -/
theorem settle_unmarked (m : Unmarked (settle s)) : settle s = noteReasons s := by
  have settled : Unmarked (settleN 256 s) :=
    m.before (congrArg Flt.fences (noteReasons_flt.trans withdrawBudgets_flt))
      (congrArg Flt.stopping (noteReasons_flt.trans withdrawBudgets_flt)) SameWatch.refl.withdrawBudgets.noteReasons
  have calm : s.flt.esc = [] := by
    by_contra waits
    obtain ⟨e, r, he⟩ := List.exists_cons_of_ne_nil waits
    refine settleN_marked (n := 255) (s := escStep { s with flt := { s.flt with esc := r } } e) escStep_marked ?_
    rw [settleN, he] at settled
    exact settled
  have quiet : withdrawBudgets s = s := by
    rw [show settleN 256 s = s by rw [settleN, calm]] at settled
    unfold withdrawBudgets persistLost
    rw [settled.level]
    rfl
  rw [settle_calm calm, quiet]

end Sys2Proof.Machine

end

section
/-! A sliced sweep that ends where channel 0 has two records: the second comes to light, and the channel's sweep is not over. -/

namespace Sys2Proof.Machine

open Bits

variable {s t u : State} {c : Nat} {a b : Word}

theorem noteReasons_dram : (noteReasons s).dram = s.dram := by
  unfold noteReasons
  dsimp only
  split
  · rw [icu_dram]
    exact List.foldlRecOn (motive := fun t : State => t.dram = s.dram) _ _ rfl fun t ht w _ => ht
  · rfl

theorem SameWatch.symm (h : SameWatch s t) : SameWatch t s := ⟨h.bare.symm, h.hem.symm⟩

theorem Unmarked.after (m : Unmarked s) (hf : t.flt = s.flt) (h : SameWatch s t) : Unmarked t :=
  m.before (congrArg Flt.fences hf.symm) (congrArg Flt.stopping hf.symm) h.symm

/-- A calm state without marks ends without marks. -/
theorem Unmarked.settled (m : Unmarked s) (calm : s.flt.esc = []) : Unmarked (settle s) := by
  have quiet : withdrawBudgets s = s := by
    unfold withdrawBudgets persistLost
    rw [m.level]
    rfl
  rw [settle_calm calm, quiet]
  exact m.after noteReasons_flt SameWatch.refl.noteReasons

/-- What the end of a sliced sweep does behind the channel's record: margins, lanes, drift and its message. -/
def sliceDone (s : State) (c : Nat) (a b : Word) : State :=
  icu (wr (freeLanes (wr (wr s (Reg.dphMarginA0 c) a) (Reg.dphMarginB0 c) b) c) (Reg.dphDrift c) 0#32) (50 + 4 * c)

/-- The channel's record and its status at the end of a sliced sweep. -/
def sliceClosed (s : State) (c : Nat) : State :=
  let s := addSat s (Reg.dphTrainStatus c) 16 8 1
  let s := wrF (setDch s c { dchOf s c with sliced := false }) (Reg.dphTrainStatus c) 0 3 0
  wrB (wrB s (Reg.dphTrainStatus c) 3 true) (Reg.dphTrainStatus c) 4 false

theorem freeLanes_frame : (freeLanes s c).dram = s.dram ∧ (freeLanes s c).flt = s.flt ∧ (freeLanes s c).psq = s.psq ∧
    (freeLanes s c).gen = s.gen :=
  List.foldlRecOn (motive := fun t : State => t.dram = s.dram ∧ t.flt = s.flt ∧ t.psq = s.psq ∧ t.gen = s.gen) _ _
    ⟨rfl, rfl, rfl, rfl⟩ fun _ ht _ _ => ht

theorem sliceDone_frame : (sliceDone s c a b).dram = s.dram ∧ (sliceDone s c a b).flt = s.flt ∧
    SameWatch s (sliceDone s c a b) := by
  obtain ⟨dram, flt, psq, gen⟩ := freeLanes_frame (s := wr (wr s (Reg.dphMarginA0 c) a) (Reg.dphMarginB0 c) b) (c := c)
  unfold sliceDone
  generalize freeLanes (wr (wr s (Reg.dphMarginA0 c) a) (Reg.dphMarginB0 c) b) c = x at *
  exact ⟨icu_dram.trans dram, icu_flt.trans flt, SameWatch.icu (SameWatch.refl.congr psq (congrArg Gen.hem gen))⟩

theorem exec_sweepSlice_good (hs : (dchOf s c).sliced = true) (hb : hemBusy s = false)
    (hm : (s.gen.map.any fun e => e.2 == 8#4) = false) (hl : s.gen.lineBits = []) (ha : marginOk a = true)
    (hb' : marginOk b = true) : exec (.sweepSlice c true (a, b)) s = .next (settle (sliceDone (sliceClosed s c) c a b)) := by
  change execSweepSlice c true (a, b) s = _
  unfold execSweepSlice
  dsimp only
  rw [if_neg (by rw [hs, hb, hm, hl]; decide), ha, hb', if_pos (by rfl)]
  rfl

/-- Two records of channel 0, each with a sliced sweep under way, in a block that is powered. -/
def twiceSliced : State :=
  { State.reset with
    dram := { State.reset.dram with chs := [(0, { sliced := true }), (0, { sliced := true })] }
    psq := { State.reset.psq with st := 2, level := 0, rails := [(0, { up := true })] } }

theorem unmarked_sliceClosed : Unmarked (sliceClosed twiceSliced 0) := ⟨rfl, rfl, rfl, rfl, rfl, rfl, rfl, rfl, rfl, rfl⟩

theorem sliced_sliceClosed_twiceSliced : (dchOf (sliceClosed twiceSliced 0) 0).sliced = true := by decide

/-- Refutes O19: where channel 0 has two records, the sliced sweep that ends takes the first away and the second stays sliced. -/
theorem not_trainingCommands : ¬ Obligations.TrainingCommands := by
  unfold Obligations.TrainingCommands
  rintro ⟨-, -, -, -, -, -, -, ends, -⟩
  obtain ⟨u, run, closed⟩ := ends 0 0x1E1E0C0C#32 0x1E1E0C0C#32 twiceSliced rfl rfl rfl rfl (by decide) (by decide)
  have done := exec_sweepSlice_good (s := twiceSliced) (c := 0) (a := 0x1E1E0C0C#32) (b := 0x1E1E0C0C#32) rfl rfl rfl rfl
    (by decide) (by decide)
  have same : settle (sliceDone (sliceClosed twiceSliced 0) 0 0x1E1E0C0C#32 0x1E1E0C0C#32) =
      settle (sliceDone u 0 0x1E1E0C0C#32 0x1E1E0C0C#32) := Host.Outcome.next.inj (done.symm.trans run)
  obtain ⟨dram, flt, watch⟩ := sliceDone_frame (s := sliceClosed twiceSliced 0) (c := 0) (a := 0x1E1E0C0C#32)
    (b := 0x1E1E0C0C#32)
  obtain ⟨dram', -, -⟩ := sliceDone_frame (s := u) (c := 0) (a := 0x1E1E0C0C#32) (b := 0x1E1E0C0C#32)
  have plain := (unmarked_sliceClosed.after flt watch).settled (congrArg Flt.esc flt)
  have chs : (sliceClosed twiceSliced 0).dram = u.dram := by
    have plain' : Unmarked (settle (sliceDone u 0 0x1E1E0C0C#32 0x1E1E0C0C#32)) := same ▸ plain
    rw [settle_unmarked plain, settle_unmarked plain'] at same
    rw [← dram, ← dram', ← noteReasons_dram, same, noteReasons_dram]
  have stays : (dchOf (sliceClosed twiceSliced 0) 0).sliced = (dchOf u 0).sliced :=
    congrArg (fun d : Dram => (Sparse.get (fun _ => ({} : DCh)) d.chs 0).sliced) chs
  rw [sliced_sliceClosed_twiceSliced, closed] at stays
  exact absurd stays (by decide)

end Sys2Proof.Machine

end

section
/-! A fold of a hem generation whose number stands twice in the group's list: each record keeps its own parts' places. -/

namespace Sys2Proof.Machine

open Bits

variable {s t u : State} {g n k c p b : Nat}

-- erasing blocks leaves the generations as they are

theorem checkSpare_gen : (checkSpare s b).gen = s.gen := by
  unfold checkSpare
  extract_lets q v geo ch x i y out
  have spared : y.gen = s.gen := by unfold y; split <;> rfl
  split
  · split
    · exact report_gen.trans spared
    · exact spared
  · rfl

theorem retireBlk_gen : (retireBlk s b).gen = s.gen := by
  unfold retireBlk
  split
  · rfl
  · exact checkSpare_gen.trans icu_gen

theorem startErase_gen : (startErase s b).gen = s.gen := by
  unfold startErase intentNow
  extract_lets q v x
  split
  · rfl
  · split
    · exact intentPage_gen (s := s)
    · rfl

theorem eraseBlk_gen : (eraseBlk s b).gen = s.gen := by
  unfold eraseBlk
  extract_lets v
  split
  · rfl
  · rfl
  · rfl
  · split
    · exact startErase_gen
    · rfl
  all_goals
    split
    · exact retireBlk_gen
    · exact startErase_gen

theorem freeUnused_gen : (freeUnused s).gen.groups = s.gen.groups ∧ (freeUnused s).gen.restore = s.gen.restore := by
  unfold freeUnused
  extract_lets live src x bands
  have erased : (forEach bands x fun s b => if bandUsed s b then s else eraseBand s b).gen = x.gen :=
    forEach_gen fun t a => by
      split
      · rfl
      · exact forEach_gen fun _ _ => eraseBlk_gen
  rw [erased]
  exact ⟨rfl, rfl⟩

theorem rebuildLoc_gen : (rebuildLoc s g).gen.groups = s.gen.groups ∧ (rebuildLoc s g).gen.restore = s.gen.restore := by
  unfold rebuildLoc
  extract_lets l idxs src x
  refine List.foldlRecOn (motive := fun t : State => t.gen.groups = s.gen.groups ∧ t.gen.restore = s.gen.restore) _ _
    ⟨rfl, rfl⟩ fun t ht a _ => ?_
  split <;> exact ht

-- the phase of a restore at the end of the sweep

theorem bringOnline_phase : (bringOnline s).gen.restore.phase = s.gen.restore.phase := by
  unfold bringOnline
  refine (congrArg (·.restore.phase) noteReasons_gen).trans ?_
  refine List.foldlRecOn (motive := fun t : State => t.gen.restore.phase = s.gen.restore.phase) _ _ rfl fun t ht a _ => ?_
  split
  · rw [icu_gen]
    exact ht
  · exact ht

theorem restoreStep_phase (h : 4 ≤ s.gen.restore.phase) : 4 ≤ (restoreStep s).gen.restore.phase := by
  unfold restoreStep
  extract_lets ph
  split
  · split
    · exact (by decide : 4 ≤ 5)
    · rw [icu_gen]
      exact (by decide : 4 ≤ 7)
  · split
    · exact (by decide : 4 ≤ 5)
    · exact h

theorem sweepEnd_phase (h : 4 ≤ s.gen.restore.phase) : 4 ≤ (sweepEnd s).gen.restore.phase := by
  unfold sweepEnd
  extract_lets x y
  have stepped : 4 ≤ x.gen.restore.phase := restoreStep_phase h
  rw [bringOnline_phase]
  unfold y
  split
  · rw [icu_gen]
    exact (by decide : 4 ≤ 6)
  · exact stepped

/-- Space that is freed outside a restore changes nothing. -/
theorem spaceFreed_early (h : (spaceFreed s).gen.restore.phase < 4) : spaceFreed s = s := by
  unfold spaceFreed at h ⊢
  split
  · next restoring =>
    rw [if_pos restoring] at h
    have phase : 4 ≤ s.gen.restore.phase := by
      unfold restored at restoring
      simp only [Bool.or_eq_true, decide_eq_true_eq, beq_iff_eq] at restoring
      omega
    exact absurd (sweepEnd_phase phase) (by omega)
  · rfl

/-- What the fold does behind the group's list. -/
def foldDone (s : State) (g : Nat) : State := spaceFreed (icu (freeUnused (rebuildLoc s g)) 268)

/-- Where it ends without marks and outside a restore, the fold leaves the group's list to the end of the step. -/
theorem settle_foldDone_groups (m : Unmarked (settle (foldDone s g))) (h : (settle (foldDone s g)).gen.restore.phase < 4) :
    (settle (foldDone s g)).gen.groups = s.gen.groups := by
  rw [settle_unmarked m, noteReasons_gen] at h ⊢
  unfold foldDone at h ⊢
  rw [spaceFreed_early h, icu_gen, freeUnused_gen.1, rebuildLoc_gen.1]

-- a number that stands twice

/-- Group 0 lists generation 1 twice; the second record has a part at location 8. -/
def twiceListed : State :=
  { wr (wr (wr (wr (wr State.reset (ctrlA Pg.genm) 1#32) (ctrlA Pg.fst) 1#32) (ctrlA (Pg.fch 0)) 1#32) (Reg.fchMount 0) 1#32)
      Reg.fstWindow 1#32 with
    psq := { State.reset.psq with st := 2, level := 0, rails := [(0, { up := true })] }
    gen := { State.reset.gen with
      groups := [(0, { online := true, gens := [{ num := 1, st := 4, hem := true }, { num := 1, locs := [8] }] })] }
    fst := { State.reset.fst with
      bands := [(0, { seq := 0, members := [0] })]
      blocks := [(0, { cls := .opened, stream := 1, frontier := 32 })] } }

/-- The state of the fold before its lists are brought up to date. -/
def twiceFolded : State :=
  modGen (programAt twiceListed (2 ^ 48) 1) 0 1 fun r => { r with
    delta := []
    locs := (r.locs.filter fun l => (blkOf (programAt twiceListed (2 ^ 48) 1) (locBlk l)).stream != 3) ++ [2 ^ 48]
    hem := false
    relief := false }

theorem exec_fold_twiceListed : exec (.foldHemGeneration 0 1 [2 ^ 48]) twiceListed = .next (settle (foldDone twiceFolded 0)) := by
  have first : genOf (grp twiceListed 0) 1 = some { num := 1, st := 4, hem := true } := rfl
  have ready : (mayFold twiceListed 0 { num := 1, st := 4, hem := true } &&
      ([2 ^ 48] : List Nat).length == 0 + partsOf 0 + 1 && placesOk [(2 ^ 48, 1)] twiceListed) = true := by decide
  change execFoldHemGeneration 0 1 [2 ^ 48] twiceListed = _
  unfold execFoldHemGeneration
  dsimp only
  rw [first]
  refine congrArg (Host.Outcome.next ∘ settle) ((if_pos ready).trans ?_)
  rfl

theorem unmarked_foldDone : Unmarked (foldDone twiceFolded 0) := ⟨rfl, rfl, rfl, rfl, rfl, rfl, rfl, rfl, rfl, rfl⟩

/-- The places that the records of a group's list keep. -/
def placesListed (l : List (Nat × Group)) : List (List Nat) :=
  (Sparse.get (fun _ => ({} : Group)) l 0).gens.map (·.locs)

/-- Refutes O14: where a number stands twice in the list, each record keeps the places of its own parts before the new ones, and
no one list stands before them in both. -/
theorem not_restoreCommands : ¬ Obligations.RestoreCommands := by
  unfold Obligations.RestoreCommands
  rintro ⟨-, -, -, -, -, -, -, fold⟩
  obtain ⟨u, run, -, old, listed⟩ := fold 0 1 { num := 1, st := 4, hem := true } [] [] [2 ^ 48] [2 ^ 48] twiceListed rfl
    (by decide) rfl rfl rfl rfl (by decide)
  have same : settle (foldDone twiceFolded 0) = settle (foldDone u 0) :=
    Host.Outcome.next.inj (exec_fold_twiceListed.symm.trans run)
  have plain : Unmarked (settle (foldDone twiceFolded 0)) := unmarked_foldDone.settled rfl
  have early : (settle (foldDone twiceFolded 0)).gen.restore.phase < 4 := by
    rw [settle_unmarked plain, noteReasons_gen]
    decide
  have groups : twiceFolded.gen.groups = u.gen.groups := by
    rw [← settle_foldDone_groups plain early, same]
    exact settle_foldDone_groups (same ▸ plain) (same ▸ early)
  have places : [[2 ^ 48], [8, 2 ^ 48]] = [old ++ [2 ^ 48], old ++ [2 ^ 48]] :=
    congrArg placesListed (groups.trans listed)
  obtain ⟨first, rest⟩ := List.cons.inj places
  have equal : ([2 ^ 48] : List Nat) = [8, 2 ^ 48] := first.trans (List.cons.inj rest).1.symm
  exact absurd (congrArg List.length equal) (by decide)

end Sys2Proof.Machine

end
